-- ==== Sys2Proof/Word.lean ====
section
/-! DEFINITION. The word types of the model: registers are 32 bits (R3), addresses are plain naturals
reached from computed bit vectors, memory cells are bytes. -/

namespace Sys2Proof

/-- One byte of any memory, buffer or flash of the module. -/
abbrev Byte := BitVec 8

/-- One register word (R3: every register is 32 bits wide and little-endian). -/
abbrev W32 := BitVec 32

/-- One 64-bit value: a scalar register (R37), a counter, the time base (R451). -/
abbrev W64 := BitVec 64

/-- One instruction of the sequencer or of the group engine (R69, R126). -/
abbrev IWord := BitVec 128

/-- One 64-byte descriptor (R163) or schedule header (R162). -/
abbrev W512 := BitVec 512

end Sys2Proof
end

