-- ==== Sys2Proof/Syntax.lean ====
section
/-! DEFINITION. The commands of the block: one constructor of `Instr` per row of the table of
operations and events, with the row's operands. A command names the unit it acts on; what the
environment alone can know (a measured power, the outcome of a test, a received packet) is an
operand too. -/

namespace Sys2Proof

/-- The BAR an access addresses: PF BAR0 or the BAR0 of VFn (R522, R523). -/
inductive Bar where
  | pf
  | vf (n : Fin 256)
deriving DecidableEq, Repr

/-- An instruction that waits in a queue has two commands: its issue by the sequencer, and its action
once it has started at the head of its queue (R40, R42, R44). A maintenance operation has two as
well: its start, and its work on one line (R230, R232). -/
inductive Phase where
  | issue
  | act
deriving DecidableEq, Repr

/-- The issue queues of the sequencer (R40). -/
inductive QueueName where
  | matrix | accumulator | group | sync
deriving DecidableEq, Repr

/-- A stream engine: the send port of a core, or the engine of a base die (R164). -/
inductive Engine where
  | core (c : Fin 96)
  | bd (b : Fin 4)
deriving DecidableEq, Repr

/-- A destination port of scheduled chunks: a core receive port or a slice port (R157). -/
inductive Port where
  | core (c : Fin 96)
  | slice (s : Fin 512)
deriving DecidableEq, Repr

/-- One direction of a fabric link that carries reed messages (R177). -/
inductive Link where
  | coreSend (c : Fin 96)
  | coreRecv (c : Fin 96)
  | sliceSend (s : Fin 512)
  | sliceRecv (s : Fin 512)
  | causeway (n : Fin 8) (dirB : Bool)
deriving DecidableEq, Repr

/-- The kind of a causeway flit (R193). -/
inductive FlitKind where
  | idle | scheduled | demand | reed
deriving DecidableEq, Repr

/-- The header of a causeway flit (R193): kind, owning virtual device, contribution count, sequence. -/
structure Flit where
  kind : FlitKind
  vd : Nat
  contrib : Nat
  seq : Nat
deriving DecidableEq, Repr

/-- The arrays of a slice whose uncorrectable errors R234 settles. -/
inductive SliceArray where
  | dataArray | maskPool | homeOpQueue | writeBackBuffer | fillData | tag | deadFilter
deriving DecidableEq, Repr

/-- The coherence structures whose uncorrectable errors R268 settles. -/
inductive CohArray where
  | blockData | mergeEntry | dieTag | dieTransactions | homeTransactions | directory
deriving DecidableEq, Repr

/-- The structures whose uncorrectable errors R504 settles, with the unit that holds them; those of a slice (a line and a sector)
and of a die cache (a place in it), which R234 and R268 settle, since data bound for them crosses bonds too (R503). -/
inductive ErrUnit where
  | tileStore (c : Fin 96)
  | accFile (c : Fin 96)
  | scalarRegs (c : Fin 96)
  | groupRegs (c : Fin 96)
  | groupSlots (c : Fin 96)
  | instrBuffer (c : Fin 96) (tag : Nat)
  | groupICache (c : Fin 96) (tag : Nat)
  | roCache (c : Fin 96) (tag : Nat)
  | elastic (c : Fin 96) (vd : Fin 256)
  | landingBuffer (p : Port) (vd : Fin 256)
  | hubBuffer (vd : Fin 256)
  | flagWord (b : Fin 4) (w : Fin 4096)
  | redEntry (b : Fin 4) (i : Nat)
  | frameTable (b : Fin 4)
  | translationTable (b : Fin 4)
  | reedBuffer (b : Fin 4)
  | reedFlit (n : Fin 8)
  | schedDevice (b : Fin 4) (vd : Fin 256)
  | schedShared (b : Fin 4)
  | qpContext (vd : Fin 256) (q : Fin 64)
  | stagingBuffer (i : Nat)
  | stewardRam
  | mergeRead (ch : Fin 80)
  | wrongRow (ch : Fin 80) (unit : Fin 67108864) (row : Fin 262144)
  | slice (i : Fin 512) (a : SliceArray) (line : Nat) (sector : Fin 16)
  | dieCache (d : Fin 12) (a : CohArray) (i : Nat)
deriving DecidableEq, Repr

/-- The sources of corrected errors that a rule counts or records (R234, R268, R299, R315, R402, R504). -/
inductive CorrectedUnit where
  | deadFilter (s : Fin 512) (line : Nat)
  | dieCacheData (d : Fin 12)
  | memoryUnit (ch : Fin 80) (unit : Fin 67108864)
  | checkBurst (ch : Fin 80) (unit : Fin 67108864)
  | fecCorrected
  | fecUncorrectable
  | plainSram
deriving DecidableEq, Repr

/-- Faults of one causeway direction's lane groups found at training (R18): `failed` lanes per group. -/
structure LaneFault where
  causeway : Nat
  dirB : Bool
  group : Nat
  failed : Nat
deriving DecidableEq, Repr

/-- What the environment decides about one start-up: the outcomes of its tests and trainings, and how
far the sequence of R456 has come when the command is over. -/
structure StartEnv where
  selfTestOk : Bool            -- step 1
  setAOk : Bool                -- R485 of set A at step 2
  setBOk : Bool
  pllOk : Bool                 -- step 4
  cxlWidth : Nat               -- lanes trained at step 4, 0 when the port did not train
  cxlSpeed : Nat
  cxlFlit256 : Bool
  cxlLopt : Bool
  partsOk : Bool               -- R482 at steps 4 to 9
  lanes : List LaneFault       -- step 5
  channelFail : List (Nat × Nat)  -- (channel, FAIL_STEP) of R316, step 6
  coreFail : List Nat          -- step 7
  dieCacheFail : List Nat      -- step 7
  sliceFail : List Nat         -- step 8
  ethUp : Bool                 -- step 10
  trimAllowed : List Nat       -- what the ageing monitors allow per die, in 5 mV steps (R440)
  lastStep : Nat               -- the last step that has ended when the command is over, 0 to 10
deriving DecidableEq, Repr

/-- A Tuilin packet: the outcome of the checks below the transport, its source and destination, its priority in the tag or its
DSCP (R404), and the header (R408). -/
structure Packet where
  wellFormed : Bool            -- FCS, size, MAC, IP, UDP, checksums, options, VER, OP and TCRC of R416
  vd : Fin 256                 -- the device that owns the IP destination
  srcIp : Nat                  -- the IP source, IPv4 in its mapped form
  pcp : Option (Fin 8)         -- the priority of a tagged frame
  dscp : BitVec 6
  ce : Bool                    -- the segment is marked CE (R406)
  ackPsn : Nat                 -- AUX[31:8]
  nakCode : Nat                -- AUX[7:0]
  sack : BitVec 64             -- SACK bitmap of an ACK
  first : Bool
  last : Bool
  notify : Bool
  ackReq : Bool
  retx : Bool
  dstQp : Nat                  -- physical queue pair
  srcQp : Nat
  psn : Nat
  msg : Nat
  length : Nat
  rtype : Nat
  rop : Nat
  raddr : Nat
  rkey : Nat
  flag : Nat
  flagAdd : Nat
  aux : Nat
  payload : List Byte
deriving DecidableEq, Repr

/-- The priority of a packet (R404): the PCP field of a tagged frame, else DSCP[5:3]. -/
def Packet.prio (p : Packet) : Fin 8 := p.pcp.getD ⟨p.dscp.toNat / 8, by omega⟩

/-- What the lanes did to a budget message on its way (R430, R433): the bits of its body, and those of its CRC-32C, that arrived
inverted. -/
structure LaneErr where
  body : Nat
  crc : Nat
deriving DecidableEq, Repr

/-- What a die measured for its REPORT (R430): POWER and DEMAND, in 1/8 W, and what the lanes did to the message. -/
structure ReportMsg where
  power : Nat
  demand : Nat
  err : LaneErr
deriving DecidableEq, Repr

/-- The plane and the direction of a causeway that a retry request asks for (R194). -/
structure RetryOf where
  dirB : Bool
  reed : Bool
deriving DecidableEq, Repr

/-- What a power-good finds (R451, R455, R535): the level of PERST_N, and whether the input is at 41 V or above. -/
structure PowerGood where
  perstHigh : Bool
  above41 : Bool
deriving DecidableEq, Repr

/-- A configuration request of the host (R382, R456): the step up to which start-up has gone on when it comes, the bus it reaches
the PF on, and whether the host has assigned the next bus to the port too. -/
structure CfgRequest where
  upTo : Nat
  bus : BitVec 8
  nextBus : Bool
deriving DecidableEq, Repr

/-- Bits of a byte of a block that the flash returns inverted (R485, R495: a set is verified from the flash copy). -/
structure FlashErr where
  block : Nat
  byte : Nat
  mask : Byte
deriving DecidableEq, Repr

/-- The MCTP binding an update or attestation message arrives on (R493, R495). -/
inductive Binding where
  | smbus | i3c | pcieVdm
deriving DecidableEq, Repr

/-- The commands of the block. -/
inductive Instr where
  -- registers (00_scope)
  | registerWrite (bar : Bar) (off : Nat) (size : Nat) (data : W64)
  | lowWordWrite (bar : Bar) (off : Nat) (data : W32)
  | highWordWrite (bar : Bar) (off : Nat) (data : W32)
  | lowWordRead (bar : Bar) (off : Nat)
  | word3Write (bar : Bar) (off : Nat) (data : W32)
  | word0Read (bar : Bar) (off : Nat)
  | counterRead (bar : Bar) (off : Nat) (size : Nat)
  -- the module (01)
  | slotTableCommit
  | bondFault (cd : Fin 12) (u : ErrUnit)
  -- the core and its matrix engine (02, 03)
  | salu (c : Fin 96)
  | sli (c : Fin 96)
  | sbr (c : Fin 96)
  | sldt (c : Fin 96)
  | sstt (c : Fin 96)
  | endKernel (c : Fin 96)
  | coreKernelEnd (c : Fin 96)
  | mma (c : Fin 96)
  | queueHeadStart (c : Fin 96) (q : QueueName)
  | mmaStep (c : Fin 96)
  | scoreboardRelease (c : Fin 96) (q : QueueName)
  | accz (c : Fin 96) (ph : Phase)
  | accld (c : Fin 96) (ph : Phase)
  | accst (c : Fin 96) (ph : Phase)
  | instructionBufferFill (c : Fin 96)
  | readOnlyCacheFill (c : Fin 96) (i : Nat)
  -- the group engine (04)
  | tgl (c : Fin 96) (ph : Phase)
  | groupPlacement (c : Fin 96)
  | tgwait (c : Fin 96) (ph : Phase)
  | groupKernelEnd (c : Fin 96) (tag : Fin 8)
  | vialu (c : Fin 96) (g : Fin 64)
  | vialu64 (c : Fin 96) (g : Fin 64)
  | vfp32 (c : Fin 96) (g : Fin 64)
  | vfp64 (c : Fin 96) (g : Fin 64)
  | vsf (c : Fin 96) (g : Fin 64)
  | vcvt (c : Fin 96) (g : Fin 64)
  | vcmp (c : Fin 96) (g : Fin 64)
  | vsel (c : Fin 96) (g : Fin 64)
  | vshfl (c : Fin 96) (g : Fin 64)
  | vbr (c : Fin 96) (g : Fin 64)
  | vend (c : Fin 96) (g : Fin 64)
  | vld (c : Fin 96) (g : Fin 64)
  | groupLoadReturn (c : Fin 96) (g : Fin 64) (i : Nat)
  | vst (c : Fin 96) (g : Fin 64)
  | vldt (c : Fin 96) (g : Fin 64)
  | vstt (c : Fin 96) (g : Fin 64)
  | vatom (c : Fin 96) (g : Fin 64)
  | glock (c : Fin 96) (g : Fin 64)
  | glockRetry (c : Fin 96) (g : Fin 64)
  | gunlock (c : Fin 96) (g : Fin 64)
  | vfence (c : Fin 96) (g : Fin 64)
  | spinWatchdog (c : Fin 96) (g : Fin 64)
  | homeOperationResponse (c : Fin 96) (g : Fin 64)
  -- flags, barriers and fences (05, 08)
  | flagsetAdd (c : Fin 96) (ph : Phase)
  | flagsetWrite (c : Fin 96) (ph : Phase)
  | flagsetArrive (c : Fin 96) (ph : Phase)
  | flagsetArm (c : Fin 96) (ph : Phase)
  | flagwait (c : Fin 96) (ph : Phase)
  | flagwaitWake (c : Fin 96)
  | flagTimeout (c : Fin 96)
  | flagOperation (b : Fin 4) (i : Nat)
  | fence (c : Fin 96) (ph : Phase)
  | waitc (c : Fin 96) (ph : Phase)
  -- streams, reductions and the reed channel (05, 06)
  | descriptorFetch (e : Engine)
  | streamChunkSend (e : Engine) (i : Nat)
  | chunkLanding (p : Port) (i : Nat)
  | landingRetry (s : Fin 512)
  | streamFlagAdd (i : Nat)
  | reductionChunkArrival (b : Fin 4) (i : Nat)
  | reductionEntryExpiry (b : Fin 4) (i : Nat)
  | reedMessageForward (out : Link) (src : Option Link)
  | causewayCrcMismatch (n : Fin 8) (dirB : Bool) (f : Flit)
  | retryRequest (n : Fin 8) (r : RetryOf)
  -- the unified cache (06)
  | homeRead (s : Fin 512) (i : Nat)
  | homeWrite (s : Fin 512) (i : Nat)
  | writeCompletion (s : Fin 512) (i : Nat)
  | fillComplete (s : Fin 512) (i : Nat)
  | lineAllocation (s : Fin 512) (line : Nat)
  | writeBack (s : Fin 512)
  | homeOperationArrival (s : Fin 512) (i : Nat)
  | homeOperationResend (c : Fin 96) (g : Fin 64)
  | homeOperationApply (s : Fin 512) (line : Nat)
  | deadpendDrop (s : Fin 512) (line : Nat)
  | cacheOpWriteBack (ph : Phase)
  | cacheOpFlush (ph : Phase)
  | cacheOpDiscard (ph : Phase)
  | cacheOpEnd
  | cacheProbeCapture (sel : W32)
  -- die caches and the directory (07)
  | dieCacheLoad (d : Fin 12) (i : Nat)
  | dieCacheStore (d : Fin 12) (i : Nat)
  | mergeEntryAgeExpiry (d : Fin 12) (i : Nat)
  | writeAcknowledgement (d : Fin 12) (i : Nat)
  | gets (s : Fin 512) (d : Fin 12)
  | getm (s : Fin 512) (d : Fin 12)
  | puts (s : Fin 512) (d : Fin 12)
  | pute (s : Fin 512) (d : Fin 12)
  | putm (s : Fin 512) (d : Fin 12)
  | invack (s : Fin 512) (d : Fin 12)
  | datam (toHome : Bool) (s : Fin 512) (d : Fin 12)
  | inv (s : Fin 512) (d : Fin 12)
  | fwdgets (s : Fin 512) (d : Fin 12)
  | fwdgetm (s : Fin 512) (d : Fin 12)
  | data (d : Fin 12)
  | datae (s : Fin 512) (d : Fin 12)
  | putack (s : Fin 512) (d : Fin 12)
  | nack (s : Fin 512) (d : Fin 12)
  | coherenceResend (d : Fin 12) (i : Nat)
  -- external memory (09)
  | channelRead (ch : Fin 80) (i : Nat)
  | channelWrite (ch : Fin 80) (i : Nat)
  | refpb (ch : Fin 80) (during : Bool)
  | mr4Read (ch : Fin 80) (temp : Nat)
  | retrainingWindow (ch : Fin 80) (inRange : Bool)
  | retrainingRetry (ch : Fin 80) (inRange : Bool)
  | trainingTimeout (ch : Fin 80)
  | tgGo (ch : Fin 80)
  | tgStop (ch : Fin 80)
  | tgRunEnd (ch : Fin 80) (mismatches : List (Nat × BitVec 16)) (trainFail : Bool)
  -- virtual devices (10)
  | create
  | destroy
  | move
  | resize
  | readDesc
  | setCreate
  | setDestroy
  | composePendingStart
  | quiescePoint
  | composeTimeout
  | gainingEnd
  | movingEnd
  | committingEnd
  | resumingEnd
  | scrubEnd (e : Fin 640)
  | sharedSetSwitch (k : Fin 8) (ph : Phase)
  -- jobs (11)
  | doorbell (vd : Fin 256) (q : Fin 4) (tail : W32)
  | cqHeadWrite (vd : Fin 256) (q : Fin 4) (head : W32)
  | queueEnable (vd : Fin 256) (q : Fin 4) (en : Bool)
  | jobTake (vd : Fin 256)
  | jobEpoch (vd : Fin 256)
  | jobEnd (vd : Fin 256)
  | runLimit (vd : Fin 256)
  | ckpt (c : Fin 96) (ph : Phase)
  | checkpoint (vd : Fin 256)
  | checkpointClean (vd : Fin 256)
  | preemptionSaveEnd (vd : Fin 256)
  | jobResume (vd : Fin 256)
  | fenceRecord (vd : Fin 256)
  | engineTimeAttribution
  | acctSnap (vd : Fin 256)
  | schedAcctSnap (vd : Fin 256) (clear : Bool)
  | schedPreempt (vd : Fin 256)
  -- the host port (12)
  | memrd (dpa : Nat)
  | memwr (dpa : Nat) (bytes : List Byte)
  | memwrptl (dpa : Nat) (bytes : List Byte) (be : W64)
  | memspecrd (dpa : Nat)
  | meminv (dpa : Nat)
  | unsupportedMessage (code : Nat)
  | hostResponse (i : Nat) (ticks : Nat)
  | hdmDecoderCommit (ways : Nat) (sizeGiB : Nat) (memEnable : Bool)
  | maxClear
  | missAddrClear
  | hostLinkRetrain (width speed : Nat) (flit256 lopt : Bool)
  | linkDown
  | d3hot
  | pfFlr
  | vfEnableClear
  | vfFlr (vd : Fin 256)
  -- the network port (13)
  | write (p : Packet)
  | reduce (p : Packet)
  | readReq (p : Packet)
  | readResp (p : Packet)
  | ack (p : Packet)
  | nak (p : Packet)
  | cnp (p : Packet)
  | arpRequest (vd : Fin 256)
  | neighbourSolicitation (vd : Fin 256)
  | pfcFrame (p : Fin 8) (quanta : Nat)
  | pauseFrame
  | segmentDelivery (i : Nat)
  | networkWriteAck (i : Nat)
  | ackSend (vd : Fin 256) (q : Fin 64) (ticks : Nat)
  | rateIncrease (vd : Fin 256) (q : Fin 64)
  | retransmissionTimeout (vd : Fin 256) (q : Fin 64)
  | segmentSend (vd : Fin 256)
  | workRequestFetch (vd : Fin 256) (q : Fin 64)
  | arm (vd : Fin 256) (q : Fin 64)
  | reset (vd : Fin 256) (q : Fin 64)
  | qpDoorbell (vd : Fin 256) (q : Fin 64) (tail : W32)
  | qpCqHeadWrite (vd : Fin 256) (q : Fin 64) (recv : Bool) (head : W32)
  | netportEnable (ctrl : W32)
  | netportLinkChange (up : Bool)
  -- power (14)
  | budgetExchange (inputPower eta : Nat)
  | report (d : Fin 17) (r : ReportMsg)
  | grant (d : Fin 17) (err : LaneErr)
  | grantTimeout (d : Fin 12)
  | sluiceLoop (d : Fin 17) (power temp : Nat)
  | capUnmet
  | forceFloor (on : Bool)
  | droop (d : Fin 12) (detector : Fin 8)
  | stretchEnd (d : Fin 12)
  | stretchLimit (d : Fin 12)
  | ageingTrim (allowed : List Nat)
  | thermalTrip (d : Fin 17) (temp : Nat)
  | supplyWarn (vin : Nat)
  | supplyOk (vin : Nat)
  | supplyReset (vin : Nat)
  | supplyResetEnd (e : StartEnv)
  | throttle
  | throttleRelease
  | throttleRepeat
  -- clocks, reset and start-up (15)
  | crystalFailure
  | pllLockLoss
  | powerOn (p : PowerGood) (e : StartEnv)
  | powerLoss
  | perstNAssert
  | perstNRelease (e : StartEnv)
  | perstNGlitch
  | cxlHotReset
  | moduleReset (e : StartEnv)
  | powerDown
  | offReady
  -- the peat store (16)
  | readRecord
  | writeRecord
  | readCal
  | writeCal (key : Byte)
  | readJournal
  | readActive
  | clearJournal (key : Byte)
  | flashOperationEnd (verifyOk : Bool)
  | journalEntry
  | suppressedEntry
  -- firmware (17)
  | queryDeviceIdentifiers (b : Binding)
  | getFirmwareParameters (b : Binding)
  | requestUpdate (b : Binding) (agent : Nat) (maxTransfer : Nat)
  | passComponentTable (agent : Nat) (components : Nat)
  | updateComponent (agent : Nat) (region rest : List Byte)
  | firmwareData (agent : Nat) (off : Nat) (bytes : List Byte)
  | updateTimeout
  | transferComplete (agent : Nat) (errs : List FlashErr)
  | verifyComplete (agent : Nat)
  | applyComplete (agent : Nat)
  | activateFirmware (agent : Nat)
  | getStatus (b : Binding)
  | cancelUpdateComponent (agent : Nat)
  | cancelUpdate (agent : Nat)
  | recoveryUpdateReset (e : StartEnv)
  | trialConfirmation
  | trialWatchdogExpiry (e : StartEnv)
  | firmwareWatchdog (e : StartEnv)
  | acceptTrial (overMctp : Bool)
  | rejectTrial (key : Byte) (e : StartEnv)
  | unstage (key : Byte)
  | cancel
  | getEndorsement (mailbox : Bool)
  | getReport (mailbox : Bool) (nonce : List Byte)
  | mailboxDone
  -- errors (18)
  | correctedError (u : CorrectedUnit)
  | uncorrectableError (u : ErrUnit) (syndrome : BitVec 16)
  | sliceUncorrectable (s : Fin 512) (a : SliceArray) (line : Nat) (sector : Fin 16)
  | coherenceUncorrectable (d : Fin 12) (a : CohArray) (i : Nat)
  | recordHandling
  | release (vd : Fin 256)
  | releaseEnd
  | stickyClear
  | errorQueueHeadWrite (sev : Fin 3) (head : W32)
  -- the sideband (20)
  | dynamicAddressAssignment (addr : BitVec 7)
  | daaReset
  | busTimeout
  | vrefSbLoss
  -- further rows
  | undefinedOpcode (c : Fin 96)
  | groupUndefined (c : Fin 96) (g : Fin 64)
  | groupInstructionCacheFill (c : Fin 96)
  | nonTuilinFrame
  | pfcPauseExpiry (p : Fin 8)
  | linkResetStateExit (e : StartEnv)
  | vfEnableSet
  | configurationRequest (r : CfgRequest)
  | vrefSbRestore
deriving DecidableEq, Repr

end Sys2Proof
end

