-- ==== Sys2Proof/Config.lean ====
section
/-! DEFINITION. What the spec leaves open and the model leaves free: constants with no body, so that no proof can
rest on what they are (log entry 6). Each is applied to the operands the value depends on, or to the
number of the draw that `State.freeCtr` counts. -/

namespace Sys2Proof.Config

/-- A free byte, for draw `i`: data that a rule leaves undefined. -/
opaque freeByte : Nat → Byte

/-- A free word, for draw `i`. -/
opaque freeW32 : Nat → W32

/-- A free 64-bit value, for draw `i`. -/
opaque freeW64 : Nat → W64

/-- A draw of the 16-bit generator of stochastic rounding (R96), for draw `i`. -/
opaque freeRand16 : Nat → BitVec 16

/-- The FP32 result of special function `f` of operand `x` where the spec states only its accuracy (R128). -/
opaque freeVsf : Nat → W32 → W32

/-- Byte `i` of the endorsement of this module (R498). -/
opaque freeEndorsement : Nat → Byte

/-- Byte `i` of a signed report, for draw `k` (R500). -/
opaque freeReport : Nat → Nat → Byte

/-- Byte `i` of journal entry `seq` where R474 gives no content. -/
opaque freeJournal : Nat → Nat → Byte

/-- The twelve code bits over the 1,024 data bits of a memory unit (R299): a single-error-correcting, double-error-detecting code,
of which the spec gives no more. -/
opaque secded : Nat → BitVec 12

/-- Byte `i` of the PRBS31 data of raw burst `b` for a seed (R317). -/
opaque tgPrbs : Nat → Nat → Nat → Byte

/-- Whether a run of the traffic generator visits a raw burst, for draw `i` (R317 WALK 2, or a run that was stopped). -/
opaque tgVisits : Nat → Nat → Bool

/-- Whether a mixed run of the traffic generator writes a raw burst that it visits, for draw `i` (R317 MODE 3). -/
opaque tgWrites : Nat → Nat → Bool

/-- Byte `i` of the SHA-384 digest of bytes (R482 to R485, R500): a standard the spec names and does not give. -/
opaque sha384Byte : List Byte → Nat → Byte

/-- The SHA-384 digest of bytes. -/
def sha384 (bs : List Byte) : List Byte := (List.range 48).map (sha384Byte bs)

/-- Whether an RSASSA-PSS signature verifies under an RSA-3072 modulus (R483, R484): modulus, bytes signed, signature. -/
opaque rsaVerifies : List Byte → List Byte → List Byte → Bool

/-- Whether an SLH-DSA-SHA2-192s signature verifies under a public key (R483, R484): key, bytes signed, signature. -/
opaque slhVerifies : List Byte → List Byte → List Byte → Bool

/-- Byte `i` of the SHA-384 value the steward's ROM holds for a key slot (R484): the same in every module, and not stated. -/
opaque romKeyByte : Nat → Nat → Byte

/-- The SHA-384 value the ROM holds for a key slot. -/
def romKeyDigest (slot : Nat) : List Byte := (List.range 48).map (romKeyByte slot)

/-- A value the spec does not state for draw `i`, as a natural below 2^64. -/
def freeNat (i : Nat) : Nat := (freeW64 i).toNat

end Sys2Proof.Config
end

