-- ==== Sys2Proof/Machine/Bits.lean ====
section
/-! DEFINITION. Bit fields, sign extension and byte order (R3, R69: little-endian), over naturals. -/

namespace Sys2Proof.Machine

/-- Bits [lo + len - 1 : lo] of a natural. -/
def bitsOf (n lo len : Nat) : Nat := (n >>> lo) % 2 ^ len

/-- Bits [lo + len - 1 : lo] of a bit vector, as a natural. -/
def fld {w : Nat} (v : BitVec w) (lo len : Nat) : Nat := bitsOf v.toNat lo len

/-- Bit `i` of a natural. -/
def bitOf (n i : Nat) : Bool := bitsOf n i 1 == 1

/-- `n` with bits [lo + len - 1 : lo] replaced by the low `len` bits of `v`. -/
def setBits (n lo len v : Nat) : Nat :=
  n - (bitsOf n lo len) <<< lo + (v % 2 ^ len) <<< lo

/-- The signed value of the low `len` bits of `n`. -/
def sext (n len : Nat) : Int :=
  let v := n % 2 ^ len
  if 2 * v < 2 ^ len then (v : Int) else (v : Int) - (2 ^ len : Nat)

/-- An integer modulo 2^w, as a natural. -/
def wrapN (w : Nat) (i : Int) : Nat := (i % ((2 ^ w : Nat) : Int)).toNat

/-- 1 for true, 0 for false. -/
def b2n (b : Bool) : Nat := if b then 1 else 0

/-- The little-endian bytes of `n`, `k` of them. -/
def leBytes : Nat → Nat → List Byte
  | 0, _ => []
  | k + 1, n => BitVec.ofNat 8 n :: leBytes k (n / 256)

/-- The natural whose little-endian bytes are given. -/
def leNat : List Byte → Nat
  | [] => 0
  | b :: bs => b.toNat + 256 * leNat bs

/-- The big-endian natural of a byte list. -/
def beNat (bs : List Byte) : Nat := bs.foldl (fun a b => a * 256 + b.toNat) 0

/-- Saturating increment of a 32-bit counter (R10 and the RC counters). -/
def satInc32 (v : W32) : W32 := if v = BitVec.allOnes 32 then v else v + 1

/-- `a + b`, held at `top` (the saturating fields of the register tables). -/
def satAdd (top a b : Nat) : Nat := min top (a + b)

/-- Number of set bits of a natural below 2^w. -/
def popcount : Nat → Nat → Nat
  | 0, _ => 0
  | w + 1, n => n % 2 + popcount w (n / 2)

/-- The set bits of a natural below 2^w, ascending. -/
def setBitsOf (w n : Nat) : List Nat := (List.range w).filter (fun i => bitOf n i)

/-- The bit vector whose set bits are the members of a list. -/
def maskOf (w : Nat) (l : List Nat) : BitVec w :=
  l.foldl (fun m i => m ||| (1#w <<< i)) 0

/-- `i`-th element of a list, with a default. -/
def nth {α : Type} (d : α) (l : List α) (i : Nat) : α := l.getD i d

/-- `l` with element `i` replaced (unchanged where there is none). -/
def setNth {α : Type} (l : List α) (i : Nat) (a : α) : List α := l.set i a

/-- `l` with element `i` taken out. -/
def delNth {α : Type} (l : List α) (i : Nat) : List α := l.eraseIdx i

/-- Sum of a list of naturals. -/
def sumN (l : List Nat) : Nat := l.foldl (· + ·) 0

/-- Smallest of a list, or the given default for an empty list. -/
def minN (d : Nat) : List Nat → Nat
  | [] => d
  | a :: l => l.foldl min a

/-- One step of CRC-32C (reflected polynomial 0x82F63B78), one bit. -/
def crcBit (c : Nat) : Nat := if c % 2 = 1 then (c / 2) ^^^ 0x82F63B78 else c / 2

/-- CRC-32C of a byte list (R466, R474, R483: initial value and final xor all ones). PRESUMED: the
parameters of CRC-32C are the Castagnoli ones (assumption 12). -/
def crc32c (bs : List Byte) : Nat :=
  (bs.foldl (fun c b =>
    let c0 := c ^^^ b.toNat
    crcBit (crcBit (crcBit (crcBit (crcBit (crcBit (crcBit (crcBit c0)))))))) 0xFFFFFFFF)
  ^^^ 0xFFFFFFFF

/-- `(int32)(a - b) > 0` for two 32-bit sequence numbers (R468, R488). -/
def laterSeq (a b : Nat) : Bool :=
  let d := sext (wrapN 32 ((a : Int) - (b : Int))) 32
  decide (0 < d)

end Sys2Proof.Machine
end

