-- ==== Sys2Proof/Machine/SMap.lean ====
section
/-! DEFINITION. Sparse maps from naturals: lists of (key, value) pairs in one canonical form. The keys
rise strictly, and no entry equals what an unlisted key reads as. Memory, tile stores, register
files and per-unit tables are all such maps, so equal contents are equal data. -/

namespace Sys2Proof.Machine

/-- A sparse map, as data. -/
abbrev SMap (α : Type) := List (Nat × α)

/-- The value at a key: the listed one, or the default of that key. -/
def SMap.get {α : Type} (d : Nat → α) : SMap α → Nat → α
  | [], k => d k
  | (j, v) :: m, k => if j = k then v else SMap.get d m k

/-- Remove a key's entry. -/
def SMap.del {α : Type} : SMap α → Nat → SMap α
  | [], _ => []
  | (j, v) :: m, k => if j = k then m else (j, v) :: SMap.del m k

/-- Insert a value at its place in the rising order, replacing an entry of the same key. -/
def SMap.ins {α : Type} : SMap α → Nat → α → SMap α
  | [], k, a => [(k, a)]
  | (j, v) :: m, k, a =>
    if j = k then (k, a) :: m
    else if k < j then (k, a) :: (j, v) :: m
    else (j, v) :: SMap.ins m k a

/-- Write a value: an entry that would equal the default is removed, so the form stays canonical. -/
def SMap.set {α : Type} [DecidableEq α] (d : Nat → α) (m : SMap α) (k : Nat) (a : α) : SMap α :=
  if a = d k then SMap.del m k else SMap.ins m k a

/-- Change the value at a key by a function. -/
def SMap.upd {α : Type} [DecidableEq α] (d : Nat → α) (m : SMap α) (k : Nat) (f : α → α) : SMap α :=
  SMap.set d m k (f (SMap.get d m k))

/-- Drop every entry whose key lies in [lo, hi): those keys read as their defaults again. -/
def SMap.clearRange {α : Type} (m : SMap α) (lo hi : Nat) : SMap α :=
  m.filter (fun e => !(decide (lo ≤ e.1) && decide (e.1 < hi)))

/-- Keys above a lower bound rise strictly and no entry equals its default. -/
def SMap.wfFrom {α : Type} [DecidableEq α] (d : Nat → α) : Nat → SMap α → Bool
  | _, [] => true
  | lo, (j, v) :: m => decide (lo ≤ j) && decide (v ≠ d j) && SMap.wfFrom d (j + 1) m

/-- The canonical form. -/
def SMap.wf {α : Type} [DecidableEq α] (d : Nat → α) (m : SMap α) : Bool := SMap.wfFrom d 0 m

/-- What an unlisted byte reads as: zero (R311 after the zero fill; assumption 7 before it). -/
def byte0 : Nat → Byte := fun _ => 0

/-- Read one byte. -/
def rd (m : SMap Byte) (a : Nat) : Byte := SMap.get byte0 m a

/-- Write one byte. -/
def wr (m : SMap Byte) (a : Nat) (b : Byte) : SMap Byte := SMap.set byte0 m a b

/-- `n` bytes from address `a` upward. -/
def rdN (m : SMap Byte) (a : Nat) : Nat → List Byte
  | 0 => []
  | n + 1 => rd m a :: rdN m (a + 1) n

/-- Store a list of bytes from address `a` upward. -/
def wrL (m : SMap Byte) (a : Nat) : List Byte → SMap Byte
  | [] => m
  | b :: bs => wrL (wr m a b) (a + 1) bs

/-- The little-endian value of `n` bytes at `a`. -/
def rdLE (m : SMap Byte) (a n : Nat) : Nat := leNat (rdN m a n)

/-- Store the low `n` bytes of a natural, little-endian. -/
def wrLE (m : SMap Byte) (a n v : Nat) : SMap Byte := wrL m a (leBytes n v)

/-- The canonical form of a memory (keys rising, no zero byte listed). -/
def Memory.wf (m : SMap Byte) : Bool := SMap.wf byte0 m

end Sys2Proof.Machine
end

