-- ==== Sys2Proof/Machine/MemTypes.lean ====
section
/-! DEFINITION. State of the unified cache, the die caches and the directory, and the memory channels
(chapters The unified cache; Die caches and the directory; Memory ordering; External memory). -/

namespace Sys2Proof.Machine

/-- Sector states of a slice (R205). -/
inductive SecSt where
  | i | v | d | p
deriving DecidableEq, Repr

/-- A sector of a line: its state, FILLING, the byte mask of state P (bit b of a natural), and when it
entered P (R208). -/
structure Sector where
  st : SecSt
  filling : Bool
  mask : Nat
  since : Nat
deriving DecidableEq, Repr

/-- A sector that holds nothing. -/
def Sector.empty : Sector := ⟨.i, false, 0, 0⟩

/-- Stable and transient directory states of a sector (R253). -/
inductive DState where
  | i | s | em | tr
deriving DecidableEq, Repr

/-- Directory state of a sector: DSTATE and VEC (R253). -/
structure Dir where
  st : DState
  vec : Nat
deriving DecidableEq, Repr

/-- No copies. -/
def Dir.none : Dir := ⟨.i, 0⟩

/-- Types of home operands (R221). -/
inductive HomeType where
  | int32 | int64 | fp32 | bf16 | fp64
deriving DecidableEq, Repr

/-- Home operations (R221). -/
inductive HomeFn where
  | add | min | max | and | or | xor | swap | cas
deriving DecidableEq, Repr

/-- Who gets the answer of a home request: an outstanding access of a group, a fill of a read-only cache,
of an instruction buffer or of a group instruction cache, an uncached store of a core, a merge entry of
a die, a host request, a staged network segment, an answer to a network read, or nobody. -/
inductive ReqSrc where
  | load (c g id : Nat)
  | store (c g id : Nat)
  | roc (c line : Nat)
  | ibuf (c line : Nat)
  | gic (c line : Nat)
  | merge (d id : Nat)
  | host (id : Nat)
  | net (seg : Nat)
  | nobody
deriving DecidableEq, Repr

/-- A home operation on its way to or in the queue of its line (R221 to R224). A `reduce` operation carries a
whole chunk of elements. The others carry the operands of the lanes it stands for, one after another in
the order they act (R137), and the comparand of a compare-and-swap; `lanes` names those lanes, or the
chunk of a network segment. -/
structure HomeOp where
  vd : Nat
  addr : Nat
  fn : HomeFn
  ty : HomeType
  reduce : Bool
  operand : List Byte
  cmp : List Byte
  src : ReqSrc
  lanes : List Nat
deriving DecidableEq, Repr

/-- The response to a home operation (R224): the old value each of its lanes gets, in their order, and whether
a compare-and-swap matched. -/
structure OpRsp where
  src : ReqSrc
  lanes : List Nat
  old : List (List Byte)
  hit : Bool
deriving DecidableEq, Repr

/-- Kinds of home requests that do not cache (R261). -/
inductive ReqKind where
  | coherent   -- a read at the point of coherence
  | plain      -- a read of the home as it stands
  | write
deriving DecidableEq, Repr

/-- A request waiting at a home slice. `bytes` are the written bytes with their addresses. `accepted` tells
that the home has placed the write in its order (R279), `early` that its region has EARLY_ACK, `missed`
that it found its line or its sector missing. -/
structure HReq where
  kind : ReqKind
  vd : Nat
  addr : Nat
  len : Nat
  bytes : List (Nat × Byte)
  mark : Bool
  src : ReqSrc
  accepted : Bool
  early : Bool
  missed : Bool
deriving DecidableEq, Repr

/-- A line held by a way of a slice (R204): the queue of home operations gives BUSY and QDEPTH, the
directory gives COPIES. `dead` has bit c for chunk c. A line that is HELD may be leaving: to the write-back buffer
(`evicting`), as dead (`dropping`), or because its extent is suspect (`discarding`, R233). -/
structure Line where
  valid : Bool
  line : Nat
  rrpv : Nat
  ops : List HomeOp
  deadpend : Bool
  held : Bool
  evicting : Bool
  dropping : Bool
  discarding : Bool
  dead : Nat
  secs : SMap Sector
  dirs : SMap Dir
  data : SMap Byte
deriving DecidableEq, Repr

/-- A way that holds no line. -/
def Line.none : Line := ⟨false, 0, 0, [], false, false, false, false, false, 0, [], [], []⟩

/-- Kinds of home transactions (R254). -/
inductive TrKind where
  | smA | emsD | emmA | riA
deriving DecidableEq, Repr

/-- A transaction of a slice (R254); `req` none is the home, `owner` the owner it records, `chunks` are the landed chunks
(engine and descriptor) that count as written when it ends (R262). -/
structure Trans where
  line : Nat
  sector : Nat
  kind : TrKind
  req : Option Nat
  owner : Option Nat
  acks : Nat
  drop : Bool
  discard : Bool
  stream : Bool
  chunks : List (Nat × Nat)
deriving DecidableEq, Repr

/-- A line in the write-back buffer (R212): its sectors D and P and its data. -/
structure WbLine where
  line : Nat
  secs : SMap Sector
  data : SMap Byte
deriving DecidableEq, Repr

/-- A fill returned by a channel (R209): the sector and its bytes, or an uncorrectable error. -/
structure FillData where
  line : Nat
  sector : Nat
  bytes : List Byte
  bad : Bool
deriving DecidableEq, Repr

/-- One slice. `clock` counts sectors that entered P; `owed` are the recalls that landed chunks have still to open, by line
and sector, with those chunks (R262). -/
structure Slice where
  lines : SMap Line
  clock : Nat
  wbuf : List WbLine
  filter : List Nat
  reqs : List HReq
  opsIn : List HomeOp
  trans : List Trans
  fills : List FillData
  owed : List (Nat × Nat × List (Nat × Nat))
deriving DecidableEq, Repr

/-- An empty slice. -/
def Slice.empty : Slice := ⟨[], 0, [], [], [], [], [], [], []⟩

/-- A running maintenance operation (R229 to R232): action, scope, device, the lines still to handle as (slice, line
number) pairs, and whether it holds the first of them. -/
structure MaintOp where
  action : Nat
  scope : Nat
  vd : Nat
  left : List (Nat × Nat)
  holds : Bool
deriving DecidableEq, Repr

/-- Die-cache block states (R258). -/
inductive BSt where
  | i | s | e | m | isD | imD | smD | isDI | imDS | imDI | miA | eiA | siA | iiA
deriving DecidableEq, Repr

/-- What a block has deferred until its grant arrives (IM_DS, IM_DI): a forward naming its requester (none
for the home), or an Inv. -/
inductive Deferred where
  | fwdS (r : Option Nat)
  | fwdM (r : Option Nat)
  | inv
  | none
deriving DecidableEq, Repr

/-- One block of a die cache (R242): its way (0 to 15), tag and 256 bytes. `bad` tells that its bytes were lost in an error
(R268), `leave` that it is to be replaced once it is stable (R269). -/
structure Block where
  vd : Nat
  sector : Nat
  way : Nat
  st : BSt
  dirtiers : Nat
  age : Nat
  data : List Byte
  deferred : Deferred
  nacked : Bool
  bad : Bool
  leave : Bool
deriving DecidableEq, Repr

/-- An access of a group at a die cache (R259): a load or a store of bytes of one sector. -/
structure DAccess where
  core : Nat
  slot : Nat
  id : Nat
  vd : Nat
  addr : Nat
  len : Nat
  store : Bool
  bytes : List (Nat × Byte)
  early : Bool
  window : Bool
  waiting : Bool
deriving DecidableEq, Repr

/-- A merge entry (R245): its sector, data under its byte mask, the cores that wrote and read it (R283),
whether it has been sent. -/
structure MergeEntry where
  id : Nat
  vd : Nat
  sector : Nat
  data : SMap Byte
  mask : Nat
  writers : Nat
  readers : Nat
  sent : Bool
  early : Bool
  window : Bool
deriving DecidableEq, Repr

/-- One die cache with its merge buffer and the dirty lists of its cores, oldest first (R247). `owed` are
entries acknowledged early whose completion notice is awaited, `ackIn` the acknowledgements (false) and
completion notices (true) that have arrived; `turn` counts the messages sent from the core ports in turn (R249);
`moved` are the blocks that a core wrote and that another die took in M, whose data the home has not had (R282). -/
structure Die where
  blocks : List Block
  acc : List DAccess
  merge : List MergeEntry
  nextId : Nat
  dirty : SMap (List (Nat × Nat))
  owed : List MergeEntry
  ackIn : List (Nat × Bool)
  turn : Nat
  moved : SMap (List (Nat × Nat))
deriving DecidableEq, Repr

/-- An empty die cache. -/
def Die.empty : Die := ⟨[], [], [], 0, [], [], [], 0, []⟩

/-- Coherence messages (R248). -/
inductive CohKind where
  | getS | getM | putS | putE | putM | inv | invAck | fwdGetS | fwdGetM | data | dataE | dataM
  | putAck | nack
deriving DecidableEq, Repr

/-- A node of the coherence protocol: the home slice or a die. -/
inductive Node where
  | home (s : Nat)
  | die (d : Nat)
deriving DecidableEq, Repr

/-- A coherence message in flight, in the order sent; `r` names the requester of a forward (none for h). Its number
tells its reed message and its four chunks on the links (R249): `ctl` whether the reed message has arrived, `whole`
whether the chunks have, or it has none. `missed` tells of a request that it found its sector missing. -/
structure CohMsg where
  kind : CohKind
  src : Node
  dst : Node
  vd : Nat
  sector : Nat
  r : Option Nat
  data : List Byte
  id : Nat
  ctl : Bool
  whole : Bool
  missed : Bool
deriving DecidableEq, Repr

/-- A fill request waiting at a channel (R306); `seq` is its place among the channel's requests. -/
structure ChRead where
  slice : Nat
  vd : Nat
  line : Nat
  sector : Nat
  seq : Nat
deriving DecidableEq, Repr

/-- A sector write-back waiting at a channel (R307): its mask and bytes; `seq` is its place among the channel's requests. -/
structure ChWrite where
  vd : Nat
  line : Nat
  sector : Nat
  key : Nat
  mask : Nat
  data : List Byte
  seq : Nat
deriving DecidableEq, Repr

/-- What the check word of a 128 B unit tells (R299): that of its data and its address, a single error, which is corrected,
or an error that cannot be. -/
inductive MemFault where
  | sound | corrected | uncorrectable
deriving DecidableEq, Repr

/-- A run of a channel's traffic generator (R317): what its registers asked for when it was started. `draw` numbers its free
choices, `part` tells that it was stopped before its passes were complete. -/
structure TgRun where
  base : Nat
  limit : Nat
  stride : Nat
  walk : Nat
  mode : Nat
  pattern : Nat
  seed : Nat
  word : Nat
  passes : Nat
  draw : Nat
  part : Bool
deriving DecidableEq, Repr

/-- One memory channel: its queues (R306) and the next place in them, the kind (write or not), device and line of the request
served last, postponed REFpb commands and the next bank pair (R309), whether MR4 asks for the shorter refresh interval,
whether a failed window is to be retried and the tick from which (R312), the tick at which an open window closes, the
temperature and the tick of its last retraining, the units whose check words tell of an error (R299, R315) by unit, the run
of its traffic generator, and the runs that have written raw bursts, newest first (R317). Its state is in MEMCTL_CHn_STATUS. -/
structure Channel where
  reads : List ChRead
  writes : List ChWrite
  nextSeq : Nat
  turn : Option (Bool × Nat × Nat)
  postponed : Nat
  pair : Nat
  hotNext : Bool
  retry : Bool
  retryAt : Nat
  windowEnd : Nat
  trainTemp : Nat
  trainedAt : Nat
  faults : SMap MemFault
  tg : Option TgRun
  runs : List TgRun
deriving DecidableEq, Repr

/-- A channel at rest. -/
def Channel.rest : Channel := ⟨[], [], 0, none, 0, 0, false, false, 0, 0, 0, 0, [], none, []⟩

end Sys2Proof.Machine
end

