-- ==== Sys2Proof/Machine/FabricTypes.lean ====
section
/-! DEFINITION. State of the scheduled fabric (chapter The scheduled fabric): streams and their engines,
chunks in flight, flag words and their messages, reduction entries, reed links, causeway replay. -/

namespace Sys2Proof.Machine

/-- A stream descriptor (R163) and the address it was fetched from. -/
structure StreamDesc where
  addr : Nat
  kind : Nat
  op : Nat
  dead : Bool
  flagEn : Bool
  gateEn : Bool
  frame0 : Nat
  chunks : Nat
  src : Nat
  dst : Nat
  sendJ0 : Nat
  perBeat : Nat
  landJ0 : Nat
  contrib : Nat
  flag : Nat
  flagAdd : Nat
  gateFlag : Nat
  gateValue : Nat
  beatmask : Nat
  srcAddr : Nat
  dstAddr : Nat
  reserved : Bool
deriving DecidableEq, Repr

/-- A fetched stream: the next chunk to leave, whether it is late (R190), whether no later chunk leaves
(R191, R197), how many chunks have been written (R184), whether its flag add has been sent, and the chunk at
which it became late. -/
structure Stream where
  desc : StreamDesc
  next : Nat
  late : Bool
  stopped : Bool
  written : Nat
  flagged : Bool
  lateFrom : Nat
deriving DecidableEq, Repr

/-- A stream engine (R164) running list `list` of the list table of a device's schedule (R162): the address
of the next descriptor and whether the end descriptor has been met. `elastic` is the send elastic buffer of a
core's port (R189): chunks by descriptor and number, oldest first. -/
structure EngineSt where
  vd : Nat
  list : Nat
  nextAddr : Nat
  ended : Bool
  streams : List Stream
  elastic : List (Nat × Nat × List Byte)
deriving DecidableEq, Repr

/-- Where a scheduled chunk lands (R157, R186). -/
inductive ChunkDst where
  | tile (c : Nat) (addr : Nat)
  | slice (s : Nat) (addr : Nat)
deriving DecidableEq, Repr

/-- A scheduled chunk on the fabric: its owner, its stream (engine and descriptor address), its number,
its destination, its landing frame and beat, and for a reduction chunk its operation, its CONTRIB and
the router it is added in. `sumFor` are the streams a reduced sum lands for. `landPos` is its landing position at
the destination port (R157, R159), `due` the landing frame that the schedule gives it, `id` its number among what
travels in flits, `via` the causeway directions of its circuit (R154), `arrives` the FCLK of its arrival at its
destination, and `bad` whether a flit of it awaits its replay (R194). -/
structure Chunk where
  vd : Nat
  eng : Nat
  desc : Nat
  k : Nat
  data : List Byte
  dst : ChunkDst
  landFrame : Nat
  landBeat : Nat
  red : Option (Nat × Nat × Nat)
  sumFor : List (Nat × Nat)
  held : Bool
  landPos : Nat
  due : Nat
  id : Nat
  via : List Nat
  arrives : Nat
  bad : Bool
deriving DecidableEq, Repr

/-- A reduction entry (R186): its key, the sum, the count, the CONTRIB and descriptor of its opener, the
landing frame, beat and position of the last contributor, and the streams that contributed (engine and descriptor);
`bd` is its router, `due` the landing frame that the schedule gives the reduced chunk (R188). -/
structure RedEntry where
  bd : Nat
  vd : Nat
  dst : ChunkDst
  sum : List Byte
  count : Nat
  contrib : Nat
  op : Nat
  opener : Nat
  openEng : Nat
  landFrame : Nat
  landBeat : Nat
  landPos : Nat
  due : Nat
  from_ : List (Nat × Nat)
deriving DecidableEq, Repr

/-- An operation on a flag word (R179 to R181, R184). -/
inductive FlagOp where
  | add (v : W32)
  | write (v : W32)
  | arrive
  | arm (v : W32)
deriving DecidableEq, Repr

/-- A flag message on its way to the router of its word; `sender` orders the messages of one sender
(R180): cores 0 to 95, then engines, then the transport engine. -/
structure FlagMsg where
  vd : Nat
  word : Nat
  op : FlagOp
  sender : Nat
deriving DecidableEq, Repr

/-- The reservation of a schedule (R187): the device, the queue of its job, the entries on each physical
base die. -/
structure RedRes where
  vd : Nat
  queue : Nat
  counts : List Nat
deriving DecidableEq, Repr

/-- One direction of a link (R177): credits the sender holds, messages in flight on it. -/
structure ReedLink where
  credits : Nat
  inFlight : Nat
deriving DecidableEq, Repr

/-- A link direction at rest: eight credits (R177). -/
def ReedLink.rest : ReedLink := ⟨8, 0⟩

/-- What a reed message carries (R176): the reed message of a coherence message, by its number; a flag operation; a
wake-up of a core; a doorbell of a queue, with the tail written (R352); a request of the host port to a home, or the
control part of a write whose data travel in demand positions, by its number (R28, R391); the acknowledgement or the
completion notice of a write (R280); the response to a home operation or its Nack (R224, R226). -/
inductive ReedBody where
  | coh (id : Nat)
  | flag (m : FlagMsg)
  | wake (c : Nat)
  | bell (vd q tail : Nat)
  | req (slice : Nat) (r : HReq)
  | part (id : Nat)
  | ack (src : ReqSrc) (notice : Bool)
  | rsp (r : OpRsp)
  | nack (o : HomeOp)
deriving DecidableEq, Repr

/-- A reed message on the links (R176, R177): its owner, the outputs it has still to leave by, each with the member queue
it waits in there, the link whose credit it holds, and whether its flit awaits a replay. -/
structure ReedMsg where
  id : Nat
  vd : Nat
  body : ReedBody
  path : List (Nat × Nat)
  hold : Option Nat
  bad : Bool
deriving DecidableEq, Repr

/-- What demand chunks carry (R173): a request to a home, a home operation, the sector of a coherence message, the bytes
that answer a read, a sector that a channel returns. -/
inductive DemBody where
  | req (slice : Nat) (r : HReq)
  | op (slice : Nat) (o : HomeOp)
  | coh (id : Nat)
  | rsp (src : ReqSrc) (addr : Nat) (bytes : List Byte)
  | fill (slice : Nat) (f : FillData)
deriving DecidableEq, Repr

/-- A demand message on the links (R173): its owner, its chunks, those that have still to leave by the output it waits at,
its outputs with the member queues, whether it comes from the network port (R174), whether its control part has arrived
or it has none (R28), and whether a flit of it awaits a replay. -/
structure DemMsg where
  id : Nat
  vd : Nat
  body : DemBody
  chunks : Nat
  left : Nat
  path : List (Nat × Nat)
  net : Bool
  ctl : Bool
  bad : Bool
deriving DecidableEq, Repr

/-- A flit that a causeway direction (a link number) sent: its chunk where the spec gives its bytes, the number of what it
carries, the tick it was sent in, and whether it was a replay (R194). -/
structure SentFlit where
  link : Nat
  flit : Flit
  chunk : List Byte
  item : Nat
  sentAt : Nat
  replay : Bool
deriving DecidableEq, Repr

/-- A flit that failed its CRC and awaits its replay (R194); `asked` tells that the retry request has left. -/
structure Replay where
  link : Nat
  flit : Flit
  item : Nat
  asked : Bool
deriving DecidableEq, Repr

/-- A write of the ownership and translation tables that waits for a frame boundary (R31, R169): the owner of a port; a unit
whose ownership is withdrawn and which is in transit from then on (R340); the translation of a new device, with its
extents (logical, pool); the end of a destroyed device (R335); the device that a set brings in (R328); the composition of
the running rebind (R341). -/
inductive TableWrite where
  | slot (isSlice : Bool) (unit : Nat) (owner : Option Nat)
  | leave (isSlice : Bool) (unit : Nat)
  | create (vd : Nat) (exts : List (Nat × Nat))
  | destroy (vd : Nat)
  | switch (set vd : Nat)
  | rebind
deriving DecidableEq, Repr

/-- The fabric. An engine's number is the physical core of its send port, or 96 + 4 n + b for the engine of base
die b in its work for device n. Flag words are numbered 4,096 b + w. `pending` are the table writes that wait for a
frame boundary (R31), each with the frame it was made in; `cancels` the devices whose streams are cancelled at
the next boundary (R197), with whether their reduction chunks are discarded, and the epoch of their job. `reed` and `dem` are the messages in the
member queues, oldest first; `turns` has the member whose turn is next at each output of the reed channel (key 2 l) and
of the demand positions (2 l + 1), `iodTurns` whether the network port is next at a hub (R174), `spent` the demand
positions of an output that replays have taken (R194). `sent` are the flits of the last 64 FCLK, `seqs` the next sequence
number of each causeway direction, `nextId` the next number of what travels in flits. -/
structure Fabric where
  started : Bool
  engines : SMap EngineSt
  chunks : List Chunk
  flags : SMap W32
  flagMsgs : List FlagMsg
  wakes : List Nat
  redEntries : List RedEntry
  redRes : List RedRes
  pending : List (Nat × TableWrite)
  cancels : List (Nat × Bool × Nat)
  links : SMap ReedLink
  reed : List ReedMsg
  dem : List DemMsg
  turns : SMap Nat
  iodTurns : SMap Nat
  spent : SMap Nat
  sent : List SentFlit
  seqs : SMap Nat
  replays : List Replay
  nextId : Nat
deriving DecidableEq, Repr

/-- An engine with no list. -/
def EngineSt.none : EngineSt := ⟨256, 0, 0, true, [], []⟩

/-- The fabric at rest. -/
def Fabric.reset : Fabric :=
  ⟨false, [], [], [], [], [], [], [], [], [], [], [], [], [], [], [], [], [], [], 0⟩

/-- The number of a link direction. -/
def linkNo : Link → Nat
  | .coreSend c => c.val
  | .coreRecv c => 96 + c.val
  | .sliceSend s => 192 + s.val
  | .sliceRecv s => 704 + s.val
  | .causeway n b => 1216 + 2 * n.val + b2n b

end Sys2Proof.Machine
end

