-- ==== Sys2Proof/Machine/DevTypes.lean ====
section
/-! DEFINITION. State of the binder, the virtual devices, their jobs and the error handling of the steward
(chapters Virtual devices; Jobs, shares, deadlines and preemption; Errors, containment and reporting). -/

namespace Sys2Proof.Machine

/-- Who holds a core (R319, R345 COMPOSE_CORE): nobody (not in service), the pool, a device with its
logical number, a shared set with its logical number, or nobody for one frame (R340). -/
inductive Holder where
  | notInService
  | free
  | owned (vd : Nat) (logical : Option Nat)
  | inSet (k : Nat) (logical : Nat)
  | transit
deriving DecidableEq, Repr

/-- Extent states (R323); `none` is code 5, an index with no extent. -/
inductive ExtState where
  | free | owned | scrubbing | suspect | withdrawn | none
deriving DecidableEq, Repr

/-- A pool extent: its state, class, owner, logical extent (`none` after an abandoned rebind, R344),
the channels of its set and its first position on each of them, and its spill positions (R302). -/
structure Extent where
  st : ExtState
  cls : Nat
  owner : Nat
  logical : Option Nat
  chans : List Nat
  bases : List Nat
  spill : List Nat
deriving DecidableEq, Repr

/-- An index with no extent. -/
def Extent.absent : Extent := ⟨.none, 0, 0, none, [], [], []⟩

/-- One run of the descriptor (R330). -/
structure Run where
  valid : Bool
  cls : Nat
  count : Nat
  first : Nat
deriving DecidableEq, Repr

/-- A virtual device descriptor (R330), read from the 320 words of the staging area. -/
structure Desc where
  privOk : Bool
  sharedSet : Nat
  nc : Nat
  vd : Nat
  lbdMap : Nat
  ns : Nat
  coreShape : Nat
  sliceShape : Nat
  flags : List Nat
  red : List Nat
  netWeight : Nat
  qps : Nat
  credits : Nat
  winCount : Nat
  winFirst : Nat
  runs : List Run
  coreMap : List Nat
  sliceMap : List Nat
deriving DecidableEq, Repr

/-- The descriptor of an absent device. -/
def Desc.zero : Desc :=
  ⟨false, 0, 0, 0, 0, 0, 0, 0, [0, 0, 0, 0], [0, 0, 0, 0], 0, 0, 0, 0, 0, [], [], []⟩

/-- A shared core set (R327): its maps, the device switched in, the device chosen to run next, the
device whose turn was last, and the frame from which the cores of the last switch are zeroed (R328). -/
structure SetSt where
  valid : Bool
  lbdMap : Nat
  coreShape : Nat
  cores : List Nat
  switched : Option Nat
  next : Option Nat
  last : Nat
  since : Nat
deriving DecidableEq, Repr

/-- No set. -/
def SetSt.absent : SetSt := ⟨false, 0, 0, [], none, none, 0, 0⟩

/-- The states of a device (R345 COMPOSE_VD.STATE). -/
inductive VdState where
  | absent | active | rebinding | contained
deriving DecidableEq, Repr

/-- A region of the REGION block as copied at a job start (R274, R275). -/
structure Region where
  base : Nat
  limit : Nat
  earlyAck : Bool
  rtype : Nat
deriving DecidableEq, Repr

/-- A job descriptor (R353). -/
structure JobDesc where
  kind : Nat
  windowOut : Bool
  priv : Bool
  deadlineEn : Bool
  irq : Bool
  nckpt : Nat
  tag : Nat
  codeAddr : Nat
  codeLen : Nat
  limit : Nat
  schedAddr : Nat
  arg : W64
  deadline : Nat
  margin : Nat
  costAddr : Nat
  fallbackAddr : Nat
  reserved : Bool
deriving DecidableEq, Repr

/-- Where a job stands: accepted and waiting for its epoch, running, waiting at a reached checkpoint for
the frame boundary that judges it, pausing for a rebind, saving its context, preempted, restoring its context. -/
inductive JobPhase where
  | taken | running | ckpt | paused | saving | preempted | restoring
deriving DecidableEq, Repr

/-- How a job ends, where its end is already decided (R360). -/
structure JobEndSt where
  status : Nat
  cause : Nat
  lcore : Nat
deriving DecidableEq, Repr

/-- A job taken by the scheduler (R355 to R370). `epoch` is its schedule epoch, and while it waits for that the first frame that
can be one (R356); `stopped` is the frame in which the checkpoint it waits at was reached, then the frame whose beginning
stopped its epoch; `ckptIndex` is the index of that checkpoint, `saveBase` the save area its context goes to, `saved` the
frame in which its save or its restoring began, `engines` its stream engines from the stop of its epoch to its resumption,
`toLoad` whether its fallback's schedule waits for the cancelling of the primary's streams (R365). -/
structure Job where
  queue : Nat
  sqIndex : Nat
  desc : JobDesc
  fallback : Option JobDesc
  fellBack : Bool
  late : Bool
  preempts : Nat
  lastCkpt : Nat
  stamp : Nat
  runTicks : Nat
  regions : List Region
  started : Bool
  phase : JobPhase
  epoch : Nat
  ckptIndex : Nat
  stopped : Nat
  saveBase : Nat
  saved : Nat
  engines : List EngineSt
  toLoad : Bool
  ended : Option JobEndSt
deriving DecidableEq, Repr

/-- A FENCE descriptor taken from a queue and waiting for host writes (R361, R395). -/
structure FenceWait where
  queue : Nat
  sqIndex : Nat
  tag : Nat
  irq : Bool
  waits : List Nat
deriving DecidableEq, Repr

/-- One virtual device. `running` is its job, `incoming` the one taken while that saves its context (R371). `flagMap` gives the physical flag word of each logical one, `stamps` the
submission stamps by queue and ring index, `tails` the submission tail of each queue as the doorbells that have reached
the scheduler give it (R352), `phases` the PHASE of each completion ring, `acct` the nine
accounting counters in the order of R373, `unattr` the engine ticks not yet attributed, `deficit` is def[n] of R367, `redHeld` the reduction entries allotted on
each physical base die and `creditsHeld` the send credits, those of an abandoned rebind among them (R344). -/
structure VDev where
  st : VdState
  gen : Nat
  desc : Desc
  flagMap : List Nat
  qpMap : List Nat
  running : Option Job
  incoming : Option Job
  preempted : List Job
  fence : Option FenceWait
  held : Bool
  preemptReq : Bool
  stamps : List (Nat × Nat × Nat)
  tails : List Nat
  phases : List Bool
  acct : List Nat
  unattr : List Nat
  deficit : Int
  redHeld : List Nat
  creditsHeld : Nat
deriving DecidableEq, Repr

/-- An absent device. -/
def VDev.absent : VDev :=
  ⟨.absent, 0, .zero, [], [], none, none, [], none, false, false, [], [0, 0, 0, 0], [true, true, true, true],
   [0, 0, 0, 0, 0, 0, 0, 0, 0], [0, 0, 0], 0, [0, 0, 0, 0], 0⟩

/-- Rebind states (R341). -/
inductive BindState where
  | idle | validating | quiescing | gaining | moving | committing | resuming
deriving DecidableEq, Repr

/-- The running composition operation: the new descriptor of a rebind, whether it is a MOVE, the frame in
which QUIESCING began (then that of its commit) and the frame that began at its end, whether the quiesce point paused a job, whether
containment or FLR has abandoned it (R344), and what it has gained: the extents of the new composition (logical,
pool), its flag words and its queue pairs. -/
structure BindOp where
  isMove : Bool
  st : BindState
  vd : Nat
  desc : Desc
  since : Nat
  stopped : Nat
  quiescedJob : Bool
  abandoned : Bool
  exts : List (Nat × Nat)
  flags : List Nat
  qps : List Nat
deriving DecidableEq, Repr

/-- The binder (R332, R344): the running rebind and the held request (its OP and its copy of the
staging area). -/
structure Binder where
  running : Option BindOp
  pending : Option (Nat × List W32)
deriving DecidableEq, Repr

/-- The pool (R321): holders of cores and slices, extents, owners of flag words and of queue pairs (device + 1). -/
structure Pool where
  cores : SMap Holder
  slices : SMap Holder
  extents : SMap Extent
  flagOwner : SMap Nat
  qpOwner : SMap Nat
deriving DecidableEq, Repr

/-- An error record (R513). `note` is what its journal entry names beside it (R467, R492). -/
structure ErrRec where
  sev : Nat
  vd : Option Nat
  ext : Option Nat
  cls : Nat
  cause : Nat
  unit : Nat
  count : Nat
  seq : Nat
  lcore : Nat
  time : Nat
  addr : Option Nat
  detail : Nat
  lanes : Nat
  note : List Byte
deriving DecidableEq, Repr

/-- A release in progress (R509): the device and the extents still being scrubbed. -/
structure ReleaseOp where
  vd : Nat
  scrub : List Nat
deriving DecidableEq, Repr

/-- The steward's error handling: waiting records in arrival order (R518), the next SEQ (R513), the
running release, whether a fatal error is being handled (R511), and the records in handling, the one at work first, the
preempted ones behind it, each with the last step of R517 it has ended. -/
structure ErrSt where
  waiting : List ErrRec
  seq : Nat
  release : Option ReleaseOp
  fatal : Bool
  handling : List (ErrRec × Nat)
deriving DecidableEq, Repr

/-- No record anywhere, as at power-on. -/
def ErrSt.rest : ErrSt := ⟨[], 0, none, false, []⟩

end Sys2Proof.Machine
end

