-- ==== Sys2Proof/Machine/CoreTypes.lean ====
section
/-! DEFINITION. State of a core: the sequencer, its queues and scoreboard, the accumulators, the tile store, the
caches beside it, and the group engine (chapters The core and its matrix engine; Thread groups). -/

namespace Sys2Proof.Machine

/-- A 256-byte line of an instruction buffer, a group instruction cache or a read-only cache (R39, R67,
R107): its line number (address / 256), its set's recency order (larger is more recent), its bytes. A
pending fill has `ready` false until its data arrives. -/
structure CLine where
  line : Nat
  vd : Nat
  age : Nat
  bytes : List Byte
deriving DecidableEq, Repr

/-- A fill asked of the home and not yet installed: its line and its bytes once they have arrived. -/
structure CFill where
  line : Nat
  vd : Nat
  bytes : Option (List Byte)
  stale : Bool
  waiters : List Nat
deriving DecidableEq, Repr

/-- Accumulator type tags (R50). -/
inductive AccTag where
  | fp32 | int32 | fp64
deriving DecidableEq, Repr

/-- Lane groups of the matrix array, for the change of precision group (R55). -/
inductive LaneGroup where
  | none | plain | splitFp32 | splitFp64
deriving DecidableEq, Repr

/-- A scoreboard entry (R43): what an instruction reads and writes. Accumulators are bits of a natural,
tile-store ranges are (first, past the last) pairs. -/
structure SBEntry where
  id : Nat
  accR : Nat
  accW : Nat
  rdR : List (Nat × Nat)
  wrR : List (Nat × Nat)
deriving DecidableEq, Repr

/-- An instruction in an issue queue (R40, R42): its word, its address, the scalar values it captured
(SA and SB), its scoreboard entry, whether it has started, the steps it has done. -/
structure QEntry where
  word : Nat
  pc : Nat
  sa : W64
  sb : W64
  sc : W64
  sb_ : Option Nat
  started : Bool
  done : Nat
deriving DecidableEq, Repr

/-- What the sequencer is doing (R40, R76, R182, R362, R552): idle, issuing, held until the sync queue
instruction completes, waiting at a CKPT, ending its kernel (END issued), ended, or stopped. -/
inductive SeqSt where
  | idle | running | held | ckpt (index : Nat) | ending | ended | stopped
deriving DecidableEq, Repr

/-- A FLAGWAIT in progress (R182): the physical word, the mode, the value, the frame it began in. -/
structure FlagWaitSt where
  word : Nat
  mode : Nat
  value : W32
  since : Nat
  pc : Nat
deriving DecidableEq, Repr

/-- A drain in progress (R247, R285): what must be acknowledged before the fence, FLAGSET, CKPT or kernel
end completes: merge entries of the die (by id) and dirty blocks whose PutM is out. -/
structure Drain where
  entries : List Nat
  puts : List (Nat × Nat)
deriving DecidableEq, Repr

/-- A level of lock nesting (R138 to R140): the GLOCK's address, the mask there, the lanes parked at it, the lanes
that hold with their lock words, the height of the reconvergence stack at it, and whether parked lanes
are to run it again. -/
structure LockLvl where
  pc : Nat
  mask : Nat
  parked : Nat
  holding : Nat
  words : List (Nat × Nat)
  depth : Nat
  again : Bool
deriving DecidableEq, Repr

/-- An entry of a reconvergence stack (R131): the full mask, the lanes that take the branch, their target, the
reconvergence point, and whether the taken lanes have had their turn. -/
structure RcEntry where
  full : Nat
  taken : Nat
  target : Nat
  rpc : Nat
  second : Bool
deriving DecidableEq, Repr

/-- Kinds of outstanding accesses of a group (R122). -/
inductive AccKind where
  | load | store | atomicRet | atomic | lock
deriving DecidableEq, Repr

/-- An outstanding device-memory instruction of a group (R122, R134): its lanes with their addresses, the data
that has arrived by address (for atomics, keyed 16 * lane + byte, the match at byte 15), the registers it
will write, the parts still to come, whether it reaches a DEVICE region, whether it goes to the home past the
die cache, and the DEVICE parts from the one on its way on, with the lane and byte (16 * lane + byte) each part
of a load is for (R277); what came for those is keyed 2^64 + 16 * lane + byte. -/
structure OutAcc where
  id : Nat
  kind : AccKind
  dst : Nat
  size : Nat
  lanes : List (Nat × Nat)
  got : List (Nat × Byte)
  writes : List Nat
  left : Nat
  device : Bool
  direct : Bool
  todo : List HReq
  todoOps : List HomeOp
  turn : List Nat
deriving DecidableEq, Repr

/-- What a group waits for (R138, R139, R285): nothing, a fence of a scope, the release of its locks, the answers
to its lock attempts, or the time of its next attempt. -/
inductive GWait where
  | ready
  | fence (scope : Nat) (drain : Drain)
  | unlock (drain : Drain)
  | lockRsp
  | parked
deriving DecidableEq, Repr

/-- A group in a slot (R119 to R141). Registers are keyed 256 * register + lane; `half` is the half of a width-32
group; the stack top is the first of the list; `got` has the lanes whose lock attempt has succeeded. A group that
is `stopped` issues nothing more and stays only for what its issued instructions still have to do (R147). -/
structure Group where
  tag : Nat
  num : Nat
  width : Nat
  half : Nat
  regs : SMap W32
  pc : Nat
  active : Nat
  alive : Nat
  stack : List RcEntry
  watchdog : Nat
  locks : List LockLvl
  got : Nat
  out : List OutAcc
  nextId : Nat
  wait : GWait
  stopped : Bool
deriving DecidableEq, Repr

/-- A group kernel in flight (R110 to R114): `placed` groups have been placed, `ended` have ended. -/
structure GKernel where
  tag : Nat
  width : Nat
  regs : Nat
  priv : Bool
  roMask : Nat
  entry : Nat
  count : Nat
  arg : W64
  placed : Nat
  ended : Nat
  sb_ : Option Nat
deriving DecidableEq, Repr

/-- One core. `tile` is the tile store, `acc` the accumulator file keyed 1,024 t + 32 i + j, `tags` its
type tags, `gslots` the 64 group slots, `rr` the slot that last issued of each sub-engine, `co` the half of a
width-32 group that issued last there and may have a partner in the same ACLK, with whether its instruction was
of memory (R124). `window` and `winSteps` are the sluice window of the last step and its ACLK used (R56). -/
structure Core where
  sregs : SMap W64
  pc : Nat
  seq : SeqSt
  ibuf : List CLine
  ibFill : Option CFill
  qm : List QEntry
  qa : List QEntry
  qg : List QEntry
  qs : List QEntry
  board : List SBEntry
  nextSb : Nat
  acc : SMap W32
  tags : SMap AccTag
  lane : LaneGroup
  sluice : Nat
  sluiceNext : Nat
  window : Nat
  winSteps : Nat
  tile : SMap Byte
  roc : List CLine
  rocFills : List CFill
  gic : List CLine
  gicFills : List CFill
  kernels : List GKernel
  gslots : SMap (Option Group)
  flagWait : Option FlagWaitSt
  drain : Option Drain
  rr : List Nat
  co : List (Option (Nat × Bool))
deriving DecidableEq, Repr

/-- The round-robin pointers of an engine that has issued nothing (R109, R124): each scan begins at the lowest slot
of its sub-engine, as in the example of R125. -/
def rrRest : List Nat := [15, 31, 47, 63]

/-- A core at rest: scalar registers, accumulators and tile store zero (R357, R50, R334). -/
def Core.rest : Core :=
  ⟨[], 0, .idle, [], none, [], [], [], [], [], 0, [], [], .none, 64, 64, 0, 0, [], [], [], [], [], [],
   [], none, none, rrRest, [none, none, none, none]⟩

end Sys2Proof.Machine
end

