-- ==== Sys2Proof/Machine/PortTypes.lean ====
section
/-! DEFINITION. State of the host port and of the network port (chapters The host port; The network port and the
Tuilin transport). -/

namespace Sys2Proof.Machine

/-- A CXL.mem request in flight (R391, R392): whether it is a read, its DPA, the device of its window, the
tick it arrived at, and its response once the home has given one. -/
structure HostReq where
  id : Nat
  read : Bool
  dpa : Nat
  vd : Option Nat
  arrived : Nat
  resp : Option (List Byte)
deriving DecidableEq, Repr

/-- The host port beside its registers: HDM decoder 0 (R389), configuration space (R386), the bus of the PF and whether the next
one is assigned to the port (R382), Memory_Info_Valid (R384), requests. -/
structure HostSt where
  committed : Bool
  hdmErr : Bool
  sizeGiB : Nat
  memEnable : Bool
  vfEnable : Bool
  pfBus : Nat
  nextBus : Bool
  memInfo : Bool
  crs : Bool
  reqs : List HostReq
  nextId : Nat
  rasLogged : Bool
  sent : List (Nat × List Byte)
deriving DecidableEq, Repr

/-- The host port at rest. -/
def HostSt.rest : HostSt := ⟨false, false, 0, false, false, 0, false, false, true, [], 0, false, []⟩

/-- States of a queue pair (R411). ARMING lasts as long as the ARM command, which is one step of the model. -/
inductive QpSt where
  | reset | arming | armed | error
deriving DecidableEq, Repr

/-- A queue pair context as ARM has read it (R410). -/
structure QpCtx where
  prio : Nat
  seg : Nat
  permW : Bool
  permR : Bool
  permRed : Bool
  dscp : Nat
  vlan : Nat
  hops : Nat
  rkey : Nat
  peerRkey : Nat
  peerQpn : Nat
  udpSrc1 : Nat
  udpSrc0 : Nat
  peerIp : Nat
  sendPsn0 : Nat
  recvPsn0 : Nat
  sqBase : Nat
  cqBase : Nat
  rcqBase : Nat
  dbflagEn : Bool
  log2n : Nat
  dbflag : Nat
  raBase : Nat
  raLimit : Nat
deriving DecidableEq, Repr

/-- No context. -/
def QpCtx.none : QpCtx := ⟨0, 0, false, false, false, 0, 0, 0, 0, 0, 0, 0, 0, 0, 0, 0, 0, 0, 0, false, 0, 0, 0, 0⟩

/-- A work request in progress (R412, R413): its ring index and fields, whether its gate has opened, its message number
and the bytes cut into segments so far. -/
structure WorkReq where
  idx : Nat
  kind : Nat
  notify : Bool
  signal : Bool
  irq : Bool
  gateEn : Bool
  lflagEn : Bool
  rtype : Nat
  rop : Nat
  len : Nat
  tag : Nat
  laddr : Nat
  raddr : Nat
  rflagAdd : Nat
  rflag : Nat
  lflag : Nat
  gateFlag : Nat
  gateValue : Nat
  lflagAdd : Nat
  opened : Bool
  msg : Nat
  cut : Nat
deriving DecidableEq, Repr

/-- A segment that has been sent and is not below ACK_PSN (R422): whether the SACK bitmap covers it, whether it is to be
sent again, and the ring index of its work request; `op` is its opcode. -/
structure OutSeg where
  psn : Nat
  op : Nat
  pkt : Packet
  sacked : Bool
  again : Bool
  wr : Nat
deriving DecidableEq, Repr

/-- An outstanding read (R420): the ring index of its work request, the PSNs of its READ_REQs, where it starts at the
responder and here, and the ranges of bytes that have not landed. -/
structure OutRead where
  wr : Nat
  psns : List Nat
  start : Nat
  laddr : Nat
  len : Nat
  missing : List (Nat × Nat)
  again : Bool
deriving DecidableEq, Repr

/-- A READ_REQ that this pair answers (R420): its PSN, the next address and the bytes still to send. -/
structure Answer where
  psn : Nat
  addr : Nat
  left : Nat
  first : Bool
deriving DecidableEq, Repr

/-- A message being received (R419): its number, the PSNs of its FIRST and LAST segments once they have come, the
segments that are complete, its bytes, the RADDR of its FIRST segment, and what its LAST segment signals. -/
structure RxMsg where
  msg : Nat
  first : Option Nat
  last : Option Nat
  done : Nat
  bytes : Nat
  addr : Nat
  notify : Bool
  flag : Nat
  flagAdd : Nat
deriving DecidableEq, Repr

/-- One queue pair (R410 to R425). `accepted` has the PSNs accepted beyond `epsn`, the next expected one; `paceAt` is when the pair
may send again, in 2,000ths of a tick (R406), `timer` the tick at which its retransmission timer expires (R422). -/
structure Qp where
  st : QpSt
  ctx : QpCtx
  path : Nat
  phaseS : Bool
  phaseR : Bool
  nextPsn : Nat
  segs : List OutSeg
  nextMsg : Nat
  wrs : List WorkReq
  expiries : Nat
  rate : Nat
  lastCut : Nat
  rateAt : Nat
  reads : List OutRead
  epsn : Nat
  accepted : List Nat
  rx : List RxMsg
  ackPending : Bool
  lastCnp : Option Nat
  answers : List Answer
  paceAt : Nat
  timer : Option Nat
deriving DecidableEq, Repr

/-- A queue pair in RESET. -/
def Qp.rest : Qp :=
  ⟨.reset, .none, 0, true, true, 0, [], 0, [], 0, 0, 0, 0, [], 0, [], [], false, none, [], 0, none⟩

/-- A segment in the receive staging buffer (R404, R417, R418), of logical pair `q` of a device: its parts (writes of one
sector, or reduce-writes of one chunk), those sent to their homes, acknowledged, and those acknowledged early
with the completion notices that have come. `addr` is where it lands; a READ_RESP is marked. -/
structure Staged where
  id : Nat
  vd : Nat
  q : Nat
  pkt : Packet
  addr : Nat
  resp : Bool
  reduce : Bool
  parts : Nat
  sent : Nat
  acked : Nat
  early : Nat
  notices : Nat
deriving DecidableEq, Repr

/-- A frame the port sends (R403, R404, R407): a data segment of a pair, an ACK, NAK or CNP (its opcode, the peer's
queue pair, ACK_PSN, NAK code, SACK bitmap), a PFC frame, an answer to ARP or to a neighbour solicitation. -/
inductive TxFrame where
  | data (vd q op : Nat) (pkt : Packet)
  | ctl (vd op dstQp ackPsn nak sack : Nat)
  | pfc (prio : Nat) (xoff : Bool)
  | arp (vd : Nat)
  | ndp (vd : Nat)
deriving DecidableEq, Repr

/-- The network port beside its registers (queue pair q of device n is number 64 n + q): MODE and PHY in use, whether
it trains, the staging buffer, the priorities that XOFF was sent for, those that the partner pauses, frames of
the port that wait, NAKs not yet generated (device, logical pair, frame), frames sent, acknowledgements and
completion notices (true) of the homes by segment, the pair of each device whose turn was last, the device whose turn it is
and what each may still send in this round (R407), and when the line is free, in 2,000ths of a tick. -/
structure NetSt where
  up : Bool
  mode : Nat
  phy : Nat
  training : Bool
  qps : SMap Qp
  staging : List Staged
  nextSeg : Nat
  xoff : List Nat
  paused : List Nat
  tx : List TxFrame
  naks : List (Nat × Nat × TxFrame)
  sent : List TxFrame
  ackOut : List (Nat × Bool)
  turn : SMap Nat
  rrVd : Nat
  deficit : SMap Nat
  lineFree : Nat
deriving DecidableEq, Repr

/-- The network port at rest. -/
def NetSt.rest : NetSt := ⟨false, 0, 0, false, [], [], 0, [], [], [], [], [], [], [], 0, [], 0⟩

end Sys2Proof.Machine
end

