-- ==== Sys2Proof/Machine/RegTable.lean ====
section
/-! DEFINITION. The registers of PF BAR0 and VF BAR0 (R522 to R528 and the field tables of every chapter):
where each lies, which of its bits carry which access code (R7), and its reset value. Keys of the
register file: the PF BAR0 offset, or 0x400_0000 + 0x10_0000 n + the VF BAR0 offset for VFn. -/

namespace Sys2Proof.Machine

/-- One row of the register tables: `n1` by `n2` registers of `words` words from `base`, with strides
`s1` and `s2`; the masks of its access codes over the whole register; its reset value. Bits in no
mask are RO or reserved; `resv` has the reserved bits. -/
structure RegRow where
  base : Nat
  n1 : Nat
  s1 : Nat
  n2 : Nat
  s2 : Nat
  words : Nat
  rw : Nat
  w1c : Nat
  w1s : Nat
  wo : Nat
  rc : Nat
  resv : Nat
  reset : Nat
deriving DecidableEq, Repr

/-- The key of a VF BAR0 offset of VFn in the register file. -/
def vfKey (n off : Nat) : Nat := 0x4000000 + n * 0x100000 + off

/-- Rows 1 to 30 of the PF BAR0 registers. -/
def pfRows0 : List RegRow := [
  -- IDENT_DEVICE
  ⟨0, 1, 0, 1, 0, 1, 0, 0, 0, 0, 0, 0xff, 0x4b960000⟩,
  -- IDENT_GRADE
  ⟨4, 1, 0, 1, 0, 1, 0, 0, 0, 0, 0, 0xffff80fc, 0⟩,
  -- IDENT_STATUS
  ⟨8, 1, 0, 1, 0, 1, 0, 0, 0, 0, 0, 0xff80fff8, 0⟩,
  -- IDENT_CORE_FUSE
  ⟨0x10, 3, 4, 1, 0, 1, 0, 0, 0, 0, 0, 0, 0⟩,
  -- IDENT_CORE_MAP
  ⟨0x20, 3, 4, 1, 0, 1, 0, 0, 0, 0, 0, 0, 0⟩,
  -- IDENT_UNITS
  ⟨0x30, 1, 0, 1, 0, 1, 0, 0, 0, 0, 0, 0xfc00, 0⟩,
  -- IDENT_RSVD_WRITES
  ⟨0xffc, 1, 0, 1, 0, 1, 0, 0, 0, 0, 0xffffffff, 0, 0⟩,
  -- STEWARD_MBX_CMD
  ⟨0x10000, 1, 0, 1, 0, 1, 0xff, 0, 0x80000000, 0, 0, 0x7fffff00, 0⟩,
  -- STEWARD_MBX_STATUS
  ⟨0x10004, 1, 0, 1, 0, 1, 0, 0x60000000, 0, 0, 0, 0x1f000000, 0⟩,
  -- STEWARD_MBX_BUF
  ⟨0x18000, 5120, 4, 1, 0, 1, 0xffffffff, 0, 0, 0, 0, 0, 0⟩,
  -- STEWARD_RSVD_WRITES
  ⟨0x1fffc, 1, 0, 1, 0, 1, 0, 0, 0, 0, 0xffffffff, 0, 0⟩,
  -- COMPOSE_CMD
  ⟨0x20000, 1, 0, 1, 0, 1, 0xf, 0, 0x80000000, 0, 0, 0x7ffffff0, 0⟩,
  -- COMPOSE_STATUS
  ⟨0x20004, 1, 0, 1, 0, 1, 0, 0x3000000, 0, 0, 0, 0xff00, 0⟩,
  -- COMPOSE_TIMEOUT
  ⟨0x20008, 1, 0, 1, 0, 1, 0xffffff, 0, 0, 0, 0, 0xff000000, 0x10000⟩,
  -- COMPOSE_POOL_CORES
  ⟨0x20010, 1, 0, 1, 0, 1, 0, 0, 0, 0, 0, 0xff80ff80, 0⟩,
  -- COMPOSE_POOL_SLICES
  ⟨0x20014, 1, 0, 1, 0, 1, 0, 0, 0, 0, 0, 0xfffffc00, 0⟩,
  -- COMPOSE_POOL_NET
  ⟨0x20018, 1, 0, 1, 0, 1, 0, 0, 0, 0, 0, 0xe0008000, 0x10004000⟩,
  -- COMPOSE_POOL_BD
  ⟨0x20020, 4, 4, 1, 0, 1, 0, 0, 0, 0, 0, 0xf000e000, 0x8001000⟩,
  -- COMPOSE_POOL_CLASS
  ⟨0x20040, 16, 4, 1, 0, 1, 0, 0, 0, 0, 0, 0xc0000000, 0⟩,
  -- COMPOSE_SET
  ⟨0x20080, 8, 4, 1, 0, 1, 0, 0, 0, 0, 0, 0xfe0000, 0⟩,
  -- COMPOSE_CORE
  ⟨0x20100, 96, 4, 1, 0, 1, 0, 0, 0, 0, 0, 0x1ff08000, 0x7f00⟩,
  -- COMPOSE_VD
  ⟨0x20400, 256, 4, 1, 0, 1, 0, 0, 0, 0, 0, 0, 0⟩,
  -- COMPOSE_DESC
  ⟨0x21000, 320, 4, 1, 0, 1, 0xffffffff, 0, 0, 0, 0, 0, 0⟩,
  -- COMPOSE_EXTENT
  ⟨0x22000, 640, 4, 1, 0, 1, 0, 0, 0, 0, 0, 0x10fc0000, 0⟩,
  -- COMPOSE_RSVD_WRITES
  ⟨0x3fffc, 1, 0, 1, 0, 1, 0, 0, 0, 0, 0xffffffff, 0, 0⟩,
  -- SCHED_QUANTUM
  ⟨0x40000, 1, 0, 1, 0, 1, 0xffffff, 0, 0, 0, 0, 0xff000000, 0x186a0⟩,
  -- SCHED_PREEMPT
  ⟨0x40004, 1, 0, 1, 0, 1, 0xff, 0, 0x80000000, 0, 0, 0x7fffff00, 0⟩,
  -- SCHED_ACCT_SNAP
  ⟨0x40008, 1, 0, 1, 0, 1, 0xff, 0, 0x80000000, 0x40000000, 0, 0x3fffff00, 0⟩,
  -- SCHED_ACCT
  ⟨0x40100, 9, 8, 1, 0, 2, 0, 0, 0, 0, 0, 0, 0⟩,
  -- SCHED_VD_SHARE
  ⟨0x40400, 256, 4, 1, 0, 1, 0xffff, 0, 0, 0, 0, 0xffff0000, 1⟩]

/-- Rows 31 to 60 of the PF BAR0 registers. -/
def pfRows1 : List RegRow := [
  -- SCHED_VD_DEFICIT
  ⟨0x40800, 256, 4, 1, 0, 1, 0, 0, 0, 0, 0, 0, 0⟩,
  -- SCHED_RSVD_WRITES
  ⟨0x5fffc, 1, 0, 1, 0, 1, 0, 0, 0, 0, 0xffffffff, 0, 0⟩,
  -- FABRIC_CTRL
  ⟨0x60000, 1, 0, 1, 0, 1, 1, 0, 0, 0, 0, 0xfffffffe, 0⟩,
  -- FABRIC_STATUS
  ⟨0x60004, 1, 0, 1, 0, 1, 0, 0, 0, 0, 0, 0xc0c000ec, 0⟩,
  -- FABRIC_FLAG_TIMEOUT
  ⟨0x60008, 1, 0, 1, 0, 1, 0xffffff, 0, 0, 0, 0, 0xff000000, 0x10000⟩,
  -- FABRIC_FRAME
  ⟨0x60010, 1, 0, 1, 0, 2, 0, 0, 0, 0, 0, 0, 0⟩,
  -- FABRIC_CAUSEWAY
  ⟨0x60020, 8, 4, 1, 0, 1, 0, 0, 0, 0, 0, 0xfe, 0⟩,
  -- FABRIC_REPLAY
  ⟨0x60040, 8, 4, 1, 0, 1, 0, 0, 0, 0, 0xffffffff, 0, 0⟩,
  -- FABRIC_MISS
  ⟨0x60100, 96, 4, 1, 0, 1, 0, 0, 0, 0, 0xffffffff, 0, 0⟩,
  -- FABRIC_MISS_BD
  ⟨0x60280, 4, 4, 1, 0, 1, 0, 0, 0, 0, 0xffffffff, 0, 0⟩,
  -- FABRIC_SLOT_CORE
  ⟨0x60400, 96, 4, 1, 0, 1, 0, 0, 0, 0, 0, 0xfffeff00, 0⟩,
  -- FABRIC_SLOT_SLICE
  ⟨0x60800, 512, 4, 1, 0, 1, 0, 0, 0, 0, 0, 0xfffeff00, 0⟩,
  -- FABRIC_RSVD_WRITES
  ⟨0x7fffc, 1, 0, 1, 0, 1, 0, 0, 0, 0, 0xffffffff, 0, 0⟩,
  -- CACHE_STATUS
  ⟨0x80004, 1, 0, 1, 0, 1, 0, 0, 0, 0, 0, 0xfc00fffe, 0⟩,
  -- CACHE_OP_CMD
  ⟨0x80010, 1, 0, 1, 0, 1, 0x3c3ffff, 0, 0x80000000, 0, 0, 0x7c3c0000, 0⟩,
  -- CACHE_OP_ADDR
  ⟨0x80018, 1, 0, 1, 0, 2, 0xfffffffff000, 0, 0, 0, 0, 0xffff000000000fff, 0⟩,
  -- CACHE_OP_LINES
  ⟨0x80020, 1, 0, 1, 0, 1, 0xffffff, 0, 0, 0, 0, 0xff000000, 0⟩,
  -- CACHE_OP_STATUS
  ⟨0x80024, 1, 0, 1, 0, 1, 0, 0xc0000000, 0, 0, 0, 0x3f000000, 0⟩,
  -- CACHE_PROBE_SEL
  ⟨0x80040, 1, 0, 1, 0, 1, 0x3ff03f0f, 0, 0, 0, 0, 0xc00fc0f0, 0⟩,
  -- CACHE_PROBE_TAG
  ⟨0x80060, 6, 4, 1, 0, 1, 0, 0, 0, 0, 0, 0, 0⟩,
  -- CACHE_SLICE
  ⟨0x80800, 512, 4, 1, 0, 1, 0, 0, 0, 0, 0, 0x7800f800, 0⟩,
  -- CACHE_VD_CTRL
  ⟨0x81000, 256, 0x10, 1, 0, 1, 1, 0, 0, 0, 0, 0xfffffffe, 0⟩,
  -- CACHE_VD_DEADREAD
  ⟨0x81004, 256, 0x10, 1, 0, 1, 0, 0, 0, 0, 0xffffffff, 0, 0⟩,
  -- CACHE_VD_DROPS
  ⟨0x81008, 256, 0x10, 1, 0, 1, 0, 0, 0, 0, 0xffffffff, 0, 0⟩,
  -- CACHE_VD_MASKEVICT
  ⟨0x8100c, 256, 0x10, 1, 0, 1, 0, 0, 0, 0, 0xffffffff, 0, 0⟩,
  -- CACHE_RSVD_WRITES
  ⟨0x9fffc, 1, 0, 1, 0, 1, 0, 0, 0, 0, 0xffffffff, 0, 0⟩,
  -- COHERE_CTRL
  ⟨0xa0000, 1, 0, 1, 0, 1, 1, 0, 0, 0, 0, 0xfffffffe, 0⟩,
  -- COHERE_PROBE_DIR
  ⟨0xa0010, 7, 4, 1, 0, 1, 0, 0, 0, 0, 0, 0, 0⟩,
  -- COHERE_DIE_GETS
  ⟨0xa0100, 12, 0x10, 1, 0, 1, 0, 0, 0, 0, 0xffffffff, 0, 0⟩,
  -- COHERE_DIE_GETM
  ⟨0xa0104, 12, 0x10, 1, 0, 1, 0, 0, 0, 0, 0xffffffff, 0, 0⟩]

/-- Rows 61 to 90 of the PF BAR0 registers. -/
def pfRows2 : List RegRow := [
  -- COHERE_DIE_NACKS
  ⟨0xa0108, 12, 0x10, 1, 0, 1, 0, 0, 0, 0, 0xffffffff, 0, 0⟩,
  -- COHERE_DIE_PUTM
  ⟨0xa010c, 12, 0x10, 1, 0, 1, 0, 0, 0, 0, 0xffffffff, 0, 0⟩,
  -- COHERE_VD_STALE
  ⟨0xa1000, 256, 8, 1, 0, 1, 0, 0, 0, 0, 0xffffffff, 0, 0⟩,
  -- COHERE_VD_CONFLICT
  ⟨0xa1004, 256, 8, 1, 0, 1, 0, 0, 0, 0, 0xffffffff, 0, 0⟩,
  -- COHERE_RSVD_WRITES
  ⟨0xbfffc, 1, 0, 1, 0, 1, 0, 0, 0, 0, 0xffffffff, 0, 0⟩,
  -- MEMCTL_CH_STATUS
  ⟨0xc0000, 80, 0x400, 1, 0, 1, 0, 0, 0, 0, 0, 0x1f0070ff, 0⟩,
  -- MEMCTL_CH_CE
  ⟨0xc0004, 80, 0x400, 1, 0, 1, 0, 0, 0, 0, 0xffffffff, 0, 0⟩,
  -- MEMCTL_CH_UE
  ⟨0xc0008, 80, 0x400, 1, 0, 1, 0, 0, 0, 0, 0xffffffff, 0, 0⟩,
  -- MEMCTL_CH_RETRAINS
  ⟨0xc000c, 80, 0x400, 1, 0, 1, 0, 0, 0, 0, 0xffffffff, 0, 0⟩,
  -- MEMCTL_CH_TG_CTRL
  ⟨0xc0100, 80, 0x400, 1, 0, 1, 0x3fff0000, 0, 0x80000000, 0x40000000, 0, 0xffff, 0⟩,
  -- MEMCTL_CH_TG_STATUS
  ⟨0xc0104, 80, 0x400, 1, 0, 1, 0, 0xc0000000, 0, 0, 0, 0xfffffff, 0⟩,
  -- MEMCTL_CH_TG_BASE
  ⟨0xc0108, 80, 0x400, 1, 0, 1, 0x7ffffff, 0, 0, 0, 0, 0xf8000000, 0⟩,
  -- MEMCTL_CH_TG_LIMIT
  ⟨0xc010c, 80, 0x400, 1, 0, 1, 0x7ffffff, 0, 0, 0, 0, 0xf8000000, 0⟩,
  -- MEMCTL_CH_TG_STRIDE
  ⟨0xc0110, 80, 0x400, 1, 0, 1, 0x7ffffff, 0, 0, 0, 0, 0xf8000000, 0⟩,
  -- MEMCTL_CH_TG_SEED
  ⟨0xc0114, 80, 0x400, 1, 0, 1, 0xffffffff, 0, 0, 0, 0, 0, 0⟩,
  -- MEMCTL_CH_TG_PATTERN
  ⟨0xc0118, 80, 0x400, 1, 0, 1, 0xffffffff, 0, 0, 0, 0, 0, 0⟩,
  -- MEMCTL_CH_TG_PASSES
  ⟨0xc011c, 80, 0x400, 1, 0, 1, 0xffff, 0, 0, 0, 0, 0xffff0000, 0⟩,
  -- MEMCTL_CH_TG_ERRORS
  ⟨0xc0120, 80, 0x400, 1, 0, 1, 0, 0, 0, 0, 0xffffffff, 0, 0⟩,
  -- MEMCTL_CH_TG_ERR_ADDR
  ⟨0xc0124, 80, 0x400, 1, 0, 1, 0, 0, 0, 0, 0, 0x78000000, 0⟩,
  -- MEMCTL_CH_TG_ERR_BITS
  ⟨0xc0128, 80, 0x400, 1, 0, 1, 0, 0, 0, 0, 0, 0xffff0000, 0⟩,
  -- MEMCTL_STATUS
  ⟨0xd4000, 1, 0, 1, 0, 1, 0, 0, 0, 0, 0, 0xfc00ff80, 0⟩,
  -- MEMCTL_RSVD_WRITES
  ⟨0xffffc, 1, 0, 1, 0, 1, 0, 0, 0, 0, 0xffffffff, 0, 0⟩,
  -- NETPORT_LINK
  ⟨0x100000, 1, 0, 1, 0, 1, 0, 0, 0, 0, 0, 0xfff00ff, 0⟩,
  -- NETPORT_CTRL
  ⟨0x100004, 1, 0, 1, 0, 1, 0xf700ffff, 0, 0, 0, 0, 0x8ff0000, 0x87004b54⟩,
  -- NETPORT_RTO
  ⟨0x100008, 1, 0, 1, 0, 1, 0x7f, 0, 0, 0, 0, 0xffffff80, 0xc⟩,
  -- NETPORT_PFC
  ⟨0x10000c, 1, 0, 1, 0, 1, 0xffff, 0, 0, 0, 0, 0xffff0000, 0⟩,
  -- NETPORT_MAC
  ⟨0x100010, 1, 0, 1, 0, 2, 0xffffffffffff, 0, 0, 0, 0, 0xffff000000000000, 0⟩,
  -- NETPORT_NEXTHOP
  ⟨0x100018, 1, 0, 1, 0, 2, 0xffffffffffff, 0, 0, 0, 0, 0xffff000000000000, 0⟩,
  -- NETPORT_FEC_CORR
  ⟨0x100020, 1, 0, 1, 0, 1, 0, 0, 0, 0, 0xffffffff, 0, 0⟩,
  -- NETPORT_FEC_UNCORR
  ⟨0x100024, 1, 0, 1, 0, 1, 0, 0, 0, 0, 0xffffffff, 0, 0⟩]

/-- Rows 91 to 120 of the PF BAR0 registers. -/
def pfRows3 : List RegRow := [
  -- NETPORT_DROPS
  ⟨0x100028, 1, 0, 1, 0, 1, 0, 0, 0, 0, 0xffffffff, 0, 0⟩,
  -- NETPORT_ACK_LATE
  ⟨0x10002c, 1, 0, 1, 0, 1, 0, 0, 0, 0, 0xffffffff, 0, 0⟩,
  -- NETPORT_RNR
  ⟨0x100030, 1, 0, 1, 0, 1, 0, 0, 0, 0, 0xffffffff, 0, 0⟩,
  -- NETPORT_IP
  ⟨0x101000, 256, 0x10, 1, 0, 4, 0xffffffffffffffffffffffffffffffff, 0, 0, 0, 0, 0, 0⟩,
  -- NETPORT_RSVD_WRITES
  ⟨0x11fffc, 1, 0, 1, 0, 1, 0, 0, 0, 0, 0xffffffff, 0, 0⟩,
  -- HOSTPORT_LINK
  ⟨0x120000, 1, 0, 1, 0, 1, 0, 0, 0, 0, 0, 0x1f00ff00, 0⟩,
  -- HOSTPORT_CTRL
  ⟨0x120004, 1, 0, 1, 0, 1, 3, 0, 0, 4, 0, 0xfffffff8, 0⟩,
  -- HOSTPORT_RD_LATE
  ⟨0x120010, 1, 0, 1, 0, 1, 0, 0, 0, 0, 0xffffffff, 0, 0⟩,
  -- HOSTPORT_WR_LATE
  ⟨0x120014, 1, 0, 1, 0, 1, 0, 0, 0, 0, 0xffffffff, 0, 0⟩,
  -- HOSTPORT_MISS
  ⟨0x120020, 1, 0, 1, 0, 1, 0, 0, 0, 0, 0xffffffff, 0, 0⟩,
  -- HOSTPORT_RD_MAX
  ⟨0x120018, 1, 0, 1, 0, 1, 0, 0, 0, 0, 0, 0xff000000, 0⟩,
  -- HOSTPORT_WR_MAX
  ⟨0x12001c, 1, 0, 1, 0, 1, 0, 0, 0, 0, 0, 0xff000000, 0⟩,
  -- HOSTPORT_MISS_ADDR
  ⟨0x120028, 1, 0, 1, 0, 2, 0, 0x8000000000000000, 0, 0, 0, 0x7fffff000000003f, 0⟩,
  -- HOSTPORT_WIN
  ⟨0x120100, 20, 4, 1, 0, 1, 0, 0, 0, 0, 0, 0, 0⟩,
  -- HOSTPORT_RSVD_WRITES
  ⟨0x12fffc, 1, 0, 1, 0, 1, 0, 0, 0, 0, 0xffffffff, 0, 0⟩,
  -- POWER_CTRL
  ⟨0x140000, 1, 0, 1, 0, 1, 1, 0, 0, 0, 0, 0xfffffffe, 0⟩,
  -- POWER_STATUS
  ⟨0x140004, 1, 0, 1, 0, 1, 0, 0x8000000, 0, 0, 0, 0x7e0ff00, 0⟩,
  -- POWER_CAP
  ⟨0x140008, 1, 0, 1, 0, 1, 0x7ff, 0, 0, 0, 0, 0xfffff800, 0x578⟩,
  -- POWER_FLOOR
  ⟨0x14000c, 1, 0, 1, 0, 1, 0xfff007f, 0, 0, 0, 0, 0xf000ff80, 0xf00004⟩,
  -- POWER_SUPPLY
  ⟨0x140010, 1, 0, 1, 0, 1, 0x1ff, 0, 0, 0, 0, 0xfffe00, 0x1b8⟩,
  -- POWER_INPUT
  ⟨0x140014, 1, 0, 1, 0, 1, 0, 0, 0, 0, 0, 0xff000000, 0⟩,
  -- POWER_ENERGY
  ⟨0x140018, 1, 0, 1, 0, 2, 0, 0, 0, 0, 0, 0, 0⟩,
  -- POWER_WARN_COUNT
  ⟨0x140020, 1, 0, 1, 0, 1, 0, 0, 0, 0, 0xffffffff, 0, 0⟩,
  -- POWER_THROTTLE_COUNT
  ⟨0x140024, 1, 0, 1, 0, 1, 0, 0, 0, 0, 0xffffffff, 0, 0⟩,
  -- POWER_MSG_LOST
  ⟨0x140028, 1, 0, 1, 0, 1, 0, 0, 0, 0, 0xffffffff, 0, 0⟩,
  -- POWER_DIE_GRANT
  ⟨0x140100, 17, 0x10, 1, 0, 1, 0, 0, 0, 0, 0, 0, 0⟩,
  -- POWER_DIE_STATE
  ⟨0x140104, 17, 0x10, 1, 0, 1, 0, 0, 0, 0, 0, 0x1f8080, 0x4040⟩,
  -- POWER_DIE_STRETCH
  ⟨0x140108, 17, 0x10, 1, 0, 1, 0, 0, 0, 0, 0xffffffff, 0, 0⟩,
  -- POWER_CORE
  ⟨0x140300, 96, 4, 1, 0, 1, 0x7f, 0, 0, 0, 0, 0xff80ff80, 0x400040⟩,
  -- POWER_RSVD_WRITES
  ⟨0x15fffc, 1, 0, 1, 0, 1, 0, 0, 0, 0, 0xffffffff, 0, 0⟩]

/-- Rows 121 to 150 of the PF BAR0 registers. -/
def pfRows4 : List RegRow := [
  -- CLOCKTIME_STATUS
  ⟨0x160000, 1, 0, 1, 0, 1, 0, 0, 0, 0, 0, 0xfffff0f, 0x80000000⟩,
  -- CLOCKTIME_RESET
  ⟨0x160004, 1, 0, 1, 0, 1, 0, 0, 0, 0xff000003, 0, 0xfffffc, 0⟩,
  -- CLOCKTIME_CAUSE
  ⟨0x160008, 1, 0, 1, 0, 1, 0, 0, 0, 0, 0, 0xfff0000, 0⟩,
  -- CLOCKTIME_PERST_GLITCH
  ⟨0x16000c, 1, 0, 1, 0, 1, 0, 0, 0, 0, 0xffffffff, 0, 0⟩,
  -- CLOCKTIME_TIME
  ⟨0x160010, 1, 0, 1, 0, 2, 0, 0, 0, 0, 0, 0, 0⟩,
  -- CLOCKTIME_START
  ⟨0x160018, 1, 0, 1, 0, 2, 0, 0, 0, 0, 0, 0, 0⟩,
  -- CLOCKTIME_FRAME0
  ⟨0x160020, 1, 0, 1, 0, 2, 0, 0, 0, 0, 0, 0, 0⟩,
  -- CLOCKTIME_STEP
  ⟨0x160040, 10, 4, 1, 0, 1, 0, 0, 0, 0, 0, 0, 0⟩,
  -- CLOCKTIME_RSVD_WRITES
  ⟨0x17fffc, 1, 0, 1, 0, 1, 0, 0, 0, 0, 0xffffffff, 0, 0⟩,
  -- ERROR_CTRL
  ⟨0x180000, 1, 0, 1, 0, 1, 1, 0, 0, 2, 0, 0xfffffffc, 0⟩,
  -- ERROR_STATUS
  ⟨0x180004, 1, 0, 1, 0, 1, 0, 0, 0, 0, 0, 0x1ffffe00, 0⟩,
  -- ERROR_Q_HEAD
  ⟨0x180010, 3, 0x10, 1, 0, 1, 0x7f, 0, 0, 0, 0, 0xffffff80, 0⟩,
  -- ERROR_Q_TAIL
  ⟨0x180014, 3, 0x10, 1, 0, 1, 0, 0, 0, 0, 0, 0xffffff80, 0⟩,
  -- ERROR_Q_LOST
  ⟨0x180018, 3, 0x10, 1, 0, 1, 0, 0, 0, 0, 0xffffffff, 0, 0⟩,
  -- ERROR_CLASS_COUNT
  ⟨0x180080, 16, 4, 1, 0, 1, 0, 0, 0, 0, 0xffffffff, 0, 0⟩,
  -- ERROR_STICKY_STATUS
  ⟨0x180100, 1, 0, 1, 0, 1, 0, 0, 0, 0, 0, 0x7fff0000, 0⟩,
  -- ERROR_STICKY_START
  ⟨0x180104, 1, 0, 1, 0, 1, 0, 0, 0, 0, 0, 0, 0⟩,
  -- ERROR_STICKY_REC
  ⟨0x180140, 24, 4, 1, 0, 1, 0, 0, 0, 0, 0, 0, 0⟩,
  -- ERROR_CONTAIN_CMD
  ⟨0x180200, 1, 0, 1, 0, 1, 0xfff, 0, 0x80000000, 0, 0, 0x7ffff000, 0⟩,
  -- ERROR_CONTAIN_STATUS
  ⟨0x180204, 1, 0, 1, 0, 1, 0, 0x40000000, 0, 0, 0, 0x3fffff00, 0⟩,
  -- ERROR_SUSPECT
  ⟨0x180400, 20, 4, 1, 0, 1, 0, 0, 0, 0, 0, 0, 0⟩,
  -- ERROR_SCRUB
  ⟨0x180480, 20, 4, 1, 0, 1, 0xffffffff, 0, 0, 0, 0, 0, 0⟩,
  -- ERROR_Q_REC
  ⟨0x184000, 192, 0x80, 24, 4, 1, 0, 0, 0, 0, 0, 0, 0⟩,
  -- ERROR_RSVD_WRITES
  ⟨0x19fffc, 1, 0, 1, 0, 1, 0, 0, 0, 0, 0xffffffff, 0, 0⟩,
  -- FWUPD_STATUS
  ⟨0x1a0000, 1, 0, 1, 0, 1, 0, 0x3000000, 0, 0, 0, 0xfffc00, 0⟩,
  -- FWUPD_CMD
  ⟨0x1a0004, 1, 0, 1, 0, 1, 0xf, 0, 0x80000000, 0xff0000, 0, 0x7f00fff0, 0⟩,
  -- FWUPD_CTRL
  ⟨0x1a0008, 1, 0, 1, 0, 1, 1, 0, 0, 0, 0, 0xfffffffe, 1⟩,
  -- FWUPD_CAUSE
  ⟨0x1a000c, 1, 0, 1, 0, 1, 0, 0, 0, 0, 0, 0xffffff00, 0⟩,
  -- FWUPD_SET
  ⟨0x1a0010, 2, 4, 1, 0, 1, 0, 0, 0, 0, 0, 0, 0⟩,
  -- FWUPD_VER
  ⟨0x1a0018, 2, 4, 1, 0, 1, 0, 0, 0, 0, 0, 0, 0⟩]

/-- Rows 151 to 164 of the PF BAR0 registers. -/
def pfRows5 : List RegRow := [
  -- FWUPD_SVN
  ⟨0x1a0020, 1, 0, 1, 0, 1, 0, 0, 0, 0, 0, 0xfffff800, 0⟩,
  -- FWUPD_TRIAL
  ⟨0x1a0024, 1, 0, 1, 0, 1, 0, 0, 0, 0, 0, 0xfffffc00, 0⟩,
  -- FWUPD_RSVD_WRITES
  ⟨0x1bfffc, 1, 0, 1, 0, 1, 0, 0, 0, 0, 0xffffffff, 0, 0⟩,
  -- CALIB_CMD
  ⟨0x1c0000, 1, 0, 1, 0, 1, 0xf, 0, 0x80000000, 0xff0000, 0, 0x7f00fff0, 0⟩,
  -- CALIB_STATUS
  ⟨0x1c0004, 1, 0, 1, 0, 1, 0, 0x60000000, 0, 0, 0, 0x1fffff00, 0⟩,
  -- CALIB_RECORD
  ⟨0x1c0008, 1, 0, 1, 0, 1, 0, 0, 0, 0, 0, 0x1f000000, 0⟩,
  -- CALIB_CAL
  ⟨0x1c000c, 1, 0, 1, 0, 1, 0, 0, 0, 0, 0, 0x3fff0000, 0⟩,
  -- CALIB_JOURNAL_SEL
  ⟨0x1c0010, 1, 0, 1, 0, 1, 0xffffffff, 0, 0, 0, 0, 0, 0⟩,
  -- CALIB_JOURNAL_FIRST
  ⟨0x1c0014, 1, 0, 1, 0, 1, 0, 0, 0, 0, 0, 0, 0⟩,
  -- CALIB_JOURNAL_LAST
  ⟨0x1c0018, 1, 0, 1, 0, 1, 0, 0, 0, 0, 0, 0, 0⟩,
  -- CALIB_JOURNAL_LOST
  ⟨0x1c001c, 1, 0, 1, 0, 1, 0, 0, 0, 0, 0xffffffff, 0, 0⟩,
  -- CALIB_JOURNAL_FATAL
  ⟨0x1c0020, 1, 0, 1, 0, 1, 0, 0, 0, 0, 0, 0xfffffe00, 0⟩,
  -- CALIB_BUF
  ⟨0x1c1000, 1024, 4, 1, 0, 1, 0xffffffff, 0, 0, 0, 0, 0, 0⟩,
  -- CALIB_RSVD_WRITES
  ⟨0x1dfffc, 1, 0, 1, 0, 1, 0, 0, 0, 0, 0xffffffff, 0, 0⟩]

/-- Rows 1 to 30 of the VF BAR0 registers. -/
def vfRows0 : List RegRow := [
  -- VDINFO_ID
  ⟨0, 1, 0, 1, 0, 1, 0, 0, 0, 0, 0, 0xfffc00, 0⟩,
  -- VDINFO_COUNTS
  ⟨4, 1, 0, 1, 0, 1, 0, 0, 0, 0, 0, 0xf0000080, 0⟩,
  -- VDINFO_CORE_SHAPE
  ⟨8, 1, 0, 1, 0, 1, 0, 0, 0, 0, 0, 0, 0⟩,
  -- VDINFO_SLICE_SHAPE
  ⟨0xc, 1, 0, 1, 0, 1, 0, 0, 0, 0, 0, 0, 0⟩,
  -- VDINFO_FLAGS
  ⟨0x10, 1, 0, 1, 0, 1, 0, 0, 0, 0, 0, 0, 0⟩,
  -- VDINFO_NET
  ⟨0x14, 1, 0, 1, 0, 1, 0, 0, 0, 0, 0, 0xff80, 0⟩,
  -- VDINFO_CREDITS
  ⟨0x18, 1, 0, 1, 0, 1, 0, 0, 0, 0, 0, 0xffffe000, 0⟩,
  -- VDINFO_RUN
  ⟨0x20, 8, 4, 1, 0, 1, 0, 0, 0, 0, 0, 0x7f000000, 0⟩,
  -- VDINFO_WINDOW
  ⟨0x40, 1, 0, 1, 0, 1, 0, 0, 0, 0, 0, 0xfff00000, 0⟩,
  -- VDINFO_RSVD_WRITES
  ⟨0xffc, 1, 0, 1, 0, 1, 0, 0, 0, 0, 0xffffffff, 0, 0⟩,
  -- QUEUE_SQ_BASE
  ⟨0x1000, 4, 0x40, 1, 0, 2, 0xffffffffff80, 0, 0, 0, 0, 0xffff00000000007f, 0⟩,
  -- QUEUE_CQ_BASE
  ⟨0x1018, 4, 0x40, 1, 0, 2, 0xffffffffffe0, 0, 0, 0, 0, 0xffff00000000001f, 0⟩,
  -- QUEUE_SAVE
  ⟨0x1028, 4, 0x40, 1, 0, 2, 0xfffffffff000, 0, 0, 0, 0, 0xffff000000000fff, 0⟩,
  -- QUEUE_SQ_CFG
  ⟨0x1008, 4, 0x40, 1, 0, 1, 0xc01f0000, 0, 0, 0, 0, 0x3fe0ffff, 0x40000⟩,
  -- QUEUE_SQ_TAIL
  ⟨0x100c, 4, 0x40, 1, 0, 1, 0xffff, 0, 0, 0, 0, 0xffff0000, 0⟩,
  -- QUEUE_CQ_HEAD
  ⟨0x1020, 4, 0x40, 1, 0, 1, 0xffff, 0, 0, 0, 0, 0xffff0000, 0⟩,
  -- QUEUE_SQ_HEAD
  ⟨0x1010, 4, 0x40, 1, 0, 1, 0, 0, 0, 0, 0, 0xffff0000, 0⟩,
  -- QUEUE_CQ_TAIL
  ⟨0x1024, 4, 0x40, 1, 0, 1, 0, 0, 0, 0, 0, 0xffff0000, 0⟩,
  -- QUEUE_STATUS
  ⟨0x1030, 4, 0x40, 1, 0, 1, 0, 6, 0, 0, 0, 0x1ffffff8, 0⟩,
  -- QUEUE_RSVD_WRITES
  ⟨0x1ffc, 1, 0, 1, 0, 1, 0, 0, 0, 0, 0xffffffff, 0, 0⟩,
  -- EVENT_HEAD
  ⟨0x2000, 1, 0, 1, 0, 1, 0x7f, 0, 0, 0, 0, 0xffffff80, 0⟩,
  -- EVENT_TAIL
  ⟨0x2004, 1, 0, 1, 0, 1, 0, 0, 0, 0, 0, 0xffffff80, 0⟩,
  -- EVENT_LOST
  ⟨0x2008, 1, 0, 1, 0, 1, 0, 0, 0, 0, 0xffffffff, 0, 0⟩,
  -- EVENT_REC
  ⟨0x2100, 64, 0x20, 8, 4, 1, 0, 0, 0, 0, 0, 0, 0⟩,
  -- EVENT_RSVD_WRITES
  ⟨0x2ffc, 1, 0, 1, 0, 1, 0, 0, 0, 0, 0xffffffff, 0, 0⟩,
  -- ACCT_CTRL
  ⟨0x3000, 1, 0, 1, 0, 1, 0, 0, 0x80000000, 0, 0, 0x7fffffff, 0⟩,
  -- ACCT_COUNT
  ⟨0x3010, 9, 8, 1, 0, 2, 0, 0, 0, 0, 0, 0, 0⟩,
  -- ACCT_RSVD_WRITES
  ⟨0x3ffc, 1, 0, 1, 0, 1, 0, 0, 0, 0, 0xffffffff, 0, 0⟩,
  -- REGION_BASE
  ⟨0x4000, 64, 0x20, 1, 0, 2, 0xfffffffff000, 0, 0, 0, 0, 0xffff000000000fff, 0⟩,
  -- REGION_LIMIT
  ⟨0x4008, 64, 0x20, 1, 0, 2, 0xfffffffff000, 0, 0, 0, 0, 0xffff000000000fff, 0⟩]

/-- Rows 31 to 48 of the VF BAR0 registers. -/
def vfRows1 : List RegRow := [
  -- REGION_ATTR
  ⟨0x4010, 64, 0x20, 1, 0, 1, 0x80000007, 0, 0, 0, 0, 0x7ffffff8, 0⟩,
  -- REGION_RSVD_WRITES
  ⟨0x4ffc, 1, 0, 1, 0, 1, 0, 0, 0, 0, 0xffffffff, 0, 0⟩,
  -- TRANSPORT_QP_CTX
  ⟨0x10000, 64, 0x40, 1, 0, 2, 0xffffffffff80, 0, 0, 0, 0, 0xffff00000000007f, 0⟩,
  -- TRANSPORT_QP_CMD
  ⟨0x10008, 64, 0x40, 1, 0, 1, 1, 0, 0x80000000, 0, 0, 0x7ffffffe, 0⟩,
  -- TRANSPORT_QP_STATUS
  ⟨0x1000c, 64, 0x40, 1, 0, 1, 0, 0x1c000000, 0, 0, 0, 0x300c000, 0⟩,
  -- TRANSPORT_QP_SQ_TAIL
  ⟨0x10010, 64, 0x40, 1, 0, 1, 0xffff, 0, 0, 0, 0, 0xffff0000, 0⟩,
  -- TRANSPORT_QP_CQ_HEAD
  ⟨0x10018, 64, 0x40, 1, 0, 1, 0xffff, 0, 0, 0, 0, 0xffff0000, 0⟩,
  -- TRANSPORT_QP_RCQ_HEAD
  ⟨0x10020, 64, 0x40, 1, 0, 1, 0xffff, 0, 0, 0, 0, 0xffff0000, 0⟩,
  -- TRANSPORT_QP_SQ_HEAD
  ⟨0x10014, 64, 0x40, 1, 0, 1, 0, 0, 0, 0, 0, 0xffff0000, 0⟩,
  -- TRANSPORT_QP_CQ_TAIL
  ⟨0x1001c, 64, 0x40, 1, 0, 1, 0, 0, 0, 0, 0, 0xffff0000, 0⟩,
  -- TRANSPORT_QP_RCQ_TAIL
  ⟨0x10024, 64, 0x40, 1, 0, 1, 0, 0, 0, 0, 0, 0xffff0000, 0⟩,
  -- TRANSPORT_QP_RETX
  ⟨0x10028, 64, 0x40, 1, 0, 1, 0, 0, 0, 0, 0xffffffff, 0, 0⟩,
  -- TRANSPORT_RSVD_WRITES
  ⟨0x1fffc, 1, 0, 1, 0, 1, 0, 0, 0, 0, 0xffffffff, 0, 0⟩,
  -- ERRLOG_HEAD
  ⟨0x20000, 1, 0, 1, 0, 1, 0x1f, 0, 0, 0, 0, 0xffffffe0, 0⟩,
  -- ERRLOG_TAIL
  ⟨0x20004, 1, 0, 1, 0, 1, 0, 0, 0, 0, 0, 0xffffffe0, 0⟩,
  -- ERRLOG_LOST
  ⟨0x20008, 1, 0, 1, 0, 1, 0, 0, 0, 0, 0xffffffff, 0, 0⟩,
  -- ERRLOG_REC
  ⟨0x20100, 16, 0x80, 24, 4, 1, 0, 0, 0, 0, 0, 0, 0⟩,
  -- ERRLOG_RSVD_WRITES
  ⟨0x20ffc, 1, 0, 1, 0, 1, 0, 0, 0, 0, 0xffffffff, 0, 0⟩]

/-- Rows of the MSI-X table of the PF and its pending bits (R524; PRESUMED from PCIe: four words an
entry, the mask bit of the vector control word set at reset; log entry 13). -/
def msixRowsPf : List RegRow := [
  ⟨0x122000, 64, 16, 3, 4, 1, 0xffffffff, 0, 0, 0, 0, 0, 0⟩,
  ⟨0x12200c, 64, 16, 1, 0, 1, 1, 0, 0, 0, 0, 0, 1⟩,
  ⟨0x123000, 2, 4, 1, 0, 1, 0, 0, 0, 0, 0, 0, 0⟩]

/-- The same of each VF (R523: 8 entries). -/
def msixRowsVf : List RegRow := [
  ⟨0xf0000, 8, 16, 3, 4, 1, 0xffffffff, 0, 0, 0, 0, 0, 0⟩,
  ⟨0xf000c, 8, 16, 1, 0, 1, 1, 0, 0, 0, 0, 0, 1⟩,
  ⟨0xf1000, 2, 4, 1, 0, 1, 0, 0, 0, 0, 0, 0, 0⟩]

/-- The registers of PF BAR0. -/
def pfRows : List RegRow := pfRows0 ++ pfRows1 ++ pfRows2 ++ pfRows3 ++ pfRows4 ++ pfRows5 ++ msixRowsPf

/-- The registers of VF BAR0. -/
def vfRows : List RegRow := vfRows0 ++ vfRows1 ++ msixRowsVf

/-- The word a row holds at an offset: its index within one register of the row. -/
def RegRow.wordAt (r : RegRow) (off : Nat) : Option Nat :=
  if off < r.base then none
  else
    let o := off - r.base
    let i := if r.n1 ≤ 1 then 0 else o / r.s1
    let o1 := o - i * r.s1
    let j := if r.n2 ≤ 1 then 0 else o1 / r.s2
    let o2 := o1 - j * r.s2
    if i < r.n1 ∧ j < r.n2 ∧ o2 % 4 = 0 ∧ o2 < 4 * r.words then some (o2 / 4) else none

/-- The row and word of an offset in a table. -/
def findRow : List RegRow → Nat → Option (RegRow × Nat)
  | [], _ => none
  | r :: rs, off =>
    match r.wordAt off with
    | some w => some (r, w)
    | none => findRow rs off

/-- Whether a register-file key lies in a VF BAR0. -/
def isVfKey (k : Nat) : Bool := decide (0x4000000 ≤ k)

/-- The VF number of a key. -/
def vfOfKey (k : Nat) : Nat := (k - 0x4000000) / 0x100000

/-- The offset of a key within its BAR. -/
def offOfKey (k : Nat) : Nat := if isVfKey k then (k - 0x4000000) % 0x100000 else k

/-- The row and word of a key. -/
def rowOfKey (k : Nat) : Option (RegRow × Nat) :=
  if isVfKey k then findRow vfRows (offOfKey k) else findRow pfRows k

/-- Word `w` of a mask or value of a register. -/
def wordOf (m w : Nat) : Nat := bitsOf m (32 * w) 32

/-- The reset value of the word at a key (0 where no register is assigned, R9). -/
def regReset (k : Nat) : W32 :=
  match rowOfKey k with
  | some (r, w) => BitVec.ofNat 32 (wordOf r.reset w)
  | none => 0

namespace Reg

/-- IDENT_DEVICE. -/
def identDevice : Nat := 0x0
/-- IDENT_GRADE. -/
def identGrade : Nat := 0x4
/-- IDENT_STATUS. -/
def identStatus : Nat := 0x8
/-- IDENT_CORE_FUSE. -/
def identCoreFuse (i : Nat) : Nat := 0x10 + 4 * i
/-- IDENT_CORE_MAP. -/
def identCoreMap (i : Nat) : Nat := 0x20 + 4 * i
/-- IDENT_UNITS. -/
def identUnits : Nat := 0x30
/-- IDENT_RSVD_WRITES. -/
def identRsvdWrites : Nat := 0xffc
/-- STEWARD_MBX_CMD. -/
def stewardMbxCmd : Nat := 0x10000
/-- STEWARD_MBX_STATUS. -/
def stewardMbxStatus : Nat := 0x10004
/-- STEWARD_MBX_BUF. -/
def stewardMbxBuf (i : Nat) : Nat := 0x18000 + 4 * i
/-- STEWARD_RSVD_WRITES. -/
def stewardRsvdWrites : Nat := 0x1fffc
/-- COMPOSE_CMD. -/
def composeCmd : Nat := 0x20000
/-- COMPOSE_STATUS. -/
def composeStatus : Nat := 0x20004
/-- COMPOSE_TIMEOUT. -/
def composeTimeout : Nat := 0x20008
/-- COMPOSE_POOL_CORES. -/
def composePoolCores : Nat := 0x20010
/-- COMPOSE_POOL_SLICES. -/
def composePoolSlices : Nat := 0x20014
/-- COMPOSE_POOL_NET. -/
def composePoolNet : Nat := 0x20018
/-- COMPOSE_POOL_BD. -/
def composePoolBd (i : Nat) : Nat := 0x20020 + 4 * i
/-- COMPOSE_POOL_CLASS. -/
def composePoolClass (i : Nat) : Nat := 0x20040 + 4 * i
/-- COMPOSE_SET. -/
def composeSet (i : Nat) : Nat := 0x20080 + 4 * (i - 1)
/-- COMPOSE_CORE. -/
def composeCore (i : Nat) : Nat := 0x20100 + 4 * i
/-- COMPOSE_VD. -/
def composeVd (i : Nat) : Nat := 0x20400 + 4 * i
/-- COMPOSE_DESC. -/
def composeDesc (i : Nat) : Nat := 0x21000 + 4 * i
/-- COMPOSE_EXTENT. -/
def composeExtent (i : Nat) : Nat := 0x22000 + 4 * i
/-- COMPOSE_RSVD_WRITES. -/
def composeRsvdWrites : Nat := 0x3fffc
/-- SCHED_QUANTUM. -/
def schedQuantum : Nat := 0x40000
/-- SCHED_PREEMPT. -/
def schedPreempt : Nat := 0x40004
/-- SCHED_ACCT_SNAP. -/
def schedAcctSnap : Nat := 0x40008
/-- SCHED_ACCT. -/
def schedAcct (i : Nat) : Nat := 0x40100 + 8 * i
/-- SCHED_VD_SHARE. -/
def schedVdShare (i : Nat) : Nat := 0x40400 + 4 * i
/-- SCHED_VD_DEFICIT. -/
def schedVdDeficit (i : Nat) : Nat := 0x40800 + 4 * i
/-- SCHED_RSVD_WRITES. -/
def schedRsvdWrites : Nat := 0x5fffc
/-- FABRIC_CTRL. -/
def fabricCtrl : Nat := 0x60000
/-- FABRIC_STATUS. -/
def fabricStatus : Nat := 0x60004
/-- FABRIC_FLAG_TIMEOUT. -/
def fabricFlagTimeout : Nat := 0x60008
/-- FABRIC_FRAME. -/
def fabricFrame : Nat := 0x60010
/-- FABRIC_CAUSEWAY. -/
def fabricCauseway (i : Nat) : Nat := 0x60020 + 4 * i
/-- FABRIC_REPLAY. -/
def fabricReplay (i : Nat) : Nat := 0x60040 + 4 * i
/-- FABRIC_MISS. -/
def fabricMiss (i : Nat) : Nat := 0x60100 + 4 * i
/-- FABRIC_MISS_BD. -/
def fabricMissBd (i : Nat) : Nat := 0x60280 + 4 * i
/-- FABRIC_SLOT_CORE. -/
def fabricSlotCore (i : Nat) : Nat := 0x60400 + 4 * i
/-- FABRIC_SLOT_SLICE. -/
def fabricSlotSlice (i : Nat) : Nat := 0x60800 + 4 * i
/-- FABRIC_RSVD_WRITES. -/
def fabricRsvdWrites : Nat := 0x7fffc
/-- CACHE_STATUS. -/
def cacheStatus : Nat := 0x80004
/-- CACHE_OP_CMD. -/
def cacheOpCmd : Nat := 0x80010
/-- CACHE_OP_ADDR. -/
def cacheOpAddr : Nat := 0x80018
/-- CACHE_OP_LINES. -/
def cacheOpLines : Nat := 0x80020
/-- CACHE_OP_STATUS. -/
def cacheOpStatus : Nat := 0x80024
/-- CACHE_PROBE_SEL. -/
def cacheProbeSel : Nat := 0x80040
/-- CACHE_PROBE_TAG. -/
def cacheProbeTag (i : Nat) : Nat := 0x80060 + 4 * i
/-- CACHE_SLICE. -/
def cacheSlice (i : Nat) : Nat := 0x80800 + 4 * i
/-- CACHE_VD_CTRL. -/
def cacheVdCtrl (i : Nat) : Nat := 0x81000 + 16 * i
/-- CACHE_VD_DEADREAD. -/
def cacheVdDeadread (i : Nat) : Nat := 0x81004 + 16 * i
/-- CACHE_VD_DROPS. -/
def cacheVdDrops (i : Nat) : Nat := 0x81008 + 16 * i
/-- CACHE_VD_MASKEVICT. -/
def cacheVdMaskevict (i : Nat) : Nat := 0x8100c + 16 * i
/-- CACHE_RSVD_WRITES. -/
def cacheRsvdWrites : Nat := 0x9fffc
/-- COHERE_CTRL. -/
def cohereCtrl : Nat := 0xa0000
/-- COHERE_PROBE_DIR. -/
def cohereProbeDir (i : Nat) : Nat := 0xa0010 + 4 * i
/-- COHERE_DIE_GETS. -/
def cohereDieGets (i : Nat) : Nat := 0xa0100 + 16 * i
/-- COHERE_DIE_GETM. -/
def cohereDieGetm (i : Nat) : Nat := 0xa0104 + 16 * i
/-- COHERE_DIE_NACKS. -/
def cohereDieNacks (i : Nat) : Nat := 0xa0108 + 16 * i
/-- COHERE_DIE_PUTM. -/
def cohereDiePutm (i : Nat) : Nat := 0xa010c + 16 * i
/-- COHERE_VD_STALE. -/
def cohereVdStale (i : Nat) : Nat := 0xa1000 + 8 * i
/-- COHERE_VD_CONFLICT. -/
def cohereVdConflict (i : Nat) : Nat := 0xa1004 + 8 * i
/-- COHERE_RSVD_WRITES. -/
def cohereRsvdWrites : Nat := 0xbfffc
/-- MEMCTL_CH_STATUS. -/
def memctlChStatus (i : Nat) : Nat := 0xc0000 + 1024 * i
/-- MEMCTL_CH_CE. -/
def memctlChCe (i : Nat) : Nat := 0xc0004 + 1024 * i
/-- MEMCTL_CH_UE. -/
def memctlChUe (i : Nat) : Nat := 0xc0008 + 1024 * i
/-- MEMCTL_CH_RETRAINS. -/
def memctlChRetrains (i : Nat) : Nat := 0xc000c + 1024 * i
/-- MEMCTL_CH_TG_CTRL. -/
def memctlChTgCtrl (i : Nat) : Nat := 0xc0100 + 1024 * i
/-- MEMCTL_CH_TG_STATUS. -/
def memctlChTgStatus (i : Nat) : Nat := 0xc0104 + 1024 * i
/-- MEMCTL_CH_TG_BASE. -/
def memctlChTgBase (i : Nat) : Nat := 0xc0108 + 1024 * i
/-- MEMCTL_CH_TG_LIMIT. -/
def memctlChTgLimit (i : Nat) : Nat := 0xc010c + 1024 * i
/-- MEMCTL_CH_TG_STRIDE. -/
def memctlChTgStride (i : Nat) : Nat := 0xc0110 + 1024 * i
/-- MEMCTL_CH_TG_SEED. -/
def memctlChTgSeed (i : Nat) : Nat := 0xc0114 + 1024 * i
/-- MEMCTL_CH_TG_PATTERN. -/
def memctlChTgPattern (i : Nat) : Nat := 0xc0118 + 1024 * i
/-- MEMCTL_CH_TG_PASSES. -/
def memctlChTgPasses (i : Nat) : Nat := 0xc011c + 1024 * i
/-- MEMCTL_CH_TG_ERRORS. -/
def memctlChTgErrors (i : Nat) : Nat := 0xc0120 + 1024 * i
/-- MEMCTL_CH_TG_ERR_ADDR. -/
def memctlChTgErrAddr (i : Nat) : Nat := 0xc0124 + 1024 * i
/-- MEMCTL_CH_TG_ERR_BITS. -/
def memctlChTgErrBits (i : Nat) : Nat := 0xc0128 + 1024 * i
/-- MEMCTL_STATUS. -/
def memctlStatus : Nat := 0xd4000
/-- MEMCTL_RSVD_WRITES. -/
def memctlRsvdWrites : Nat := 0xffffc
/-- NETPORT_LINK. -/
def netportLink : Nat := 0x100000
/-- NETPORT_CTRL. -/
def netportCtrl : Nat := 0x100004
/-- NETPORT_RTO. -/
def netportRto : Nat := 0x100008
/-- NETPORT_PFC. -/
def netportPfc : Nat := 0x10000c
/-- NETPORT_MAC. -/
def netportMac : Nat := 0x100010
/-- NETPORT_NEXTHOP. -/
def netportNexthop : Nat := 0x100018
/-- NETPORT_FEC_CORR. -/
def netportFecCorr : Nat := 0x100020
/-- NETPORT_FEC_UNCORR. -/
def netportFecUncorr : Nat := 0x100024
/-- NETPORT_DROPS. -/
def netportDrops : Nat := 0x100028
/-- NETPORT_ACK_LATE. -/
def netportAckLate : Nat := 0x10002c
/-- NETPORT_RNR. -/
def netportRnr : Nat := 0x100030
/-- NETPORT_IP. -/
def netportIp (i : Nat) : Nat := 0x101000 + 16 * i
/-- NETPORT_RSVD_WRITES. -/
def netportRsvdWrites : Nat := 0x11fffc
/-- HOSTPORT_LINK. -/
def hostportLink : Nat := 0x120000
/-- HOSTPORT_CTRL. -/
def hostportCtrl : Nat := 0x120004
/-- HOSTPORT_RD_LATE. -/
def hostportRdLate : Nat := 0x120010
/-- HOSTPORT_WR_LATE. -/
def hostportWrLate : Nat := 0x120014
/-- HOSTPORT_MISS. -/
def hostportMiss : Nat := 0x120020
/-- HOSTPORT_RD_MAX. -/
def hostportRdMax : Nat := 0x120018
/-- HOSTPORT_WR_MAX. -/
def hostportWrMax : Nat := 0x12001c
/-- HOSTPORT_MISS_ADDR. -/
def hostportMissAddr : Nat := 0x120028
/-- HOSTPORT_WIN. -/
def hostportWin (i : Nat) : Nat := 0x120100 + 4 * i
/-- HOSTPORT_RSVD_WRITES. -/
def hostportRsvdWrites : Nat := 0x12fffc
/-- POWER_CTRL. -/
def powerCtrl : Nat := 0x140000
/-- POWER_STATUS. -/
def powerStatus : Nat := 0x140004
/-- POWER_CAP. -/
def powerCap : Nat := 0x140008
/-- POWER_FLOOR. -/
def powerFloor : Nat := 0x14000c
/-- POWER_SUPPLY. -/
def powerSupply : Nat := 0x140010
/-- POWER_INPUT. -/
def powerInput : Nat := 0x140014
/-- POWER_ENERGY. -/
def powerEnergy : Nat := 0x140018
/-- POWER_WARN_COUNT. -/
def powerWarnCount : Nat := 0x140020
/-- POWER_THROTTLE_COUNT. -/
def powerThrottleCount : Nat := 0x140024
/-- POWER_MSG_LOST. -/
def powerMsgLost : Nat := 0x140028
/-- POWER_DIE_GRANT. -/
def powerDieGrant (i : Nat) : Nat := 0x140100 + 16 * i
/-- POWER_DIE_STATE. -/
def powerDieState (i : Nat) : Nat := 0x140104 + 16 * i
/-- POWER_DIE_STRETCH. -/
def powerDieStretch (i : Nat) : Nat := 0x140108 + 16 * i
/-- POWER_CORE. -/
def powerCore (i : Nat) : Nat := 0x140300 + 4 * i
/-- POWER_RSVD_WRITES. -/
def powerRsvdWrites : Nat := 0x15fffc
/-- CLOCKTIME_STATUS. -/
def clocktimeStatus : Nat := 0x160000
/-- CLOCKTIME_RESET. -/
def clocktimeReset : Nat := 0x160004
/-- CLOCKTIME_CAUSE. -/
def clocktimeCause : Nat := 0x160008
/-- CLOCKTIME_PERST_GLITCH. -/
def clocktimePerstGlitch : Nat := 0x16000c
/-- CLOCKTIME_TIME. -/
def clocktimeTime : Nat := 0x160010
/-- CLOCKTIME_START. -/
def clocktimeStart : Nat := 0x160018
/-- CLOCKTIME_FRAME0. -/
def clocktimeFrame0 : Nat := 0x160020
/-- CLOCKTIME_STEP. -/
def clocktimeStep (i : Nat) : Nat := 0x160040 + 4 * (i - 1)
/-- CLOCKTIME_RSVD_WRITES. -/
def clocktimeRsvdWrites : Nat := 0x17fffc
/-- ERROR_CTRL. -/
def errorCtrl : Nat := 0x180000
/-- ERROR_STATUS. -/
def errorStatus : Nat := 0x180004
/-- ERROR_Q_HEAD. -/
def errorQHead (i : Nat) : Nat := 0x180010 + 16 * i
/-- ERROR_Q_TAIL. -/
def errorQTail (i : Nat) : Nat := 0x180014 + 16 * i
/-- ERROR_Q_LOST. -/
def errorQLost (i : Nat) : Nat := 0x180018 + 16 * i
/-- ERROR_CLASS_COUNT. -/
def errorClassCount (i : Nat) : Nat := 0x180080 + 4 * i
/-- ERROR_STICKY_STATUS. -/
def errorStickyStatus : Nat := 0x180100
/-- ERROR_STICKY_START. -/
def errorStickyStart : Nat := 0x180104
/-- ERROR_STICKY_REC. -/
def errorStickyRec (i : Nat) : Nat := 0x180140 + 4 * i
/-- ERROR_CONTAIN_CMD. -/
def errorContainCmd : Nat := 0x180200
/-- ERROR_CONTAIN_STATUS. -/
def errorContainStatus : Nat := 0x180204
/-- ERROR_SUSPECT. -/
def errorSuspect (i : Nat) : Nat := 0x180400 + 4 * i
/-- ERROR_SCRUB. -/
def errorScrub (i : Nat) : Nat := 0x180480 + 4 * i
/-- ERROR_Q_REC. -/
def errorQRec (i w : Nat) : Nat := 0x184000 + 128 * i + 4 * w
/-- ERROR_RSVD_WRITES. -/
def errorRsvdWrites : Nat := 0x19fffc
/-- FWUPD_STATUS. -/
def fwupdStatus : Nat := 0x1a0000
/-- FWUPD_CMD. -/
def fwupdCmd : Nat := 0x1a0004
/-- FWUPD_CTRL. -/
def fwupdCtrl : Nat := 0x1a0008
/-- FWUPD_CAUSE. -/
def fwupdCause : Nat := 0x1a000c
/-- FWUPD_SET. -/
def fwupdSet (i : Nat) : Nat := 0x1a0010 + 4 * i
/-- FWUPD_VER. -/
def fwupdVer (i : Nat) : Nat := 0x1a0018 + 4 * i
/-- FWUPD_SVN. -/
def fwupdSvn : Nat := 0x1a0020
/-- FWUPD_TRIAL. -/
def fwupdTrial : Nat := 0x1a0024
/-- FWUPD_RSVD_WRITES. -/
def fwupdRsvdWrites : Nat := 0x1bfffc
/-- CALIB_CMD. -/
def calibCmd : Nat := 0x1c0000
/-- CALIB_STATUS. -/
def calibStatus : Nat := 0x1c0004
/-- CALIB_RECORD. -/
def calibRecord : Nat := 0x1c0008
/-- CALIB_CAL. -/
def calibCal : Nat := 0x1c000c
/-- CALIB_JOURNAL_SEL. -/
def calibJournalSel : Nat := 0x1c0010
/-- CALIB_JOURNAL_FIRST. -/
def calibJournalFirst : Nat := 0x1c0014
/-- CALIB_JOURNAL_LAST. -/
def calibJournalLast : Nat := 0x1c0018
/-- CALIB_JOURNAL_LOST. -/
def calibJournalLost : Nat := 0x1c001c
/-- CALIB_JOURNAL_FATAL. -/
def calibJournalFatal : Nat := 0x1c0020
/-- CALIB_BUF. -/
def calibBuf (i : Nat) : Nat := 0x1c1000 + 4 * i
/-- CALIB_RSVD_WRITES. -/
def calibRsvdWrites : Nat := 0x1dfffc
/-- VDINFO_ID. -/
def vdinfoId (n : Nat) : Nat := vfKey n (0x0)
/-- VDINFO_COUNTS. -/
def vdinfoCounts (n : Nat) : Nat := vfKey n (0x4)
/-- VDINFO_CORE_SHAPE. -/
def vdinfoCoreShape (n : Nat) : Nat := vfKey n (0x8)
/-- VDINFO_SLICE_SHAPE. -/
def vdinfoSliceShape (n : Nat) : Nat := vfKey n (0xc)
/-- VDINFO_FLAGS. -/
def vdinfoFlags (n : Nat) : Nat := vfKey n (0x10)
/-- VDINFO_NET. -/
def vdinfoNet (n : Nat) : Nat := vfKey n (0x14)
/-- VDINFO_CREDITS. -/
def vdinfoCredits (n : Nat) : Nat := vfKey n (0x18)
/-- VDINFO_RUN. -/
def vdinfoRun (n i : Nat) : Nat := vfKey n (0x20 + 4 * i)
/-- VDINFO_WINDOW. -/
def vdinfoWindow (n : Nat) : Nat := vfKey n (0x40)
/-- VDINFO_RSVD_WRITES. -/
def vdinfoRsvdWrites (n : Nat) : Nat := vfKey n (0xffc)
/-- QUEUE_SQ_BASE. -/
def queueSqBase (n i : Nat) : Nat := vfKey n (0x1000 + 64 * i)
/-- QUEUE_CQ_BASE. -/
def queueCqBase (n i : Nat) : Nat := vfKey n (0x1018 + 64 * i)
/-- QUEUE_SAVE. -/
def queueSave (n i : Nat) : Nat := vfKey n (0x1028 + 64 * i)
/-- QUEUE_SQ_CFG. -/
def queueSqCfg (n i : Nat) : Nat := vfKey n (0x1008 + 64 * i)
/-- QUEUE_SQ_TAIL. -/
def queueSqTail (n i : Nat) : Nat := vfKey n (0x100c + 64 * i)
/-- QUEUE_CQ_HEAD. -/
def queueCqHead (n i : Nat) : Nat := vfKey n (0x1020 + 64 * i)
/-- QUEUE_SQ_HEAD. -/
def queueSqHead (n i : Nat) : Nat := vfKey n (0x1010 + 64 * i)
/-- QUEUE_CQ_TAIL. -/
def queueCqTail (n i : Nat) : Nat := vfKey n (0x1024 + 64 * i)
/-- QUEUE_STATUS. -/
def queueStatus (n i : Nat) : Nat := vfKey n (0x1030 + 64 * i)
/-- QUEUE_RSVD_WRITES. -/
def queueRsvdWrites (n : Nat) : Nat := vfKey n (0x1ffc)
/-- EVENT_HEAD. -/
def eventHead (n : Nat) : Nat := vfKey n (0x2000)
/-- EVENT_TAIL. -/
def eventTail (n : Nat) : Nat := vfKey n (0x2004)
/-- EVENT_LOST. -/
def eventLost (n : Nat) : Nat := vfKey n (0x2008)
/-- EVENT_REC. -/
def eventRec (n i w : Nat) : Nat := vfKey n (0x2100 + 32 * i + 4 * w)
/-- EVENT_RSVD_WRITES. -/
def eventRsvdWrites (n : Nat) : Nat := vfKey n (0x2ffc)
/-- ACCT_CTRL. -/
def acctCtrl (n : Nat) : Nat := vfKey n (0x3000)
/-- ACCT_COUNT. -/
def acctCount (n i : Nat) : Nat := vfKey n (0x3010 + 8 * i)
/-- ACCT_RSVD_WRITES. -/
def acctRsvdWrites (n : Nat) : Nat := vfKey n (0x3ffc)
/-- REGION_BASE. -/
def regionBase (n i : Nat) : Nat := vfKey n (0x4000 + 32 * i)
/-- REGION_LIMIT. -/
def regionLimit (n i : Nat) : Nat := vfKey n (0x4008 + 32 * i)
/-- REGION_ATTR. -/
def regionAttr (n i : Nat) : Nat := vfKey n (0x4010 + 32 * i)
/-- REGION_RSVD_WRITES. -/
def regionRsvdWrites (n : Nat) : Nat := vfKey n (0x4ffc)
/-- TRANSPORT_QP_CTX. -/
def transportQpCtx (n i : Nat) : Nat := vfKey n (0x10000 + 64 * i)
/-- TRANSPORT_QP_CMD. -/
def transportQpCmd (n i : Nat) : Nat := vfKey n (0x10008 + 64 * i)
/-- TRANSPORT_QP_STATUS. -/
def transportQpStatus (n i : Nat) : Nat := vfKey n (0x1000c + 64 * i)
/-- TRANSPORT_QP_SQ_TAIL. -/
def transportQpSqTail (n i : Nat) : Nat := vfKey n (0x10010 + 64 * i)
/-- TRANSPORT_QP_CQ_HEAD. -/
def transportQpCqHead (n i : Nat) : Nat := vfKey n (0x10018 + 64 * i)
/-- TRANSPORT_QP_RCQ_HEAD. -/
def transportQpRcqHead (n i : Nat) : Nat := vfKey n (0x10020 + 64 * i)
/-- TRANSPORT_QP_SQ_HEAD. -/
def transportQpSqHead (n i : Nat) : Nat := vfKey n (0x10014 + 64 * i)
/-- TRANSPORT_QP_CQ_TAIL. -/
def transportQpCqTail (n i : Nat) : Nat := vfKey n (0x1001c + 64 * i)
/-- TRANSPORT_QP_RCQ_TAIL. -/
def transportQpRcqTail (n i : Nat) : Nat := vfKey n (0x10024 + 64 * i)
/-- TRANSPORT_QP_RETX. -/
def transportQpRetx (n i : Nat) : Nat := vfKey n (0x10028 + 64 * i)
/-- TRANSPORT_RSVD_WRITES. -/
def transportRsvdWrites (n : Nat) : Nat := vfKey n (0x1fffc)
/-- ERRLOG_HEAD. -/
def errlogHead (n : Nat) : Nat := vfKey n (0x20000)
/-- ERRLOG_TAIL. -/
def errlogTail (n : Nat) : Nat := vfKey n (0x20004)
/-- ERRLOG_LOST. -/
def errlogLost (n : Nat) : Nat := vfKey n (0x20008)
/-- ERRLOG_REC. -/
def errlogRec (n i w : Nat) : Nat := vfKey n (0x20100 + 128 * i + 4 * w)
/-- ERRLOG_RSVD_WRITES. -/
def errlogRsvdWrites (n : Nat) : Nat := vfKey n (0x20ffc)

end Reg

end Sys2Proof.Machine
end

