-- ==== Sys2Proof/Machine/StewardTypes.lean ====
section
/-! DEFINITION. State of the steward: power, clocks and start-up, the peat store, firmware, the sideband (chapters
Power budgets to Firmware update, Connectors, signals and ratings). -/

namespace Sys2Proof.Machine

/-- Facts fixed at factory test (R23, R26, R484, R486, R498). The security floor alone changes later (R486). -/
structure Factory where
  grade : Nat
  fuseMap : BitVec 96
  stepMajor : Nat
  stepMinor : Nat
  mac : Nat
  revoked : Nat
  svnFloor : Nat
deriving DecidableEq, Repr

/-- Cores that a grade disables (R23): grades 0, 1 and 2 are KM96-A, B and C. -/
def gradeOff (grade : Nat) : Nat := if grade = 0 then 0 else if grade = 1 then 8 else 16

/-- Cores that the fuses disable among `n` from core `c`. -/
def Factory.fusedOff (f : Factory) (c n : Nat) : Nat :=
  ((List.range n).filter (fun i => !f.fuseMap.getLsbD (c + i))).length

/-- What the factory test leaves (R23): as many cores disabled as the grade says, and on no compute die more than one for a
KM96-B, two for a KM96-C. -/
def Factory.ok (f : Factory) : Bool :=
  decide (f.grade ≤ 2) && decide (f.fusedOff 0 96 = gradeOff f.grade)
  && (List.range 12).all (fun d => decide (f.fusedOff (8 * d) 8 ≤ f.grade))

/-- A GRANT on its way to a die (R430). -/
structure GrantMsg where
  grant : Nat
  floor : Bool
  eta : Nat
  seq : Nat
deriving DecidableEq, Repr

/-- What has come of a die's REPORT since the last exchange (R433). -/
inductive RepSt where
  | missing | bad | good
deriving DecidableEq, Repr

/-- The budget state of one die (R430 to R441): the last REPORT, the grant last sent, messages on their way; and
on the die the grant in force, FLOOR, ETA, whether a valid GRANT came since the last exchange and how many
exchanges went without, the temperature, NB, NT, whether it is above its limit, the droop term, the
stretch, the trim in 5 mV steps, the ACLK periods the die has had (R448, R438), the SEQ of its
next REPORT. -/
structure DieBudget where
  power : Nat
  demand : Nat
  ack : Nat
  seq : Nat
  rep : RepSt
  sent : Option Nat
  msgs : List GrantMsg
  dieGrant : Option Nat
  dieFloor : Bool
  eta : Nat
  got : Bool
  missed : Nat
  temp : Nat
  nb : Nat
  nt : Nat
  hot : Bool
  droop : Bool
  stretched : Bool
  trim : Nat
  aclk : Nat
  nextSeq : Nat
deriving DecidableEq, Repr

/-- A die before any exchange. -/
def DieBudget.rest : DieBudget :=
  ⟨0, 0, 0, 0, .missing, none, [], none, false, 0, false, 0, 0, 64, 64, false, false, false, 0, 0, 0⟩

/-- Power, supply and thermal state (R429 to R446). `lowered` has the dies whose lowered grants are not yet
acknowledged, `energy` the sum of the input powers of the exchanges since power-on, `throttleAt` and
`throttleEvent` the ticks of the recognised assertion and of its last event, `trimAt` that of the last reading of the ageing
monitors, `unmet` whether the case of R431 lasts, `capOver` since which tick the case of R436 has lasted and whether it has been
reported. -/
structure PowerSt where
  dies : SMap DieBudget
  lowered : List Nat
  supplyWarn : Bool
  throttle : Bool
  throttleAt : Nat
  throttleEvent : Nat
  floor : Bool
  energy : Nat
  vin : Nat
  tripped : Bool
  supplyReset : Bool
  trimAt : Nat
  unmet : Bool
  capOver : Option (Nat × Bool)
deriving DecidableEq, Repr

/-- Power state before the supply is good. -/
def PowerSt.rest : PowerSt := ⟨[], [], false, false, 0, 0, false, 0, 0, false, false, 0, false, none⟩

/-- Modes after start-up (R458, R459). -/
inductive ModuleMode where
  | off | starting | recovery | mgmtOnly | full
deriving DecidableEq, Repr

/-- Clocks, reset and start-up (R450 to R462). `step` is the last start-up step that has ended, `held` tells that
PERST_N is recognised as asserted, `linkReset` that the CXL link is in its reset state, `begun` that the start-up has
begun, `origin` is the tick the times of the running steps count from, `resets5` counts as R489 says, `phys` is what the environment
decided about the last start (log entry 9). -/
structure ClockSt where
  powered : Bool
  mode : ModuleMode
  step : Nat
  gated : Bool
  held : Bool
  linkReset : Bool
  xtalOk : Bool
  pllLock : Bool
  downBusy : Bool
  offReady : Bool
  begun : Bool
  origin : Nat
  resets5 : Nat
  phys : Option StartEnv
deriving DecidableEq, Repr

/-- A module without power. -/
def ClockSt.rest : ClockSt :=
  ⟨false, .off, 0, false, false, false, true, false, false, false, false, 0, 0, none⟩

/-- A journal entry (R474): its number, its start, its time, KIND, severity and body. -/
structure JEntry where
  seq : Nat
  start : Nat
  time : Nat
  kind : Nat
  sev : Nat
  body : List Byte
deriving DecidableEq, Repr

/-- A flash operation of the peat store (R465): what takes effect when its verify passes. -/
inductive FlashOp where
  | fwErase
  | fwBlock (block : Nat) (bytes : List Byte)
  | fwStage
  | trim (d : Nat) (code : Byte)
  | record (copy : Nat) (bytes : List Byte)
  | cal (bytes : List Byte)
  | clear
deriving DecidableEq, Repr

/-- The peat store but for the firmware sets (R463 to R480): the two record copies and the calibration set as stored (an
empty list is an erased area), the journal (ring slots with their entries, oldest first, the next slot, the
fatal sector), its next SEQ and its START, entries that wait, the corrected entries withheld in the window
in progress by class (R477), the count carried to the next start, flash operations that wait, whether the
one in progress has been retried, the operation of CALIB_CMD in progress, and the record and calibration
set in force. -/
structure PeatSt where
  copies : List (List Byte)
  cal : List Byte
  ring : List (Nat × JEntry)
  ringPos : Nat
  fatal : List JEntry
  jseq : Nat
  jstart : Nat
  waiting : List JEntry
  withheld : List (Nat × Nat)
  windowCount : Nat
  windowAt : Nat
  carried : Nat
  ops : List FlashOp
  retried : Bool
  cmd : Option Nat
  record : List Byte
  calInForce : List Byte
deriving DecidableEq, Repr

/-- A firmware set in the peat store (R483 to R488): whether the MAGIC of its header sector holds, fields of the header,
ACT_SEQ and AUTO, the four markers, the received header and the programmed blocks. -/
structure FwSet where
  magic : Bool
  version : Nat
  svn : Nat
  keySlot : Nat
  raiseSvn : Bool
  actSeq : Nat
  auto : Bool
  staged : Bool
  trial : Bool
  confirmed : Bool
  rejected : Bool
  header : List Byte
  blocks : SMap (List Byte)
deriving DecidableEq, Repr

/-- An erased set. -/
def FwSet.empty : FwSet :=
  ⟨false, 0, 0, 0, false, 0, false, false, false, false, false, [], []⟩

/-- Phases of update mode (R494, R495, R501). -/
inductive FwPhase where
  | idle | learn | ready | header | transfer | verify | apply | activate
deriving DecidableEq, Repr

/-- Messages the steward sends to an update agent or an attestation requester (R493 to R500). -/
inductive FwAnswer where
  | deviceIdentifiers
  | firmwareParameters (active pending : Nat)
  | accepted
  | alreadyInUpdateMode
  | busyTrial
  | refused
  | failed (cause : Nat)
  | request (off len : Nat)
  | transferDone
  | verifyDone
  | applyDone
  | activationPending
  | status (phase : FwPhase)
  | cancelled
  | endorsement (bytes : List Byte)
  | report (bytes : List Byte)
  | busy
deriving DecidableEq, Repr

/-- Firmware update, trial and attestation state (R482 to R501, R529). `active` is the running set (0 A, 1 B),
`lastSel` the set selected last, `armed` the tick at which the trial watchdog was armed, `agent` the update
agent that holds update mode, `next` the block requested, `got` what has arrived of it, `askedAt` the tick of the last request or
of ApplyComplete, `report` a report in progress over MCTP (its
tick and its bytes), `mbx` the mailbox command in progress and its response. -/
structure FwSt where
  setA : FwSet
  setB : FwSet
  active : Nat
  lastSel : Nat
  trial : Bool
  accepted : Bool
  armed : Nat
  phase : FwPhase
  agent : Nat
  binding : Binding
  maxXfer : Nat
  target : Nat
  header : List Byte
  next : Nat
  got : List Byte
  askedAt : Nat
  retries : Nat
  report : Option (Nat × List Byte)
  mbx : Option (Nat × List Byte)
  sent : List FwAnswer
deriving DecidableEq, Repr

/-- The sideband (R541 to R543). -/
structure SideSt where
  i3c : Bool
  dynAddr : Nat
  vrefGood : Bool
  staticAddr : Nat
deriving DecidableEq, Repr

end Sys2Proof.Machine
end

