-- ==== Sys2Proof/Machine/State.lean ====
section
/-! DEFINITION. The state of the block, its faults and refusals, and the state at power-good before start-up. -/

namespace Sys2Proof.Machine

/-- Why a step can stop with a fault. -/
inductive Fault where
  /-- An access beyond the last byte of a BAR (R3 and R522, R523: PF BAR0 is 64 MiB, VF BAR0 is 1 MiB): the
  address does not exist. Raised by the register commands. Safe: the hardware has no such access. -/
  | outsideBar
deriving DecidableEq, Repr

/-- Why a step can be refused. -/
inductive Refusal where
  /-- A row without a meaning, by its mnemonic. Raised by Dispatch alone. Safe. -/
  | notModelled (mnemonic : String)
deriving DecidableEq, Repr

/-- The state of the module, and the queue of commands that wait (`pending`). -/
structure State where
  /-- commands that wait, first in first out -/
  pending : List Instr
  /-- the time base in TCLK ticks (R451) -/
  time : W64
  /-- the register file (R3), keyed as in RegTable -/
  regs : SMap W32
  /-- words held for a 64-bit or 128-bit commit (R4, R6) -/
  held : SMap (Option W32)
  /-- words captured for later reads (R5, R6) -/
  captured : SMap (Option W32)
  /-- data the last register read returned -/
  readBack : Option W64
  /-- facts fixed at factory test -/
  fac : Factory
  /-- the cores -/
  cores : SMap Core
  /-- the fabric -/
  fab : Fabric
  /-- the slices of the unified cache -/
  slices : SMap Slice
  /-- the die caches -/
  dies : SMap Die
  /-- coherence messages in flight, oldest first -/
  msgs : List CohMsg
  /-- home operations answered with Nack, to be resent (R226) -/
  nacked : List HomeOp
  /-- responses of home operations on their way (R224) -/
  opRsps : List OpRsp
  /-- the running maintenance operation (R230) -/
  maint : Option MaintOp
  /-- the memory devices: channel * 2^33 + position * 4,096 + byte (R300, R302) -/
  mem : SMap Byte
  /-- the channels -/
  chans : SMap Channel
  /-- the pool -/
  pool : Pool
  /-- the virtual devices -/
  vds : SMap VDev
  /-- the shared core sets, 1 to 8 -/
  sets : SMap SetSt
  /-- the binder -/
  binder : Binder
  /-- the host port -/
  host : HostSt
  /-- the network port -/
  net : NetSt
  /-- power -/
  power : PowerSt
  /-- clocks and start-up -/
  clock : ClockSt
  /-- the peat store -/
  peat : PeatSt
  /-- firmware -/
  fw : FwSt
  /-- errors -/
  err : ErrSt
  /-- the sideband -/
  side : SideSt
  /-- MSI-X vectors raised, newest first: none is the PF (R387) -/
  vectors : List (Option Nat × Nat)
  /-- how many free values have been drawn (the model's own) -/
  freeCtr : Nat
deriving DecidableEq, Repr

/-- Factory facts of the modelled module: KM96-A with every core, stepping 0.0 (log entry 4). -/
def Factory.model : Factory := ⟨0, BitVec.allOnes 96, 0, 0, 0, 0, 0⟩

/-- An empty pool, before start-up forms it (R321). -/
def Pool.empty : Pool := ⟨[], [], [], [], []⟩

/-- The peat store of the modelled module: record copies and journal erased, no calibration set (log
entry 4); the record in force is the defaults. -/
def PeatSt.model : PeatSt :=
  ⟨[[], []], [], [], 0, [], 0, 0, [], [], 0, 0, 0, [], false, none, [], []⟩

/-- The firmware of the modelled module: set A confirmed and factory programmed (log entry 4). -/
def FwSt.model : FwSt :=
  ⟨⟨true, 0, 0, 0, false, 0, true, false, false, true, false, [], []⟩, .empty, 0, 0, false, false, 0, .idle,
   0, .smbus, 0, 1, [], 0, [], 0, 0, none, none, []⟩

/-- The module as POWER_ON finds it (R451, R454, R456): without supply, nothing runs, every register holds its reset value, the
fuses and the peat store hold what the factory put there (log entries 4 and 18). -/
def State.reset : State where
  pending := []
  time := 0
  regs := []
  held := []
  captured := []
  readBack := none
  fac := .model
  cores := []
  fab := .reset
  slices := []
  dies := []
  msgs := []
  nacked := []
  opRsps := []
  maint := none
  mem := []
  chans := []
  pool := .empty
  vds := []
  sets := []
  binder := ⟨none, none⟩
  host := .rest
  net := .rest
  power := .rest
  clock := .rest
  peat := .model
  fw := .model
  err := .rest
  side := ⟨false, 0, true, 0x5A⟩
  vectors := []
  freeCtr := 0

end Sys2Proof.Machine
end

