-- ==== Sys2Proof/Machine/Ops.lean ====
section
/-! DEFINITION. Named operations over the state: registers and their fields, counters, units, error records,
events, vectors, free values. -/

namespace Sys2Proof.Machine

/-- The outcome of a command. -/
abbrev Out := Host.Outcome State Fault Refusal

/-- A command that completes. -/
def ok (s : State) : Out := .next s

/-! Registers -/

/-- The word at a key of the register file. -/
def State.reg (s : State) (k : Nat) : W32 := SMap.get regReset s.regs k

/-- Store a word. -/
def State.setReg (s : State) (k : Nat) (v : W32) : State :=
  { s with regs := SMap.set regReset s.regs k v }

/-- Field [lo + len - 1 : lo] of a register word. -/
def State.regFld (s : State) (k lo len : Nat) : Nat := fld (s.reg k) lo len

/-- Bit `i` of a register word. -/
def State.regBit (s : State) (k i : Nat) : Bool := fld (s.reg k) i 1 == 1

/-- Store a field of a register word. -/
def State.setRegFld (s : State) (k lo len v : Nat) : State :=
  s.setReg k (BitVec.ofNat 32 (setBits (s.reg k).toNat lo len v))

/-- Store a bit of a register word. -/
def State.setRegBit (s : State) (k i : Nat) (b : Bool) : State := s.setRegFld k i 1 (b2n b)

/-- A 64-bit register. -/
def State.reg64 (s : State) (k : Nat) : Nat := (s.reg k).toNat + 2 ^ 32 * (s.reg (k + 4)).toNat

/-- Store a 64-bit register. -/
def State.setReg64 (s : State) (k v : Nat) : State :=
  (s.setReg k (BitVec.ofNat 32 v)).setReg (k + 4) (BitVec.ofNat 32 (v / 2 ^ 32))

/-- Add one to a counter register, saturating (R10 and the RC counters). -/
def State.bump (s : State) (k : Nat) : State := s.setReg k (satInc32 (s.reg k))

/-- Add to a counter field, saturating at its largest value. -/
def State.bumpFld (s : State) (k lo len n : Nat) : State :=
  s.setRegFld k lo len (satAdd (2 ^ len - 1) (s.regFld k lo len) n)

/-- Return every register in [lo, hi) to its reset value. -/
def State.clearRegs (s : State) (lo hi : Nat) : State :=
  { s with regs := SMap.clearRange s.regs lo hi
           held := SMap.clearRange s.held lo hi
           captured := SMap.clearRange s.captured lo hi }

/-- Store words from a key upward. -/
def State.setRegs (s : State) (k : Nat) : List W32 → State
  | [] => s
  | w :: ws => (s.setReg k w).setRegs (k + 4) ws

/-- `n` words from a key upward. -/
def State.regList (s : State) (k : Nat) : Nat → List W32
  | 0 => []
  | n + 1 => s.reg k :: s.regList (k + 4) n

/-! Blocks of the register space (R10, R522, R523) -/

/-- The blocks of PF BAR0 (R522): base, last byte, RSVD_WRITES counter, whether management-only mode serves it. -/
def pfBlocks : List (Nat × Nat × Nat × Bool) := [
  (0x0, 0xFFFF, 0xFFC, true), (0x10000, 0x1FFFF, 0x1FFFC, true), (0x20000, 0x3FFFF, 0x3FFFC, false),
  (0x40000, 0x5FFFF, 0x5FFFC, false), (0x60000, 0x7FFFF, 0x7FFFC, false), (0x80000, 0x9FFFF, 0x9FFFC, false),
  (0xA0000, 0xBFFFF, 0xBFFFC, false), (0xC0000, 0xFFFFF, 0xFFFFC, false), (0x100000, 0x11FFFF, 0x11FFFC, false),
  (0x120000, 0x13FFFF, 0x12FFFC, false), (0x140000, 0x15FFFF, 0x15FFFC, true), (0x160000, 0x17FFFF, 0x17FFFC, true),
  (0x180000, 0x19FFFF, 0x19FFFC, true), (0x1A0000, 0x1BFFFF, 0x1BFFFC, true), (0x1C0000, 0x1DFFFF, 0x1DFFFC, true)]

/-- The blocks of VF BAR0 (R523): base, last byte, RSVD_WRITES counter. -/
def vfBlocks : List (Nat × Nat × Nat) := [
  (0x0, 0xFFF, 0xFFC), (0x1000, 0x1FFF, 0x1FFC), (0x2000, 0x2FFF, 0x2FFC), (0x3000, 0x3FFF, 0x3FFC),
  (0x4000, 0x4FFF, 0x4FFC), (0x10000, 0x1FFFF, 0x1FFFC), (0x20000, 0x20FFF, 0x20FFC)]

/-- The block of an offset of PF BAR0: its counter and whether management-only mode serves it. -/
def pfBlock (off : Nat) : Option (Nat × Bool) :=
  (pfBlocks.find? (fun b => decide (b.1 ≤ off) && decide (off ≤ b.2.1))).map (fun b => b.2.2)

/-- The block of an offset of VF BAR0: its counter. -/
def vfBlock (off : Nat) : Option Nat :=
  (vfBlocks.find? (fun b => decide (b.1 ≤ off) && decide (off ≤ b.2.1))).map (fun b => b.2.2)

/-- The RSVD_WRITES counter that counts a write at a key (R10): its block's, or the one of IDENT or VDINFO. -/
def rsvdCounter (k : Nat) : Nat :=
  if isVfKey k then vfKey (vfOfKey k) ((vfBlock (offOfKey k)).getD 0xFFC)
  else (pfBlock k).elim 0xFFC (fun b => b.1)

/-- The reserved bits of the word at a key. -/
def resvBits (k : Nat) : Nat :=
  match rowOfKey k with
  | some (r, w) => wordOf r.resv w
  | none => 0

/-- Count a word write that sets a reserved bit (R10). -/
def State.countRsvd (s : State) (k : Nat) (v : W32) : State :=
  if v.toNat &&& resvBits k ≠ 0 then s.bump (rsvdCounter k) else s

/-- Whether a word write sets a reserved bit of the word at a key (R10). -/
def setsRsvd (k : Nat) (v : W32) : Bool := decide (v.toNat &&& resvBits k ≠ 0)

/-- What a word write at a key leaves, with the count of R10 where it is one to be counted. -/
def State.counted (p : State × Bool) (k : Nat) : State := if p.2 then p.1.bump (rsvdCounter k) else p.1

/-- Whether the port serves the blocks of PF BAR0 that management-only mode serves (R456, R458). -/
def State.portServes (s : State) : Bool :=
  match s.clock.mode with
  | .full => true
  | .mgmtOnly => true
  | .starting => decide (9 ≤ s.clock.step)
  | _ => false

/-- Whether an access at an offset of PF BAR0 is served (R456, R458, R522). -/
def State.pfServed (s : State) (off : Nat) : Bool :=
  s.portServes && (decide (s.clock.mode ≠ .mgmtOnly) || (pfBlock off).elim true (fun b => b.2))

/-! Units -/

/-- Core `c`. -/
def State.core (s : State) (c : Nat) : Core := SMap.get (fun _ => Core.rest) s.cores c

/-- Replace core `c`. -/
def State.setCore (s : State) (c : Nat) (x : Core) : State :=
  { s with cores := SMap.set (fun _ => Core.rest) s.cores c x }

/-- Change core `c`. -/
def State.modCore (s : State) (c : Nat) (f : Core → Core) : State := s.setCore c (f (s.core c))

/-- Slice `i`. -/
def State.slice (s : State) (i : Nat) : Slice := SMap.get (fun _ => Slice.empty) s.slices i

/-- Replace slice `i`. -/
def State.setSlice (s : State) (i : Nat) (x : Slice) : State :=
  { s with slices := SMap.set (fun _ => Slice.empty) s.slices i x }

/-- Change slice `i`. -/
def State.modSlice (s : State) (i : Nat) (f : Slice → Slice) : State := s.setSlice i (f (s.slice i))

/-- The die cache of compute die `d`. -/
def State.die (s : State) (d : Nat) : Die := SMap.get (fun _ => Die.empty) s.dies d

/-- Replace die cache `d`. -/
def State.setDie (s : State) (d : Nat) (x : Die) : State :=
  { s with dies := SMap.set (fun _ => Die.empty) s.dies d x }

/-- Change die cache `d`. -/
def State.modDie (s : State) (d : Nat) (f : Die → Die) : State := s.setDie d (f (s.die d))

/-- Channel `ch`. -/
def State.chan (s : State) (ch : Nat) : Channel := SMap.get (fun _ => Channel.rest) s.chans ch

/-- Change channel `ch`. -/
def State.modChan (s : State) (ch : Nat) (f : Channel → Channel) : State :=
  { s with chans := SMap.set (fun _ => Channel.rest) s.chans ch (f (s.chan ch)) }

/-- Device `n`. -/
def State.vd (s : State) (n : Nat) : VDev := SMap.get (fun _ => VDev.absent) s.vds n

/-- Replace device `n`. -/
def State.setVd (s : State) (n : Nat) (x : VDev) : State :=
  { s with vds := SMap.set (fun _ => VDev.absent) s.vds n x }

/-- Change device `n`. -/
def State.modVd (s : State) (n : Nat) (f : VDev → VDev) : State := s.setVd n (f (s.vd n))

/-- Set `k`. -/
def State.set_ (s : State) (k : Nat) : SetSt := SMap.get (fun _ => SetSt.absent) s.sets k

/-- Change set `k`. -/
def State.modSet (s : State) (k : Nat) (f : SetSt → SetSt) : State :=
  { s with sets := SMap.set (fun _ => SetSt.absent) s.sets k (f (s.set_ k)) }

/-- Holder of core `c`. -/
def State.coreHolder (s : State) (c : Nat) : Holder :=
  SMap.get (fun _ => Holder.notInService) s.pool.cores c

/-- Set the holder of core `c`. -/
def State.setCoreHolder (s : State) (c : Nat) (h : Holder) : State :=
  { s with pool := { s.pool with
      cores := SMap.set (fun _ => Holder.notInService) s.pool.cores c h } }

/-- Holder of slice `i`. -/
def State.sliceHolder (s : State) (i : Nat) : Holder :=
  SMap.get (fun _ => Holder.notInService) s.pool.slices i

/-- Set the holder of slice `i`. -/
def State.setSliceHolder (s : State) (i : Nat) (h : Holder) : State :=
  { s with pool := { s.pool with
      slices := SMap.set (fun _ => Holder.notInService) s.pool.slices i h } }

/-- Pool extent `e`. -/
def State.extent (s : State) (e : Nat) : Extent := SMap.get (fun _ => Extent.absent) s.pool.extents e

/-- Change pool extent `e`. -/
def State.modExtent (s : State) (e : Nat) (f : Extent → Extent) : State :=
  { s with pool := { s.pool with
      extents := SMap.set (fun _ => Extent.absent) s.pool.extents e (f (s.extent e)) } }

/-- Stream engine `e`: physical core c, or 96 + 4 n + b for base die b at work for device n. -/
def State.engine (s : State) (e : Nat) : EngineSt := SMap.get (fun _ => EngineSt.none) s.fab.engines e

/-- Change stream engine `e`. -/
def State.modEngine (s : State) (e : Nat) (f : EngineSt → EngineSt) : State :=
  { s with fab := { s.fab with
      engines := SMap.set (fun _ => EngineSt.none) s.fab.engines e (f (s.engine e)) } }

/-- Flag word `w` (4,096 b + word of router b). -/
def State.flag (s : State) (w : Nat) : W32 := SMap.get (fun _ => (0 : W32)) s.fab.flags w

/-- Write flag word `w`. -/
def State.setFlag (s : State) (w : Nat) (v : W32) : State :=
  { s with fab := { s.fab with flags := SMap.set (fun _ => (0 : W32)) s.fab.flags w v } }

/-- Reed link `l`. -/
def State.link (s : State) (l : Nat) : ReedLink := SMap.get (fun _ => ReedLink.rest) s.fab.links l

/-- Change reed link `l`. -/
def State.modLink (s : State) (l : Nat) (f : ReedLink → ReedLink) : State :=
  { s with fab := { s.fab with
      links := SMap.set (fun _ => ReedLink.rest) s.fab.links l (f (s.link l)) } }

/-- Queue pair `q` of device `n`. -/
def State.qp (s : State) (n q : Nat) : Qp := SMap.get (fun _ => Qp.rest) s.net.qps (64 * n + q)

/-- Change queue pair `q` of device `n`. -/
def State.modQp (s : State) (n q : Nat) (f : Qp → Qp) : State :=
  { s with net := { s.net with
      qps := SMap.set (fun _ => Qp.rest) s.net.qps (64 * n + q) (f (s.qp n q)) } }

/-- Budget state of die `d`. -/
def State.pdie (s : State) (d : Nat) : DieBudget := SMap.get (fun _ => DieBudget.rest) s.power.dies d

/-- Change the budget state of die `d`. -/
def State.modPdie (s : State) (d : Nat) (f : DieBudget → DieBudget) : State :=
  { s with power := { s.power with
      dies := SMap.set (fun _ => DieBudget.rest) s.power.dies d (f (s.pdie d)) } }

/-- The routing IDs of the PF, function 0 of its bus, and of VFn (R382): First VF Offset 1, VF Stride 1, with ARI. -/
def HostSt.pfRid (h : HostSt) : Nat := 256 * h.pfBus
def HostSt.vfRid (h : HostSt) (n : Nat) : Nat := h.pfRid + 1 + n

/-- Whether the bus of VFn is assigned to the port: that of the PF, or the next one (R382). -/
def State.vfReached (s : State) (n : Nat) : Bool := decide (s.host.vfRid n / 256 = s.host.pfBus) || s.host.nextBus

/-- Whether a VF answers register accesses of the host: VF Enable is set (R386) and the device is there (R347). -/
def State.vfHere (s : State) (n : Nat) : Bool := s.host.vfEnable && s.vfReached n && decide ((s.vd n).st ≠ .absent)

/-! Time and free values -/

/-- The frame number (R149): 128 ticks of 10 ns are one frame of 1.28 us, counted from frame 0. -/
def State.frame (s : State) : Nat :=
  if s.fab.started then (s.time.toNat - s.reg64 Reg.clocktimeFrame0) / 128 else 0

/-- The beat of the fabric counted from the first frame (R149): 64 beats a frame, two ticks of TCLK a beat. -/
def State.beat (s : State) : Nat :=
  if s.fab.started then (s.time.toNat - s.reg64 Reg.clocktimeFrame0) / 2 else 0

/-- Draw a free value: its number, and the state after the draw. -/
def State.draw (s : State) : Nat × State := (s.freeCtr, { s with freeCtr := s.freeCtr + 1 })

/-! Vectors and events -/

/-- Raise a vector of the PF (R387). -/
def State.vecPf (s : State) (k : Nat) : State := { s with vectors := (none, k) :: s.vectors }

/-- Raise a vector of VFn; none is raised while the device is absent (R347). -/
def State.vecVf (s : State) (n k : Nat) : State :=
  if (s.vd n).st = .absent then s else { s with vectors := (some n, k) :: s.vectors }

/-- Write an event record (R530) and raise VF vector 4; a full ring drops and counts it. -/
def State.event (s : State) (n code data : Nat) : State :=
  if (s.vd n).st = .absent then s
  else
    let head := s.regFld (Reg.eventHead n) 0 7
    let tail := s.regFld (Reg.eventTail n) 0 7
    if (tail + 128 - head) % 128 = 64 then s.bump (Reg.eventLost n)
    else
      let e := tail % 64
      let s := s.setReg (Reg.eventRec n e 0) (BitVec.ofNat 32 code)
      let s := s.setReg (Reg.eventRec n e 1) 0
      let s := s.setReg64 (Reg.eventRec n e 2) s.time.toNat
      let s := s.setReg64 (Reg.eventRec n e 4) data
      let s := s.setReg64 (Reg.eventRec n e 6) 0
      (s.setRegFld (Reg.eventTail n) 0 7 ((tail + 1) % 128)).vecVf n 4

/-! Error records -/

/-- A record with the fields every record has; the steward numbers and times it when it is detected. -/
def ErrRec.mk0 (sev cls cause unit : Nat) : ErrRec :=
  ⟨sev, none, none, cls, cause, unit, 1, 0, 0x7F, 0, none, 0, 0, []⟩

/-- The 24 words of a record (R513); a copy for a VF shows UNIT 0xFFFF and the logical extent. -/
def ErrRec.words (r : ErrRec) (vf : Option Nat) : List W32 :=
  let w0 := r.sev * 2 ^ 30 + b2n r.vd.isSome * 2 ^ 29 + b2n r.addr.isSome * 2 ^ 28
    + b2n r.ext.isSome * 2 ^ 27 + (r.vd.getD 0 % 256) * 2 ^ 16 + r.cls * 256 + r.cause
  let unit := if vf.isSome then 0xFFFF else r.unit
  let ext := match vf with
    | some l => l
    | none => r.ext.getD 0
  [BitVec.ofNat 32 w0, BitVec.ofNat 32 (unit * 65536 + r.count % 65536), BitVec.ofNat 32 r.seq,
   BitVec.ofNat 32 ((if r.ext.isSome then ext % 1024 else 0) * 65536 + r.lcore * 256),
   BitVec.ofNat 32 r.time, BitVec.ofNat 32 (r.time / 2 ^ 32),
   BitVec.ofNat 32 (r.addr.getD 0), BitVec.ofNat 32 (bitsOf (r.addr.getD 0) 32 16)]
  ++ (List.range 8).map (fun i => BitVec.ofNat 32 (bitsOf r.detail (32 * i) 32))
  ++ (List.range 8).map (fun i => BitVec.ofNat 32 (bitsOf r.lanes (32 * i) 32))

/-- The number the next record takes (R513). -/
def State.nextSeq (s : State) : State := { s with err := { s.err with seq := (s.err.seq + 1) % 2 ^ 32 } }

/-- The steward takes a detected record (R513, R518, R519): it gets the time, it is counted in its class, and it waits; the
257th waiting record is counted lost in its severity and takes a number. A record that waits is numbered when it
is handled. -/
def State.record (s : State) (r : ErrRec) : State :=
  let r := { r with time := s.time.toNat }
  let s := s.bump (Reg.errorClassCount r.cls)
  if s.err.waiting.length < 256 then
    { s with err := { s.err with waiting := s.err.waiting ++ [r] } }
  else (s.bump (Reg.errorQLost r.sev)).nextSeq

/-! Who owns what -/

/-- The device that owns core `c` now: its owner, or the device switched in on its set (R345). -/
def State.coreVd (s : State) (c : Nat) : Option Nat :=
  match s.coreHolder c with
  | .owned v _ => some v
  | .inSet k _ => (s.set_ k).switched
  | _ => none

/-- The logical number of core `c` in its owner. -/
def State.coreLogical (s : State) (c : Nat) : Option Nat :=
  match s.coreHolder c with
  | .owned _ l => l
  | .inSet _ l => some l
  | _ => none

/-- Logical cores of device `n`, in order: its own map, or the cores of its set (R325, R327). -/
def State.coresOf (s : State) (n : Nat) : List Nat :=
  let d := (s.vd n).desc
  if d.sharedSet = 0 then d.coreMap.take d.nc else (s.set_ d.sharedSet).cores

/-- Logical slices of device `n`, in order. -/
def State.slicesOf (s : State) (n : Nat) : List Nat := (s.vd n).desc.sliceMap

/-- Physical base die of logical base die `b` of device `n` (R325). -/
def State.lbd (s : State) (n b : Nat) : Nat := bitsOf (s.vd n).desc.lbdMap (2 * b) 2

/-- Compute die of a core, base die of a core, base die of a slice (R14, R198). -/
def dieOfCore (c : Nat) : Nat := c / 8
def bdOfCore (c : Nat) : Nat := c / 24
def bdOfSlice (i : Nat) : Nat := i / 128

/-- The pool extent behind a logical extent of a device, where it holds memory. -/
def State.extentOf (s : State) (n l : Nat) : Option Nat :=
  (s.pool.extents.find? (fun e =>
    e.2.owner = n && e.2.logical = some l && (e.2.st = .owned || e.2.st = .suspect))).map (·.1)

/-- Whether a device owns the extent of an address (R274). -/
def State.ownsAddr (s : State) (n addr : Nat) : Bool := (s.extentOf n (bitsOf addr 30 18)).isSome

/-- Region `i` of device `n`, as its registers give it. -/
def State.regionReg (s : State) (n i : Nat) : Option Region :=
  let a := s.reg (Reg.regionAttr n i)
  let t := fld a 0 2
  if fld a 31 1 = 1 && t != 3 then
    some ⟨s.reg64 (Reg.regionBase n i) / 4096, s.reg64 (Reg.regionLimit n i) / 4096,
      (fld a 2 1 == 1) && t != 1, t⟩
  else none

/-- The region table of device `n` (R275): entries that are not valid get an empty range. -/
def State.regionTable (s : State) (n : Nat) : List Region :=
  (List.range 64).map (fun i => (s.regionReg n i).getD ⟨1, 0, false, 3⟩)

/-- The number and entry of the region that governs an address (R274), extents apart. -/
def regionAt (rs : List Region) (addr : Nat) : Option (Nat × Region) :=
  let p := addr / 4096
  ((List.range rs.length).zip rs).find? (fun e => decide (e.2.base ≤ p) && decide (p ≤ e.2.limit))

/-- The region of an address of a device under a table, its extent owned (R274). -/
def State.region (s : State) (n : Nat) (rs : List Region) (addr : Nat) : Option (Nat × Region) :=
  if s.ownsAddr n addr then regionAt rs addr else none

/-- Whether `len` bytes from an address lie wholly within regions: every 4 KiB page of them does. -/
def State.inRegions (s : State) (n : Nat) (rs : List Region) (addr len : Nat) : Bool :=
  decide (addr + len ≤ 2 ^ 48) &&
  (List.range ((addr + len - 1) / 4096 - addr / 4096 + 1)).all
    (fun i => (s.region n rs ((addr / 4096 + i) * 4096)).isSome)

end Sys2Proof.Machine
end

