-- ==== Sys2Proof/Machine/Mem.lean ====
section
/-! DEFINITION. Where device memory lies: home slices (R201), channels and positions (R202, R302), lines of a
slice (R204), and the reads and writes that the schedulers, the binder and the transport engine make. -/

namespace Sys2Proof.Machine

/-- Line, sector and offset of a device address (R198). -/
def lineOf (addr : Nat) : Nat := addr / 4096
def sectorOf (addr : Nat) : Nat := addr / 256
def secIdx (addr : Nat) : Nat := addr / 256 % 16

/-- The exact sum h of a line number (R201). -/
def homeHash (l : Nat) : Nat := l + (l >>> 12) + (l >>> 24)

/-- Home logical slice of a line for a device of `ns` slices (R201). -/
def homeLogical (ns l : Nat) : Nat := homeHash l % ns

/-- The set of a line in its home slice (R201). -/
def homeSet (ns l : Nat) : Nat :=
  let q := homeHash l / ns
  (q ^^^ (q >>> 6) ^^^ (q >>> 12) ^^^ (q >>> 18) ^^^ (q >>> 24) ^^^ (q >>> 30)) % 64

/-- The physical home slice of a line of device `n` (R170, R201), if the device has slices. -/
def State.homeSlice (s : State) (n l : Nat) : Option Nat :=
  let sl := s.slicesOf n
  if sl.length = 0 then none else sl[homeLogical sl.length l]?

/-- The hash of a line index over channels (R202, R302). -/
def chanHash (x : Nat) : Nat := x + 7 * (x >>> 4) + (x >>> 12)

/-- How many of the `len` lines from `lo` upward lie on channel index `k` (at most 2^f of them). -/
def chanCount (nc k : Nat) : Nat → Nat → Nat → Nat
  | 0, lo, len => if len ≠ 0 ∧ chanHash lo % nc = k then 1 else 0
  | f + 1, lo, len =>
    if len = 0 then 0
    else chanCount nc k f lo (min len (2 ^ f)) + chanCount nc k f (lo + 2 ^ f) (len - 2 ^ f)

/-- The rank of line `i` among the lines of its extent on channel index `k` (R302). -/
def chanRank (nc k i : Nat) : Nat := chanCount nc k 18 0 i

/-- Channel and position of line index `i` of an extent (R202, R302). -/
def Extent.place (e : Extent) (i : Nat) : Nat × Nat :=
  let nc := e.chans.length
  let k := chanHash i % nc
  let p := chanRank nc k i
  let a := 262144 / nc
  (nth 0 e.chans k,
    if p < a then nth 0 e.bases k + p else 2063360 + nth 0 e.spill k + (p - a))

/-- The key of the first byte of a position of a channel. -/
def memKey (ch p : Nat) : Nat := ch * 2 ^ 33 + p * 4096

/-- Home channel and key of a line of device `n`, where an extent backs it. -/
def State.lineKey (s : State) (n l : Nat) : Option (Nat × Nat) :=
  match s.extentOf n (l / 2 ^ 18) with
  | none => none
  | some e =>
    let (ch, p) := (s.extent e).place (l % 2 ^ 18)
    some (ch, memKey ch p)

/-- The 256 bytes that memory holds of a sector (zeros where nothing backs it). -/
def State.memSector (s : State) (n l sec : Nat) : List Byte :=
  match s.lineKey n l with
  | some (_, k) => rdN s.mem (k + 256 * sec) 256
  | none => List.replicate 256 0

/-- Write bytes under a mask (bit b for byte b) from a key upward. -/
def wrMask (m : SMap Byte) (k mask : Nat) : List Byte → Nat → SMap Byte
  | [], _ => m
  | b :: bs, i => wrMask (if bitOf mask i then wr m (k + i) b else m) k mask bs (i + 1)

/-- Put a fill at the end of a channel's read queue. -/
def Channel.addRead (c : Channel) (slice vd line sec : Nat) : Channel :=
  { c with reads := c.reads ++ [⟨slice, vd, line, sec, c.nextSeq⟩], nextSeq := c.nextSeq + 1 }

/-- Put write-backs at the end of a channel's write queue. -/
def Channel.addWrites (c : Channel) (ws : List ChWrite) : Channel :=
  { c with
    writes := c.writes ++ ws.zipIdx.map (fun x => { x.1 with seq := c.nextSeq + x.2 })
    nextSeq := c.nextSeq + ws.length }

/-- The 128 B unit of a channel in which a key lies (R299): two to a sector. -/
def unitOf (key : Nat) : Nat := key % 2 ^ 33 / 128

/-- What the check word of a unit tells. -/
def Channel.fault (c : Channel) (unit : Nat) : MemFault := SMap.get (fun _ => MemFault.sound) c.faults unit

/-- Note what the check word of a unit tells. -/
def Channel.setFault (c : Channel) (unit : Nat) (x : MemFault) : Channel :=
  { c with faults := SMap.set (fun _ => MemFault.sound) c.faults unit x }

/-- A whole sector and both its check words are written (R307): its units are sound. -/
def Channel.wrote (c : Channel) (key : Nat) : Channel := (c.setFault (unitOf key) .sound).setFault (unitOf key + 1) .sound

/-- The units of a sector that a write under a mask has to read first (R307): those that the mask does not cover whole. -/
def mergeUnits (key mask : Nat) : List Nat :=
  ((List.range 2).filter (fun u => decide (bitsOf mask (128 * u) 128 ≠ 2 ^ 128 - 1))).map (· + unitOf key)

/-- Whether the merge read of a write meets an uncorrectable unit (R315). -/
def Channel.mergeFails (c : Channel) (key mask : Nat) : Bool :=
  (mergeUnits key mask).any (fun u => decide (c.fault u = .uncorrectable))

/-- Write a sector under a mask with its check words (R307); one whose merge read fails is not written (R315). -/
def State.memWrite (s : State) (ch key mask : Nat) (data : List Byte) : State :=
  if (s.chan ch).mergeFails key mask then s
  else { s.modChan ch (fun c => c.wrote key) with mem := wrMask s.mem key mask data 0 }

/-- Perform the write-backs that wait at a channel and satisfy a test, oldest first (R306, R307). -/
def State.performWrites (s : State) (ch : Nat) (p : ChWrite → Bool) : State :=
  let ws := (s.chan ch).writes
  if ws.any p then
    let s := s.modChan ch (fun c => { c with writes := ws.filter (fun w => !p w) })
    (ws.filter p).foldl (fun s w => s.memWrite ch w.key w.mask w.data) s
  else s

/-- The 256 bytes of a sector once the write-backs that wait for it have been performed. -/
def State.memSectorNow (s : State) (n l sec : Nat) : List Byte :=
  match s.lineKey n l with
  | some (ch, k) => (s.performWrites ch (fun w => decide (w.key = k + 256 * sec))).memSector n l sec
  | none => s.memSector n l sec

/-- Bytes of a sector laid over older ones: the whole of a sector in V or D, those under the mask of one in P. -/
def Sector.over (x : Sector) (new old : List Byte) : List Byte :=
  match x.st with
  | .v | .d => new
  | .p => ((List.range 256).zip (new.zip old)).map (fun e => if bitOf x.mask e.1 then e.2.1 else e.2.2)
  | .i => old

/-- The 256 bytes of a sector behind the lines of its home slice: memory with the write-backs that wait for it, those of
the write-back buffer last (R212, R213). -/
def State.backing (s : State) (n l sec : Nat) : List Byte :=
  let mem := s.memSectorNow n l sec
  match s.homeSlice n l with
  | none => mem
  | some i =>
    ((s.slice i).wbuf.filter (fun w => decide (w.line = l))).foldl (fun bs w =>
      (SMap.get (fun _ => Sector.empty) w.secs sec).over (rdN w.data (256 * sec) 256) bs) mem

/-! Lines of a slice -/

/-- Sector `i` of a line. -/
def Line.sec (l : Line) (i : Nat) : Sector := SMap.get (fun _ => Sector.empty) l.secs i

/-- Replace sector `i` of a line. -/
def Line.setSec (l : Line) (i : Nat) (x : Sector) : Line :=
  { l with secs := SMap.set (fun _ => Sector.empty) l.secs i x }

/-- Directory state of sector `i` of a line. -/
def Line.dir (l : Line) (i : Nat) : Dir := SMap.get (fun _ => Dir.none) l.dirs i

/-- Set the directory state of sector `i`. -/
def Line.setDir (l : Line) (i : Nat) (x : Dir) : Line :=
  { l with dirs := SMap.set (fun _ => Dir.none) l.dirs i x }

/-- COPIES of a line: the sectors whose VEC is not zero (R253). -/
def Line.copies (l : Line) : List Nat := (l.dirs.filter (fun e => e.2.vec != 0)).map (·.1)

/-- Whether every sector of a line is in state I and none fills. -/
def Line.allI (l : Line) : Bool := l.secs.all (fun e => decide (e.2.st = .i) && !e.2.filling)

/-- Whether any sector of a line fills. -/
def Line.anyFilling (l : Line) : Bool := l.secs.any (fun e => e.2.filling)

/-- Whether a line is dead (R219): every chunk of every sector not in I has its DEAD bit. -/
def Line.isDead (l : Line) : Bool :=
  let held := l.secs.filter (fun e => decide (e.2.st ≠ .i))
  !held.isEmpty && held.all (fun e => bitsOf l.dead (4 * e.1) 4 == 15)

/-- The 16 keys of a set's ways. -/
def setKeys (set : Nat) : List Nat := (List.range 16).map (fun w => 16 * set + w)

/-- The line in a way of a slice. -/
def Slice.way (sl : Slice) (k : Nat) : Line := SMap.get (fun _ => Line.none) sl.lines k

/-- Replace the line in a way. -/
def Slice.setWay (sl : Slice) (k : Nat) (x : Line) : Slice :=
  { sl with lines := SMap.set (fun _ => Line.none) sl.lines k x }

/-- Change the line in a way. -/
def Slice.modWay (sl : Slice) (k : Nat) (f : Line → Line) : Slice := sl.setWay k (f (sl.way k))

/-- The way that holds a line. -/
def Slice.find (sl : Slice) (l : Nat) : Option Nat :=
  (sl.lines.find? (fun e => e.2.valid && decide (e.2.line = l))).map (·.1)

/-- Masks of the pool in use (R208): sectors in state P. -/
def Slice.masksUsed (sl : Slice) : Nat :=
  sumN (sl.lines.map (fun e => (e.2.secs.filter (fun x => decide (x.2.st = .p))).length))

/-- Lines with fills outstanding (R209). -/
def Slice.fillingLines (sl : Slice) : Nat := (sl.lines.filter (fun e => e.2.anyFilling)).length

/-- Lines that are BUSY (R226). -/
def Slice.busyLines (sl : Slice) : Nat := (sl.lines.filter (fun e => !e.2.ops.isEmpty)).length

/-- The bytes of sector `i` of a line. -/
def Line.bytes (l : Line) (i : Nat) : List Byte := rdN l.data (256 * i) 256

/-- The owner of a slice. -/
def State.sliceVd (s : State) (i : Nat) : Option Nat :=
  match s.sliceHolder i with
  | .owned v _ => some v
  | _ => none

/-- The full byte mask of a sector. -/
def fullMask : Nat := 2 ^ 256 - 1

/-- Put bytes (offset within the sector, byte) into sector `i` of a line as a write (R206, R207, R218): V and D
become D; I becomes P or, for a full write, D; P takes the bytes into its mask and becomes D once the
mask is full. The DEAD bits of the written chunks clear, and DEADPEND when the line is no longer dead, but with `keepDead`
for an operation of a queue whose results are to be discarded (R228). -/
def Line.write (l : Line) (i clock : Nat) (bs : List (Nat × Byte)) (keepDead : Bool := false) : Line :=
  let x := l.sec i
  let m := bs.foldl (fun m b => m ||| 2 ^ b.1) (if x.st = .p then x.mask else 0)
  let x' : Sector :=
    match x.st with
    | .v | .d => { x with st := .d, mask := 0 }
    | .i => if m = fullMask then { x with st := .d, mask := 0 } else { x with st := .p, mask := m, since := clock }
    | .p => if m = fullMask then { x with st := .d, mask := 0 } else { x with mask := m }
  let data := bs.foldl (fun d b => wr d (256 * i + b.1) b.2) l.data
  let dead := if keepDead then l.dead else bs.foldl (fun d b => setBits d (4 * i + b.1 / 64) 1 0) l.dead
  let l' := { l.setSec i x' with data := data, dead := dead }
  { l' with deadpend := l'.deadpend && l'.isDead }

/-- Whether a write of a sector needs a mask it does not hold (R206, R208). -/
def Line.needsMask (l : Line) (i : Nat) (bs : List (Nat × Byte)) : Bool :=
  decide ((l.sec i).st = .i) && decide (bs.foldl (fun m b => m ||| 2 ^ b.1) 0 ≠ fullMask)

/-- Install a fill (R206): I becomes V; P keeps the bytes of its mask and becomes D. -/
def Line.install (l : Line) (i : Nat) (bs : List Byte) : Line :=
  let x := l.sec i
  match x.st with
  | .p =>
    let data := ((List.range 256).zip bs).foldl
      (fun d b => if bitOf x.mask b.1 then d else wr d (256 * i + b.1) b.2) l.data
    { l.setSec i ⟨.d, false, 0, 0⟩ with data := data }
  | .i => { l.setSec i ⟨.v, false, 0, 0⟩ with data := wrL l.data (256 * i) bs }
  | _ => l.setSec i { x with filling := false }

/-- Drop sector `i`: state I, its mask back in the pool, its bytes gone. -/
def Line.dropSec (l : Line) (i : Nat) : Line :=
  { l.setSec i Sector.empty with data := SMap.clearRange l.data (256 * i) (256 * i + 256) }

/-- The block of a die that holds a sector in a state that has data. -/
def Die.block (d : Die) (n sec : Nat) : Option Block :=
  d.blocks.find? (fun b => decide (b.vd = n) && decide (b.sector = sec) && decide (b.st ≠ .i))

/-- Whether a block's data is newer than the home's. -/
def Block.dirty (b : Block) : Bool := decide (b.st = .m) || decide (b.st = .miA)

end Sys2Proof.Machine
end

