-- ==== Sys2Proof/Machine/Links.lean ====
section
/-! DEFINITION. The links of the fabric (chapter The scheduled fabric): kinds and classes of positions (R151, R152), the
standard routes and the circuits (R154), flits (R193), and the sending of reed and demand messages, which wait in the
member queues of the outputs on their way (R173, R176). -/

namespace Sys2Proof.Machine

/-! Positions (R150 to R153, R156) -/

/-- The kinds of positions (R151). -/
inductive PosKind where
  | scheduled | demand | reed
deriving DecidableEq, Repr

/-- The demand set for D (R151). -/
def demandSet : Nat → List Nat
  | 1 => [7]
  | 2 => [7, 14]
  | 3 => [4, 9, 14]
  | _ => [3, 7, 11, 14]

/-- The kind of position `p` (R151). -/
def posKind (d p : Nat) : PosKind :=
  if p % 16 = 15 then .reed else if (demandSet d).contains (p % 16) then .demand else .scheduled

/-- The scheduled positions of the first sixteen. -/
def schedSet (d : Nat) : List Nat := (List.range 16).filter (fun p => decide (posKind d p = .scheduled))

/-- The position of scheduled ordinal `m` of a beat (R152, R156). -/
def schedPos (d m : Nat) : Nat := 16 * (m / (15 - d)) + nth 0 (schedSet d) (m % (15 - d))

/-- The ordinal of index `j` of a class of a core port (R152). -/
def classOrdinal (t j : Nat) : Nat := 4 * j + t

/-- The position of index `j` of a class of a core port (R152). -/
def classPos (d t j : Nat) : Nat := schedPos d (classOrdinal t j)

/-- The class of the send positions of a core on base die `x` that lead to base die `y`, and of the receive positions of a
core on `x` that come from `y` (R152). -/
def classTo (x y : Nat) : Nat := (y + 4 - x) % 4

/-- D, S, c_s and c_r in effect (R151, R153, R196). -/
def State.demandD (s : State) : Nat := s.regFld Reg.fabricStatus 0 2 + 1
def State.schedS (s : State) : Nat := 15 - s.demandD
def State.sendClass (s : State) : Nat := s.regFld Reg.fabricStatus 16 6
def State.recvClass (s : State) : Nat := s.regFld Reg.fabricStatus 24 6

/-- The ticks of TCLK since the first frame, two to a beat (R149). -/
def State.fabTick (s : State) : Nat := if s.fab.started then s.time.toNat - s.reg64 Reg.clocktimeFrame0 else 0

/-- The FCLK, counted from the first frame, at which a tick begins (R149). -/
def State.fclk (s : State) : Nat := 16 * s.fabTick

/-- The FCLK within its beat of position `p` of a core port, and the CCLK of one of a slice port (R150). -/
def coreFclk (p : Nat) : Nat := p / 4
def sliceCclk (p : Nat) : Nat := p / 2

/-- The tick, counted from the first frame, of position `p` of a core port or of a slice port in a beat. -/
def portTick (slice : Bool) (beat p : Nat) : Nat :=
  2 * beat + if slice then sliceCclk p / 12 else coreFclk p / 16

/-! Routes and circuits (R154) -/

/-- Where a message begins or ends: a core, a slice, the router, controllers and scheduler of a base die, the IOD. -/
inductive Site where
  | core (c : Nat)
  | slice (i : Nat)
  | bd (b : Nat)
  | iod
deriving DecidableEq, Repr

/-- The base die of a site; 4 is the IOD. -/
def Site.die : Site → Nat
  | .core c => bdOfCore c
  | .slice i => bdOfSlice i
  | .bd b => b
  | .iod => 4

/-- The number of a causeway direction among the links. -/
def causewayLink (n : Nat) (dirB : Bool) : Nat := 1216 + 2 * n + b2n dirB

/-- The causeway directions from base die `x` to `y` on the standard route (R154): none within a base die, the ring causeway
to a neighbour, the two hub causeways to the opposite one; 4 is the IOD. -/
def causeways (x y : Nat) : List Nat :=
  if x = y then []
  else if x = 4 then [causewayLink (4 + y) true]
  else if y = 4 then [causewayLink (4 + x) false]
  else match classTo x y with
    | 1 => [causewayLink x false]
    | 3 => [causewayLink y true]
    | _ => [causewayLink (4 + x) false, causewayLink (4 + y) true]

/-- The in-service cores of a base die, in order. -/
def State.coresOn (s : State) (b : Nat) : List Nat :=
  ((List.range 24).map (· + 24 * b)).filter (fun c => decide (s.coreHolder c ≠ .notInService))

/-- The place of a core among the in-service cores of its base die. -/
def State.coreRank (s : State) (c : Nat) : Nat := ((s.coresOn (bdOfCore c)).filter (fun x => decide (x < c))).length

/-- The circuit of index `j` of class `t` of a core, for sending or for receiving (R152, R154): each link on its way with the
position it has there, from the core's port to the router of the far base die. DEDUCED: a causeway direction gives its scheduled
ordinals to the sends of its near base die, then to the receives of its far one, by core and index (log entry 50). -/
def State.circuit (s : State) (send : Bool) (c t j : Nat) : List (Nat × Nat) :=
  let d := s.demandD
  let x := bdOfCore c
  let y := (x + t) % 4
  let n := if send then s.sendClass else s.recvClass
  if s.coreHolder c = .notInService ∨ n ≤ j then []
  else
    let r := s.coreRank c
    let m := if send then r * n + j else (s.coresOn y).length * s.sendClass + r * n + j
    let port := (if send then c else 96 + c, classPos d t j)
    let way := (if send then causeways x y else causeways y x).map (fun l => (l, schedPos d m))
    if send then port :: way else way ++ [port]

/-- The member queue of a site's messages at the first causeway on their way (R173, R176): local cores, local slices, local
controllers or scheduler; at the hub, the IOD agents. -/
def Site.member : Site → Nat
  | .core _ => 0
  | .slice _ => 1
  | .bd _ => 2
  | .iod => 0

/-- The causeways into a router, in the order in which an output names them. DESIGN CHOICE: from the base die before, from the one
after, from the hub (log entry 50). -/
def causewayIn (l : Nat) : Nat :=
  if 1224 ≤ l then 2 else if l % 2 = 0 then 0 else 1

/-- The member queue of a message at the router output to a core port or a slice port (R173, R176). -/
def lastMember (reed toCore : Bool) (src : Site) (via : List Nat) : Nat :=
  match via.getLast?, src with
  | some l, _ => (if reed && toCore then 3 else 2) + causewayIn l
  | none, .slice _ => 0
  | none, .core _ => b2n toCore
  | none, _ => if toCore then 2 else 1

/-- The outputs a message leaves by, with its member queue at each (R154, R173, R176). -/
def routePath (reed : Bool) (src dst : Site) : List (Nat × Nat) :=
  let via := causeways src.die dst.die
  (match src with
    | .core c => [(c, 0)]
    | .slice i => [(192 + i, 0)]
    | _ => [])
  ++ via.zipIdx.map (fun l => (l.1, if l.2 = 0 then src.member else 1))
  ++ (match dst with
    | .core c => [(96 + c, lastMember reed true src via)]
    | .slice i => [(704 + i, lastMember reed false src via)]
    | _ => [])

/-! Flits (R193) -/

/-- The code of a flit kind. -/
def FlitKind.code : Sys2Proof.FlitKind → Nat
  | .idle => 0
  | .scheduled => 1
  | .demand => 2
  | .reed => 3

/-- The header of a flit (R193). -/
def flitHeader (f : Flit) : Nat :=
  FlitKind.code f.kind * 2 ^ 30 + (f.vd % 256) * 2 ^ 16 + (f.contrib % 256) * 2 ^ 8 + f.seq % 256

/-- The 72 bytes of a flit (R193): the chunk, the header, the CRC-32C over header and chunk. DESIGN CHOICE: they stand
in this order, and the CRC takes the header first (log entry 50). -/
def flitBytes (f : Flit) (chunk : List Byte) : List Byte :=
  let h := leBytes 4 (flitHeader f)
  chunk ++ h ++ leBytes 4 (crc32c (h ++ chunk))

/-- A flit leaves by a causeway direction and is kept for 64 FCLK (R193, R194). -/
def State.sendFlit (s : State) (l : Nat) (kind : FlitKind) (vd contrib item : Nat) (chunk : List Byte) : State :=
  let q := SMap.get (fun _ => (0 : Nat)) s.fab.seqs l
  { s with fab := { s.fab with
      seqs := SMap.set (fun _ => (0 : Nat)) s.fab.seqs l ((q + 1) % 256)
      sent := s.fab.sent ++ [⟨l, ⟨kind, vd, contrib, q⟩, chunk, item, s.time.toNat, false⟩] } }

/-! Sending -/

/-- Queue a reed message at its first output (R176). -/
def State.sendReed (s : State) (vd : Nat) (body : ReedBody) (src dst : Site) : State :=
  { s with fab := { s.fab with
      nextId := s.fab.nextId + 1
      reed := s.fab.reed ++ [⟨s.fab.nextId, vd, body, routePath true src dst, none, false⟩] } }

/-- Queue a demand message of `n` chunks at its first output (R173). -/
def State.sendDem (s : State) (vd : Nat) (body : DemBody) (n : Nat) (src dst : Site) (net : Bool := false)
    (ctl : Bool := true) : State :=
  { s with fab := { s.fab with
      nextId := s.fab.nextId + 1
      dem := s.fab.dem ++ [⟨s.fab.nextId, vd, body, n, n, routePath false src dst, net, ctl, false⟩] } }

/-- Chunks that carry `n` bytes. DEDUCED: a request that carries data is one chunk and the chunks of its data (log entry 50). -/
def chunksOf (n : Nat) : Nat := (n + 63) / 64

/-- The in-service cores of a compute die. -/
def State.diePorts (s : State) (d : Nat) : List Nat :=
  ((List.range 8).map (· + 8 * d)).filter (fun c => decide (s.coreHolder c ≠ .notInService))

/-- The core port a die cache's message leaves by (R249): the one given, or the ports of its in-service cores in turn. -/
def State.diePort (s : State) (d : Nat) (port : Option Nat) : Nat × State :=
  match port with
  | some c => (c, s)
  | none =>
    let ps := s.diePorts d
    (nth (8 * d) ps ((s.die d).turn % max 1 ps.length), s.modDie d (fun k => { k with turn := k.turn + 1 }))

/-- The core port at which a die cache takes messages in. DESIGN CHOICE: that of its lowest in-service core (log entry 50). -/
def State.dieIn (s : State) (d : Nat) : Nat := nth (8 * d) (s.diePorts d) 0

/-- The site of a requester, where it is a core, a die cache or the IOD. -/
def State.srcSite (s : State) : ReqSrc → Option Site
  | .load c _ _ => some (.core c)
  | .store c _ _ => some (.core c)
  | .roc c _ => some (.core c)
  | .ibuf c _ => some (.core c)
  | .gic c _ => some (.core c)
  | .merge d _ => some (.core (s.dieIn d))
  | .host _ => some .iod
  | .net _ => some .iod
  | .nobody => none

/-- Whether an answer goes to the host port, and to the network port. -/
def ReqSrc.isHost : ReqSrc → Bool
  | .host _ => true
  | _ => false
def ReqSrc.isNet : ReqSrc → Bool
  | .net _ => true
  | _ => false

/-- The chunks a request travels in. DEDUCED: one, and those of its data (log entry 50). -/
def HReq.chunks (r : HReq) : Nat := if r.kind = ReqKind.write then 1 + chunksOf r.len else 1

/-- Whether request `b` of the host port came after `a`, for the same 64 bytes (R392). -/
def HReq.hostAfter (b a : HReq) : Bool :=
  match b.src, a.src with
  | .host y, .host x => decide (x < y) && decide (a.vd = b.vd) && decide (a.addr / 64 = b.addr / 64)
  | _, _ => false

/-- The place of a request in the queue of a home: the end, but before later requests of the host port to its 64 bytes (R392). -/
def joinOrder : List HReq → HReq → List HReq
  | [], r => [r]
  | q :: qs, r => if q.hostAfter r then r :: q :: qs else q :: joinOrder qs r

/-- Put a request into the queue of a home. -/
def State.joinReqs (s : State) (i : Nat) (r : HReq) : State := s.modSlice i (fun sl => { sl with reqs := joinOrder sl.reqs r })

/-- Send a request to its home slice, from the port of a core for a die's merge entry. A request of the host port is a reed
message, and the data of its write a demand message (R391). A device without the line's slice loses it. -/
def State.request (s : State) (r : HReq) (port : Option Nat := none) : State :=
  match s.homeSlice r.vd (lineOf r.addr) with
  | none => s
  | some i =>
    match s.srcSite r.src with
    | none => s.joinReqs i r
    | some site =>
      let site := match port with
        | some c => .core c
        | none => site
      if ¬ r.src.isHost then s.sendDem r.vd (.req i r) r.chunks site (.slice i) r.src.isNet
      else if r.kind = ReqKind.write then
        (s.sendDem r.vd (.req i r) (chunksOf r.len) site (.slice i) false false).sendReed r.vd (.part s.fab.nextId) site
          (.slice i)
      else s.sendReed r.vd (.req i r) site (.slice i)

/-- Send a home operation to its home slice. -/
def State.sendHomeOp (s : State) (o : HomeOp) : State :=
  match s.homeSlice o.vd (lineOf o.addr) with
  | none => s
  | some i =>
    match s.srcSite o.src with
    | none => s.modSlice i (fun sl => { sl with opsIn := sl.opsIn ++ [o] })
    | some site => s.sendDem o.vd (.op i o) (1 + chunksOf o.operand.length) site (.slice i) o.src.isNet

/-- A coherence message before its number is known. -/
def CohMsg.new (kind : CohKind) (src dst : Node) (vd sector : Nat) (r : Option Nat) (data : List Byte) : CohMsg :=
  ⟨kind, src, dst, vd, sector, r, data, 0, false, false, false⟩

/-- Send a coherence message (R248, R249): one reed message, and the four chunks of a sector, from a die by the given core
port or in turn. -/
def State.sendMsg (s : State) (m : CohMsg) (port : Option Nat := none) : State :=
  let out : Site × State := match m.src with
    | .home i => (.slice i, s)
    | .die d => (.core (s.diePort d port).1, (s.diePort d port).2)
  let s := out.2
  let dst : Site := match m.dst with
    | .home i => .slice i
    | .die d => .core (s.dieIn d)
  let n := s.fab.nextId
  let s := { s with msgs := s.msgs ++ [{ m with id := n, ctl := false, whole := m.data.isEmpty }] }
  let s := s.sendReed m.vd (.coh n) out.1 dst
  if m.data.isEmpty then s else s.sendDem m.vd (.coh n) 4 out.1 dst

/-- The place of an operation among the messages to its router's words. -/
def State.joinFlags (s : State) (m : FlagMsg) : State :=
  { s with fab := { s.fab with flagMsgs := s.fab.flagMsgs ++ [m] } }

/-- Send a flag message to the router of its word (R180, R184); one sent by that router is there at once. -/
def State.sendFlag (s : State) (m : FlagMsg) (src : Site) : State :=
  if routePath true src (.bd (m.word / 4096)) = [] then s.joinFlags m
  else s.sendReed m.vd (.flag m) src (.bd (m.word / 4096))

/-! What is on its way -/

/-- The requests, the home operations and the responses to them that are on the links. -/
def Fabric.reqs (x : Fabric) : List HReq :=
  x.dem.filterMap (fun m => match m.body with | .req _ r => some r | _ => none)
  ++ x.reed.filterMap (fun m => match m.body with | .req _ r => some r | _ => none)
def Fabric.ops (x : Fabric) : List HomeOp :=
  x.dem.filterMap (fun m => match m.body with | .op _ o => some o | _ => none)
  ++ x.reed.filterMap (fun m => match m.body with | .nack o => some o | _ => none)
def Fabric.rsps (x : Fabric) : List OpRsp :=
  x.reed.filterMap (fun m => match m.body with | .rsp r => some r | _ => none)

/-- Whether a request of the host port has to wait for an older one to its 64 bytes that is still on the links (R392). -/
def State.hostWaits (s : State) (r : HReq) : Bool := s.fab.reqs.any (fun q => r.hostAfter q)

/-- Change the requests on the links; those that a change gives up are gone. -/
def Fabric.mapReqs (x : Fabric) (f : HReq → Option HReq) : Fabric :=
  { x with
    dem := x.dem.filterMap (fun m => match m.body with
      | .req i r => (f r).map (fun r => { m with body := .req i r })
      | _ => some m)
    reed := x.reed.map (fun m => match m.body with
      | .req i r => { m with body := match f r with
          | some r => .req i r
          | none => .part m.id }
      | _ => m) }

/-- Change the home operations on the links; those that a change gives up are gone. -/
def Fabric.mapOps (x : Fabric) (f : HomeOp → Option HomeOp) : Fabric :=
  { x with
    dem := x.dem.filterMap (fun m => match m.body with
      | .op i o => (f o).map (fun o => { m with body := .op i o })
      | _ => some m)
    reed := x.reed.map (fun m => match m.body with
      | .nack o => { m with body := match f o with
          | some o => .nack o
          | none => .part m.id }
      | _ => m) }

/-- Take the contents of the answers on the links that a test selects; their messages go on empty. -/
def Fabric.dropAnswers (x : Fabric) (p : ReqSrc → Bool) : Fabric :=
  { x with
    dem := x.dem.filter (fun m => match m.body with
      | .rsp src _ _ => !p src
      | _ => true)
    reed := x.reed.map (fun m => match m.body with
      | .rsp r => if p r.src then { m with body := .part m.id } else m
      | _ => m) }

/-- Take the contents of the reed messages that a test selects; the messages go on empty, so that their credits come
back. -/
def Fabric.emptyReed (x : Fabric) (p : ReedMsg → Bool) : Fabric :=
  { x with reed := x.reed.map (fun m => if p m then { m with body := .part m.id } else m) }

end Sys2Proof.Machine
end

