-- ==== Sys2Proof/Machine/Home.lean ====
section
/-! DEFINITION. The home slice: answers to requesters, recalls and transactions (R254, R260, R261), evictions and
drops (R211, R212, R219), fetches (R209), maintenance of what a slice and a die cache hold. -/

namespace Sys2Proof.Machine

/-! Answers -/

/-- The group in slot `g` of core `c`. -/
def State.group (s : State) (c g : Nat) : Option Group :=
  SMap.get (fun _ => (none : Option Group)) (s.core c).gslots g

/-- Replace the group in slot `g` of core `c`. -/
def State.setGroup (s : State) (c g : Nat) (x : Option Group) : State :=
  s.modCore c (fun k => { k with gslots := SMap.set (fun _ => (none : Option Group)) k.gslots g x })

/-- Change the group in slot `g` of core `c`, where there is one. -/
def State.modGroup (s : State) (c g : Nat) (f : Group → Group) : State :=
  match s.group c g with
  | some x => s.setGroup c g (some (f x))
  | none => s

/-- Bytes with the addresses they lie at. -/
def addrBytes (addr : Nat) (bs : List Byte) : List (Nat × Byte) :=
  ((List.range bs.length).map (· + addr)).zip bs

/-- A part of an outstanding instruction is done; a DEVICE part leaves the head of those in turn, and what a load
gets of it belongs to its lane alone (R277). -/
def OutAcc.part (o : OutAcc) (dev : Bool) (bs : List (Nat × Byte)) : OutAcc :=
  let mine := match dev, o.turn with
    | true, t :: _ => bs.zipIdx.map (fun b => (2 ^ 64 + t + b.2, b.1.2))
    | _, _ => bs
  { o with
    got := o.got ++ mine
    left := o.left - 1
    todo := if dev then o.todo.drop 1 else o.todo
    todoOps := if dev then o.todoOps.drop 1 else o.todoOps
    turn := if dev then o.turn.drop 1 else o.turn }

/-- Whether nothing of an instruction is to come back any more: a store or an atomic without return, done. -/
def OutAcc.gone (o : OutAcc) : Bool :=
  decide (o.left = 0) && (decide (o.kind = .store) || decide (o.kind = .atomic))

/-- Whether the instruction clears the watchdog as it retires, which it does when its last part is done (R141). -/
def OutAcc.clears (o : OutAcc) : Bool :=
  decide (o.left = 0) && (decide (o.kind = .store) || decide (o.kind = .atomic) || decide (o.kind = .atomicRet))

/-- Whether DEVICE parts of an instruction wait for their turn behind the one on its way (R277). -/
def OutAcc.unsent (o : OutAcc) : Bool := decide (1 < o.todo.length) || decide (1 < o.todoOps.length)

/-- Whether a stopped group has something left to do: DEVICE parts to send, or the release of its locks (R147). -/
def Group.lingers (g : Group) : Bool :=
  g.out.any OutAcc.unsent || (match g.wait with
    | .unlock _ => true
    | _ => false)

/-- A stopped group leaves its slot once it has nothing left to do. -/
def State.dropStopped (s : State) (c g : Nat) : State :=
  match s.group c g with
  | some x => if x.stopped && !x.lingers then s.setGroup c g none else s
  | none => s

/-- A part of an outstanding instruction of a group is done: its bytes, one part fewer to come; the next DEVICE
part leaves (R277), and a store or atomic whose last part this is retires (R141). Answers name the instruction as
2 id, or 2 id + 1 for a DEVICE part. -/
def State.accDone (s : State) (c g id : Nat) (bs : List (Nat × Byte)) : State :=
  match s.group c g with
  | none => s
  | some x =>
    match x.out.find? (fun o => decide (o.id = id / 2)) with
    | none => s
    | some o =>
      let o' := o.part (decide (id % 2 = 1)) bs
      let s := s.modGroup c g (fun x => { x with
        out := (x.out.map (fun (o : OutAcc) => if o.id = id / 2 then o' else o)).filter (fun o => !o.gone)
        watchdog := if o'.clears then 0 else x.watchdog })
      (match decide (id % 2 = 1), o'.todo, o'.todoOps with
      | true, r :: _, _ => s.request r
      | true, [], p :: _ => s.sendHomeOp p
      | _, _, _ => s).dropStopped c g

/-- As `accDone`, for bytes from an address upward. -/
def State.accPart (s : State) (c g id addr : Nat) (bs : List Byte) : State := s.accDone c g id (addrBytes addr bs)

/-- A window miss (R390): counted, the first address captured while VALID is clear, PF vector 3 where asked for. -/
def State.windowMiss (s : State) (dpa : Nat) : State :=
  let s := s.bump Reg.hostportMiss
  let s := if s.regBit (Reg.hostportMissAddr + 4) 31 then s
    else s.setReg64 Reg.hostportMissAddr (2 ^ 63 + dpa / 64 * 64 % 2 ^ 40)
  if s.regBit Reg.hostportCtrl 1 then s.vecPf 3 else s

/-- Give a host request its response (R391): the bytes of a read, nothing for a write. -/
def State.hostAnswer (s : State) (id : Nat) (bs : List Byte) : State :=
  { s with host := { s.host with reqs := s.host.reqs.map (fun (r : HostReq) =>
      if r.id = id then { r with resp := some bs } else r) } }

/-- A host request that can no longer be served is answered (R390, R397, R401): an accepted write with Cmp, any other
request as a window miss. -/
def State.hostGone (s : State) (q : HReq) : State :=
  match q.src with
  | .host id =>
    if q.accepted then s.hostAnswer id []
    else
      let s := s.windowMiss (((s.host.reqs.find? (fun r => decide (r.id = id))).map (·.dpa)).getD 0)
      s.hostAnswer id (if q.kind = ReqKind.write then [] else List.replicate 64 0)
  | _ => s

/-- Requests on the links change with those at the homes; those that a change gives up are gone. -/
def State.mapReqs (s : State) (f : HReq → Option HReq) : State :=
  { s with
    fab := s.fab.mapReqs f
    slices := s.slices.map (fun (e : Nat × Slice) => (e.1, { e.2 with reqs := e.2.reqs.filterMap f })) }

/-- The host requests at the homes, or on their way there, that a test selects leave their queues, answered. -/
def State.settleHost (s : State) (p : HReq → Bool) : State :=
  let all := s.slices.flatMap (fun (e : Nat × Slice) => e.2.reqs) ++ s.fab.reqs
  (all.filter (fun r => r.src.isHost && p r)).foldl State.hostGone
    (s.mapReqs (fun r => if r.src.isHost && p r then none else some r))

/-- Bytes of a 256-byte line arrive for the oldest fill of a cache that waits for it. -/
def fillArrives : List CFill → Nat → List Byte → List CFill
  | [], _, _ => []
  | f :: fs, line, bs =>
    if f.line = line ∧ f.bytes.isNone then { f with bytes := some bs } :: fs else f :: fillArrives fs line bs

/-- The bytes of a read reach the requester. -/
def State.deliver (s : State) (src : ReqSrc) (addr : Nat) (bs : List Byte) : State :=
  match src with
  | .load c g id => s.accPart c g id addr bs
  | .store c g id => s.accPart c g id addr []
  | .roc c line => s.modCore c (fun k => { k with rocFills := fillArrives k.rocFills line bs })
  | .ibuf c line => s.modCore c (fun k => { k with
      ibFill := k.ibFill.map (fun (f : CFill) => if f.line = line then { f with bytes := some bs } else f) })
  | .gic c line => s.modCore c (fun k => { k with gicFills := fillArrives k.gicFills line bs })
  | .host id => s.hostAnswer id bs
  | .merge _ _ => s
  | .net _ => s
  | .nobody => s

/-- The acknowledgement of a write, or the completion notice of one acknowledged early (R280), reaches the requester. -/
def State.ackWrite (s : State) (src : ReqSrc) (notice : Bool) : State :=
  match src with
  | .merge d id => s.modDie d (fun k => { k with ackIn := k.ackIn ++ [(id, notice)] })
  | .store c g id => if notice then s else s.accPart c g id 0 []
  | .host id => if notice then s else s.hostAnswer id []
  | .net seg => { s with net := { s.net with ackOut := s.net.ackOut ++ [(seg, notice)] } }
  | _ => s

/-- Home `i` answers a read (R206): its bytes leave for the requester in demand positions (R173). -/
def State.sendData (s : State) (i n : Nat) (src : ReqSrc) (addr : Nat) (bs : List Byte) : State :=
  match s.srcSite src with
  | some site => s.sendDem n (.rsp src addr bs) (chunksOf bs.length) (.slice i) site
  | none => s

/-- Home `i` acknowledges a write, or sends the completion notice of one acknowledged early, on the reed channel (R280). -/
def State.sendAck (s : State) (i n : Nat) (src : ReqSrc) (notice : Bool) : State :=
  match s.srcSite src with
  | some site => s.sendReed n (.ack src notice) (.slice i) site
  | none => s

/-- A chunk of a stream counts as written (R184). -/
def State.chunkWritten (s : State) (eng desc : Nat) : State :=
  s.modEngine eng (fun e => { e with streams := e.streams.map (fun (x : Stream) =>
    if x.desc.addr = desc then { x with written := x.written + 1 } else x) })

/-! Messages and transactions -/

/-- The dies of a vector. -/
def vecDies (vec : Nat) : List Nat := setBitsOf 12 vec

/-- Send the same message from home `i` to every die of a vector. -/
def State.sendAll (s : State) (kind : CohKind) (i vec n sec : Nat) : State :=
  (vecDies vec).foldl (fun s d => s.sendMsg (.new kind (.home i) (.die d) n sec none [])) s

/-- Whether a slice has a free transaction (R254); the last four are for requests of the host port (R398). -/
def Slice.trRoom (sl : Slice) (host : Bool := false) : Bool := decide (sl.trans.length < if host then 64 else 60)

/-- The masks of the pool a requester may use: the last sixteen are for requests of the host port (R398). -/
def maskLimit (host : Bool) : Nat := if host then 1024 else 1008

/-- The read-queue entries of a channel a requester may use: the last is for fills of host reads (R398). -/
def fillLimit (host : Bool) : Nat := if host then 64 else 63

/-- The transaction of a sector. -/
def Slice.tr (sl : Slice) (line sec : Nat) : Option Trans :=
  sl.trans.find? (fun t => decide (t.line = line) && decide (t.sector = sec))

/-- Add a transaction and make its sector transient. -/
def Slice.addTr (sl : Slice) (k : Nat) (t : Trans) : Slice :=
  { sl.modWay k (fun l => l.setDir t.sector { l.dir t.sector with st := .tr }) with
    trans := sl.trans ++ [t] }

/-- Change the transaction of a sector. -/
def Slice.modTr (sl : Slice) (line sec : Nat) (f : Trans → Trans) : Slice :=
  { sl with trans := sl.trans.map (fun (t : Trans) => if t.line = line ∧ t.sector = sec then f t else t) }

/-- Open a recall of sector `sec` of the line in way `k` of slice `i` (R260 Recall): Inv to every listed
cache, RI_A. Nothing where the sector has no copies, is transient, or the table is full. -/
def State.openRecall (s : State) (i k sec : Nat) (discard : Bool) (chunks : List (Nat × Nat))
    (host : Bool := false) : State :=
  let sl := s.slice i
  let l := sl.way k
  let d := l.dir sec
  match s.sliceVd i with
  | none => s
  | some n =>
    if d.st = DState.tr ∨ d.vec = 0 ∨ ¬ sl.trRoom host then s
    else
      let s := s.setSlice i (sl.addTr k
        ⟨l.line, sec, .riA, none, if d.st = DState.em then (vecDies d.vec).head? else none, popcount 12 d.vec, false,
          discard, false, chunks⟩)
      s.sendAll .inv i d.vec n (16 * l.line + sec)

/-- Open a recall of every sector of a line that has copies. -/
def State.recallLine (s : State) (i k : Nat) (discard : Bool) : State :=
  (((s.slice i).way k).copies).foldl (fun s sec => s.openRecall i k sec discard []) s

/-- Whether no die cache holds or awaits a copy of any sector of a line. -/
def Line.noCopies (l : Line) : Bool := l.dirs.all (fun e => decide (e.2.st = .i) && decide (e.2.vec = 0))

/-- Put a line number into a dead-read filter of 256, oldest out first (R220). -/
def pushFilter (f : List Nat) (l : Nat) : List Nat :=
  let f := f.erase l ++ [l]
  f.drop (f.length - 256)

/-- Finish a drop (R219): every sector to I, every mask back, no write-back, the line number into the
dead-read filter, DROPS counted. -/
def State.finishDrop (s : State) (i k : Nat) : State :=
  let sl := s.slice i
  let l := sl.way k
  let s := s.setSlice i { sl.setWay k Line.none with filter := pushFilter sl.filter l.line }
  match s.sliceVd i with
  | some n => s.bump (Reg.cacheVdDrops n)
  | none => s

/-- Begin the drop of a dead line (R219): HELD, copies invalidated with their data discarded; it ends at once
where there are none. A BUSY line only sets DEADPEND (R228); one that is HELD already is left to what holds it (R237). -/
def State.startDrop (s : State) (i k : Nat) : State :=
  let sl := s.slice i
  let l := sl.way k
  if l.held then s
  else if ¬ l.ops.isEmpty then s.setSlice i (sl.modWay k (fun l => { l with deadpend := true }))
  else if l.noCopies then s.finishDrop i k
  else (s.setSlice i (sl.modWay k (fun l => { l with held := true, dropping := true }))).recallLine i k true

/-- Move an evicted line to the write-back buffer, its D and P sectors to be written (R212, R213). -/
def Slice.toWb (sl : Slice) (k : Nat) : Slice :=
  let l := sl.way k
  let dirty := l.secs.filter (fun e => decide (e.2.st = .d) || decide (e.2.st = .p))
  { sl.setWay k Line.none with
    wbuf := if dirty.isEmpty then sl.wbuf else sl.wbuf ++ [⟨l.line, dirty, l.data⟩] }

/-- Whether the running maintenance operation holds a line: what else happens to it waits until it is released (R237). -/
def State.maintHolds (s : State) (i line : Nat) : Bool :=
  s.maint.any (fun m => m.holds && decide (m.left.head? = some (i, line)))

/-- What a line that is HELD to leave waits for goes on (R212, R219, R233, R255): copies that have not been asked for are
recalled; with none left it is dropped, discarded once its operations are applied, or moved to the write-back buffer. -/
def State.settleLine (s : State) (i k : Nat) : State :=
  let l := (s.slice i).way k
  if ¬ l.valid ∨ ¬ (l.evicting ∨ l.dropping ∨ l.discarding) ∨ s.maintHolds i l.line then s
  else if ¬ l.noCopies then s.recallLine i k (l.dropping || l.discarding)
  else if l.discarding then
    if l.ops.isEmpty ∧ ¬ l.anyFilling then s.modSlice i (fun sl => sl.setWay k Line.none) else s
  else if l.dropping then s.finishDrop i k
  else if (s.slice i).wbuf.length < 8 then s.setSlice i ((s.slice i).toWb k)
  else s

/-- The recall that a landed chunk still has to open (R262): it joins a transaction that has begun meanwhile, it opens
once the table has room, and where no copy is left the chunk counts as written. -/
def State.openOwed (s : State) (i : Nat) (o : Nat × Nat × List (Nat × Nat)) : State :=
  let s' := s.modSlice i (fun sl => { sl with owed := sl.owed.erase o })
  let done := o.2.2.foldl (fun s x => s.chunkWritten x.1 x.2) s'
  match (s.slice i).find o.1 with
  | none => done
  | some k =>
    let d := ((s.slice i).way k).dir o.2.1
    if d.st = DState.tr then
      s'.modSlice i (fun sl => sl.modTr o.1 o.2.1 (fun t => { t with
        stream := true, discard := true, chunks := t.chunks ++ o.2.2 }))
    else if d.vec = 0 then done
    else if (s.slice i).trRoom then s'.openRecall i k o.2.1 true o.2.2
    else s

/-- A transaction of a slice has ended, or a place of its write-back buffer is free: what waited for that goes on
(R212, R255). -/
def State.settleSlice (s : State) (i : Nat) : State :=
  let s := (s.slice i).owed.foldl (fun s o => s.openOwed i o) s
  ((s.slice i).lines.filter (fun (e : Nat × Line) => e.2.held)).foldl (fun s e => s.settleLine i e.1) s

/-- End the transaction of a sector with the directory state the table gives (R260). With STREAM set, the
caches it would leave listed are invalidated first, as RI_A with DISCARD (R262). -/
def State.endTr (s : State) (i k sec : Nat) (d : Dir) : State :=
  let sl := s.slice i
  let l := sl.way k
  match sl.tr l.line sec with
  | none => s
  | some t =>
    if t.stream ∧ d.vec ≠ 0 then
      let s := s.setSlice i ((sl.modTr l.line sec (fun t => { t with
          kind := .riA, req := none, acks := popcount 12 d.vec, discard := true, stream := false })).modWay k
        (fun l => l.setDir sec ⟨.tr, d.vec⟩))
      match s.sliceVd i with
      | some n => s.sendAll .inv i d.vec n (16 * l.line + sec)
      | none => s
    else
      let s := s.setSlice i { sl.modWay k (fun l => l.setDir sec d) with
        trans := sl.trans.filter (fun t => !(decide (t.line = l.line) && decide (t.sector = sec))) }
      let s := t.chunks.foldl (fun s c => s.chunkWritten c.1 c.2) s
      s.settleSlice i

/-! Fetches -/

/-- Ask the home channel for a sector (R209): FILLING sets. Nothing where the sector already fills, 32
lines fill, or the channel's read queue is full. -/
def State.startFill (s : State) (i k sec : Nat) (host : Bool := false) : State :=
  let sl := s.slice i
  let l := sl.way k
  match s.sliceVd i with
  | none => s
  | some n =>
    match s.lineKey n l.line with
    | none => s
    | some (ch, _) =>
      if (l.sec sec).filling ∨ (¬ l.anyFilling ∧ 32 ≤ sl.fillingLines) ∨ fillLimit host ≤ (s.chan ch).reads.length then s
      else
        (s.setSlice i (sl.modWay k (fun l => l.setSec sec { l.sec sec with filling := true }))).modChan ch
          (fun c => c.addRead i n l.line sec)

/-- A read that needs a sector in I of a line in the dead-read filter counts as a dead read (R220). -/
def State.deadRead (s : State) (i line : Nat) : State :=
  match s.sliceVd i with
  | none => s
  | some n =>
    if (s.slice i).filter.contains line then
      let s := s.bump (Reg.cacheVdDeadread n)
      if s.regBit (Reg.cacheVdCtrl n) 0 then s.event n 0x20 (line * 4096) else s
    else s

/-- Whether a sector has every byte (V or D). -/
def Line.full (l : Line) (sec : Nat) : Bool :=
  decide ((l.sec sec).st = .v) || decide ((l.sec sec).st = .d)

/-- A line has lost a sector: with every sector in I it is gone (R204); a line that is dead now is dropped
(R219). DEDUCED: it stays while die caches have copies, whose directory entries it holds (log entry 51). -/
def State.afterLoss (s : State) (i k : Nat) : State :=
  let l := (s.slice i).way k
  if l.held then s
  else if l.allI ∧ l.ops.isEmpty ∧ l.noCopies then s.modSlice i (fun sl => sl.setWay k Line.none)
  else if l.isDead then s.startDrop i k
  else s

/-- Whether a sector of a line has a home operation queued. -/
def Line.opsOn (l : Line) (sec : Nat) : Bool := l.ops.any (fun o => decide (secIdx o.addr = sec))

/-- Whether the write-back buffer holds an older copy of a line. -/
def Slice.inWbuf (sl : Slice) (line : Nat) : Bool := sl.wbuf.any (fun w => decide (w.line = line))

/-- Free a mask (R208): the sector in P that entered it earliest, without fill or queued operation, is
written back under its mask and goes to I; MASKEVICT counts. Nothing where none is evictable or the
channel's write queue is full; a line that leaves without write-back gives its masks up by itself, and an older copy of the
line in the write-back buffer goes first. -/
def State.evictMask (s : State) (i : Nat) : State :=
  let sl := s.slice i
  match s.sliceVd i with
  | none => s
  | some n =>
    let cands := sl.lines.flatMap (fun (e : Nat × Line) =>
      if e.2.dropping ∨ e.2.discarding ∨ sl.inWbuf e.2.line then []
      else
        (e.2.secs.filter (fun (x : Nat × Sector) => decide (x.2.st = .p) && !x.2.filling && !e.2.opsOn x.1)).map
          (fun (x : Nat × Sector) => (x.2.since, e.1, x.1)))
    let oldest := minN 0 (cands.map (·.1))
    match cands.find? (fun x => decide (x.1 = oldest)) with
    | none => s
    | some (_, k, sec) =>
      let l := sl.way k
      match s.lineKey n l.line with
      | none => s
      | some (ch, key) =>
        if 32 ≤ (s.chan ch).writes.length then s
        else
          let w : ChWrite := ⟨n, l.line, sec, key + 256 * sec, (l.sec sec).mask, l.bytes sec, 0⟩
          (((s.modChan ch (fun c => c.addWrites [w])).setSlice i
            (sl.modWay k (fun l => l.dropSec sec))).bump (Reg.cacheVdMaskevict n)).afterLoss i k

/-- Serve a write into a line (R206, R207, R220): its line number leaves the dead-read filter. -/
def State.landBytes (s : State) (i k sec : Nat) (bs : List (Nat × Byte)) (keepDead : Bool := false) : State :=
  let sl := s.slice i
  let l := sl.way k
  s.setSlice i { sl.modWay k (fun l => l.write sec sl.clock bs keepDead) with
    clock := sl.clock + 1, filter := sl.filter.erase l.line }

/-! Requests -/

/-- Whether two requests share a byte. -/
def HReq.overlaps (a b : HReq) : Bool :=
  decide (a.addr < b.addr + b.len) && decide (b.addr < a.addr + a.len)

/-- Whether a request is the refill of a whole line for the streams of its slice (R209, R210). -/
def HReq.refill (r : HReq) : Bool := decide (r.src = .nobody) && decide (r.len = 4096)

/-- Request `i` of a queue with no older request that shares a byte with it (R199, R279); refills are served in their own
order (R210). -/
def firstOver (rs : List HReq) (i : Nat) : Option HReq :=
  match rs[i]? with
  | none => none
  | some r =>
    if (rs.take i).any (fun q => (q.refill == r.refill) && (q.refill || q.overlaps r)) then none else some r

/-- A contained device's homes accept no new request of it (R233); those of the host port and of the network port are turned
away where they enter (R401). -/
def State.refuses (s : State) (n : Nat) (src : ReqSrc) : Bool :=
  decide ((s.vd n).st = VdState.contained) && !src.isHost && !src.isNet

/-- Whether an accepted write to a sector has not been served (R279). -/
def Slice.acceptedIn (sl : Slice) (sector : Nat) : Bool :=
  sl.reqs.any (fun r => r.accepted && decide (r.addr / 256 = sector))

/-- Whether an accepted write to a line has not been served (R211). -/
def Slice.acceptedLine (sl : Slice) (line : Nat) : Bool :=
  sl.reqs.any (fun r => r.accepted && decide (r.addr / 4096 = line))

/-- Change request `i` of a slice's queue. -/
def Slice.modReq (sl : Slice) (i : Nat) (f : HReq → HReq) : Slice :=
  match sl.reqs[i]? with
  | some r => { sl with reqs := sl.reqs.set i (f r) }
  | none => sl

/-- Whether a way may be chosen as a victim (R211). -/
def Slice.eligible (sl : Slice) (k : Nat) : Bool :=
  let l := sl.way k
  l.ops.isEmpty && !l.held && !l.anyFilling && !(l.valid && sl.acceptedLine l.line)

/-! Blocks that leave a die -/

/-- Change the block of a sector. -/
def Die.modBlock (d : Die) (n sec : Nat) (f : Block → Block) : Die :=
  { d with blocks := d.blocks.map (fun (b : Block) => if b.vd = n ∧ b.sector = sec then f b else b) }

/-- Take a block off every dirty list of its die (R247). -/
def Die.offLists (d : Die) (n sec : Nat) : Die :=
  { d.modBlock n sec (fun b => { b with dirtiers := 0 }) with
    dirty := d.dirty.map (fun (x : Nat × List (Nat × Nat)) => (x.1, x.2.erase (n, sec))) }

/-- Remove the block of a sector: state I. -/
def Die.dropBlock (d : Die) (n sec : Nat) : Die :=
  let d := d.offLists n sec
  { d with blocks := d.blocks.filter (fun b => !(decide (b.vd = n) && decide (b.sector = sec))) }

/-- Whether a state is stable with data: what a victim may be (R243). -/
def BSt.stable : BSt → Bool
  | .s | .e | .m => true
  | _ => false

/-- Whether a state is an open transaction of the die (R243). -/
def BSt.open_ : BSt → Bool
  | .i | .s | .e | .m => false
  | _ => true

/-- Whether a die may open one more transaction (R243). -/
def Die.room (d : Die) : Bool := decide ((d.blocks.filter (fun b => b.st.open_)).length < 128)

/-- Send a message from die `d` to the home of a sector, by the given core port or in turn (R249). -/
def State.toHome (s : State) (kind : CohKind) (d n sec : Nat) (data : List Byte) (port : Option Nat := none) : State :=
  match s.homeSlice n (sec / 16) with
  | some i => s.sendMsg (.new kind (.die d) (.home i) n sec none data) port
  | none => s

/-- Replace or write back a stable block (R243, R247): its Put leaves, and PutM is counted. It stays on its dirty lists until it
goes to I (R271). -/
def State.putBlock (s : State) (d n sec : Nat) (port : Option Nat := none) : State :=
  match (s.die d).block n sec with
  | none => s
  | some b =>
    let off (st : BSt) (s : State) : State :=
      s.modDie d (fun k => k.modBlock n sec (fun b => { b with st := st, leave := false }))
    match b.st with
    | .s => off .siA (s.toHome .putS d n sec [] port)
    | .e => off .eiA (s.toHome .putE d n sec [] port)
    | .m => off .miA ((s.bump (Reg.cohereDiePutm d)).toHome .putM d n sec b.data port)
    | _ => s

/-- The blocks of a die that are to leave do so once they are stable, while the die has transactions free (R243, R247,
R269). -/
def State.pumpLeave (s : State) (d : Nat) : State :=
  ((s.die d).blocks.filter (fun b => b.leave && b.st.stable)).foldl (fun s b =>
    if (s.die d).room then s.putBlock d b.vd b.sector else s) s

/-- The blocks of a die that a test selects are to leave it. -/
def State.leaveDie (s : State) (d : Nat) (p : Block → Bool) : State :=
  (s.modDie d (fun k => { k with blocks := k.blocks.map (fun (b : Block) =>
    if p b then { b with leave := true } else b) })).pumpLeave d

/-! Allocation (R211, R212) -/

/-- A fresh line (R211). -/
def Line.fresh (line : Nat) : Line := { Line.none with valid := true, line := line, rrpv := 2 }

/-- The way of a new line is the lowest eligible one without data; else the lowest eligible one of RRPV 3, one without
copies first, after RRPVs have risen; its line is evicted (R211, R212). Nothing where no way is eligible, an eviction of
the set is under way, or the write-back buffer is full. -/
def State.allocate (s : State) (i ns line : Nat) : State :=
  let sl := s.slice i
  let keys := setKeys (homeSet ns line)
  let elig := keys.filter sl.eligible
  match elig.find? (fun k => (sl.way k).allI && (sl.way k).noCopies) with
  | some k => s.setSlice i (sl.setWay k (Line.fresh line))
  | none =>
    if keys.any (fun k => (sl.way k).evicting) then s
    else
      let top := (elig.map (fun k => (sl.way k).rrpv)).foldl max 0
      let sl := elig.foldl (fun sl k => sl.modWay k (fun l => { l with rrpv := min 3 (l.rrpv + (3 - top)) })) sl
      let three := elig.filter (fun k => decide ((sl.way k).rrpv = 3))
      let pick := match three.find? (fun k => (sl.way k).copies.isEmpty) with
        | some k => some k
        | none => three.head?
      match pick with
      | none => s
      | some k =>
        if ¬ (sl.way k).noCopies then
          ((s.setSlice i sl).setSlice i (sl.modWay k (fun l => { l with held := true, evicting := true }))).recallLine i k false
        else if 8 ≤ sl.wbuf.length then s
        else s.setSlice i ((sl.toWb k).setWay k (Line.fresh line))

/-! Accesses of the schedulers, the binder and the transport engine

DESIGN CHOICE: they act at the home at once, with the effect of a coherent read and of a completed write that meet nothing else
(R200, R206, R261, R275, R348; log entry 14). -/

/-- The bytes of a sector as the home would return them to a coherent read: what an owner has written, or has sent and
not delivered, unless the home discards it; else the slice, over what lies behind it, with the writes it has accepted
(R261, R279). -/
def State.homeSector (s : State) (n sec : Nat) : List Byte :=
  let l := sec / 16
  let back := s.backing n l (sec % 16)
  let home : List Byte × Bool := match s.homeSlice n l with
    | none => (back, false)
    | some i =>
      let sl := s.slice i
      let bs := match sl.find l with
        | some k => ((sl.way k).sec (sec % 16)).over ((sl.way k).bytes (sec % 16)) back
        | none => back
      ((sl.reqs.filter (fun r => r.accepted && decide (r.addr / 256 = sec))).foldl (fun bs r =>
          r.bytes.foldl (fun bs b => bs.set (b.1 % 256) b.2) bs) bs,
        (sl.tr l (sec % 16)).elim false (·.discard))
  let away := s.msgs.find? (fun m => decide (m.kind = .dataM) && decide (m.vd = n) && decide (m.sector = sec))
  let owned := s.dies.findSome? (fun d => (d.2.block n sec).bind (fun b => if b.dirty then some b.data else none))
  if home.2 then home.1
  else match away, owned with
    | some m, _ => m.data
    | none, some d => d
    | none, none => home.1

/-- `len` bytes of device memory from an address, as coherent reads. -/
def State.devRead (s : State) (n addr len : Nat) : List Byte :=
  (List.range len).map (fun i =>
    nth 0 (s.homeSector n ((addr + i) / 256)) ((addr + i) % 256))

/-- The little-endian value of `len` bytes of device memory. -/
def State.devLE (s : State) (n addr len : Nat) : Nat := leNat (s.devRead n addr len)

/-- A block that gives its copy up (`inval`), or its right to write (R259), without a word to the home; none where it has
a request of its own under way. -/
def Block.yield (b : Block) (inval : Bool) : Option (Option Block) :=
  match b.st, inval with
  | .s, true | .e, true | .m, true => some none
  | .s, false => some (some b)
  | .e, false | .m, false => some (some { b with st := .s, dirtiers := 0 })
  | .siA, true | .eiA, _ | .miA, _ => some (some { b with st := .iiA })
  | _, _ => none

/-- The copies of a sector in the dies of a vector give way at once: the dies, and the data of a dirty block. None where one of
them has a request of its own under way. -/
def State.yieldAll (s : State) (n sec vec : Nat) (inval : Bool) : Option (State × Option (List Byte)) :=
  (vecDies vec).foldl (fun r d => r.bind (fun (s, data) =>
    match (s.die d).block n sec with
    | none => none
    | some b => (b.yield inval).map (fun b' =>
      (s.modDie d (fun k => { k with
        blocks := k.blocks.filterMap (fun (x : Block) => if x.vd = n ∧ x.sector = sec then b' else some x)
        dirty := if b.st = BSt.m then k.dirty.map (fun (x : Nat × List (Nat × Nat)) => (x.1, x.2.erase (n, sec)))
          else k.dirty }),
       if b.dirty then some b.data else data)))) (some (s, none))

/-- Deal at once with the copies of a sector in way `k` of slice `i`: for a read those of an owner, for a write all
(R261). Nothing where a transaction or a request of a die is under way. -/
def State.pullCopies (s : State) (i k n sec : Nat) (inval : Bool) : State :=
  let dir := ((s.slice i).way k).dir (sec % 16)
  if dir.vec = 0 ∨ dir.st = DState.tr ∨ (dir.st = DState.s ∧ ¬ inval) then s
  else match s.yieldAll n sec dir.vec inval with
    | none => s
    | some (s, data) =>
      let s := match data with
        | some bs => s.landBytes i k (sec % 16) ((List.range 256).zip bs)
        | none => s
      let still := (vecDies dir.vec).all (fun d => ((s.die d).block n sec).any (fun b => decide (b.st = .s)))
      s.modSlice i (fun sl => sl.modWay k (fun l =>
        l.setDir (sec % 16) (if ¬ inval ∧ still then ⟨.s, dir.vec⟩ else Dir.none)))

/-- The way of slice `i` in which a line lies, allocated where it can be at once. -/
def State.bringLine (s : State) (i n line : Nat) : State :=
  match (s.slice i).find line with
  | some _ => s
  | none => s.allocate i (s.slicesOf n).length line

/-- Serve the writes that a slice has accepted into a sector (R279), acknowledged. -/
def State.settleWrites (s : State) (i k sec : Nat) : State :=
  let mine := (s.slice i).reqs.filter (fun r => r.accepted && decide (r.addr / 256 = sec))
  mine.foldl (fun s r => ((s.landBytes i k (sec % 16) (r.bytes.map (fun b => (b.1 % 256, b.2)))).modSlice i (fun sl =>
    { sl with reqs := sl.reqs.erase r })).sendAck i r.vd r.src r.early) s

/-- The effect at the home of a coherent read of a sector that is complete at once (R206, R211, R220, R261). -/
def State.seenSec (s : State) (n sec : Nat) : State :=
  let line := sec / 16
  match s.homeSlice n line with
  | none => s
  | some i =>
    let here : Bool := match (s.slice i).find line with
      | some k => decide ((((s.slice i).way k).sec (sec % 16)).st ≠ .i)
      | none => false
    let s := if here then s else s.deadRead i line
    let s := s.bringLine i n line
    match (s.slice i).find line with
    | none => s
    | some k =>
      let s := s.pullCopies i k n sec false
      let bs := s.backing n line (sec % 16)
      let whole := ((s.slice i).way k).full (sec % 16)
      s.modSlice i (fun sl => sl.modWay k (fun l =>
        if whole then { l with rrpv := 0 } else l.install (sec % 16) bs))

/-- The effect of the coherent reads of `len` bytes from an address. -/
def State.devSeen (s : State) (n addr len : Nat) : State :=
  (List.range ((addr + len + 255) / 256 - addr / 256)).foldl (fun s i => s.seenSec n (addr / 256 + i)) s

/-- Write bytes behind the lines of a home slice: into the newest copy in the write-back buffer, else into memory. -/
def State.writeBehind (s : State) (n sec : Nat) (bs : List (Nat × Byte)) : State :=
  let line := sec / 16
  let toMem (s : State) : State :=
    match s.lineKey n line with
    | some (ch, k) =>
      let s := s.performWrites ch (fun w => decide (w.key = k + 256 * (sec % 16)))
      s.memWrite ch (k + 256 * (sec % 16)) (bs.foldl (fun m b => m ||| 2 ^ b.1) 0)
        (bs.foldl (fun d b => d.set b.1 b.2) (List.replicate 256 0))
    | none => s
  match s.homeSlice n line with
  | none => toMem s
  | some i =>
    if ¬ (s.slice i).inWbuf line then toMem s
    else s.modSlice i (fun sl => { sl with wbuf := sl.wbuf.map (fun (w : WbLine) =>
      if w.line = line then
        let x := SMap.get (fun _ => Sector.empty) w.secs (sec % 16)
        let m := bs.foldl (fun m b => m ||| 2 ^ b.1) (if x.st = .p then x.mask else 0)
        let x' : Sector := if x.st = .d then x else { x with st := .p, mask := m }
        { w with secs := SMap.set (fun _ => Sector.empty) w.secs (sec % 16) x'
                 data := bs.foldl (fun d b => wr d (256 * (sec % 16) + b.1) b.2) w.data }
      else w) })

/-- Write bytes of one sector at the home, complete at once (R200, R206, R261, R279): copies give way, writes accepted
before are served, the line takes the bytes. Copies whose dies have requests under way take the bytes too. -/
def State.devWriteSec (s : State) (n sec : Nat) (bs : List (Nat × Byte)) : State :=
  let line := sec / 16
  let patch (s : State) : State := { s with dies := s.dies.map (fun (d : Nat × Die) =>
    (d.1, { d.2 with blocks := d.2.blocks.map (fun (b : Block) =>
      if b.vd = n ∧ b.sector = sec ∧ b.st ≠ BSt.i then { b with data := bs.foldl (fun d b => d.set b.1 b.2) b.data } else b) })) }
  match s.homeSlice n line with
  | none => s.writeBehind n sec bs
  | some i =>
    let s := s.bringLine i n line
    match (s.slice i).find line with
    | none => (patch s).writeBehind n sec bs
    | some k =>
      let s := patch ((s.pullCopies i k n sec true).settleWrites i k sec)
      let s := if (((s.slice i).way k).sec (sec % 16)).filling then
          let back := s.backing n line (sec % 16)
          s.modSlice i (fun sl => sl.modWay k (fun l => l.install (sec % 16) back))
        else s
      let s := if ((s.slice i).way k).needsMask (sec % 16) bs ∧ 1008 ≤ (s.slice i).masksUsed then s.evictMask i else s
      s.landBytes i k (sec % 16) bs

/-- Write bytes from a device address upward, complete at once. -/
def State.devWrite (s : State) (n addr : Nat) (bs : List Byte) : State :=
  let cells := (List.range bs.length).zip bs |>.map (fun e => (addr + e.1, e.2))
  let secs := (List.range ((addr + bs.length + 255) / 256 - addr / 256)).map (· + addr / 256)
  secs.foldl (fun s sec =>
    s.devWriteSec n sec ((cells.filter (fun c => decide (c.1 / 256 = sec))).map (fun c => (c.1 % 256, c.2)))) s

/-! Leaving a slice -/

/-- Write the D and P sectors of a line straight to memory, as the write-backs of a flush that the binder
waits for (R215, R341 MOVING), after those of the line that its channel has taken (R306). -/
def State.lineToMem (s : State) (n : Nat) (l : Line) : State :=
  match s.lineKey n l.line with
  | none => s
  | some (ch, key) =>
    let s := s.performWrites ch (fun w => decide (w.vd = n) && decide (w.line = l.line))
    l.secs.foldl (fun s e =>
      if e.2.st = SecSt.d then s.memWrite ch (key + 256 * e.1) fullMask (l.bytes e.1)
      else if e.2.st = SecSt.p then s.memWrite ch (key + 256 * e.1) e.2.mask (l.bytes e.1)
      else s) s

/-- The dirty data of every die-cache block of a device goes into its home (as PutM would) and the blocks
selected by `p` leave their die. -/
def State.purgeBlocks (s : State) (p : Nat → Block → Bool) (keep : Bool) : State :=
  let dirty := s.dies.flatMap (fun (d : Nat × Die) =>
    (d.2.blocks.filter (fun b => p d.1 b && b.dirty)))
  let s := { s with dies := s.dies.map (fun (d : Nat × Die) =>
    (d.1, { d.2 with
      blocks := d.2.blocks.filter (fun b => !p d.1 b)
      dirty := d.2.dirty.map (fun (x : Nat × List (Nat × Nat)) =>
        (x.1, x.2.filter (fun y => !(d.2.blocks.any (fun b => p d.1 b && decide (b.vd = y.1) && decide (b.sector = y.2)))))) })) }
  if keep then dirty.foldl (fun s b => s.devWriteSec b.vd b.sector ((List.range 256).zip b.data)) s else s

/-- Write every line of a slice back, what its write-back buffer holds first, and clear the slice (R215, R230 ACTION 1). -/
def State.flushSlice (s : State) (i : Nat) : State :=
  match s.sliceVd i with
  | none => s.setSlice i Slice.empty
  | some n =>
    let sl := s.slice i
    let s := sl.wbuf.foldl (fun s w => s.lineToMem n { Line.none with line := w.line, secs := w.secs, data := w.data }) s
    let s := sl.lines.foldl (fun s e => s.lineToMem n e.2) s
    s.setSlice i Slice.empty

/-- Discard every line of a device that a predicate on line numbers selects, with its die-cache copies, at once
(R324 step 1, extents that a rebind releases). -/
def State.discardLines (s : State) (n : Nat) (p : Nat → Bool) : State :=
  let s := s.purgeBlocks (fun _ b => decide (b.vd = n) && p (b.sector / 16)) false
  let s := s.settleHost (fun r => decide (r.vd = n) && decide (r.kind = .write) && p (lineOf r.addr))
  let s := s.mapReqs (fun r => if r.vd = n ∧ r.kind = ReqKind.write ∧ p (lineOf r.addr) then none else some r)
  (s.slicesOf n).foldl (fun s i =>
    s.modSlice i (fun sl => { sl with
      lines := sl.lines.filter (fun (e : Nat × Line) => !p e.2.line)
      wbuf := sl.wbuf.filter (fun (w : WbLine) => !p w.line)
      trans := sl.trans.filter (fun (t : Trans) => !p t.line) })) s

/-- The lines of a suspect extent are discarded as under ACTION 2 (R233, R269, R281): the writes into them that have not been
served are gone; each line is HELD, its copies are recalled with their data discarded, its queued operations are
applied, and it leaves. -/
def State.discardSuspect (s : State) (n : Nat) (p : Nat → Bool) : State :=
  let s := s.settleHost (fun r => decide (r.vd = n) && decide (r.kind = .write) && p (lineOf r.addr))
  let s := s.mapReqs (fun r => if r.vd = n ∧ r.kind = ReqKind.write ∧ p (lineOf r.addr) then none else some r)
  (s.slicesOf n).foldl (fun s i =>
    ((s.slice i).lines.filter (fun (e : Nat × Line) => e.2.valid && p e.2.line)).foldl (fun s e =>
      (s.modSlice i (fun sl => sl.modWay e.1 (fun l => { l with
        held := true, discarding := true, evicting := false, dropping := false }))).settleLine i e.1) s) s

end Sys2Proof.Machine
end

