-- ==== Sys2Proof/Machine/Contain.lean ====
section
/-! DEFINITION. What errors, stops and resets do (chapter Errors, containment and reporting, and the rules it names):
journal entries, stopping cores, cancelling streams, the fence, FLR of a VF, the module-wide resets, a
module-fatal error. -/

namespace Sys2Proof.Machine

/-! The journal -/

/-- The 96 bytes of a record (R513). -/
def ErrRec.bytes (r : ErrRec) : List Byte := (r.words none).flatMap (fun w => leBytes 4 w.toNat)

/-- Put an entry among those that wait to be programmed (R477). A corrected entry beyond the fourth of its
window of 10^8 ticks is withheld and counted by its class. -/
def State.journal (s : State) (kind sev cls : Nat) (body : List Byte) : State :=
  let e : JEntry := ⟨0, s.peat.jstart, s.time.toNat, kind, sev, body⟩
  let put (p : PeatSt) : PeatSt := { p with waiting := p.waiting ++ [e] }
  if sev = 0 ∧ kind = 0 then
    let p := s.peat
    let now := s.time.toNat
    if p.windowCount = 0 ∨ (p.windowAt + 100000000 ≤ now ∧ p.withheld.isEmpty) then
      { s with peat := put { p with windowCount := 1, windowAt := now } }
    else if p.windowCount < 4 then { s with peat := put { p with windowCount := p.windowCount + 1 } }
    else
      let n := ((p.withheld.find? (fun w => decide (w.1 = cls))).map (·.2)).getD 0
      { s with peat := { p with withheld := p.withheld.filter (fun w => !decide (w.1 = cls)) ++ [(cls, n + 1)] } }
  else { s with peat := put s.peat }

/-- Program an entry (R474 to R476): it takes the next SEQ and the next slot of the ring; at the end of a sector
the next sector, the oldest, is erased and its entries are counted lost. A fatal entry goes to the fatal
sector too while that has room. -/
def State.program (s : State) (e : JEntry) : State :=
  let p := s.peat
  let e := { e with seq := p.jseq }
  let pos := (p.ringPos + 1) % 32512
  let gone (x : Nat × JEntry) : Bool := decide (pos % 256 = 0) && decide (x.1 / 256 = pos / 256)
  let ring := p.ring ++ [(p.ringPos, e)]
  let lost := (ring.filter gone).length
  let fatal := if e.kind = 3 ∧ p.fatal.length < 256 then p.fatal ++ [e] else p.fatal
  let s := { s with peat := { p with
    ring := ring.filter (fun x => !gone x), ringPos := pos, fatal := fatal, jseq := (p.jseq + 1) % 2 ^ 32 } }
  let s := s.bumpFld Reg.calibJournalLost 0 32 lost
  let s := s.setReg Reg.calibJournalFirst (BitVec.ofNat 32 ((s.peat.ring.map (fun x => x.2.seq)).headD 0))
  let s := s.setReg Reg.calibJournalLast (BitVec.ofNat 32 e.seq)
  s.setReg Reg.calibJournalFatal (BitVec.ofNat 32 fatal.length)

/-! Stopping cores -/

/-- Whether an answer goes to a unit of core `c`. -/
def ReqSrc.ofCore (r : ReqSrc) (c : Nat) : Bool :=
  match r with
  | .load d _ _ => decide (d = c)
  | .store d _ _ => decide (d = c)
  | .roc d _ => decide (d = c)
  | .ibuf d _ => decide (d = c)
  | .gic d _ => decide (d = c)
  | _ => false

/-- Whether an answer goes to a group of core `c` that stays for what its issued instructions still have to do. -/
def Core.expects (k : Core) (c : Nat) (r : ReqSrc) : Bool :=
  let here (slot id : Nat) : Bool :=
    match SMap.get (fun _ => (none : Option Group)) k.gslots slot with
    | some g => g.stopped && g.out.any (fun o => decide (o.id = id / 2))
    | none => false
  match r with
  | .load d g id => decide (d = c) && here g id
  | .store d g id => decide (d = c) && here g id
  | _ => false

/-- Answers still owed to the groups and fetches of core `c` go nowhere, but to groups that stay; issued stores and
operations stay, and operations that had a Nack are on their way again (R226). -/
def State.orphan (s : State) (c : Nat) : State :=
  let k := s.core c
  let lost (r : ReqSrc) : Bool := r.ofCore c && !k.expects c r
  let cut (r : ReqSrc) : ReqSrc := if lost r then .nobody else r
  let op (o : HomeOp) : HomeOp := { o with src := cut o.src }
  let back := s.nacked.filter (fun (o : HomeOp) => lost o.src)
  let s : State := { s with
    opRsps := s.opRsps.filter (fun (r : OpRsp) => !lost r.src)
    nacked := s.nacked.filter (fun (o : HomeOp) => !lost o.src) }
  let s := (back.map op).foldl State.sendHomeOp s
  let s := s.mapReqs (fun r => some { r with src := cut r.src })
  let s := { s with
    fab := (s.fab.mapOps (fun o => some (op o))).dropAnswers lost
    slices := s.slices.map (fun (e : Nat × Slice) => (e.1, { e.2 with
      opsIn := e.2.opsIn.map op
      lines := e.2.lines.map (fun (l : Nat × Line) => (l.1, { l.2 with ops := l.2.ops.map op })) })) }
  s.modDie (dieOfCore c) (fun d => { d with
    acc := (d.acc.filter (fun a => a.store || !decide (a.core = c) || k.expects c (.load c a.slot a.id))).map
      (fun (a : DAccess) =>
        if a.core = c ∧ ¬ k.expects c (.load c a.slot a.id) then { a with id := 0 } else a) })

/-- A group that stops at its next instruction boundary (R147): it is gone, or it stays stopped while the DEVICE
parts of an issued instruction have not all left, or it waits to release its locks. -/
def Group.stop (g : Group) : Option Group :=
  let g' := { g with stopped := true, out := g.out.filter OutAcc.unsent }
  if g'.lingers then some g' else none

/-- The groups that a test selects stop (R147). -/
def Core.stopGroups (k : Core) (p : Group → Bool) : Core :=
  { k with gslots := k.gslots.filterMap (fun (e : Nat × Option Group) =>
      match e.2 with
      | some g => if p g then (g.stop).map (fun x => (e.1, some x)) else some e
      | none => none) }

/-- A core stops at its next instruction boundary (R552): nothing more issues; what has started in a queue runs on,
a FLAGSET that waits for its drain among it; what waits is discarded with its scoreboard entry, and so is an
instruction that waits for its condition; its groups stop. -/
def Core.stop (k : Core) : Core :=
  let qm := k.qm.filter (·.started)
  let qa := k.qa.filter (·.started)
  let qs := k.qs.filter (fun e => e.started && decide (bitsOf e.word 120 8 = 0x30))
  let ids := (qm ++ qa ++ qs).filterMap (·.sb_)
  let k := k.stopGroups (fun _ => true)
  { k with
    seq := if k.seq = SeqSt.idle ∨ k.seq = SeqSt.ended then k.seq else .stopped
    qm := qm, qa := qa, qg := [], qs := qs
    board := k.board.filter (fun e => ids.contains e.id)
    flagWait := none
    drain := if qs.isEmpty then none else k.drain
    kernels := [], ibFill := none, gicFills := [], rocFills := [] }

/-- The wakes on their way to a core, whose FLAGWAIT is gone, are gone (R182). -/
def State.dropWakes (s : State) (c : Nat) : State :=
  { s with fab := { s.fab.emptyReed (fun m => decide (m.body = .wake c)) with
    wakes := s.fab.wakes.filter (fun x => !decide (x = c)) } }

/-- Stop core `c`. -/
def State.stopCore (s : State) (c : Nat) : State := ((s.modCore c Core.stop).orphan c).dropWakes c

/-- Stop core `c` and discard its groups at once, as containment and FLR do (R148). -/
def State.discardCore (s : State) (c : Nat) : State :=
  ((s.modCore c (fun k => { k.stop with gslots := [] })).orphan c).dropWakes c

/-- The cores a device has now: those of a shared set while it is switched in. -/
def State.ownCores (s : State) (n : Nat) : List Nat :=
  (s.coresOf n).filter (fun c => decide (s.coreVd c = some n))

/-- Stop every core that device `n` has now, its groups discarded at once (R148, R506). -/
def State.discardCores (s : State) (n : Nat) : State := (s.ownCores n).foldl (fun s c => s.discardCore c) s

/-- Stop every core that device `n` has now. -/
def State.stopCores (s : State) (n : Nat) : State := (s.ownCores n).foldl (fun s c => s.stopCore c) s

/-- The streams of a device are cancelled (R188, R197): no chunk leaves any source, chunks on the fabric land, open
reduction entries are gone, and with `red` reduction chunks too. -/
def State.cancelNow (s : State) (n : Nat) (red : Bool) : State :=
  { s with fab := { s.fab with
      engines := s.fab.engines.filter (fun (e : Nat × EngineSt) => !decide (e.2.vd = n))
      chunks := s.fab.chunks.filter (fun (c : Chunk) => !(red && decide (c.vd = n) && c.red.isSome))
      redEntries := s.fab.redEntries.filter (fun (e : RedEntry) => !decide (e.vd = n)) } }

/-- Cancel the streams of a device from the next frame boundary on (R197): with `red` as at a fence. DESIGN CHOICE: the
spec does not say what becomes of the other streams of a job that ends by a fault; without `red` they are cancelled at
the same boundary, and their reduction chunks that are on the fabric still arrive (log entry 52). -/
def State.cancelStreams (s : State) (n : Nat) (red : Bool := true) : State :=
  if ¬ s.fab.started then s.cancelNow n red
  else { s with fab := { s.fab with
    cancels := s.fab.cancels ++ [(n, red, (s.vd n).running.elim 0 (·.epoch))] } }

/-- Whether the streams of a device wait for the boundary that cancels them. -/
def State.cancelling (s : State) (n : Nat) : Bool := s.fab.cancels.any (fun x => decide (x.1 = n))

/-- A job is to end with a status (R360); its first end stands. -/
def Job.endWith (j : Job) (status cause lcore : Nat) : Job :=
  if j.ended.isSome then j else { j with ended := some ⟨status, cause, lcore⟩ }

/-- The running job of a device is to end with a status (R360), by containment one that was taken behind it too. -/
def State.endJob (s : State) (n status cause lcore : Nat) : State :=
  s.modVd n (fun v => { v with
    running := v.running.map (fun j => j.endWith status cause lcore)
    incoming := v.incoming.map (fun j => if status = 2 then j.endWith status cause lcore else j) })

/-- The core of a faulting instruction stops issuing (R76, R552): what it has in its queues completes, but an
instruction that holds issue, a FLAGWAIT, FENCE, WAITC or CKPT, ends without completing. -/
def Core.halt (k : Core) : Core :=
  let holds (e : QEntry) : Bool := [0x31, 0x38, 0x39, 0x3F].contains (bitsOf e.word 120 8)
  let ids := (k.qs.filter holds).filterMap (·.sb_)
  { k with
    seq := .stopped
    qs := k.qs.filter (fun e => !holds e)
    board := k.board.filter (fun e => !ids.contains e.id)
    flagWait := none
    drain := none }

/-- A fault of a core's instruction or of a group (R76, R147): the record, the core stops issuing with its older
work completing, the other cores of the job stop, the job ends FAULT. A store of the core that waits for the grant of a block
is not performed (R271). -/
def State.fault (s : State) (c cause pc group lanes : Nat) : State :=
  match s.coreVd c with
  | none => s.modCore c (fun k => { k with seq := .stopped })
  | some n =>
    let l := (s.coreLogical c).getD 0x7F
    let s := s.record { ErrRec.mk0 0 1 cause c with
      vd := some n, addr := some pc, lcore := l, detail := group, lanes := lanes }
    let s := ((s.coresOf n).filter (fun d => !decide (d = c))).foldl (fun s d => s.stopCore d) s
    let s := (s.modCore c Core.halt).dropWakes c
    let s := s.modDie (dieOfCore c) (fun d => { d with
      acc := d.acc.filter (fun a => !(a.store && a.waiting && decide (a.core = c))) })
    (s.cancelStreams n false).endJob n 1 cause l

/-- A fault of the fabric that stops every core of the job (R195 0x22 and 0x23); `unit` is the core or 0x100
plus the logical base die, `addr` the descriptor's address. -/
def State.fabricFault (s : State) (n cause unit lcore addr : Nat) : State :=
  let s := s.record { ErrRec.mk0 0 1 cause unit with vd := some n, addr := some addr, lcore := lcore }
  ((s.stopCores n).cancelStreams n false).endJob n 1 cause lcore

/-! Composition results -/

/-- An operation of the binder ends with a result (R345). -/
def State.composeDone (s : State) (n result : Nat) : State :=
  (((s.setRegFld Reg.composeStatus 0 8 result).setRegFld Reg.composeStatus 16 8 n).setRegBit Reg.composeStatus 24 true)

/-- Containment or FLR of a device during its rebind (R36, R344): it is abandoned at the end of the step it is
in; where no step has gained anything yet it ends at once. -/
def State.abandon (s : State) (n : Nat) : State :=
  match s.binder.running with
  | none => s
  | some b =>
    if b.vd ≠ n then s
    else if b.st = BindState.quiescing ∨ b.st = BindState.validating then
      (({ s with binder := { s.binder with running := none } }).modVd n (fun v => { v with
        st := if v.st = VdState.rebinding then .active else v.st })).composeDone n 0x0D
    else { s with binder := { s.binder with running := some { b with abandoned := true } } }

/-! Containment -/

/-- Extents of a device become suspect (R323, R507): their lines and accepted writes are discarded (R233, R281). -/
def State.suspect (s : State) (n : Nat) (exts : List Nat) : State :=
  let logical := exts.filterMap (fun e => (s.extent e).logical)
  let s := if exts.isEmpty then s else s.discardSuspect n (fun l => logical.contains (l / 2 ^ 18))
  exts.foldl (fun s e => s.modExtent e (fun x => if x.st = ExtState.owned then { x with st := .suspect } else x)) s

/-- A release that runs for a device ends ABORTED (R510). -/
def State.abortRelease (s : State) (n : Nat) : State :=
  match s.err.release with
  | some r =>
    if r.vd = n then
      (({ s with err := { s.err with release := none } }).setRegFld Reg.errorContainStatus 0 8 4).setRegFld
        Reg.errorContainStatus 30 2 1
    else s
  | none => s

/-- The fence (R506): the device is contained, its rebind abandoned, its cores stopped, its groups and staged
segments discarded, its streams cancelled, its running job to end CONTAINED. -/
def State.fence (s : State) (n : Nat) : State :=
  let s := (s.abandon n).modVd n (fun v => { v with st := .contained, preemptReq := false })
  let s := (s.discardCores n).cancelStreams n
  let s := s.endJob n 2 0 0x7F
  { s with net := { s.net with staging := s.net.staging.filter (fun x => !decide (x.vd = n)) } }

/-- Contain device `n` (R505, R506, R510): suspect extents, the fence where it is not already contained, and one
record for each extent named (or one record where none is). An absent device has only the record. -/
def State.contain (s : State) (n : Nat) (susp named : List Nat) (r : ErrRec) : State :=
  let write (s : State) : State :=
    (if named.isEmpty then [none] else named.map some).foldl (fun s e =>
      s.record { r with sev := 1, vd := some n, ext := e }) s
  match (s.vd n).st with
  | .absent => s.record { r with sev := 1, vd := none, ext := none }
  | .contained => write ((s.suspect n susp).abortRelease n)
  | _ => write ((s.suspect n susp).fence n)

/-- Contain the owner of core `c`; a core without one writes a record that fences nothing (R505). -/
def State.containCore (s : State) (c cause syn : Nat) : State :=
  let r := { ErrRec.mk0 1 2 cause c with detail := syn, lcore := (s.coreLogical c).getD 0x7F }
  match s.coreVd c with
  | some n => s.contain n [] [] r
  | none => s.record r

/-! FLR of a VF -/

/-- Every register of VFn at its reset value but TRANSPORT_QPq_STATUS.QPN (R376, R426, R520, R525, R530). -/
def State.clearVf (s : State) (n : Nat) : State := s.clearRegs (vfKey n 0) (vfKey n 0x100000)

/-- Discard what the homes hold for a device and have not done (R233, R281): operations not applied, demand
writes not served; its dead-read filter entries and its CACHE counters clear. -/
def State.flrHomes (s : State) (n : Nat) : State :=
  let s := s.settleHost (fun r => decide (r.vd = n) && decide (r.kind = .write))
  let s := s.mapReqs (fun r => if r.vd = n ∧ r.kind = ReqKind.write then none else some r)
  let s := (s.slicesOf n).foldl (fun s i => s.modSlice i (fun sl => { sl with
    opsIn := sl.opsIn.filter (fun (o : HomeOp) => !decide (o.vd = n))
    filter := []
    lines := sl.lines.map (fun (e : Nat × Line) => (e.1, { e.2 with ops := [] })) })) s
  let s := { s with
    fab := s.fab.mapOps (fun o => if o.vd = n then none else some o)
    nacked := s.nacked.filter (fun (o : HomeOp) => !decide (o.vd = n)) }
  ((s.setReg (Reg.cacheVdDeadread n) 0).setReg (Reg.cacheVdDrops n) 0).setReg (Reg.cacheVdMaskevict n) 0

/-- FLR of VFn on the die caches (R269): merge entries are discarded; every block leaves, one with an open transaction once that
has ended. -/
def State.flrDies (s : State) (n : Nat) : State :=
  let s := { s with dies := s.dies.map (fun (d : Nat × Die) => (d.1, { d.2 with
    acc := d.2.acc.filter (fun (a : DAccess) => !decide (a.vd = n))
    merge := d.2.merge.filter (fun (m : MergeEntry) => !decide (m.vd = n))
    owed := d.2.owed.filter (fun (m : MergeEntry) => !decide (m.vd = n)) })) }
  s.dies.foldl (fun s d => s.leaveDie d.1 (fun b => decide (b.vd = n))) s

/-- FLR of VFn (R454): the streams, jobs, queue pairs, homes, die caches and registers of the device, and its
flag words; its composition stays (R336), a contained device stays contained (R507). -/
def State.flrVf (s : State) (n : Nat) : State :=
  let s := (s.abandon n).discardCores n
  let s := (s.ownCores n).foldl (fun s c => s.modCore c (fun k => { k with
    qm := [], qa := [], qs := [], board := [], drain := none })) s
  let s := s.cancelStreams n
  let words := (s.vd n).flagMap
  let s := { s with fab := { s.fab.emptyReed (fun m => match m.body with
      | .flag m => decide (m.vd = n)
      | .bell v _ _ => decide (v = n)
      | _ => false) with
    flags := s.fab.flags.filter (fun (e : Nat × W32) => !words.contains e.1)
    flagMsgs := s.fab.flagMsgs.filter (fun (m : FlagMsg) => !decide (m.vd = n))
    redRes := s.fab.redRes.filter (fun (r : RedRes) => !decide (r.vd = n)) } }
  let s := (s.flrHomes n).flrDies n
  let s := s.modVd n (fun v => { v with
    running := none, incoming := none, preempted := [], fence := none, held := false, preemptReq := false
    stamps := [], tails := [0, 0, 0, 0], phases := [true, true, true, true], acct := [0, 0, 0, 0, 0, 0, 0, 0, 0]
    unattr := [0, 0, 0], deficit := 0 })
  let s := { s with net := { s.net with
    qps := SMap.clearRange s.net.qps (64 * n) (64 * n + 64)
    staging := s.net.staging.filter (fun x => !decide (x.vd = n)) } }
  let s := { s with regs := (SMap.clearRange s.regs (Reg.cohereVdStale n) (Reg.cohereVdStale n + 8)) }
  s.clearVf n

/-! Module-wide resets -/

/-- Whether a register keeps its value through a module-wide reset other than power-on (R461, R512, R518): the
CLOCKTIME block without its RSVD_WRITES, the sticky registers, ERROR_Qs_LOST. -/
def keepsReset (k : Nat) : Bool :=
  (decide (0x160000 ≤ k) && decide (k < Reg.clocktimeRsvdWrites))
  || (decide (Reg.errorStickyStatus ≤ k) && decide (k < Reg.errorStickyRec 0 + 96))
  || decide (k = Reg.errorQLost 0) || decide (k = Reg.errorQLost 1) || decide (k = Reg.errorQLost 2)

/-- Set `k` of the firmware (0 A, 1 B). -/
def FwSt.fwset (f : FwSt) (k : Nat) : FwSet := if k = 0 then f.setA else f.setB

/-- Change set `k`. -/
def FwSt.modSet (f : FwSt) (k : Nat) (g : FwSet → FwSet) : FwSt :=
  if k = 0 then { f with setA := g f.setA } else { f with setB := g f.setB }

/-- Whether an operation belongs to a firmware update. -/
def FlashOp.isFw : FlashOp → Bool
  | .fwErase => true
  | .fwBlock _ _ => true
  | .fwStage => true
  | _ => false

/-- Whether an operation clears a bit of a trim. -/
def FlashOp.isTrim : FlashOp → Bool
  | .trim _ _ => true
  | _ => false

/-- The flash operation in progress (R465, R480): a firmware update's, else a trim, else the first. -/
def flashNow (ops : List FlashOp) : Option FlashOp :=
  match ops.find? FlashOp.isFw with
  | some o => some o
  | none =>
    match ops.find? FlashOp.isTrim with
    | some o => some o
    | none => ops.head?

/-- The valid codes of a trim (R471), in steps of 5 mV. -/
def trimCodes : List Nat := [0x00, 0x01, 0x03, 0x07, 0x0F, 0x1F, 0x3F, 0x7F]

/-- The stored calibration set with the byte of die `d`'s trim replaced (R470). -/
def PeatSt.setTrim (p : PeatSt) (d : Nat) (b : Byte) : PeatSt := { p with cal := setNth p.cal (0x7C0 + d) b }

/-- The journal after a CLEAR_JOURNAL that did not end: which sectors were erased is free (log entry 6). -/
def PeatSt.partClear (p : PeatSt) (draw : Nat) : PeatSt :=
  { p with
    ring := p.ring.filter (fun (x : Nat × JEntry) => decide (Config.freeNat (draw + x.1 / 256) % 2 = 1))
    fatal := if Config.freeNat (draw + 127) % 2 = 1 then p.fatal else [] }

/-- The flash operation in progress is cut off by a loss of power or a restart of the steward (R469, R473, R480): a record
copy in its rewrite is not valid, a calibration set in its rewrite is invalid, a trim being cleared reads its old
code, its new code or an invalid one. Those that wait are lost. -/
def State.flashCut (s : State) : State :=
  let d := s.freeCtr
  let p := s.peat
  let p := match flashNow p.ops with
    | some (.record c _) => { p with copies := setNth p.copies c [] }
    | some (.cal _) => { p with cal := leBytes 4 0 ++ (List.range 2044).map (fun i => Config.freeByte (d + i)) }
    | some (.trim die code) =>
      let old := nth 0xFF p.cal (0x7C0 + die)
      let b := Config.freeByte d
      p.setTrim die (if b ≠ code ∧ trimCodes.contains b.toNat then old else b)
    | some .clear => p.partClear d
    | _ => p
  { s with freeCtr := d + 2048, peat := { p with ops := [], retried := false, cmd := none } }

/-- An update ends with the steward (R502): a target it has begun to write and not staged is EMPTY. -/
def FwSt.cut (f : FwSt) : FwSt :=
  let writing := [FwPhase.header, .transfer, .verify, .apply].contains f.phase
  let f := if writing then f.modSet f.target (fun _ => .empty) else f
  { f with phase := .idle, report := none, mbx := none }

/-- The steward restarts (R454, R477, R502, R518): waiting records and journal entries are lost, an update, a flash
operation and a mailbox command end. -/
def State.stewardRestart (s : State) : State :=
  let unqueued := s.err.waiting ++ (s.err.handling.filter (fun h => decide (h.2 < 3))).map (·.1)
  let s := unqueued.foldl (fun s r => (s.bump (Reg.errorQLost r.sev)).nextSeq) s
  let s := s.flashCut
  { s with
    err := { s.err with waiting := [], handling := [] }
    peat := { s.peat with waiting := [], withheld := [], windowCount := 0 }
    fw := s.fw.cut }

/-- Clocks at a reset: start-up stands after step `k` at most. -/
def ClockSt.restarted (c : ClockSt) (k : Nat) : ClockSt :=
  { c with
    mode := .starting
    step := min c.step k
    gated := false
    begun := false
    downBusy := false
    offReady := false }

/-- Power at a reset of a kind (R446, R454): the energy, a trip, the THROTTLE_N assertion stay, and but for a supply reset
the supply warning. -/
def PowerSt.afterReset (p : PowerSt) (kind : Nat) : PowerSt :=
  { PowerSt.rest with
    supplyReset := p.supplyReset
    supplyWarn := p.supplyWarn && decide (kind ≠ 1)
    tripped := p.tripped
    energy := p.energy
    vin := p.vin
    throttle := p.throttle
    throttleAt := p.throttleAt
    throttleEvent := p.throttleEvent }

/-- What a module-wide reset of a kind discards (R454): virtual devices, sets, caches, queues, queue pairs and registers;
`keep` tells which registers stay. -/
def State.discard (s : State) (kind : Nat) (keep : Nat → Bool) : State :=
  { s with
    regs := s.regs.filter (fun (e : Nat × W32) => keep e.1)
    held := [], captured := []
    cores := [], fab := .reset, slices := [], dies := [], msgs := [], nacked := [], opRsps := [], maint := none, mem := []
    chans := [], pool := .empty, vds := [], sets := [], binder := ⟨none, none⟩
    host := { HostSt.rest with crs := true, sent := s.host.sent }
    net := .rest
    power := s.power.afterReset kind
    fw := { s.fw with mbx := none }
    peat := { s.peat with cmd := none }
    err := { s.err with release := none, fatal := false } }

/-- A module-wide reset of kind `kind` (R454): start-up stands before the step it runs from, or where it was if it had not
come so far. -/
def State.moduleReset (s : State) (kind : Nat) (keep : Nat → Bool) (fromStep : Nat) : State :=
  let count := satAdd 0xFFFF (s.regFld Reg.clocktimeCause 0 16) 1
  let s := s.discard kind keep
  let s : State := { s with clock := s.clock.restarted (fromStep - 1) }
  s.setReg Reg.clocktimeCause (BitVec.ofNat 32 (kind * 2 ^ 28 + count))

/-! Module-fatal errors -/

/-- The sticky registers take a fatal record, or count a later one (R512). -/
def State.sticky (s : State) (r : ErrRec) : State :=
  if s.regBit Reg.errorStickyStatus 31 then s.bumpFld Reg.errorStickyStatus 0 16 1
  else
    ((s.setRegBit Reg.errorStickyStatus 31 true).setReg Reg.errorStickyStart (BitVec.ofNat 32 s.peat.jstart)).setRegs
      (Reg.errorStickyRec 0) (r.words none)

/-- The steps of a module-fatal error before the reset (R511): clocks gated, the sticky record, PF vector 1 where the
link is up, the fatal journal entry with the count of those that wait. -/
def State.fatalRecord (s : State) (r : ErrRec) : State :=
  let r := { r with sev := 2, seq := s.err.seq, time := s.time.toNat }
  let s := s.bump (Reg.errorClassCount r.cls)
  let s := s.nextSeq
  let s := { s with err := { s.err with fatal := true }, clock := { s.clock with gated := true } }
  let s := s.sticky r
  let s := if s.regBit Reg.hostportLink 31 then s.vecPf 1 else s
  let left := s.peat.waiting.length
  s.program ⟨0, s.peat.jstart, s.time.toNat, 3, 2, r.bytes ++ leBytes 4 left⟩

/-- A module-fatal error (R511): it is recorded, and the steward performs a steward module reset with cause 6; the count of
waiting entries goes to the next start (R477). -/
def State.fatal (s : State) (r : ErrRec) : State :=
  let left := s.peat.waiting.length
  let s := (s.fatalRecord r).stewardRestart
  ({ s with peat := { s.peat with carried := left } }).moduleReset 6 keepsReset 1

end Sys2Proof.Machine
end

