-- ==== Sys2Proof/Machine/Unified.lean ====
section
/-! DEFINITION. The commands of the unified cache (chapter The unified cache) but for home operations: reads and
writes at the home, fills, allocation and write-back, maintenance, the probe. -/

namespace Sys2Proof.Machine

/-- The bytes of an access within the line that holds it. -/
def Line.slice (l : Line) (addr len : Nat) : List Byte := rdN l.data (addr % 4096) len

/-- Set the DEAD bits of the chunks of an access and RRPV 3 (R217). -/
def Line.markDead (l : Line) (addr len : Nat) : Line :=
  let lo := addr % 4096 / 64
  let hi := (addr % 4096 + len - 1) / 64
  { l with
    dead := (List.range (hi + 1 - lo)).foldl (fun d c => setBits d (lo + c) 1 1) l.dead
    rrpv := 3 }

/-- Serve a read from a line whose sector is whole (R206, R211, R217, R219). -/
def State.serveRead (s : State) (i q k : Nat) (r : HReq) : State :=
  let sl := s.slice i
  let l := sl.way k
  let bs := l.slice r.addr r.len
  let l' := if r.mark then l.markDead r.addr r.len else if r.missed then l else { l with rrpv := 0 }
  let s := s.setSlice i { sl.setWay k l' with reqs := delNth sl.reqs q }
  let s := s.sendData i r.vd r.src r.addr bs
  if r.mark ∧ l'.isDead then s.startDrop i k else s

/-- Request `q` of slice `i` finds its line missing or its sector not whole, which counts once (R211); a read that needs a
sector in I may be a dead read (R220). -/
def State.missReq (s : State) (i q : Nat) (r : HReq) (empty : Bool) : State :=
  if r.missed then s
  else
    let s := if empty then s.deadRead i (lineOf r.addr) else s
    s.modSlice i (fun sl => sl.modReq q (fun r => { r with missed := true }))

/-- Every sector of a line that is in I or P is fetched for the streams of its slice; the refill is over once all of them have
been asked for (R209, R210). -/
def State.refillLine (s : State) (i q k : Nat) : State :=
  let s := (List.range 16).foldl (fun s sec =>
    if ((s.slice i).way k).full sec then s else s.startFill i k sec) s
  let l := (s.slice i).way k
  if (List.range 16).all (fun sec => l.full sec || (l.sec sec).filling) then
    s.modSlice i (fun sl => { sl with reqs := delNth sl.reqs q })
  else s

/-- HOME_READ (R206, R209, R220, R261): request `q` of slice `i`, a read, does what it can do next: it waits for
its line, a HELD line or a fill; it fetches a sector that is not whole; a coherent read of a sector that a
die owns asks the owner; otherwise it is served. -/
def homeRead (i q : Nat) (s : State) : State :=
  let sl := s.slice i
  match firstOver sl.reqs q with
  | none => s
  | some r =>
    if r.kind = ReqKind.write ∨ s.refuses r.vd r.src ∨ s.hostWaits r then s else
    match sl.find (lineOf r.addr) with
    | none => s.missReq i q r true
    | some k =>
      let l := sl.way k
      let sec := secIdx r.addr
      if l.held then s
      else if r.refill then (s.missReq i q r (l.secs.any (fun e => decide (e.2.st = .i)))).refillLine i q k
      else if (l.sec sec).filling ∨ ¬ l.full sec then
        (s.missReq i q r (decide ((l.sec sec).st = .i))).startFill i k sec r.src.isHost
      else
        let d := l.dir sec
        match decide (r.kind = ReqKind.coherent), d.st with
        | true, .tr => s
        | true, .em =>
          let o := (vecDies d.vec).headD 0
          if sl.trRoom r.src.isHost then
            (s.setSlice i (sl.addTr k ⟨l.line, sec, .emsD, none, some o, 0, false, false, false, []⟩)).sendMsg
              (.new .fwdGetS (.home i) (.die o) r.vd (16 * l.line + sec) none [])
          else s
        | _, _ => s.serveRead i q k r

/-- HOME_WRITE (R207, R208, R261, R279, R280): request `q` of slice `i`, a write, is accepted once its line is
there and no die cache holds a copy of its sector; copies are recalled first. With EARLY_ACK the
acknowledgement leaves now. A mask that its landing will need is freed if the pool is empty. -/
def homeWrite (i q : Nat) (s : State) : State :=
  let sl := s.slice i
  match firstOver sl.reqs q with
  | none => s
  | some r =>
    if r.kind ≠ ReqKind.write ∨ r.accepted ∨ s.refuses r.vd r.src ∨ s.hostWaits r then s else
    match sl.find (lineOf r.addr) with
    | none => s.missReq i q r false
    | some k =>
      let l := sl.way k
      let sec := secIdx r.addr
      if l.held then s
      else if (l.dir sec).st = DState.tr then s
      else if (l.dir sec).vec ≠ 0 then s.openRecall i k sec false [] r.src.isHost
      else
        let s := s.setSlice i (sl.modReq q (fun r => { r with accepted := true }))
        let s := if r.early then s.sendAck i r.vd r.src false else s
        let bs := r.bytes.map (fun b => (b.1 % 256, b.2))
        if ¬ (l.sec sec).filling ∧ l.needsMask sec bs ∧ maskLimit r.src.isHost ≤ (s.slice i).masksUsed then s.evictMask i
        else s

/-- WRITE_COMPLETION (R279, R280): an accepted write is served into the data array; its acknowledgement leaves,
or the completion notice where it was acknowledged early. It waits for a line that is leaving, a fill, or a mask; a line
held by maintenance waits for it. A reserved mask that it took is refilled by mask eviction (R398). -/
def writeCompletion (i q : Nat) (s : State) : State :=
  let sl := s.slice i
  match firstOver sl.reqs q with
  | none => s
  | some r =>
    if ¬ r.accepted then s else
    match sl.find (lineOf r.addr) with
    | none => s
    | some k =>
      let l := sl.way k
      let sec := secIdx r.addr
      let bs := r.bytes.map (fun b => (b.1 % 256, b.2))
      if l.evicting ∨ l.dropping ∨ l.discarding ∨ (l.sec sec).filling then s
      else if l.needsMask sec bs ∧ maskLimit r.src.isHost ≤ sl.masksUsed then s.evictMask i
      else
        let s := s.landBytes i k sec bs
        let s := s.modSlice i (fun sl => { sl.modWay k (fun l => if r.missed then l else { l with rrpv := 0 }) with
          reqs := delNth sl.reqs q })
        let s := if 1008 < (s.slice i).masksUsed then s.evictMask i else s
        s.sendAck i r.vd r.src r.early

/-- Contain a device, or where there is none write the record that fences nothing (R505). -/
def State.containOwner (s : State) (n : Option Nat) (susp : List Nat) (r : ErrRec) : State :=
  match n with
  | some n => s.contain n susp susp r
  | none => s.record { r with sev := 1 }

/-- The pool extents behind a device address. -/
def State.extentsAt (s : State) (n addr : Nat) : List Nat := (s.extentOf n (bitsOf addr 30 18)).toList

/-- The owner of a slice is contained over a sector of a line. -/
def State.sliceContain (s : State) (i cause line sec : Nat) (suspect : Bool) : State :=
  let addr := line * 4096 + sec * 256
  let r := { ErrRec.mk0 1 4 cause i with addr := some addr }
  match s.sliceVd i with
  | some n => s.containOwner (some n) (if suspect then s.extentsAt n addr else []) r
  | none => s.containOwner none [] r

/-- A fill that fails (R234, R393): nothing is installed and the sector no longer fills; a host read of it
gets zeros. -/
def State.failFill (s : State) (i line sec : Nat) : State :=
  let sl := s.slice i
  let s := match sl.find line with
    | some k => s.setSlice i (sl.modWay k (fun l => l.setSec sec { l.sec sec with filling := false }))
    | none => s
  let mine (r : HReq) : Bool := r.src.isHost && decide (sectorOf r.addr = 16 * line + sec) && decide (r.kind ≠ ReqKind.write)
  let hit := (s.slice i).reqs.filter mine
  let s := s.modSlice i (fun sl => { sl with reqs := sl.reqs.filter (fun r => !mine r) })
  let s := hit.foldl (fun s r => s.sendData i r.vd r.src r.addr (List.replicate r.len 0)) s
  match (s.slice i).find line with
  | some k => s.settleLine i k
  | none => s

/-- Uncorrectable fill data (R234, R393, R313): nothing is installed; the requester's device is contained. A host read of a device
that is contained already adds the extent as suspect (R521). -/
def State.fillFails (s : State) (i line sec : Nat) : State :=
  let host := (s.slice i).reqs.any (fun r => r.src.isHost && decide (sectorOf r.addr = 16 * line + sec))
  let contained := match s.sliceVd i with
    | some n => decide ((s.vd n).st = VdState.contained)
    | none => false
  (s.failFill i line sec).sliceContain i 5 line sec (host && contained)

/-- FILL_COMPLETE (R209, R234): a returned sector is installed; uncorrectable data installs nothing, and data whose
sector no longer fills is not used. -/
def fillComplete (i q : Nat) (s : State) : State :=
  let sl := s.slice i
  match sl.fills[q]? with
  | none => s
  | some f =>
    let s := s.setSlice i { sl with fills := delNth sl.fills q }
    if f.bad then s.fillFails i f.line f.sector
    else
      match sl.find f.line with
      | none => s
      | some k =>
        if ¬ ((sl.way k).sec f.sector).filling then s
        else (s.modSlice i (fun sl => sl.modWay k (fun l => l.install f.sector f.bytes))).settleLine i k

/-- Whether anything at a slice needs a line that it does not hold: a request, a home operation, a coherence
message or a landing chunk (R210). -/
def State.lineWanted (s : State) (i line : Nat) : Bool :=
  let sl := s.slice i
  sl.reqs.any (fun r => decide (lineOf r.addr = line))
  || sl.opsIn.any (fun o => decide (lineOf o.addr = line))
  || s.msgs.any (fun m => m.ctl && decide (m.dst = .home i) && decide (m.sector / 16 = line)
      && (decide (m.kind = .getS) || decide (m.kind = .getM)))
  || s.fab.chunks.any (fun c => match c.dst with
      | .slice j a => decide (j = i) && decide (lineOf a = line)
      | .tile _ _ => false)

/-- Whether a rebind of a device has flushed its slices and awaits the boundary that writes its tables (R215, R341). -/
def State.committing (s : State) (n : Nat) : Bool :=
  match s.binder.running with
  | some b => decide (b.vd = n) && decide (b.st = .committing)
  | none => false

/-- LINE_ALLOCATION (R211, R212): a line that something at its home slice needs is allocated. It waits where no way is
eligible, copies must be recalled, the write-back buffer is full, or a rebind of the device is about to commit. -/
def lineAllocation (i line : Nat) (s : State) : State :=
  match s.sliceVd i with
  | none => s
  | some n =>
    if ((s.slice i).find line).isSome ∨ s.homeSlice n line ≠ some i ∨ ¬ s.lineWanted i line ∨ s.committing n then s
    else s.allocate i (s.slicesOf n).length line

/-- WRITE_BACK (R213): the oldest line of the write-back buffer sends its D and P sectors to its home channel; an eviction
that waited for its place goes on (R212). -/
def writeBack (i : Nat) (s : State) : State :=
  let sl := s.slice i
  match s.sliceVd i, sl.wbuf with
  | some n, w :: ws =>
    match s.lineKey n w.line with
    | none => (s.setSlice i { sl with wbuf := ws }).settleSlice i
    | some (ch, key) =>
      if 32 < (s.chan ch).writes.length + w.secs.length then s
      else
        let out := w.secs.map (fun (e : Nat × Sector) => (⟨n, w.line, e.1, key + 256 * e.1,
          if e.2.st = SecSt.d then fullMask else e.2.mask, rdN w.data (256 * e.1) 256, 0⟩ : ChWrite))
        ((s.setSlice i { sl with wbuf := ws }).modChan ch (fun c => c.addWrites out)).settleSlice i
  | _, _ => s

/-- DEADPEND_DROP (R228): a line with DEADPEND is dropped once its queue has drained; a write that has arrived for it goes
first (R237). -/
def deadpendDrop (i line : Nat) (s : State) : State :=
  match (s.slice i).find line with
  | none => s
  | some k =>
    let l := (s.slice i).way k
    if (s.slice i).reqs.any (fun r => decide (r.kind = .write) && decide (lineOf r.addr = line)) then s
    else if l.deadpend ∧ l.ops.isEmpty ∧ l.isDead ∧ ¬ l.held then
      (s.modSlice i (fun sl => sl.modWay k (fun l => { l with deadpend := false }))).startDrop i k
    else s

/-! Maintenance (R229 to R232) -/

/-- Whether a device range of whole lines lies within extents the device owns (R231). -/
def State.rangeOwned (s : State) (n line count : Nat) : Bool :=
  (List.range ((line + count - 1) / 2 ^ 18 - line / 2 ^ 18 + 1)).all
    (fun e => (s.extentOf n (line / 2 ^ 18 + e)).isSome)

/-- The slices and the line test of a scope (R229). -/
def maintScope (s : State) : Nat → List Nat × (Nat → Bool)
  | 0 => (s.slicesOf (s.regFld Reg.cacheOpCmd 10 8), fun _ => true)
  | 1 => ([s.regFld Reg.cacheOpCmd 0 10], fun _ => true)
  | _ =>
    let line := s.reg64 Reg.cacheOpAddr / 4096
    let count := s.regFld Reg.cacheOpLines 0 24
    (s.slicesOf (s.regFld Reg.cacheOpCmd 10 8), fun l => decide (line ≤ l) && decide (l < line + count))

/-- Whether the registers name an operation that R231 refuses. -/
def maintRefused (s : State) (action scope : Nat) : Bool :=
  let n := s.regFld Reg.cacheOpCmd 10 8
  let i := s.regFld Reg.cacheOpCmd 0 10
  let lines := s.regFld Reg.cacheOpLines 0 24
  decide (action = 3) || decide (scope = 3)
  || (decide (scope = 1) && (decide (511 < i) || decide (s.sliceHolder i = .notInService)))
  || (decide (scope ≠ 1) && decide (scope ≠ 3) && (s.slicesOf n).isEmpty)
  || (decide (scope = 2) && (decide (lines = 0)
      || !s.rangeOwned n (s.reg64 Reg.cacheOpAddr / 4096) lines))

/-- GO of a maintenance operation (R230, R231): ignored while one runs; refused, or started over every line in
scope; the line numbers in scope leave the dead-read filters (R220). DEDUCED: the bits of CACHE_OP_STATUS tell of the last
operation, so DONE and REFUSED clear when a GO is accepted. DESIGN CHOICE: the lines in scope are those that the slices
hold when GO is written; one allocated later is not handled (log entry 53). -/
def startMaint (action : Nat) (s : State) : State :=
  if s.maint.isSome then s
  else
    let scope := s.regFld Reg.cacheOpCmd 22 2
    let s := s.setRegFld Reg.cacheOpCmd 24 2 action
    if maintRefused s action scope then
      ((s.setRegFld Reg.cacheOpStatus 0 24 0).setRegFld Reg.cacheOpStatus 30 2 3).setRegBit Reg.cacheOpCmd 31 false
    else
      let sc := maintScope s scope
      let left := sc.1.flatMap (fun i => ((s.slice i).lines.filter
        (fun (e : Nat × Line) => e.2.valid && sc.2 e.2.line)).map (fun (e : Nat × Line) => (i, e.2.line)))
      let s := sc.1.foldl (fun s i => s.modSlice i (fun sl => { sl with
        filter := sl.filter.filter (fun l => !sc.2 l) })) s
      { ((s.setRegFld Reg.cacheOpStatus 0 24 0).setRegFld Reg.cacheOpStatus 30 2 0).setRegBit Reg.cacheOpCmd 31 true with
        maint := some ⟨action, scope, s.regFld Reg.cacheOpCmd 10 8, left, false⟩ }

/-- Queue the write-backs of the D and P sectors of a line, and count them (R213, R230 SECTORS). They wait for an older
copy of the line in the write-back buffer. -/
def State.maintWrite (s : State) (i n : Nat) (l : Line) : Option State :=
  let dirty := l.secs.filter (fun e => decide (e.2.st = .d) || decide (e.2.st = .p))
  if dirty.isEmpty then some s
  else if (s.slice i).inWbuf l.line then none
  else
  match s.lineKey n l.line with
  | none => some s
  | some (ch, key) =>
    if 32 < (s.chan ch).writes.length + dirty.length then none
    else
      let out := dirty.map (fun (e : Nat × Sector) => (⟨n, l.line, e.1, key + 256 * e.1,
        if e.2.st = SecSt.d then fullMask else e.2.mask, l.bytes e.1, 0⟩ : ChWrite))
      some ((s.modChan ch (fun c => c.addWrites out)).bumpFld
        Reg.cacheOpStatus 0 24 dirty.length)

/-- ACTION 0 leaves D sectors in V and P sectors in I (R229). -/
def Line.cleaned (l : Line) : Line :=
  l.secs.foldl (fun l e =>
    if e.2.st = SecSt.d then l.setSec e.1 { e.2 with st := .v }
    else if e.2.st = SecSt.p then l.dropSec e.1 else l) l

/-- Maintenance releases a line that it has written back (R229 ACTION 0): what waited for that goes on (R233, R237). -/
def State.releaseLine (s : State) (i k : Nat) : State :=
  let s := s.modSlice i (fun sl => sl.modWay k (fun l => { l.cleaned with held := l.discarding }))
  if ((s.slice i).way k).discarding then s.settleLine i k else s.afterLoss i k

/-- A running maintenance operation works on its next line (R232): it is HELD; a BUSY or filling line, and one into which
accepted writes have still to be served, waits; copies are asked for, then the action takes its effect and the line is
released. A line that leaves already is passed once it is gone (R237). -/
def maintStep (action : Nat) (s : State) : State :=
  match s.maint with
  | none => s
  | some m =>
    if m.action ≠ action then s else
    match m.left with
    | [] => s
    | (i, line) :: rest =>
      let next (s : State) : State := { s with maint := some { m with left := rest, holds := false } }
      match (s.slice i).find line, s.sliceVd i with
      | some k, some n =>
        if ((s.slice i).way k).held ∧ ¬ m.holds then s
        else
          let s := { s.modSlice i (fun sl => sl.modWay k (fun l => { l with held := true })) with
            maint := some { m with holds := true } }
          let sl := s.slice i
          let l := sl.way k
          if ¬ l.ops.isEmpty ∨ l.anyFilling ∨ sl.acceptedLine line ∨ l.dirs.any (fun e => decide (e.2.st = .tr)) then s
          else match action with
          | 0 =>
            match l.dirs.find? (fun e => decide (e.2.st = .em)) with
            | some (sec, d) =>
              let o := (vecDies d.vec).headD 0
              if sl.trRoom then
                (s.setSlice i (sl.addTr k ⟨line, sec, .emsD, none, some o, 0, false, false, false, []⟩)).sendMsg
                  (.new .fwdGetS (.home i) (.die o) n (16 * line + sec) none [])
              else s
            | none =>
              match s.maintWrite i n l with
              | none => s
              | some s => (next s).releaseLine i k
          | 1 =>
            if ¬ l.noCopies then s.recallLine i k false
            else
              match s.maintWrite i n l with
              | none => s
              | some s => next (s.modSlice i (fun sl => sl.setWay k Line.none))
          | _ =>
            if ¬ l.noCopies then s.recallLine i k true
            else next (s.modSlice i (fun sl => sl.setWay k Line.none))
      | _, _ => next s

/-- The tag entry of a line (R204), as a natural of 192 bits. -/
def Line.tagBits (l : Line) : Nat :=
  let st (x : Sector) : Nat := match x.st with | .i => 0 | .v => 1 | .d => 2 | .p => 3
  l.line * 2 ^ 156 + l.rrpv * 2 ^ 154 + b2n (!l.ops.isEmpty) * 2 ^ 153 + l.ops.length * 2 ^ 147
  + b2n l.deadpend * 2 ^ 146 + b2n l.held * 2 ^ 145 + (l.dead % 2 ^ 64) * 2 ^ 64
  + sumN ((List.range 16).map (fun i => st (l.sec i) * 2 ^ (2 * i + 32)
      + b2n (l.sec i).filling * 2 ^ (16 + i) + b2n ((l.dir i).vec != 0) * 2 ^ i))

/-- The directory bits beside a tag entry (R253), as a natural of 224 bits. -/
def Line.dirBits (l : Line) : Nat :=
  let st (x : Dir) : Nat := match x.st with | .i => 0 | .s => 1 | .em => 2 | .tr => 3
  sumN ((List.range 16).map (fun i => (st (l.dir i) * 4096 + (l.dir i).vec) * 2 ^ (14 * i)))

/-- CACHE_PROBE_CAPTURE (R236, R267): the selected tag entry and directory bits go into the probe registers;
a slice above 511 captures zeros. -/
def probeCapture (sel : W32) (s : State) : State :=
  let i := fld sel 20 10
  let l := (s.slice i).way (16 * fld sel 8 6 + fld sel 0 4)
  let tag := if i < 512 then l.tagBits else 0
  let dir := if i < 512 then l.dirBits else 0
  let s := s.setReg Reg.cacheProbeSel (sel &&& 0x3FF03F0F#32)
  let s := s.setRegs (Reg.cacheProbeTag 0) ((List.range 6).map (fun w => BitVec.ofNat 32 (bitsOf tag (32 * w) 32)))
  s.setRegs (Reg.cohereProbeDir 0) ((List.range 7).map (fun w => BitVec.ofNat 32 (bitsOf dir (32 * w) 32)))

/-! The commands -/

/-- GO of a maintenance operation (R229), where the CACHE block is served. -/
def maintGo (action : Nat) (s : State) : State := if s.pfServed Reg.cacheOpCmd then startMaint action s else s


/-- HOME_READ (R206). -/
def execHomeRead (i : Fin 512) (q : Nat) (s : State) : Out := ok (homeRead i.val q s)

/-- HOME_WRITE (R207, R279). -/
def execHomeWrite (i : Fin 512) (q : Nat) (s : State) : Out := ok (homeWrite i.val q s)

/-- WRITE_COMPLETION (R279, R280). -/
def execWriteCompletion (i : Fin 512) (q : Nat) (s : State) : Out := ok (writeCompletion i.val q s)

/-- FILL_COMPLETE (R209). -/
def execFillComplete (i : Fin 512) (q : Nat) (s : State) : Out := ok (fillComplete i.val q s)

/-- LINE_ALLOCATION (R211). -/
def execLineAllocation (i : Fin 512) (line : Nat) (s : State) : Out := ok (lineAllocation i.val line s)

/-- WRITE_BACK (R213). -/
def execWriteBack (i : Fin 512) (s : State) : Out := ok (writeBack i.val s)

/-- DEADPEND_DROP (R228). -/
def execDeadpendDrop (i : Fin 512) (line : Nat) (s : State) : Out := ok (deadpendDrop i.val line s)

/-- CACHE_OP_WRITE_BACK (R229): GO with ACTION 0, or its work on the next line. -/
def execCacheOpWriteBack (ph : Phase) (s : State) : Out :=
  ok (match ph with | .issue => maintGo 0 s | .act => maintStep 0 s)

/-- CACHE_OP_FLUSH (R229): GO with ACTION 1, or its work on the next line. -/
def execCacheOpFlush (ph : Phase) (s : State) : Out :=
  ok (match ph with | .issue => maintGo 1 s | .act => maintStep 1 s)

/-- CACHE_OP_DISCARD (R229): GO with ACTION 2, or its work on the next line. -/
def execCacheOpDiscard (ph : Phase) (s : State) : Out :=
  ok (match ph with | .issue => maintGo 2 s | .act => maintStep 2 s)

/-- CACHE_OP_END (R230, R232): with no line left DONE sets, GO and OP_BUSY read 0. -/
def execCacheOpEnd (s : State) : Out :=
  ok (match s.maint with
    | some m =>
      if m.left.isEmpty then
        { (s.setRegBit Reg.cacheOpStatus 31 true).setRegBit Reg.cacheOpCmd 31 false with maint := none }
      else s
    | none => s)

/-- CACHE_PROBE_CAPTURE (R236). -/
def execCacheProbeCapture (sel : W32) (s : State) : Out := ok (if s.pfServed Reg.cacheProbeSel then (probeCapture sel s).countRsvd Reg.cacheProbeSel sel else s)

end Sys2Proof.Machine
end

