-- ==== Sys2Proof/Machine/Channels.lean ====
section
/-! DEFINITION. The memory channels (chapter External memory on LPDDR5X): where a line lies and its check words, the order of
requests, refresh, retraining and retirement, the traffic generator. -/

namespace Sys2Proof.Machine

/-! Packages, rows and check words (R297 to R304) -/

/-- The package of a channel, and its controller (R297): four channels to each, five packages to a base die. -/
def packageOf (ch : Nat) : Nat := ch / 4

/-- The base die that drives a channel (R297). -/
def bdOfChan (ch : Nat) : Nat := ch / 20

/-- What a position of a channel holds (R300). -/
inductive ChanArea where
  | data | dataCheck | balance | balanceCheck | training
deriving DecidableEq, Repr

/-- The division of a channel (R300). -/
def areaOf (p : Nat) : ChanArea :=
  if p < 2031616 then .data
  else if p < 2063360 then .dataCheck
  else if p < 2096128 then .balance
  else if p < 2096640 then .balanceCheck
  else .training

/-- The check line and its burst that hold the check words of a data or balance position (R301). -/
def checkPlace (p : Nat) : Nat × Nat :=
  if p < 2031616 then (2031616 + p / 64, p % 64) else (2096128 + (p - 2063360) / 64, (p - 2063360) % 64)

/-- The position whose check words stand in a burst of a check line (R301). -/
def checkedBy (c k : Nat) : Nat := if c < 2063360 then (c - 2031616) * 64 + k else 2063360 + (c - 2096128) * 64 + k

/-- Bank group, bank, row and column of burst `j` of a position (R304). -/
structure BurstPlace where
  bg : Nat
  ba : Nat
  row : Nat
  col : Nat
deriving DecidableEq, Repr

/-- Where a burst lies (R304). -/
def burstPlace (p j : Nat) : BurstPlace := ⟨j % 4, (p >>> 1) % 4, p >>> 3, 16 * (p % 2) + j / 4⟩

/-- The raw burst address of burst `j` of a position, in 64 B units of the channel. DEDUCED: positions follow one another
(log entry 57). -/
def rawAt (p j : Nat) : Nat := 64 * p + j

/-- The fold of a raw burst address (R299): the XOR of its bits [26:23], [22:19], [18:15] and [14:11]. -/
def foldOf (b : Nat) : Nat := bitsOf b 23 4 ^^^ bitsOf b 19 4 ^^^ bitsOf b 15 4 ^^^ bitsOf b 11 4

/-- The check word of unit `u` of a position (R299), as memory is. -/
def State.checkWord (s : State) (ch p u : Nat) : Nat :=
  foldOf (rawAt p (2 * u)) * 4096 + (Config.secded (leNat (rdN s.mem (memKey ch p + 128 * u) 128))).toNat

/-- A burst of a check line (R301): the 32 check words of one line. DEDUCED: unit after unit (log entry 57). -/
def State.checkBurst (s : State) (ch p : Nat) : List Byte := (List.range 32).flatMap (fun u => leBytes 2 (s.checkWord ch p u))

/-! Order of requests (R306, R398) -/

/-- STATE of a channel (R316): 0 training, 1 in service, 2 retired. -/
def State.chState (s : State) (ch : Nat) : Nat := s.regFld (Reg.memctlChStatus ch) 30 2

/-- Whether a retraining window of a channel is open (R312). -/
def State.inWindow (s : State) (ch : Nat) : Bool := decide (s.time.toNat < (s.chan ch).windowEnd)

/-- Whether a channel is in service and its clocks run. -/
def State.chServes (s : State) (ch : Nat) : Bool := decide (s.chState ch = 1) && !s.clock.gated

/-- Whether a fill is one that a host read needs (R398). -/
def State.hostFill (s : State) (r : ChRead) : Bool :=
  (s.slice r.slice).reqs.any (fun q => q.src.isHost && decide (q.kind ≠ .write) && decide (q.vd = r.vd)
    && decide (sectorOf q.addr = 16 * r.line + r.sector))

/-- Whether no older write of its sector holds a fill up (R306, R212). -/
def State.fillReady (s : State) (ch : Nat) (r : ChRead) : Bool :=
  !(s.chan ch).writes.any (fun w => decide (w.seq < r.seq) && decide (w.vd = r.vd) && decide (w.line = r.line)
    && decide (w.sector = r.sector))
  && !(s.slice r.slice).wbuf.any (fun w => decide (w.line = r.line) && w.secs.any (fun x => decide (x.1 = r.sector)))

/-- Whether no older request to its sector holds a write up (R306). -/
def State.writeReady (s : State) (ch : Nat) (w : ChWrite) : Bool :=
  !(s.chan ch).writes.any (fun x => decide (x.seq < w.seq) && decide (x.key = w.key))
  && !(s.chan ch).reads.any (fun r => decide (r.seq < w.seq) && decide (r.vd = w.vd) && decide (r.line = w.line)
    && decide (r.sector = w.sector))

/-- Whether a fill that a host read needs is performed ahead of a request to a sector (R398). -/
def State.hostFirst (s : State) (ch n line sec : Nat) : Bool :=
  (s.chan ch).reads.any (fun r => s.hostFill r && s.fillReady ch r
    && !(decide (r.vd = n) && decide (r.line = line) && decide (r.sector = sec)))

/-- The device and line of the requests of one kind that a channel could perform. -/
def State.readyLines (s : State) (ch : Nat) (write : Bool) : List (Nat × Nat) :=
  if write then ((s.chan ch).writes.filter (fun w => s.writeReady ch w)).map (fun w => (w.vd, w.line))
  else ((s.chan ch).reads.filter (fun r => s.fillReady ch r)).map (fun r => (r.vd, r.line))

/-- Whether the alternation of whole lines lets a channel perform a request of a kind next (R306): the line it works on goes on
to its last request; then, with requests of the other kind queued, it is the other kind's turn. -/
def State.turnOf (s : State) (ch : Nat) (write : Bool) (at_ : Nat × Nat) : Bool :=
  match (s.chan ch).turn with
  | none => true
  | some (w, l) =>
    if w = write then decide (l = at_) || (s.readyLines ch (!write)).isEmpty
    else !(s.readyLines ch w).contains l

/-- Whether the last request of the line that a channel works on has been performed. -/
def State.lineOver (s : State) (ch : Nat) : Bool :=
  match (s.chan ch).turn with
  | none => true
  | some (w, l) => !(s.readyLines ch w).contains l

/-- The postponed REFpb commands are issued, each for the next of the eight bank pairs (R309). -/
def Channel.refresh (c : Channel) : Channel := { c with pair := (c.pair + c.postponed) % 8, postponed := 0 }

/-- Eight outstanding REFpb commands are issued ahead of a queued request (R309). -/
def State.refreshFirst (s : State) (ch : Nat) : State :=
  if 8 ≤ (s.chan ch).postponed then s.modChan ch Channel.refresh else s

/-- A request has been performed: postponed REFpb commands are issued at the last burst of its line (R309). -/
def State.served (s : State) (ch : Nat) (write : Bool) (at_ : Nat × Nat) : State :=
  let s := s.modChan ch (fun c => { c with turn := some (write, at_) })
  if s.lineOver ch then s.modChan ch Channel.refresh else s

/-- A unit read with a single error is corrected, counted and recorded (R315). -/
def State.correct (s : State) (ch : Nat) (units : List Nat) : State :=
  (units.filter (fun u => decide ((s.chan ch).fault u = .corrected))).foldl (fun s _ =>
    (s.bump (Reg.memctlChCe ch)).record (ErrRec.mk0 0 5 1 ch)) s

/-- The uncorrectable units among some, counted (R315). -/
def State.countBad (s : State) (ch : Nat) (units : List Nat) : State :=
  (units.filter (fun u => decide ((s.chan ch).fault u = .uncorrectable))).foldl (fun s _ => s.bump (Reg.memctlChUe ch)) s

/-- The two units of the sector that a fill reads (R299). -/
def State.readUnits (s : State) (r : ChRead) : List Nat :=
  match s.lineKey r.vd r.line with
  | some (_, k) => [unitOf (k + 256 * r.sector), unitOf (k + 256 * r.sector) + 1]
  | none => []

/-- CHANNEL_READ (R306, R209, R299, R315, R398): queued read `i` reads both units of its sector, with their check words, and sends
them in four demand chunks to the slice that asked; a unit that cannot be corrected makes the fill fail. -/
def execChannelRead (ch : Fin 80) (i : Nat) (s : State) : Out :=
  ok (match (s.chan ch.val).reads[i]? with
  | none => s
  | some r =>
    if ¬ s.chServes ch.val ∨ s.inWindow ch.val ∨ ¬ s.fillReady ch.val r then s
    else if ¬ s.hostFill r ∧ (s.hostFirst ch.val r.vd r.line r.sector ∨ ¬ s.turnOf ch.val false (r.vd, r.line)) then s
    else
      let units := s.readUnits r
      let bad := units.any (fun u => decide ((s.chan ch.val).fault u = .uncorrectable))
      let bs := if bad then List.replicate 256 0 else s.memSector r.vd r.line r.sector
      let s := ((s.refreshFirst ch.val).correct ch.val units).countBad ch.val units
      let s := s.modChan ch.val (fun c => { c with reads := delNth c.reads i })
      (s.sendDem r.vd (.fill r.slice ⟨r.line, r.sector, bs, bad⟩) 4 (.bd (bdOfChan ch.val)) (.slice r.slice)).served
        ch.val false (r.vd, r.line))

/-- The merge read of queued write `i` meets an uncorrectable unit (R315): the sector is not written and its data is discarded;
the owner is contained with the sector's extent as suspect. -/
def State.mergeDiscard (s : State) (ch i : Nat) (w : ChWrite) (syn : Nat) : State :=
  let addr := w.line * 4096 + w.sector * 256
  let exts := s.extentsAt w.vd addr
  ((s.countBad ch (mergeUnits w.key w.mask)).modChan ch (fun c => { c with writes := delNth c.writes i })).contain w.vd exts exts
    { ErrRec.mk0 1 5 2 ch with addr := some addr, detail := syn }

/-- CHANNEL_WRITE (R306, R307, R315): queued write `i` reads the units that its mask does not cover whole, merges, and writes the
whole sector with both its check words. -/
def execChannelWrite (ch : Fin 80) (i : Nat) (s : State) : Out :=
  ok (match (s.chan ch.val).writes[i]? with
  | none => s
  | some w =>
    if ¬ s.chServes ch.val ∨ s.inWindow ch.val ∨ ¬ s.writeReady ch.val w ∨ s.hostFirst ch.val w.vd w.line w.sector
        ∨ ¬ s.turnOf ch.val true (w.vd, w.line) then s
    else
      let s := (s.refreshFirst ch.val).correct ch.val (mergeUnits w.key w.mask)
      let s := if (s.chan ch.val).mergeFails w.key w.mask then s.mergeDiscard ch.val i w 0
        else (s.modChan ch.val (fun c => { c with writes := delNth c.writes i })).memWrite ch.val w.key w.mask w.data
      s.served ch.val true (w.vd, w.line))

/-! Refresh, temperature and retraining (R309, R312, R318) -/

/-- Whether a channel has requests queued. -/
def Channel.busy (c : Channel) : Bool := !c.reads.isEmpty || !c.writes.isEmpty

/-- REFPB (R309, R318): a refresh falls due, which begins an interval of the length MR4 asks for. During a line's bursts and in
a retraining window it is postponed, with at most eight outstanding; else it and those postponed are issued. -/
def execRefpb (ch : Fin 80) (during : Bool) (s : State) : Out :=
  ok (if ¬ s.chServes ch.val then s
  else
    let wait := s.inWindow ch.val || (during && (s.chan ch.val).busy)
    let s := if s.inWindow ch.val then s else s.setRegBit (Reg.memctlChStatus ch.val) 15 (s.chan ch.val).hotNext
    s.modChan ch.val (fun c =>
      if wait ∧ c.postponed < 8 then { c with postponed := c.postponed + 1 }
      else if wait then { c with pair := (c.pair + 1) % 8 }
      else { c with postponed := c.postponed + 1 }.refresh))

/-- MR4_READ (R309): the temperature is noted, and selects the refresh interval from the next one on. -/
def execMr4Read (ch : Fin 80) (temp : Nat) (s : State) : Out :=
  ok (if s.chState ch.val ≠ 1 then s
  else (s.setRegFld (Reg.memctlChStatus ch.val) 16 8 temp).modChan ch.val (fun c => { c with hotNext := decide (85 < temp) }))

/-- The ticks of 2 s, of 1 ms and of 600 ns (R312). -/
def retrainPeriod : Nat := 200000000
def retryDelay : Nat := 100000
def windowTicks : Nat := 60

/-- Whether a channel is due to retrain (R312): 2 s after its last retraining, or with the temperature more than 10 °C from
what it was then. -/
def State.retrainDue (s : State) (ch : Nat) : Bool :=
  let c := s.chan ch
  let t := s.regFld (Reg.memctlChStatus ch) 16 8
  decide (c.trainedAt + retrainPeriod ≤ s.time.toNat) || decide (10 < t - c.trainTemp) || decide (10 < c.trainTemp - t)

/-- Whether a window of a channel may open now (R312): after the current line, and with no other channel of its package in one. -/
def State.windowFree (s : State) (ch : Nat) : Bool :=
  s.lineOver ch && !(List.range 4).any (fun k => s.inWindow (4 * packageOf ch + k))

/-- A retraining window (R312, R318): REFpb commands due go first; it is counted. A correctable drift updates the delays; else it
is retried 1 ms later. -/
def State.window (s : State) (ch : Nat) (retry : Bool) : State :=
  let s := (s.bump (Reg.memctlChRetrains ch)).modChan ch (fun c =>
    { c.refresh with windowEnd := s.time.toNat + windowTicks, retry := retry, retryAt := s.time.toNat + retryDelay })
  if retry then s
  else s.modChan ch (fun c => { c with trainTemp := s.regFld (Reg.memctlChStatus ch) 16 8, trainedAt := s.time.toNat })

/-- RETRAINING_WINDOW (R312): a window that is due opens after the current line; beyond the correctable range it fails and
will be retried. -/
def execRetrainingWindow (ch : Fin 80) (inRange : Bool) (s : State) : Out :=
  ok (if ¬ s.chServes ch.val ∨ (s.chan ch.val).retry ∨ ¬ s.retrainDue ch.val ∨ ¬ s.windowFree ch.val then s
  else s.window ch.val (!inRange))

/-- Retirement of a channel in service (R313): queued fills fail, write-backs are discarded, every extent of a
channel set that includes it is withdrawn, and each owner is contained with a record per extent. -/
def State.retire (s : State) (ch step : Nat) : State :=
  let s := (s.setRegFld (Reg.memctlChStatus ch) 30 2 2).setRegFld (Reg.memctlChStatus ch) 8 4 step
  let reads := (s.chan ch).reads
  let s := s.modChan ch (fun c => { c with reads := [], writes := [], turn := none, retry := false, windowEnd := 0 })
  let s := reads.foldl (fun s r =>
    s.sendDem r.vd (.fill r.slice ⟨r.line, r.sector, List.replicate 256 0, true⟩) 4 (.bd (bdOfChan ch)) (.slice r.slice)) s
  let hit := s.pool.extents.filter (fun (e : Nat × Extent) => e.2.chans.contains ch && decide (e.2.st ≠ .withdrawn)
    && decide (e.2.st ≠ .none))
  let held := hit.filter (fun (e : Nat × Extent) => decide (e.2.st = .owned) || decide (e.2.st = .suspect))
  let owners := (List.range 256).filter (fun n => held.any (fun e => decide (e.2.owner = n)))
  let s := hit.foldl (fun s e => s.modExtent e.1 (fun x => { x with st := .withdrawn })) s
  let st := Reg.memctlStatus
  let s := (s.setRegFld st 16 10 (s.regFld st 16 10 - hit.length)).setRegFld st 0 7 (s.regFld st 0 7 - 1)
  let r := ErrRec.mk0 1 5 4 ch
  if owners.isEmpty then s.record r
  else owners.foldl (fun s n =>
    s.contain n [] ((held.filter (fun e => decide (e.2.owner = n))).map (·.1)) r) s

/-- RETRAINING_RETRY (R312): the retry of a failed window, 1 ms after it; a second successive failure retires the channel. -/
def execRetrainingRetry (ch : Fin 80) (inRange : Bool) (s : State) : Out :=
  ok (if ¬ s.chServes ch.val ∨ ¬ (s.chan ch.val).retry ∨ s.time.toNat < (s.chan ch.val).retryAt ∨ ¬ s.windowFree ch.val then s
  else if inRange then s.window ch.val false
  else (s.bump (Reg.memctlChRetrains ch.val)).retire ch.val 9)

/-- TRAINING_TIMEOUT (R310): a channel still in training at start-up is retired, FAIL_STEP 10, and reported. -/
def execTrainingTimeout (ch : Fin 80) (s : State) : Out :=
  ok (if s.clock.mode = .starting ∧ s.clock.step = 5 ∧ s.chState ch.val = 0 then
    ((s.setRegFld (Reg.memctlChStatus ch.val) 30 2 2).setRegFld (Reg.memctlChStatus ch.val) 8 4 10).record
      (ErrRec.mk0 1 5 3 ch.val)
  else s)

/-! The traffic generator (R317) -/

/-- The 64 bytes of a raw burst under the pattern of a run: the pattern word, the raw byte address over 4, PRBS31 (free: the spec
does not give its state for an address), a one that walks over the pins. DEDUCED: over the 16 pins of the channel, from
beat to beat (log entry 57). -/
def TgRun.data (g : TgRun) (b : Nat) : List Byte :=
  match g.pattern with
  | 0 => (List.replicate 16 (leBytes 4 g.word)).flatten
  | 1 => (List.range 16).flatMap (fun i => leBytes 4 (16 * b + i))
  | 2 => (List.range 64).map (fun i => Config.tgPrbs (max 1 g.seed) b i)
  | _ => (List.range 32).flatMap (fun t => leBytes 2 (2 ^ (t % 16)))

/-- Whether a run visits a raw burst: in its range, by its walk; random visits, and those of a run that was stopped, are free. -/
def TgRun.visits (g : TgRun) (b : Nat) : Bool :=
  decide (g.base ≤ b) && decide (b ≤ g.limit)
  && (match g.walk with
    | 1 => decide ((b - g.base) % max 1 g.stride = 0)
    | 2 => Config.tgVisits g.draw b
    | _ => true)
  && (!g.part || Config.tgVisits (g.draw + 1) b)

/-- Whether a run leaves its pattern in a raw burst (R317 MODE): 0 and 2 write, 1 does not, 3 writes some. -/
def TgRun.writes (g : TgRun) (b : Nat) : Bool :=
  g.visits b && (match g.mode with
    | 1 => false
    | 3 => Config.tgWrites g.draw b
    | _ => true)

/-- The 64 bytes of a raw burst of a channel: what the newest run that wrote it left; else the check words, data or balance
line that lie there (R300). -/
def State.rawBurst (s : State) (ch b : Nat) : List Byte :=
  match (s.chan ch).runs.find? (fun g => g.writes b) with
  | some g => g.data b
  | none =>
    let p := b / 64
    match areaOf p with
    | .dataCheck | .balanceCheck => s.checkBurst ch (checkedBy p (b % 64))
    | _ => rdN s.mem (memKey ch p + 64 * (b % 64)) 64

/-- The pins on which two bursts differ (R316 DQ): byte i travels in beat i / 2, its bits on pins 0 to 7 or 8 to 15. -/
def pinsOf (x y : List Byte) : Nat :=
  (x.zip y).zipIdx.foldl (fun m e => m ||| ((e.1.1 ^^^ e.1.2).toNat * (if e.2 % 2 = 0 then 1 else 256))) 0

/-- The bursts that a run reads and finds other than its pattern, with the pins: those it visits and does not write, where
memory holds something else. -/
def State.tgFinds (s : State) (ch : Nat) (g : TgRun) : List (Nat × Nat) :=
  if g.mode = 0 ∨ g.mode = 2 then []
  else
    (((List.range (g.limit + 1 - g.base)).map (· + g.base)).filter (fun b => g.visits b && !g.writes b)).filterMap (fun b =>
      let d := s.rawBurst ch b
      if d = g.data b then none else some (b, pinsOf d (g.data b)))

/-- Whether a GO of the manager is refused (R317): the channel is not retired, the range is empty, the stride
is 0 for WALK 1, or WALK holds its reserved code. -/
def State.tgRefused (s : State) (ch : Nat) : Bool :=
  let walk := s.regFld (Reg.memctlChTgCtrl ch) 24 2
  decide (s.chState ch ≠ 2)
  || decide (s.regFld (Reg.memctlChTgLimit ch) 0 27 < s.regFld (Reg.memctlChTgBase ch) 0 27)
  || (decide (walk = 1) && decide (s.regFld (Reg.memctlChTgStride ch) 0 27 = 0))
  || decide (walk = 3)

/-- The run that the registers of a channel ask for. -/
def State.tgRunOf (s : State) (ch draw : Nat) : TgRun :=
  let f := s.regFld
  let ctrl := Reg.memctlChTgCtrl ch
  ⟨f (Reg.memctlChTgBase ch) 0 27, f (Reg.memctlChTgLimit ch) 0 27, f (Reg.memctlChTgStride ch) 0 27, f ctrl 24 2, f ctrl 28 2,
    f ctrl 26 2, f (Reg.memctlChTgSeed ch) 0 32, f (Reg.memctlChTgPattern ch) 0 32, f (Reg.memctlChTgPasses ch) 0 16, draw, false⟩

/-- GO of the traffic generator. DESIGN CHOICE: the run is what the registers ask for at GO (log entry 57). DEDUCED: REFUSED tells of
the last GO, so an accepted one clears it. -/
def State.tgStart (s : State) (ch : Nat) : State :=
  let st := Reg.memctlChTgStatus ch
  if s.regBit st 29 then s
  else if s.tgRefused ch then (s.setRegBit st 30 true).setRegBit (Reg.memctlChTgCtrl ch) 31 false
  else
    let d := s.freeCtr
    let g := s.tgRunOf ch d
    let s := ((s.setReg (Reg.memctlChTgErrAddr ch) 0).setReg (Reg.memctlChTgErrBits ch) 0).setRegBit st 31 false
    let s := (((s.setRegBit st 30 false).setRegBit st 28 false).setRegBit st 29 true).setRegBit (Reg.memctlChTgCtrl ch) 31 true
    ({ s with freeCtr := d + 2 }).modChan ch (fun c => { c with tg := some g })

/-- The end of a run: DONE, with the bursts that mismatched. -/
def State.tgEnd (s : State) (ch : Nat) (bad : List (Nat × Nat)) (trainFail : Bool) : State :=
  let st := Reg.memctlChTgStatus ch
  let s := s.bumpFld (Reg.memctlChTgErrors ch) 0 32 bad.length
  let s := match bad with
    | [] => s
    | b :: _ =>
      if s.regBit (Reg.memctlChTgErrAddr ch) 31 then s
      else s.setReg (Reg.memctlChTgErrAddr ch) (BitVec.ofNat 32 (2 ^ 31 + b.1 % 2 ^ 27))
  let bits := bad.foldl (fun m b => m ||| b.2 % 65536) (s.regFld (Reg.memctlChTgErrBits ch) 0 16)
  let s := s.setRegFld (Reg.memctlChTgErrBits ch) 0 16 bits
  (((s.setRegBit st 28 trainFail).setRegBit st 29 false).setRegBit st 31 true).setRegBit (Reg.memctlChTgCtrl ch) 31 false

/-- A run is over: what it wrote stands in the raw bursts. -/
def Channel.ranTg (c : Channel) (part : Bool) : Channel :=
  match c.tg with
  | none => c
  | some g => { c with tg := none, runs := if g.mode = 1 then c.runs else { g with part := part } :: c.runs }

/-- TG_GO (R317). -/
def execTgGo (ch : Fin 80) (s : State) : Out := ok (if s.pfServed (Reg.memctlChTgCtrl ch.val) then s.tgStart ch.val else s)

/-- STOP of a running generator: the run ends with DONE. Which bursts had been visited and had mismatched by then the command
does not say: they are free values (log entry 6); a run that only writes finds none. -/
def State.tgStop (s : State) (ch : Nat) : State :=
  if ¬ s.regBit (Reg.memctlChTgStatus ch) 29 then s
  else
    let reads := match (s.chan ch).tg with
      | some g => decide (g.mode ≠ 0)
      | none => true
    let d := s.freeCtr
    let s := ({ s with freeCtr := d + 3 }).modChan ch (fun c => c.ranTg true)
    let count := Config.freeNat d % 2 ^ 32
    if reads = false ∨ count = 0 then s.tgEnd ch [] false
    else (s.bumpFld (Reg.memctlChTgErrors ch) 0 32 (count - 1)).tgEnd ch
      [(Config.freeNat (d + 1) % 2 ^ 27, Config.freeNat (d + 2) % 65536)] false

/-- TG_STOP (R317). -/
def execTgStop (ch : Fin 80) (s : State) : Out := ok (if s.pfServed (Reg.memctlChTgCtrl ch.val) then s.tgStop ch.val else s)

/-- TG_RUN_END (R317): the passes are complete, or training failed before the first. The mismatches are those the run finds in what
memory holds, in every pass, and those that the failing channel adds, which the command names; a run that only writes has
none. Without a number of passes the run goes on until STOP. -/
def execTgRunEnd (ch : Fin 80) (mismatches : List (Nat × BitVec 16)) (trainFail : Bool) (s : State) : Out :=
  ok (match (s.chan ch.val).tg with
  | none => s
  | some g =>
    if trainFail then (s.modChan ch.val (fun c => { c with tg := none })).tgEnd ch.val [] true
    else if g.passes = 0 then s
    else
      let own := s.tgFinds ch.val g
      let bad := if g.mode = 0 then []
        else (List.replicate g.passes own).flatten ++ mismatches.map (fun m => (m.1, m.2.toNat))
      (s.modChan ch.val (fun c => c.ranTg false)).tgEnd ch.val bad false)

end Sys2Proof.Machine
end

