-- ==== Sys2Proof/Machine/HostConfig.lean ====
section
/-! DEFINITION. What the functions of the host port show in configuration space and in their component registers (chapter The host
port): the features of CXL 3.1 in use, device IDs, the DVSEC for CXL Devices, the CDAT. -/

namespace Sys2Proof.Machine

/-! Features (R380) -/

/-- Features of CXL 3.1 and of the PCIe base it rests on (R380). -/
inductive CxlFeature where
  | io | mem | cache | hdmD | hdmDB | backInvalidate | multiLogical | multiHeaded | dynamicCapacity | sharing | fabricAttached
  | flit256 | flit256Opt | flit68 | rate64 | rate32 | rate16 | x16 | x8 | x4 | l0s | l1 | l0p | aspm | ide | tsp | viral | poison
  | metadata | persistentFlush | doeCdat | spdm | mctp
deriving DecidableEq, Repr

/-- Whether the port supports a feature; one that it does not support it never advertises or negotiates (R380). -/
def CxlFeature.supported : CxlFeature → Bool
  | .io | .mem | .flit256 | .flit256Opt | .flit68 | .rate64 | .rate32 | .rate16 | .x16 | .x8 | .x4 | .doeCdat | .mctp => true
  | _ => false

/-- The flits of a link (R380): 256 B flits wherever the host port offers them, in the latency-optimised form where it offers that
too; 68 B flits with a host port without 256 B flits, at 32 GT/s or lower. -/
def flitsInUse (offers256 offersOpt : Bool) : Bool × Bool := (offers256, offers256 && offersOpt)

/-! Configuration space (R383) -/

/-- Configuration structures of a function (R383). -/
inductive CfgStruct where
  | type0 | pcieEndpoint | powerManagement | msix | aer | ari | sriov | dvsecCxl | dvsecNonCxlMap | dvsecFlexBus
  | dvsecRegLocator | doeCdat | acs | ats | pri | pasid | ptm | ltr | tph | resizableBar | expansionRom
deriving DecidableEq, Repr

/-- Whether the PF carries a structure, and whether a VF does (R383). -/
def CfgStruct.onPf : CfgStruct → Bool
  | .type0 | .pcieEndpoint | .powerManagement | .msix | .aer | .ari | .sriov | .dvsecCxl | .dvsecNonCxlMap | .dvsecFlexBus
  | .dvsecRegLocator | .doeCdat => true
  | _ => false
def CfgStruct.onVf : CfgStruct → Bool
  | .type0 | .pcieEndpoint | .msix | .aer | .ari => true
  | _ => false

/-- Device IDs of the PF and of a VF, and the class code (R383). -/
def pfDeviceId : Nat := 0x4B96
def vfDeviceId : Nat := 0x4B97
def classCode : Nat := 0x120000

/-- The revision ID (R383): the stepping of IDENT_DEVICE. -/
def Factory.revisionId (f : Factory) : Nat := f.stepMajor % 16 * 16 + f.stepMinor % 16

/-- Bytes of the BARs, MSI-X vectors with the offsets of their tables and pending bits, and the VFs of SR-IOV (R383). -/
def pfBarBytes : Nat := 64 * 2 ^ 20
def vfBarBytes : Nat := 2 ^ 20
def pfVectors : Nat × Nat × Nat := (64, 0x122000, 0x123000)
def vfVectors : Nat × Nat × Nat := (8, 0xF0000, 0xF1000)
def totalVfs : Nat := 256
def initialVfs : Nat := 256

/-! The DVSEC for CXL Devices (R384) -/

/-- The values of the DVSEC for CXL Devices. -/
structure DvsecCxl where
  cacheCapable : Bool
  ioCapable : Bool
  memCapable : Bool
  hdmCount : Nat
  memHwInitMode : Bool
  viralCapable : Bool
  multipleLogicalDevice : Bool
  range1Bytes : Nat
  range1Volatile : Bool
  range2 : Bool
  memEnable : Bool
  memoryInfoValid : Bool
  memoryActive : Bool
deriving DecidableEq, Repr

/-- What the DVSEC for CXL Devices reports (R384): Memory_Info_Valid once the pool is formed, Memory_Active with
IDENT_STATUS.SERVICE. -/
def State.dvsecCxl (s : State) : DvsecCxl :=
  ⟨false, true, true, 1, false, false, false, 640 * 2 ^ 30, true, false, s.host.memEnable, s.host.memInfo,
    s.regBit Reg.identStatus 2⟩

/-! Component registers and CDAT (R385) -/

/-- Offsets, in the component registers, of the CXL Capability Header and of the RAS, Link and HDM Decoder Capabilities, and the
number of decoders. -/
def cxlCapabilities : List Nat := [0x1000, 0x1100, 0x1200, 0x1400]
def hdmDecoders : Nat := 1

/-- The component registers as State holds them: decoder 0 committed, its error bit, its size in GiB; the uncorrectable protocol
error of the RAS Capability (R385, R389, R391). -/
def State.component (s : State) : Bool × Bool × Nat × Bool := (s.host.committed, s.host.hdmErr, s.host.sizeGiB, s.host.rasLogged)

/-- The CDAT (R385): the DSMAS range, read and write latency in ns, read and write bandwidth in GB/s. -/
structure Cdat where
  dsmasBase : Nat
  dsmasBytes : Nat
  readNs : Nat
  writeNs : Nat
  readGBs : Nat
  writeGBs : Nat
deriving DecidableEq, Repr

/-- The CDAT of the device. -/
def cdat : Cdat := ⟨0, 640 * 2 ^ 30, 250, 200, 128, 128⟩

end Sys2Proof.Machine
end

