-- ==== Sys2Proof/Machine/Numerics.lean ====
section
/-! DEFINITION. Number formats and their arithmetic (chapter Number formats, block scaling and accumulation): decoding
to exact values, exact sums and products, one rounding back, the step of a DPU. -/

namespace Sys2Proof.Machine

/-- What the all-ones exponent of a format encodes (R79): finite values, one NaN code, or infinities and NaNs. -/
inductive Specials where
  | none | oneNan | ieee
deriving DecidableEq, Repr

/-- A floating-point format (R78, R79): exponent and mantissa bits, bias, reserved codes. -/
structure Fmt where
  eb : Nat
  mb : Nat
  bias : Nat
  sp : Specials
deriving DecidableEq, Repr

/-- The formats of R79. -/
def Fmt.fp4 : Fmt := ⟨2, 1, 1, .none⟩
def Fmt.e2m3 : Fmt := ⟨2, 3, 1, .none⟩
def Fmt.e3m2 : Fmt := ⟨3, 2, 3, .none⟩
def Fmt.e4m3 : Fmt := ⟨4, 3, 7, .oneNan⟩
def Fmt.e5m2 : Fmt := ⟨5, 2, 15, .ieee⟩
def Fmt.bf16 : Fmt := ⟨8, 7, 127, .ieee⟩
def Fmt.fp16 : Fmt := ⟨5, 10, 15, .ieee⟩
def Fmt.fp32 : Fmt := ⟨8, 23, 127, .ieee⟩
def Fmt.fp64 : Fmt := ⟨11, 52, 1023, .ieee⟩

/-- Bits of a code of a format. -/
def Fmt.width (f : Fmt) : Nat := 1 + f.eb + f.mb

/-- The floating-point format of a format code (R70). -/
def Fmt.ofCode : Nat → Option Fmt
  | 1 => some .e4m3
  | 2 => some .e5m2
  | 3 => some .e3m2
  | 4 => some .e2m3
  | 5 => some .fp4
  | 6 => some .bf16
  | 7 => some .fp16
  | 8 => some .fp32
  | 9 => some .fp64
  | _ => none

/-- Bits of an element of a format code (R70). -/
def codeWidth : Nat → Nat
  | 0 => 8
  | 0xA => 32
  | c => ((Fmt.ofCode c).map Fmt.width).getD 8

/-- An exact value: NaN, an infinity, or (-1)^neg m 2^e. -/
inductive FVal where
  | nan
  | inf (neg : Bool)
  | fin (neg : Bool) (m : Nat) (e : Int)
deriving DecidableEq, Repr

/-- Zero of a sign. -/
def FVal.zero (neg : Bool) : FVal := .fin neg 0 0

/-- Whether a value is a zero. -/
def FVal.isZero : FVal → Bool
  | .fin _ 0 _ => true
  | _ => false

/-- The value a code stands for (R78, R79). -/
def Fmt.dec (f : Fmt) (c : Nat) : FVal :=
  let neg := bitOf c (f.eb + f.mb)
  let e := bitsOf c f.mb f.eb
  let m := bitsOf c 0 f.mb
  let ones := decide (e = 2 ^ f.eb - 1)
  match f.sp, ones with
  | .ieee, true => if m = 0 then .inf neg else .nan
  | .oneNan, true => if m = 2 ^ f.mb - 1 then .nan else .fin neg (2 ^ f.mb + m) ((e : Int) - f.bias - f.mb)
  | _, _ =>
    if e = 0 then .fin neg m (1 - (f.bias : Int) - f.mb)
    else .fin neg (2 ^ f.mb + m) ((e : Int) - f.bias - f.mb)

/-- The magnitude code of the largest finite value (R79). -/
def Fmt.maxCode (f : Fmt) : Nat :=
  match f.sp with
  | .none => 2 ^ (f.eb + f.mb) - 1
  | .oneNan => 2 ^ (f.eb + f.mb) - 2
  | .ieee => (2 ^ f.eb - 2) * 2 ^ f.mb + (2 ^ f.mb - 1)

/-- The canonical NaN (R82); FP4 and FP6 have none and give +0 (R97). -/
def Fmt.nanCode (f : Fmt) : Nat :=
  match f.sp with
  | .none => 0
  | .oneNan => 2 ^ (f.eb + f.mb) - 1
  | .ieee => (2 ^ f.eb - 1) * 2 ^ f.mb + 2 ^ (f.mb - 1)

/-- The magnitude code of infinity. -/
def Fmt.infCode (f : Fmt) : Nat := (2 ^ f.eb - 1) * 2 ^ f.mb

/-- A code with its sign bit. -/
def Fmt.signed (f : Fmt) (neg : Bool) (c : Nat) : Nat := b2n neg * 2 ^ (f.eb + f.mb) + c

/-- Rounding modes (R95), and away from zero for the directed roundings of R126. A stochastic rounding carries the value of the DPU's generator (R96). -/
inductive RMode where
  | rne
  | rtz
  | away
  | sr (r : Nat)
deriving DecidableEq, Repr

/-- floor(log2) of a non-zero value m 2^e. -/
def ilog (m : Nat) (e : Int) : Int := (Nat.log2 m : Int) + e

/-- m 2^e as a multiple of 2^u, rounded (R95, R96). -/
def roundUnits (mode : RMode) (m : Nat) (e u : Int) : Nat :=
  if u ≤ e then m * 2 ^ (e - u).toNat
  else
    let sh := (u - e).toNat
    let lo := m / 2 ^ sh
    let rem := m % 2 ^ sh
    match mode with
    | .rne => if 2 ^ sh < 2 * rem ∨ (2 ^ sh = 2 * rem ∧ lo % 2 = 1) then lo + 1 else lo
    | .rtz => lo
    | .away => if rem ≠ 0 then lo + 1 else lo
    | .sr r => if rem ≠ 0 ∧ 65536 ≤ rem * 65536 / 2 ^ sh + r then lo + 1 else lo

/-- The exponent of the spacing of a format at a magnitude (R95: the subnormal spacing below the normals). -/
def Fmt.spacing (f : Fmt) (m : Nat) (e : Int) : Int :=
  max (ilog m e) (1 - (f.bias : Int)) - f.mb

/-- Whether m 2^e is a value of the format's grid (R96: only other values draw). -/
def Fmt.exact (f : Fmt) (m : Nat) (e : Int) : Bool :=
  let u := f.spacing m e
  decide (m = 0) || decide (u ≤ e) || decide (m % 2 ^ (u - e).toNat = 0)

/-- The magnitude code of k 2^u, a value of the format's grid, with no limit on the exponent. -/
def Fmt.pack (f : Fmt) (k : Nat) (u : Int) : Nat :=
  if k = 0 then 0
  else
    let l := ilog k u
    if l < 1 - (f.bias : Int) then k * 2 ^ (u - (1 - (f.bias : Int) - f.mb)).toNat
    else
      let n := Nat.log2 k
      let sig := if n ≤ f.mb then k * 2 ^ (f.mb - n) else k / 2 ^ (n - f.mb)
      (l + f.bias).toNat * 2 ^ f.mb + (sig - 2 ^ f.mb)

/-- Round a value into a format (R95 to R98). -/
def Fmt.enc (f : Fmt) (mode : RMode) (sat : Bool) (v : FVal) : Nat :=
  let special : Nat :=
    match f.sp with
    | .none => f.maxCode
    | .oneNan => if sat then f.maxCode else f.nanCode
    | .ieee => if sat then f.maxCode else f.infCode
  let ovf (neg : Bool) : Nat :=
    if decide (f.sp = .oneNan) && !sat then f.nanCode else f.signed neg special
  match v with
  | .nan => f.nanCode
  | .inf neg => ovf neg
  | .fin neg m e =>
    if m = 0 then f.signed neg 0
    else
      let u := f.spacing m e
      let k := roundUnits mode m e u
      let c := f.pack k u
      if c ≤ f.maxCode then f.signed neg c
      else
        match mode with
        | .rtz => f.signed neg f.maxCode
        | _ => ovf neg

/-- The exact sum of two values: IEEE 754 signs of zero for round to nearest, NaN for infinities of opposite
sign (R89, R93, R104). -/
def FVal.add (x y : FVal) : FVal :=
  match x, y with
  | .nan, _ => .nan
  | _, .nan => .nan
  | .inf a, .inf b => if a = b then .inf a else .nan
  | .inf a, _ => .inf a
  | _, .inf b => .inf b
  | .fin na ma ea, .fin nb mb eb =>
    let e := min ea eb
    let sg (n : Bool) (m : Nat) : Int := if n then -(m : Int) else m
    let s := sg na (ma * 2 ^ (ea - e).toNat) + sg nb (mb * 2 ^ (eb - e).toNat)
    if s = 0 then .zero (decide (ma = 0) && decide (mb = 0) && na && nb)
    else .fin (decide (s < 0)) s.natAbs e

/-- The exact product. -/
def FVal.mul (x y : FVal) : FVal :=
  match x, y with
  | .nan, _ => .nan
  | _, .nan => .nan
  | .inf a, .inf b => .inf (a != b)
  | .inf a, .fin b m _ => if m = 0 then .nan else .inf (a != b)
  | .fin a m _, .inf b => if m = 0 then .nan else .inf (a != b)
  | .fin a m e, .fin b n g => .fin (a != b) (m * n) (e + g)

/-- The value with its sign turned. -/
def FVal.neg : FVal → FVal
  | .nan => .nan
  | .inf a => .inf (!a)
  | .fin a m e => .fin (!a) m e

/-- A value times 2^k. -/
def FVal.scale (k : Int) : FVal → FVal
  | .fin a m e => .fin a m (e + k)
  | v => v

/-- Sum of two codes of a format with one rounding to nearest even (R104). -/
def Fmt.addc (f : Fmt) (a b : Nat) : Nat := f.enc .rne false ((f.dec a).add (f.dec b))

/-- Product of two codes with one rounding to nearest even. -/
def Fmt.mulc (f : Fmt) (a b : Nat) : Nat := f.enc .rne false ((f.dec a).mul (f.dec b))

/-- Fused multiply-add of three codes (R93). -/
def Fmt.fmac (f : Fmt) (a b c : Nat) : Nat :=
  f.enc .rne false (((f.dec a).mul (f.dec b)).add (f.dec c))

/-- Whether the first value lies below the second; both are numbers, and -0 lies below +0 (R104). -/
def FVal.below (x y : FVal) : Bool :=
  match x, y with
  | .inf a, .inf b => a && !b
  | .inf a, _ => a
  | _, .inf b => !b
  | .fin na ma ea, .fin nb mb eb =>
    let e := min ea eb
    let sg (n : Bool) (m : Nat) : Int := if n then -(m : Int) else m
    let a := sg na (ma * 2 ^ (ea - e).toNat)
    let b := sg nb (mb * 2 ^ (eb - e).toNat)
    decide (a < b) || (decide (a = b) && na && !nb)
  | _, _ => false

/-- Whether two numbers are equal; the zeros are equal. -/
def FVal.eqv (x y : FVal) : Bool :=
  match x, y with
  | .inf a, .inf b => a == b
  | .fin na ma ea, .fin nb mb eb =>
    let e := min ea eb
    let sg (n : Bool) (m : Nat) : Int := if n then -(m : Int) else m
    decide (sg na (ma * 2 ^ (ea - e).toNat) = sg nb (mb * 2 ^ (eb - e).toNat))
  | _, _ => false

/-- Minimum or maximum of two codes (R104). -/
def Fmt.minc (f : Fmt) (isMax : Bool) (a b : Nat) : Nat :=
  let x := f.dec a
  let y := f.dec b
  if x = FVal.nan ∨ y = FVal.nan then f.nanCode
  else if (if isMax then x.below y else y.below x) then b else a

/-- The least integer value of a fraction: floor of (-1)^neg m 2^e. -/
def FVal.floorInt (neg : Bool) (m : Nat) (e : Int) : Int :=
  let q : Int := if 0 ≤ e then (m * 2 ^ e.toNat : Nat) else (m / 2 ^ (-e).toNat : Nat)
  let exact := decide (0 ≤ e) || decide (m % 2 ^ (-e).toNat = 0)
  if neg then (if exact then -q else -q - 1) else q

/-- A value rounded to an integer (R95). -/
def FVal.roundInt (mode : RMode) (neg : Bool) (m : Nat) (e : Int) : Int :=
  let k : Int := roundUnits mode m e 0
  if neg then -k else k

/-- The value of an integer. -/
def FVal.ofInt (i : Int) : FVal := .fin (decide (i < 0)) i.natAbs 0

/-! One step of a DPU (R84 to R92) -/

/-- The result of the special operands of a step (R88), where one decides: NaN or an infinity. -/
def stepSpecial (bad : Bool) (ps : List FVal) : Option FVal :=
  if bad || ps.contains .nan then some .nan
  else if ps.contains (.inf false) && ps.contains (.inf true) then some .nan
  else if ps.contains (.inf false) then some (.inf false)
  else if ps.contains (.inf true) then some (.inf true)
  else none

/-- The sum of a step's products, each truncated at 2^(emax - 31) (R86): its integer and that exponent. -/
def stepSum (ps : List FVal) : Int × Int :=
  let logs := ps.filterMap (fun p => match p with
    | .fin _ m e => if m = 0 then none else some (ilog m e)
    | _ => none)
  let q := logs.foldl max (logs.headD 0) - 31
  let t (p : FVal) : Int := match p with
    | .fin n m e =>
      let k : Int := if q ≤ e then (m * 2 ^ (e - q).toNat : Nat) else (m / 2 ^ (q - e).toNat : Nat)
      if n then -k else k
    | _ => 0
  ((ps.map t).foldl (· + ·) 0, q)

/-- A non-split step into an FP32 accumulator (R86 to R89): products already scaled; `bad` tells of a NaN
operand or a scale of 0xFF. DESIGN CHOICE: where a finite product lies beyond the FP32 range (row 5 of R88), the
step result is still the sum of R86, each product truncated, and not rounded before the last rounding (log entry
49). -/
def stepFp (acc : Nat) (bad : Bool) (ps : List FVal) : Nat :=
  match stepSpecial bad ps with
  | some v => Fmt.fp32.enc .rne false ((Fmt.fp32.dec acc).add v)
  | none =>
    let s := stepSum ps
    if s.1 = 0 then acc
    else Fmt.fp32.enc .rne false ((Fmt.fp32.dec acc).add (.fin (decide (s.1 < 0)) s.1.natAbs s.2))

/-- An INT8 step into an INT32 accumulator (R90). -/
def stepInt (acc : Nat) (as bs : List Nat) : Nat :=
  wrapN 32 ((acc : Int) + ((as.zip bs).map (fun p => sext p.1 8 * sext p.2 8)).foldl (· + ·) 0)

/-! Block scales on output (R99, R100) -/

/-- emax of an output element format (R99). -/
def Fmt.emaxOut (f : Fmt) : Int :=
  match f.dec f.maxCode with
  | .fin _ m e => ilog m e
  | _ => 0

/-- The scale byte and the exponent of a block of values (R99): none where a NaN or infinity is in it. -/
def blockScale (f : Fmt) (vs : List FVal) : Option (Nat × Int) :=
  if vs.any (fun v => match v with | .fin _ _ _ => false | _ => true) then none
  else
    let logs := vs.filterMap (fun v => match v with
      | .fin _ m e => if m = 0 then none else some (ilog m e)
      | _ => none)
    if logs.isEmpty then some (0x7F, 0)
    else
      let e := max (-127) (min 127 (logs.foldl max (logs.headD 0) - f.emaxOut))
      some ((e + 127).toNat, e)

end Sys2Proof.Machine
end

