-- ==== Sys2Proof/Machine/Queues.lean ====
section
/-! DEFINITION. The queues of a device as its scheduler sees them (chapter Jobs, shares, deadlines and preemption): their
rings, the queue that is next (R351), the requests for a preemption (R368), the arrival of a doorbell (R352). -/

namespace Sys2Proof.Machine

/-- Whether queue `q` of a device is enabled, its ring size, and its indices (R348, R375). -/
def State.qOn (s : State) (n q : Nat) : Bool := s.regBit (Reg.queueSqCfg n q) 31
def State.qSize (s : State) (n q : Nat) : Nat := 2 ^ s.regFld (Reg.queueSqCfg n q) 16 5
def State.sqHead (s : State) (n q : Nat) : Nat := s.regFld (Reg.queueSqHead n q) 0 16
def State.sqTail (s : State) (n q : Nat) : Nat := s.regFld (Reg.queueSqTail n q) 0 16
def State.cqHead (s : State) (n q : Nat) : Nat := s.regFld (Reg.queueCqHead n q) 0 16
def State.cqTail (s : State) (n q : Nat) : Nat := s.regFld (Reg.queueCqTail n q) 0 16

/-- Whether the completion ring of a queue has no room (R351). -/
def State.cqFull (s : State) (n q : Nat) : Bool :=
  decide ((s.cqTail n q + 1) % s.qSize n q = s.cqHead n q)

/-- The preempted job of a queue. -/
def VDev.preemptedIn (v : VDev) (q : Nat) : Option Job := v.preempted.find? (fun j => decide (j.queue = q))

/-- Whether the head of a queue holds a preempted job or a descriptor of which the scheduler has heard (R351, R352). -/
def State.qReady (s : State) (n q : Nat) : Bool :=
  ((s.vd n).preemptedIn q).isSome || decide (s.sqHead n q ≠ nth 0 (s.vd n).tails q)

/-- The queue the scheduler takes from (R351). -/
def State.nextQueue (s : State) (n : Nat) : Option Nat :=
  (List.range 4).find? (fun q => s.qOn n q && !s.cqFull n q && s.qReady n q)

/-- The base of a queue's save area (R369). -/
def State.saveAt (s : State) (n q : Nat) : Nat := s.reg64 (Reg.queueSave n q) / 4096 * 4096 % 2 ^ 48

/-- Whether the jobs of a queue can be preempted: it has a save area (R369). -/
def State.hasSave (s : State) (n q : Nat) : Bool := decide (s.saveAt n q ≠ 0)

/-- Request a preemption of the running job (R368); ignored where its queue has no save area. -/
def State.requestPreempt (s : State) (n : Nat) : State :=
  match (s.vd n).running with
  | some j => if s.hasSave n j.queue ∧ j.ended.isNone then s.modVd n (fun v => { v with preemptReq := true }) else s
  | none => s

/-- The preemption that work at the head of a queue with PREEMPT = 1 asks for (R368). -/
def State.queuePreempt (s : State) (n : Nat) : State :=
  match (s.vd n).running with
  | some j =>
    if (List.range j.queue).any (fun q => s.qOn n q && s.regBit (Reg.queueSqCfg n q) 30 && s.qReady n q)
    then s.requestPreempt n else s
  | none => s

/-- A doorbell reaches the scheduler (R352): it knows the tail, and work may have come to the head of its queue. -/
def State.bellArrives (s : State) (n q tail : Nat) : State :=
  (s.modVd n (fun v => { v with tails := v.tails.set q tail })).queuePreempt n

/-- The base die whose scheduler serves a device (R352): that of its logical base die 0, or of its set's. -/
def State.schedulerOf (s : State) (n : Nat) : Nat :=
  let d := (s.vd n).desc
  bitsOf (if d.sharedSet = 0 then d.lbdMap else (s.set_ d.sharedSet).lbdMap) 0 2

end Sys2Proof.Machine
end

