-- ==== Sys2Proof/Machine/Transit.lean ====
section
/-! DEFINITION. How messages move on the links of the fabric (chapter The scheduled fabric): what arrives, the rotation of
the member queues (R173, R174, R176), credits (R177), causeway replay (R194). -/

namespace Sys2Proof.Machine

/-! Arrival -/

/-- A request has arrived at a home (R220): the line number of a write leaves the dead-read filter. One whose line has another
home by now goes on to that; one for memory that its device no longer has is answered or dropped. -/
def State.reqArrives (s : State) (i : Nat) (r : HReq) : State :=
  if (s.lineKey r.vd (lineOf r.addr)).isNone then s.hostGone r
  else if s.homeSlice r.vd (lineOf r.addr) ≠ some i then s.request r
  else
  let s := if r.kind = ReqKind.write then
      s.modSlice i (fun sl => { sl with filter := sl.filter.erase (lineOf r.addr) })
    else s
  s.joinReqs i r

/-- A home operation has arrived at a home (R220), or goes on to the one that its line has by now. -/
def State.opArrives (s : State) (i : Nat) (o : HomeOp) : State :=
  if (s.lineKey o.vd (lineOf o.addr)).isNone then s
  else if s.homeSlice o.vd (lineOf o.addr) ≠ some i then s.sendHomeOp o
  else s.modSlice i (fun sl => { sl with opsIn := sl.opsIn ++ [o], filter := sl.filter.erase (lineOf o.addr) })

/-- What a demand message carries has arrived (R173, R249, R391). -/
def State.demArrives (s : State) (b : DemBody) : State :=
  match b with
  | .req i r => s.reqArrives i r
  | .op i o => s.opArrives i o
  | .coh id => { s with msgs := s.msgs.map (fun (m : CohMsg) => if m.id = id then { m with whole := true } else m) }
  | .rsp src addr bs => s.deliver src addr bs
  | .fill i f => s.modSlice i (fun sl => { sl with fills := sl.fills ++ [f] })

/-- The control part of a demand message has arrived (R28): its data may be there already. -/
def State.partArrives (s : State) (id : Nat) : State :=
  match s.fab.dem.find? (fun m => decide (m.id = id)) with
  | none => s
  | some m =>
    if m.path.isEmpty then ({ s with fab := { s.fab with dem := s.fab.dem.erase m } }).demArrives m.body
    else { s with fab := { s.fab with dem := s.fab.dem.map (fun (x : DemMsg) =>
      if x.id = id then { x with ctl := true } else x) } }

/-- The response to a home operation reaches its group, or the transport as an acknowledgement of each chunk (R224). -/
def State.rspArrives (s : State) (r : OpRsp) : State :=
  match r.src with
  | .net seg => { s with net := { s.net with ackOut := s.net.ackOut ++ r.lanes.map (fun _ => (seg, false)) } }
  | _ => { s with opRsps := s.opRsps ++ [r] }

/-- What a reed message carries has arrived (R176, R249, R280, R352). -/
def State.reedArrives (s : State) (b : ReedBody) : State :=
  match b with
  | .coh id => { s with msgs := s.msgs.map (fun (m : CohMsg) => if m.id = id then { m with ctl := true } else m) }
  | .flag m => s.joinFlags m
  | .wake c => { s with fab := { s.fab with wakes := s.fab.wakes ++ [c] } }
  | .bell n q tail => s.bellArrives n q tail
  | .req i r => s.reqArrives i r
  | .part id => s.partArrives id
  | .ack src notice => s.ackWrite src notice
  | .rsp r => s.rspArrives r
  | .nack o => if o.src = .nobody then s.sendHomeOp o else { s with nacked := s.nacked ++ [o] }

/-! Member queues (R173, R176) -/

/-- The member whose turn it is among those with something queued: the next one in the rotation from `turn` (R173). -/
def inTurn (turn : Nat) (queued : List Nat) : Option Nat :=
  ((List.range 8).map (fun i => (turn + i) % 8)).find? (fun m => queued.contains m)

/-- The member a message waits in at an output. -/
def waitsAt (path : List (Nat × Nat)) (l : Nat) : Option Nat :=
  match path with
  | (o, m) :: _ => if o = l then some m else none
  | [] => none

/-- The turn of an output for reed messages, and for demand chunks. -/
def State.linkTurn (s : State) (l : Nat) (reed : Bool) : Nat := SMap.get (fun _ => (0 : Nat)) s.fab.turns (2 * l + b2n (!reed))

/-- The turn passes to the member after the one that was served. -/
def State.setTurn (s : State) (l : Nat) (reed : Bool) (m : Nat) : State :=
  { s with fab := { s.fab with turns := SMap.set (fun _ => (0 : Nat)) s.fab.turns (2 * l + b2n (!reed)) ((m + 1) % 8) } }

/-- Whether a link is a causeway direction, whose chunks and messages travel in flits (R193). -/
def isCauseway (l : Nat) : Bool := decide (1216 ≤ l) && decide (l < 1232)

/-- The other direction of a causeway. -/
def otherWay (l : Nat) : Nat := if l % 2 = 0 then l + 1 else l - 1

/-! The reed channel (R176, R177) -/

/-- The reed message whose turn it is at an output: the oldest of its member (R176). A message whose flit awaits its replay
has not arrived yet. -/
def State.reedHead (s : State) (l : Nat) : Option (Nat × ReedMsg) :=
  let here := s.fab.reed.filter (fun m => !m.bad && (waitsAt m.path l).isSome)
  (inTurn (s.linkTurn l true) (here.filterMap (fun m => waitsAt m.path l))).bind (fun mem =>
    (here.find? (fun m => decide (waitsAt m.path l = some mem))).map (fun m => (mem, m)))

/-- The FLAGSET of a core whose message has left the send port completes in the sync queue and releases its scoreboard entry
(R180). -/
def Core.flagsetLeft (k : Core) : Core :=
  match k.qs.find? (fun e => e.started && decide (bitsOf e.word 120 8 = 0x30)) with
  | some e => { k with qs := k.qs.erase e, board := k.board.filter (fun b => !decide (some b.id = e.sb_)) }
  | none => k

/-- What a message leaving by an output completes there: a FLAGSET at the send port of its core (R180). -/
def State.leavesPort (s : State) (l : Nat) (b : ReedBody) : State :=
  match b with
  | .flag m => if m.sender = l then s.modCore l Core.flagsetLeft else s
  | _ => s

/-- A reed message leaves by output `l` (R177): it takes a credit of the link, the link it came in on gets its credit
back. At its end point it is taken in at once and its credit returns. -/
def State.forwardReed (s : State) (l : Nat) (m : ReedMsg) : State :=
  let s := match m.hold with
    | some h => s.modLink h (fun x => ⟨x.credits + 1, x.inFlight - 1⟩)
    | none => s
  let s := if isCauseway l then s.sendFlit l .reed m.vd 0 m.id [] else s
  let s := if l < 96 then s.leavesPort l m.body else s
  let s := { s with fab := { s.fab with reed := s.fab.reed.filter (fun x => !decide (x.id = m.id)) } }
  match m.path.tail with
  | [] => s.reedArrives m.body
  | path =>
    let s := s.modLink l (fun x => ⟨x.credits - 1, x.inFlight + 1⟩)
    { s with fab := { s.fab with reed := s.fab.reed ++ [{ m with path := path, hold := some l }] } }

/-- REED_MESSAGE_FORWARD (R176, R177): a reed position of an output: a retry request for the reverse direction goes first
and uses no credit; else the message whose turn it is leaves, where a credit is held. The command names the link the message
came in on, none where it enters the channel here. -/
def execReedMessageForward (out : Link) (src : Option Link) (s : State) : Out :=
  ok (
    let l := linkNo out
    match s.fab.replays.find? (fun r => !r.asked && decide (otherWay r.link = l)) with
    | some r => { s with fab := { s.fab with replays := s.fab.replays.map (fun (x : Replay) =>
        if x = r then { x with asked := true } else x) } }
    | none =>
      if (s.link l).credits = 0 then s
      else match s.reedHead l with
      | none => s
      | some (mem, m) => if m.hold = src.map linkNo then (s.setTurn l true mem).forwardReed l m else s)

/-! Demand positions (R173, R174) -/

/-- Demand positions among the first `n` of a beat (R151). -/
def demandBelow (d n : Nat) : Nat := n / 16 * d + ((demandSet d).filter (fun p => decide (p < n % 16))).length

/-- Data-lane groups of a causeway direction in service (R196). -/
def State.groups (s : State) (l : Nat) : Nat :=
  s.regFld (Reg.fabricCauseway ((l - 1216) / 2)) (if l % 2 = 1 then 26 else 20) 6

/-- Half of the positions of a beat at an output (R150): those of one tick. -/
def State.halfBeat (s : State) (l : Nat) : Nat :=
  if l < 192 then 64 else if l < 1216 then 24 else 16 * s.groups l

/-- Demand positions of an output in the present tick (R150, R151), less those that replays have taken. -/
def State.demandNow (s : State) (l : Nat) : Nat :=
  let h := s.halfBeat l
  let n := if s.fabTick % 2 = 0 then demandBelow s.demandD h else demandBelow s.demandD (2 * h) - demandBelow s.demandD h
  n - SMap.get (fun _ => (0 : Nat)) s.fab.spent l

/-- Whether an output is the hub's to a causeway, where the IOD agents have member queue 0 (R173). -/
def isHubOut (l : Nat) : Bool := decide (1224 ≤ l) && decide (l % 2 = 1)

/-- The demand message whose chunk takes the next position of an output (R173, R174): the oldest of the member whose turn it
is; in the IOD member the host port and the network port alternate, host port first. -/
def State.demHead (s : State) (l : Nat) : Option (Nat × DemMsg) :=
  let here := s.fab.dem.filter (fun m => !m.bad && (waitsAt m.path l).isSome)
  (inTurn (s.linkTurn l false) (here.filterMap (fun m => waitsAt m.path l))).bind (fun mem =>
    let mine := here.filter (fun m => decide (waitsAt m.path l = some mem))
    let net := decide (SMap.get (fun _ => (0 : Nat)) s.fab.iodTurns l = 1)
    let pick := if isHubOut l ∧ mem = 0 then
        match mine.find? (fun m => m.net == net) with
        | some m => some m
        | none => mine.head?
      else mine.head?
    pick.map (fun m => (mem, m)))

/-- The chunk of a message that leaves next, where the spec gives its bytes. -/
def State.demChunk (s : State) (m : DemMsg) : List Byte :=
  let piece (bs : List Byte) : List Byte := (bs.drop (64 * (m.chunks - m.left))).take 64
  match m.body with
  | .coh id => (s.msgs.find? (fun x => decide (x.id = id))).elim [] (fun x => piece x.data)
  | .rsp _ _ bs => piece bs
  | .fill _ f => piece f.bytes
  | _ => []

/-- A chunk of a demand message leaves by output `l`; behind the last one the message waits at its next output, or has
arrived. -/
def State.forwardChunk (s : State) (l : Nat) (m : DemMsg) : State :=
  let s := if isCauseway l then s.sendFlit l .demand m.vd 0 m.id (s.demChunk m) else s
  if 1 < m.left then
    { s with fab := { s.fab with dem := s.fab.dem.map (fun (x : DemMsg) =>
      if x.id = m.id then { x with left := m.left - 1 } else x) } }
  else
    let s := { s with fab := { s.fab with dem := s.fab.dem.filter (fun x => !decide (x.id = m.id)) } }
    let m' : DemMsg := { m with path := m.path.tail, left := m.chunks }
    if m'.path.isEmpty ∧ m.ctl then s.demArrives m.body
    else { s with fab := { s.fab with dem := s.fab.dem ++ [m'] } }

/-- One demand position of an output. -/
def State.demandPos (s : State) (l : Nat) : State :=
  match s.demHead l with
  | none => s
  | some (mem, m) =>
    let s := s.setTurn l false mem
    let s := if isHubOut l ∧ mem = 0 then
        { s with fab := { s.fab with iodTurns := SMap.set (fun _ => (0 : Nat)) s.fab.iodTurns l (b2n (!m.net)) } }
      else s
    s.forwardChunk l m

/-- `n` demand positions of an output. -/
def State.demandRun (s : State) (l : Nat) : Nat → State
  | 0 => s
  | n + 1 => (s.demandPos l).demandRun l n

/-- The outputs at which demand chunks wait, those nearest to an end point first. DESIGN CHOICE: a message passes
one output in a tick (log entry 50). -/
def State.demandOuts (s : State) : List Nat :=
  let ls := (s.fab.dem.filterMap (fun m => m.path.head?.map (·.1))).eraseDups
  let last (l : Nat) : Bool := (decide (96 ≤ l) && decide (l < 192)) || (decide (704 ≤ l) && decide (l < 1216))
  let first (l : Nat) : Bool := decide (l < 96) || (decide (192 ≤ l) && decide (l < 704))
  ls.filter last ++ ls.filter isHubOut ++ ls.filter (fun l => isCauseway l && !isHubOut l) ++ ls.filter first

/-- The demand positions of one tick (R173), and the flits that their senders keep no longer (R194). -/
def State.tickDemand (s : State) : State :=
  let s := s.demandOuts.foldl (fun s l => s.demandRun l (s.demandNow l)) s
  { s with fab := { s.fab with
      spent := []
      sent := s.fab.sent.filter (fun x => decide (s.time.toNat < x.sentAt + 4)) } }

/-! Replay (R194) -/

/-- Mark what a flit carries as not arrived, or as arrived. -/
def State.markItem (s : State) (id : Nat) (bad : Bool) : State :=
  { s with fab := { s.fab with
      reed := s.fab.reed.map (fun (m : ReedMsg) => if m.id = id then { m with bad := bad } else m)
      dem := s.fab.dem.map (fun (m : DemMsg) => if m.id = id then { m with bad := bad } else m)
      chunks := s.fab.chunks.map (fun (c : Chunk) => if c.id = id then { c with bad := bad } else c) } }

/-- CAUSEWAY_CRC_MISMATCH (R194): a flit that a causeway direction has sent in the last 64 FCLK arrives with a CRC mismatch: what
it carries has not arrived, and a retry request is due. A replayed flit that fails again is uncorrectable, which contains
its owner or, for a reed flit, is module-fatal. DESIGN CHOICE: the spec is
silent on an idle flit; it carries nothing and is not replayed (log entry 50). -/
def execCausewayCrcMismatch (n : Fin 8) (dirB : Bool) (f : Flit) (s : State) : Out :=
  let l := causewayLink n.val dirB
  ok (match s.fab.sent.reverse.find? (fun x => decide (x.link = l) && decide (x.flit = f)) with
  | none => s
  | some x =>
    if x.replay then
      match f.kind with
      | .reed => s.fatal (ErrRec.mk0 2 6 3 n.val)
      | .idle => s
      | _ => s.contain f.vd [] [] (ErrRec.mk0 1 6 2 n.val)
    else if s.fab.replays.any (fun r => decide (r.link = l) && decide (r.flit = f)) then s
    else ({ s with fab := { s.fab with replays := s.fab.replays ++ [(⟨l, f, x.item, false⟩ : Replay)] } }).markItem x.item true)

/-- RETRY_REQUEST (R194): the sender replays the oldest flit asked for in its direction and plane, in the next position of that
plane, and counts it. A replay of a scheduled or demand flit takes a demand position. -/
def execRetryRequest (n : Fin 8) (q : RetryOf) (s : State) : Out :=
  let l := causewayLink n.val q.dirB
  ok (match s.fab.replays.find? (fun r => r.asked && decide (r.link = l) && (decide (r.flit.kind = .reed) == q.reed)) with
  | none => s
  | some r =>
    let chunk := (s.fab.sent.find? (fun x => decide (x.link = l) && decide (x.flit = r.flit))).elim [] (·.chunk)
    let rest := s.fab.replays.erase r
    let s := { s with fab := { s.fab with
      replays := rest
      spent := if q.reed then s.fab.spent
        else SMap.set (fun _ => (0 : Nat)) s.fab.spent l (SMap.get (fun _ => (0 : Nat)) s.fab.spent l + 1)
      sent := s.fab.sent ++ [(⟨l, r.flit, chunk, r.item, s.time.toNat, true⟩ : SentFlit)] } }
    let s := if rest.any (fun x => decide (x.item = r.item)) then s else s.markItem r.item false
    s.bump (Reg.fabricReplay n.val))

end Sys2Proof.Machine
end

