-- ==== Sys2Proof/Machine/Fabric.lean ====
section
/-! DEFINITION. The commands of the scheduled fabric (chapter The scheduled fabric): descriptors, chunks, landings,
reductions, completion flags, the commit of the tables. -/

namespace Sys2Proof.Machine

/-- The base die of an engine number, for a base die's engine. -/
def bdOfEngine (k : Nat) : Nat := (k - 96) % 4

/-- The numbers of an engine's work: a send port has one, a base die one for each device it works for. -/
def State.engineKeys (s : State) : Engine → List Nat
  | .core c => [c.val]
  | .bd b => (s.fab.engines.map (·.1)).filter (fun k => decide (96 ≤ k) && decide (bdOfEngine k = b.val))

/-- The `i`-th stream of an engine: its engine number and its place there. -/
def State.streamAt (s : State) (e : Engine) (i : Nat) : Option (Nat × Nat) :=
  ((s.engineKeys e).flatMap (fun k => (List.range (s.engine k).streams.length).map (fun q => (k, q))))[i]?

/-- The logical base die of a logical unit under a shape (R325): byte b counts the units of base die b. -/
def shapeBd (shape i : Nat) : Nat :=
  let n (b : Nat) : Nat := bitsOf shape (8 * b) 8
  if i < n 0 then 0 else if i < n 0 + n 1 then 1 else if i < n 0 + n 1 + n 2 then 2 else 3

/-! Descriptors (R163) -/

/-- A stream descriptor from its 64 bytes. -/
def parseStream (addr : Nat) (bs : List Byte) : StreamDesc :=
  let n := leNat bs
  let f (lo len : Nat) : Nat := bitsOf n lo len
  ⟨addr, f 508 4, f 506 2, bitOf n 504, bitOf n 503, bitOf n 502, f 472 24, f 452 20, f 443 9, f 434 9, f 428 6,
   f 422 6, f 416 6, f 409 7, f 384 16, f 368 16, f 352 16, f 320 32, f 256 64, f 208 48, f 160 48,
   bitOf n 505 || decide (f 496 6 ≠ 0) || decide (f 400 9 ≠ 0) || decide (f 0 160 ≠ 0)⟩

/-- Whether the source of a stream is a slice, and whether its destination is (R163). -/
def StreamDesc.fromMem (d : StreamDesc) : Bool := decide (d.kind = 3)
def StreamDesc.toMem (d : StreamDesc) : Bool := decide (d.kind = 2) || decide (d.kind = 5)
def StreamDesc.isRed (d : StreamDesc) : Bool := decide (d.kind = 4) || decide (d.kind = 5)

/-- The address of chunk `k` on a memory side (R161): 64 B chunks of the lines homed on logical slice `sl`, in
ascending order from `addr`. -/
def memChunk (ns sl : Nat) : Nat → Nat → Nat → Option Nat
  | 0, _, _ => none
  | f + 1, a, k =>
    if homeLogical ns (lineOf a) = sl then
      let here := 64 - a % 4096 / 64
      if k < here then some (a + 64 * k) else memChunk ns sl f ((lineOf a + 1) * 4096) (k - here)
    else memChunk ns sl f ((lineOf a + 1) * 4096) k

/-- The lines a memory side covers, with the first chunk and the number of chunks taken of each. -/
def memLines (ns sl : Nat) : Nat → Nat → Nat → List (Nat × Nat)
  | 0, _, _ => []
  | f + 1, a, k =>
    if k = 0 then []
    else if homeLogical ns (lineOf a) = sl then
      let here := 64 - a % 4096 / 64
      (a, min k here) :: memLines ns sl f ((lineOf a + 1) * 4096) (k - here)
    else memLines ns sl f ((lineOf a + 1) * 4096) k

/-- Steps enough to walk the lines of a stream of `k` chunks. -/
def memFuel (ns k : Nat) : Nat := (k / 64 + 2) * (2 * ns + 2)

/-- The memory side of a stream: base address and logical slice. -/
def StreamDesc.memSide (d : StreamDesc) : Option (Nat × Nat) :=
  if d.fromMem then some (d.srcAddr, d.src) else if d.toMem then some (d.dstAddr, d.dst) else none

/-- The memory address of chunk `k`, where the stream has a memory side. -/
def StreamDesc.memAddr (d : StreamDesc) (ns k : Nat) : Option Nat :=
  match d.memSide with
  | some (a, sl) => memChunk ns sl (memFuel ns k) a k
  | none => none

/-- The byte offset of chunk `k` on a tile-store side (R160). -/
def StreamDesc.tileOff (d : StreamDesc) (ns k : Nat) : Nat :=
  match d.memSide with
  | some (a, _) => ((d.memAddr ns k).getD a) - a
  | none => 64 * k

/-- Whether a tile-store side lies in the tile store and is aligned (R164). -/
def StreamDesc.tileOk (d : StreamDesc) (ns base : Nat) : Bool :=
  decide (base % 64 = 0) && decide (base + d.tileOff ns (d.chunks - 1) + 64 ≤ 0x800000)

/-- Flag words a device holds. -/
def State.flagCount (s : State) (n : Nat) : Nat := (s.vd n).flagMap.length

/-- Whether a descriptor passes every check of R164 in list `list` of device `n`. -/
def State.streamOk (s : State) (n list : Nat) (rs : List Region) (d : StreamDesc) : Bool :=
  let nc := (s.coresOf n).length
  let ns := (s.slicesOf n).length
  let srcLim := if d.fromMem then ns else nc
  let dstLim := if d.toMem then ns else nc
  let memOk := match d.memSide with
    | none => true
    | some (a, sl) => decide (a % 64 = 0) && (memLines ns sl (memFuel ns d.chunks) a d.chunks).all
        (fun l => match s.region n rs l.1 with
          | some (_, r) => decide (r.rtype ≠ 1)
          | none => false)
  decide (1 ≤ d.kind) && decide (d.kind ≤ 5) && !d.reserved
  && (!d.isRed || (decide (d.op ≠ 3) && decide (1 ≤ d.contrib) && decide (d.contrib ≤ 96)))
  && decide (d.chunks ≠ 0) && decide (1 ≤ d.perBeat) && decide (d.perBeat ≤ 42) && decide (d.beatmask ≠ 0)
  && decide (d.src < srcLim) && decide (d.dst < dstLim)
  && (if list < 96 then !d.fromMem && decide (d.src = list)
      else d.fromMem && decide (shapeBd (s.vd n).desc.sliceShape d.src = list - 96))
  && decide (d.sendJ0 + d.perBeat ≤ if d.fromMem then 3 * s.schedS else s.sendClass)
  && decide (d.landJ0 + d.perBeat ≤ if d.toMem then 3 * s.schedS else s.recvClass)
  && (d.fromMem || d.tileOk ns d.srcAddr) && (d.toMem || d.tileOk ns d.dstAddr) && memOk
  && (!d.flagEn || decide (d.flag < s.flagCount n)) && (!d.gateEn || decide (d.gateFlag < s.flagCount n))

/-- Unit and logical core in the record of a fabric fault (R195, R514). -/
def State.faultUnit (s : State) (eng : Nat) : Nat × Nat :=
  let l := (s.engine eng).list
  if eng < 96 then (eng, (s.coreLogical eng).getD 0x7F) else (0x100 + (l - 96), 0x7F)

/-- FABRIC_OVERRUN by a stream (R188, R191, R195, R196, R551): the OVERRUNS field of its source counts and the job ends. -/
def State.overrun (s : State) (n eng desc : Nat) : State :=
  let u := s.faultUnit eng
  let k := if eng < 96 then Reg.fabricMiss eng else Reg.fabricMissBd (bdOfEngine eng)
  (s.bumpFld k 16 16 1).fabricFault n 0x22 u.1 u.2 desc

/-- The running job of a device that has not been ended. -/
def State.liveJob (s : State) (n : Nat) : Option Job :=
  match (s.vd n).running with
  | some j => if j.ended.isSome then none else some j
  | none => none

/-- The job whose schedule the engines of a device hold: the one taken while another saves its context (R371), else the one that
runs. -/
def State.schedJob (s : State) (n : Nat) : Option Job :=
  match (s.vd n).incoming with
  | some j => if j.ended.isSome then none else some j
  | none => s.liveJob n

/-- Start the fills of the lines a slice source covers (R209, R210): the refill of each line, in the order of the stream. -/
def State.prefetch (s : State) (n : Nat) (d : StreamDesc) : State :=
  let ns := (s.slicesOf n).length
  if ¬ d.fromMem then s
  else
    (memLines ns d.src (memFuel ns d.chunks) d.srcAddr d.chunks).foldl (fun s l =>
      s.request ⟨.plain, n, lineOf l.1 * 4096, 4096, [], false, .nobody, false, false, false⟩) s

/-- Whether an engine has a descriptor to fetch. -/
def State.fetches (s : State) (k : Nat) : Bool := !(s.engine k).ended && (s.schedJob (s.engine k).vd).isSome

/-- DESCRIPTOR_FETCH (R164): the next descriptor of the first list an engine has not finished is fetched, checked and
joins its streams; one that fails a check ends the job with STREAM_INVALID. DESIGN CHOICE: the engine keeps no count of
what it has fetched; a list goes on until a descriptor whose KIND is 0, also where the COUNT of its entry in the list
table gives fewer (log entry 27). -/
def execDescriptorFetch (e : Engine) (s : State) : Out :=
  ok (
    let k := ((s.engineKeys e).find? s.fetches).getD 0
    let eng := s.engine k
    match s.schedJob eng.vd with
    | none => s
    | some j =>
      if eng.ended ∨ ¬ (s.engineKeys e).contains k then s
      else
        let d := parseStream eng.nextAddr (s.devRead eng.vd eng.nextAddr 64)
        let s := s.devSeen eng.vd eng.nextAddr 64
        if d.kind = 0 then s.modEngine k (fun x => { x with ended := true })
        else if s.streamOk eng.vd eng.list j.regions d then
          (s.modEngine k (fun x => { x with
            nextAddr := x.nextAddr + 64
            streams := x.streams ++ [⟨d, 0, false, false, 0, false, 0⟩] })).prefetch eng.vd d
        else
          let u := s.faultUnit k
          s.fabricFault eng.vd 0x23 u.1 u.2 d.addr)

/-! Sending (R159, R189 to R191) -/

/-- Whether a device owns the port of an engine's stream in this frame (R168). -/
def State.ownsCorePort (s : State) (c n : Nat) : Bool :=
  s.regBit (Reg.fabricSlotCore c) 16 && decide (s.regFld (Reg.fabricSlotCore c) 0 8 = n)
def State.ownsSlicePort (s : State) (i n : Nat) : Bool :=
  s.regBit (Reg.fabricSlotSlice i) 16 && decide (s.regFld (Reg.fabricSlotSlice i) 0 8 = n)

/-- (int32)(flag - value) ≥ 0 (R163, R182). -/
def reached (flag : W32) (value : Nat) : Bool :=
  decide (0 ≤ sext (wrapN 32 ((flag.toNat : Int) - (value : Int))) 32)

/-- The physical word of a logical flag word of a device (R170). -/
def State.flagWord (s : State) (n f : Nat) : Nat := nth 0 (s.vd n).flagMap f

/-- Whether the gate of a stream is open (R185). -/
def State.gateOpen (s : State) (n : Nat) (d : StreamDesc) : Bool :=
  !d.gateEn || reached (s.flag (s.flagWord n d.gateFlag)) d.gateValue

/-- The beat, counted from the first frame, in which chunk `k` leaves (R159), one frame later for a late stream
(R190). -/
def StreamDesc.sendBeat (d : StreamDesc) (epoch k : Nat) (late : Bool) : Nat :=
  let bs := setBitsOf 64 d.beatmask
  let perFrame := d.perBeat * bs.length
  (epoch + d.frame0 + k / perFrame + b2n late) * 64 + nth 0 bs (k % perFrame / d.perBeat)

/-- The landing frame and beat of chunk `k`: three beats after it leaves (R157). -/
def StreamDesc.landing (d : StreamDesc) (epoch k : Nat) (late : Bool) : Nat × Nat :=
  let beat := d.sendBeat epoch k late + 3
  (beat / 64, beat % 64)

/-- Where chunk `k` lands. -/
def State.chunkDst (s : State) (n : Nat) (d : StreamDesc) (k : Nat) : ChunkDst :=
  let ns := (s.slicesOf n).length
  if d.toMem then .slice (nth 0 (s.slicesOf n) d.dst) ((d.memAddr ns k).getD d.dstAddr)
  else .tile (nth 0 (s.coresOf n) d.dst) (d.dstAddr + d.tileOff ns k)

/-- The base die of a destination. -/
def ChunkDst.bd : ChunkDst → Nat
  | .tile c _ => bdOfCore c
  | .slice i _ => bdOfSlice i

/-- The line, way and address that chunk `k` of a slice source reads, where its sector is whole (R189). -/
def State.sourceLine (s : State) (n : Nat) (d : StreamDesc) (k : Nat) : Option (Nat × Nat × Nat) :=
  let ns := (s.slicesOf n).length
  let i := nth 0 (s.slicesOf n) d.src
  match d.memAddr ns k with
  | none => none
  | some a =>
    match (s.slice i).find (lineOf a) with
    | none => none
    | some w =>
      let l := (s.slice i).way w
      if l.full (secIdx a) ∧ ¬ (l.sec (secIdx a)).filling then some (i, w, a) else none

/-- Take chunk `k` from a slice (R206, R217, R263): its bytes, STALE counted where a die owns the sector or its transaction
records an owner, the last-use mark and the drop it may bring. -/
def State.takeFromSlice (s : State) (n i w a : Nat) (dead : Bool) : List Byte × State :=
  let l := (s.slice i).way w
  let bs := rdN l.data (a % 4096) 64
  let dir := l.dir (secIdx a)
  let owned : Bool := match dir.st with
    | .em => true
    | .tr => match (s.slice i).tr l.line (secIdx a) with
      | some t => t.owner.isSome
      | none => false
    | _ => false
  let s := if owned then s.bump (Reg.cohereVdStale n) else s
  let l' := if dead then l.markDead a 64 else { l with rrpv := 0 }
  let s := s.setSlice i ((s.slice i).setWay w l')
  (bs, if dead ∧ l'.isDead then s.startDrop i w else s)

/-- Change stream `q` of engine `k`. -/
def State.modStream (s : State) (k q : Nat) (f : Stream → Stream) : State :=
  s.modEngine k (fun x =>
    match x.streams[q]? with
    | some y => { x with streams := x.streams.set q (f y) }
    | none => x)

/-- A position of a stream misses (R190, R191): the stream is late from there on; a late one sends nothing more and ends the
job. -/
def State.streamMiss (s : State) (n k q : Nat) (x : Stream) : State :=
  if x.late then
    let s := s.modStream k q (fun x => { x with stopped := true })
    if (s.liveJob n).isSome then s.overrun n k x.desc.addr else s
  else
    let s := s.modStream k q (fun x => { x with late := true, lateFrom := x.next })
    let s := s.bumpFld (if k < 96 then Reg.fabricMiss k else Reg.fabricMissBd (bdOfEngine k)) 0 16 1
    if s.regBit Reg.fabricCtrl 0 then s.event n 0x10 x.desc.addr else s

/-- The class index or slice ordinal at the source of chunk `k` (R159). -/
def StreamDesc.sendIndex (d : StreamDesc) (k : Nat) : Nat :=
  d.sendJ0 + k % (d.perBeat * (setBitsOf 64 d.beatmask).length) % d.perBeat

/-- The chunk of a stream at a send position (R159), the inverse of `sendBeat` and `sendIndex`. -/
def StreamDesc.chunkAt (d : StreamDesc) (epoch : Nat) (late : Bool) (beat idx : Nat) : Option Nat :=
  let bs := setBitsOf 64 d.beatmask
  let first := epoch + d.frame0 + b2n late
  match (List.range bs.length).find? (fun i => decide (nth 64 bs i = beat % 64)) with
  | none => none
  | some i =>
    let k := (beat / 64 - first) * (d.perBeat * bs.length) + i * d.perBeat + (idx - d.sendJ0)
    if first ≤ beat / 64 ∧ d.sendJ0 ≤ idx ∧ idx < d.sendJ0 + d.perBeat ∧ k < d.chunks then some k else none

/-- The landing index of chunk `k` at its destination (R159). -/
def StreamDesc.landIndex (d : StreamDesc) (k : Nat) : Nat :=
  d.landJ0 + k % (d.perBeat * (setBitsOf 64 d.beatmask).length) % d.perBeat

/-- Source port of a stream: core or slice, and number. -/
def State.srcPort (s : State) (n : Nat) (d : StreamDesc) : Site :=
  if d.fromMem then .slice (nth 0 (s.slicesOf n) d.src) else .core (nth 0 (s.coresOf n) d.src)

/-- Destination port of a stream. -/
def State.dstPort (s : State) (n : Nat) (d : StreamDesc) : Site :=
  if d.toMem then .slice (nth 0 (s.slicesOf n) d.dst) else .core (nth 0 (s.coresOf n) d.dst)

/-- Position within its beat at which chunk `k` leaves its source port, and at which it lands (R152, R156, R158, R159). -/
def State.sendPos (s : State) (n : Nat) (d : StreamDesc) (k : Nat) : Nat :=
  if d.fromMem then schedPos s.demandD (d.sendIndex k)
  else classPos s.demandD (classTo (s.srcPort n d).die (s.dstPort n d).die) (d.sendIndex k)
def State.landPos (s : State) (n : Nat) (d : StreamDesc) (k : Nat) : Nat :=
  if d.toMem then schedPos s.demandD (d.landIndex k)
  else classPos s.demandD (classTo (s.dstPort n d).die (s.srcPort n d).die) (d.landIndex k)

/-- FCLK from the first frame at which position `p` of a port falls in a beat (R150). -/
def posFclk (slice : Bool) (beat p : Nat) : Nat := 32 * beat + if slice then 4 * sliceCclk p / 3 else coreFclk p

/-- FCLK of the passage of a chunk (R157): a bond crossing at a core, the routers, the causeways; that of a reduction chunk
ends at the router that adds it. -/
def passage (fromSlice toSlice red : Bool) (crossings : Nat) : Nat :=
  (if fromSlice then 0 else 4) + 14 * crossings + if red then 0 else if toSlice then 8 else 12

/-- A chunk enters the causeway directions of its circuit as a flit on each (R154, R193). DEDUCED: the contribution count in the
header of a reduction chunk is its CONTRIB (log entry 50). -/
def State.sendFlits (s : State) (c : Chunk) : State :=
  c.via.foldl (fun s l => s.sendFlit l .scheduled c.vd (c.red.elim 0 (·.2.1)) c.id c.data) s

/-- Chunk `k` leaves its source and is on the fabric (R154, R157). -/
def State.sendChunk (s : State) (n k q epoch : Nat) (x : Stream) (bs : List Byte) : State :=
  let d := x.desc
  let dst := s.chunkDst n d x.next
  let l := d.landing epoch x.next x.late
  let via := causeways (s.srcPort n d).die dst.bd
  let left := posFclk d.fromMem (d.sendBeat epoch x.next x.late) (s.sendPos n d x.next)
  let c : Chunk := ⟨n, k, d.addr, x.next, bs, dst, l.1, l.2,
    if d.isRed then some (d.op, d.contrib, dst.bd) else none, [], false, s.landPos n d x.next,
    (d.landing epoch x.next false).1, s.fab.nextId, via,
    left + passage d.fromMem d.toMem d.isRed via.length, false⟩
  let s := { s with fab := { s.fab with nextId := s.fab.nextId + 1, chunks := s.fab.chunks ++ [c] } }
  (s.sendFlits c).modStream k q (fun x => { x with next := x.next + 1 })

/-- Whether a stream `y` sent a chunk at a position; whether it has one still to send there. -/
def Stream.sentAt (y : Stream) (epoch beat idx : Nat) : Bool :=
  (match y.desc.chunkAt epoch true beat idx with
    | some k => y.late && decide (y.lateFrom ≤ k) && decide (k < y.next)
    | none => false)
  || (match y.desc.chunkAt epoch false beat idx with
    | some k => (!y.late || decide (k < y.lateFrom)) && decide (k < y.next)
    | none => false)
def Stream.waitsAt (y : Stream) (epoch beat idx : Nat) : Bool :=
  match y.desc.chunkAt epoch y.late beat idx with
  | some k => !y.stopped && decide (y.next ≤ k)
  | none => false

/-- Whether stream `q` of an engine loses its position to another stream of its source port (R167): one that sent
there, or that goes before it: a late stream before others, else the one listed first. Core positions of different
classes are different positions (R152). -/
def State.losesPosition (s : State) (n epoch q : Nat) (ys : List Stream) (x : Stream) : Bool :=
  let beat := x.desc.sendBeat epoch x.next x.late
  let idx := x.desc.sendIndex x.next
  (List.range ys.length).any (fun p => match ys[p]? with
    | none => false
    | some y =>
      decide (p ≠ q) && decide (y.desc.src = x.desc.src)
      && (x.desc.fromMem || decide ((s.chunkDst n y.desc 0).bd = (s.chunkDst n x.desc 0).bd))
      && (y.sentAt epoch beat idx
        || (y.waitsAt epoch beat idx && ((y.late && !x.late) || (y.late == x.late && decide (p < q))))))

/-- Whether table writes wait for a frame boundary that has passed (R31): they take effect before anything else of the new
frame. -/
def State.commitDue (s : State) : Bool := s.fab.pending.any (fun e => decide (e.1 < s.frame))

/-- The epoch by which the streams of a device still run (R159, R197): that of its job, or of one that was cancelled while it
waits for the frame boundary. -/
def State.streamEpoch (s : State) (n : Nat) : Option Nat :=
  match s.fab.cancels.find? (fun x => decide (x.1 = n)) with
  | some x => some x.2.2
  | none => match (s.vd n).running with
    | some j => if j.phase = JobPhase.running ∨ j.phase = JobPhase.ckpt then some j.epoch else none
    | none => none

/-- STREAM_CHUNK_SEND (R159, R185, R189): the `i`-th stream of an engine is at its next send position: its chunk
leaves, or the position misses. Before the tick of the position nothing is sent; a position that has passed misses. -/
def execStreamChunkSend (e : Engine) (i : Nat) (s : State) : Out :=
  ok (
    let at_ := (s.streamAt e i).getD (0, (s.engine 0).streams.length)
    let k := at_.1
    let q := at_.2
    let eng := s.engine k
    match s.streamEpoch eng.vd, eng.streams[q]? with
    | some epoch, some x =>
      let n := eng.vd
      let d := x.desc
      let due := portTick d.fromMem (d.sendBeat epoch x.next x.late) (s.sendPos n d x.next)
      if x.stopped ∨ d.chunks ≤ x.next ∨ s.commitDue ∨ s.fabTick < due then s
      else if due < s.fabTick then s.streamMiss n k q x
      else if x.next = 0 ∧ ¬ s.gateOpen n d then s.streamMiss n k q x
      else if s.losesPosition n epoch q eng.streams x then s.streamMiss n k q x
      else if d.fromMem then
        let i := nth 0 (s.slicesOf n) d.src
        match s.ownsSlicePort i n, s.sourceLine n d x.next with
        | true, some (i, w, a) =>
          let r := s.takeFromSlice n i w a d.dead
          r.2.sendChunk n k q epoch x r.1
        | _, _ => s.streamMiss n k q x
      else
        match s.ownsCorePort (nth 0 (s.coresOf n) d.src) n, eng.elastic.find? (fun y => decide (y.1 = d.addr) && decide (y.2.1 = x.next)) with
        | true, some y =>
          (s.modEngine k (fun e => { e with elastic := e.elastic.erase y })).sendChunk n k q epoch x y.2.2
        | _, _ => s.streamMiss n k q x
    | _, _ => s)

/-! The send elastic buffers (R68, R189) -/

/-- The chunks of an engine that may be read from the tile store now: those of its streams whose positions lie in this beat
or the next, whose gate is open or has opened, and which the buffer does not hold yet; with their beats. DESIGN CHOICE:
how far ahead of their positions chunks are read (log entry 54). -/
def State.ahead (s : State) (k epoch : Nat) : List (Nat × Nat × Nat) :=
  let eng := s.engine k
  eng.streams.flatMap (fun x =>
    if x.stopped ∨ x.desc.fromMem ∨ (x.next = 0 ∧ ¬ s.gateOpen eng.vd x.desc) then []
    else
      ((List.range (min 84 (x.desc.chunks - x.next))).map (· + x.next)).filterMap (fun c =>
        let b := x.desc.sendBeat epoch c x.late
        if s.beat ≤ b ∧ b ≤ s.beat + 1 ∧ ¬ eng.elastic.any (fun y => decide (y.1 = x.desc.addr) && decide (y.2.1 = c)) then
          some (x.desc.addr, c, 64 * b + x.desc.sendIndex c)
        else none))

/-- Read one chunk into the send elastic buffer of a core's engine: the one whose position comes first. -/
def State.fillOne (s : State) (k epoch : Nat) : State :=
  let eng := s.engine k
  let cs := s.ahead k epoch
  let first := minN 0 (cs.map (·.2.2))
  match cs.find? (fun c => decide (c.2.2 = first)) with
  | none => s
  | some c =>
    match eng.streams.find? (fun x => decide (x.desc.addr = c.1)) with
    | none => s
    | some x =>
      let bs := rdN (s.core k).tile (x.desc.srcAddr + x.desc.tileOff (s.slicesOf eng.vd).length c.2.1) 64
      s.modEngine k (fun e => { e with elastic := e.elastic ++ [(c.1, c.2.1, bs)] })

/-- The send elastic buffer of engine `k` fills with up to `n` chunks, to 64 at most. -/
def State.fillElastic (s : State) (k epoch : Nat) : Nat → State
  | 0 => s
  | n + 1 => if 64 ≤ (s.engine k).elastic.length then s else (s.fillOne k epoch).fillElastic k epoch n

/-- The epoch by which an engine reads ahead: that of the streams, or the one a taken job waits for (R356). -/
def State.fillEpoch (s : State) (n : Nat) : Option Nat :=
  match s.streamEpoch n, s.schedJob n with
  | some e, _ => some e
  | none, some j => if j.phase = JobPhase.taken then some j.epoch else none
  | none, none => none

/-- The send elastic buffers in one tick: a port moves 512 B, eight chunks, in an ACLK (R68). -/
def State.tickElastic (s : State) : State :=
  (s.fab.engines.filter (fun e => decide (e.1 < 96))).foldl (fun s e =>
    match s.fillEpoch e.2.vd with
    | some epoch => s.fillElastic e.1 epoch (if (s.pdie (dieOfCore e.1)).stretched then 32 else 64)
    | none => s) s

/-! Landing (R157, R184, R262, R551) -/

/-- The streams a chunk counts for when it is written (R184): its own, or those of the sum it is. -/
def Chunk.counts (c : Chunk) : List (Nat × Nat) := if c.sumFor.isEmpty then [(c.eng, c.desc)] else c.sumFor

/-- Whether a chunk lands at a port. -/
def Chunk.atPort (c : Chunk) (p : Port) : Bool :=
  c.red.isNone && (match p, c.dst with
    | .core x, .tile y _ => decide (x.val = y)
    | .slice x, .slice y _ => decide (x.val = y)
    | _, _ => false)

/-- The places in the list of the chunks that satisfy a test. -/
def chunkIdx (cs : List Chunk) (p : Chunk → Bool) : List Nat :=
  (List.range cs.length).filter (fun i => match cs[i]? with
    | some c => p c
    | none => false)

/-- Take chunk at place `i` off the fabric. -/
def State.dropChunk (s : State) (i : Nat) : State :=
  { s with fab := { s.fab with chunks := delNth s.fab.chunks i } }

/-- Hold the chunk at place `i` in its slice's landing buffer (R551). -/
def State.holdChunk (s : State) (i : Nat) : State :=
  match s.fab.chunks[i]? with
  | some c => { s with fab := { s.fab with chunks := s.fab.chunks.set i { c with held := true } } }
  | none => s

/-- Serve a landing write at a slice (R209, R211, R262, R551): its line is allocated and its mask freed where that can be
done; else the chunk is held, and so it is while its sector fills or its line is HELD to be dropped, discarded or
maintained. It lands in a line that waits for its recalls to be evicted. Copies and transactions of its sector are dealt
with after the write; where the table has no room the recall is owed. -/
def State.landSlice (s : State) (p : Nat) (c : Chunk) (i a : Nat) : State :=
  let hit := ((s.slice i).find (lineOf a)).isSome
  let s0 := if hit then s else lineAllocation i (lineOf a) s
  let sec := secIdx a
  let bs := (List.range 64).zip c.data |>.map (fun b => (a % 256 + b.1, b.2))
  match (s0.slice i).find (lineOf a) with
  | none => s0.holdChunk p
  | some k =>
    let s1 := if ((s0.slice i).way k).needsMask sec bs ∧ maskLimit false ≤ (s0.slice i).masksUsed then s0.evictMask i else s0
    let sl := s1.slice i
    let l := sl.way k
    let dir := l.dir sec
    if ¬ l.valid ∨ l.line ≠ lineOf a ∨ (l.held ∧ ¬ l.evicting) ∨ (l.sec sec).filling
        ∨ (l.needsMask sec bs ∧ maskLimit false ≤ sl.masksUsed) then s1.holdChunk p
    else
      let s := ((s1.landBytes i k sec bs).modSlice i (fun sl => sl.modWay k (fun l =>
        { l with rrpv := if hit then 0 else l.rrpv }))).dropChunk p
      if dir.st ≠ DState.tr ∧ dir.vec = 0 then c.counts.foldl (fun s x => s.chunkWritten x.1 x.2) s
      else
        let s := s.bump (Reg.cohereVdConflict c.vd)
        let s := if s.regBit Reg.cohereCtrl 0 then s.event c.vd 0x21 (a / 256 * 256) else s
        if dir.st = DState.tr then
          s.modSlice i (fun sl => sl.modTr l.line sec (fun t => { t with
            stream := true, discard := true, chunks := t.chunks ++ c.counts }))
        else if sl.trRoom then s.openRecall i k sec true c.counts
        else s.modSlice i (fun sl => { sl with owed := sl.owed ++ [(l.line, sec, c.counts)] })

/-- Whether the device of a chunk owns the port it lands at (R168). -/
def State.ownsDst (s : State) (c : Chunk) : Bool :=
  match c.dst with
  | .tile x _ => s.ownsCorePort x c.vd
  | .slice i _ => s.ownsSlicePort i c.vd

/-- Land the chunk at place `p`. A port that its device does not own takes no chunk of it (R168). -/
def State.land (s : State) (p : Nat) (c : Chunk) : State :=
  if ¬ s.ownsDst c then s.dropChunk p
  else match c.dst with
  | .tile x a =>
    let s := (s.dropChunk p).modCore x (fun k => { k with tile := wrL k.tile a c.data })
    c.counts.foldl (fun s y => s.chunkWritten y.1 y.2) s
  | .slice i a =>
    let older := s.fab.chunks.take p
    if older.any (fun o => o.held && (match o.dst with
        | .slice j b => decide (j = i) && decide (b / 256 = a / 256)
        | _ => false)) then s.holdChunk p
    else s.landSlice p c i a

/-- Whether a chunk lands at a slice port. -/
def ChunkDst.toSlice : ChunkDst → Bool
  | .tile _ _ => false
  | .slice _ _ => true

/-- CHUNK_LANDING (R157, R551): the `i`-th chunk at a port reaches its landing position; none is written before it, nor
while a flit of it awaits its replay (R194). -/
def execChunkLanding (p : Port) (i : Nat) (s : State) : Out :=
  ok (match (chunkIdx s.fab.chunks (fun c => c.atPort p && !c.held))[i]? with
  | none => s
  | some x =>
    match s.fab.chunks[x]? with
    | none => s
    | some c =>
      if c.bad ∨ s.commitDue ∨ s.fabTick < portTick c.dst.toSlice (c.landFrame * 64 + c.landBeat) c.landPos then s
      else s.land x c)

/-- Whether a chunk lands at slice `j`. -/
def ChunkDst.atSlice (j : Nat) : ChunkDst → Bool
  | .tile _ _ => false
  | .slice i _ => decide (i = j)

/-- A chunk that reaches a slice while its landing buffer holds 128 chunks is discarded, and the job of the slice's owner
overruns (R551). -/
def State.chunkArrives (s : State) (c : Chunk) : State :=
  match c.dst with
  | .tile _ _ => s
  | .slice j _ =>
    let there := s.fab.chunks.filter (fun o => o.red.isNone && decide (o.id ≠ c.id) && decide (o.arrives ≤ c.arrives)
      && o.dst.atSlice j)
    if there.length < 128 then s
    else ({ s with fab := { s.fab with chunks := s.fab.chunks.filter (fun o => !decide (o.id = c.id)) } }).overrun
      ((s.sliceVd j).getD c.vd) c.eng c.desc

/-- The chunks that reach the landing buffers of slices in the FCLK from `a` to `b`. -/
def State.tickArrivals (s : State) (a b : Nat) : State :=
  (s.fab.chunks.filter (fun c => c.red.isNone && decide (a ≤ c.arrives) && decide (c.arrives < b))).foldl
    State.chunkArrives s

/-- LANDING_RETRY (R551): the held chunks of a slice are tried again in their order, until one is served. -/
def execLandingRetry (i : Fin 512) (s : State) : Out :=
  let try_ (x : Nat) : State := (s.fab.chunks[x]?).elim s (s.land x)
  let places := chunkIdx s.fab.chunks (fun c => c.atPort (.slice i) && c.held)
  ok (match places.find? (fun x => decide ((try_ x).fab.chunks.length < s.fab.chunks.length)), places.head? with
  | some x, _ => try_ x
  | none, some x => try_ x
  | none, none => s)

/-- Streams with every chunk written whose flag add has not left: engine, place in the engine. -/
def State.flagReady (s : State) : List (Nat × Nat) :=
  s.fab.engines.flatMap (fun (e : Nat × EngineSt) =>
    ((List.range e.2.streams.length).filter (fun q => match e.2.streams[q]? with
      | some x => x.desc.flagEn && !x.flagged && decide (x.desc.chunks ≤ x.written)
      | none => false)).map (fun q => (e.1, q)))

/-- STREAM_FLAG_ADD (R184): the router of the destination of the `i`-th stream whose chunks are all written adds FLAG_ADD to
its flag. -/
def execStreamFlagAdd (i : Nat) (s : State) : Out :=
  ok (match s.flagReady[i]? with
  | none => s
  | some (k, q) =>
    match (s.engine k).streams[q]? with
    | none => s
    | some x =>
      let n := (s.engine k).vd
      (s.modStream k q (fun x => { x with flagged := true })).sendFlag
        ⟨n, s.flagWord n x.desc.flag, .add (BitVec.ofNat 32 x.desc.flagAdd), 128 + k⟩ (.bd (s.dstPort n x.desc).die))

/-! Reductions (R186 to R188, R192) -/

/-- One element of an operation: its bytes, and the sum of two codes (R104). -/
def redAdd (op a b : Nat) : Nat :=
  match op with
  | 0 => Fmt.fp32.addc a b
  | 1 => Fmt.bf16.addc a b
  | _ => wrapN 32 ((a : Int) + b)

/-- Sum of two byte lists element by element, `w` bytes an element. -/
def addElems (op w : Nat) : Nat → List Byte → List Byte → List Byte
  | 0, _, _ => []
  | n + 1, xs, ys =>
    leBytes w (redAdd op (leNat (xs.take w)) (leNat (ys.take w))) ++ addElems op w n (xs.drop w) (ys.drop w)

/-- Sum of two chunks: 16 FP32, 32 BF16 or 16 INT32 elements. -/
def addChunks (op : Nat) (xs ys : List Byte) : List Byte :=
  if op = 1 then addElems op 2 32 xs ys else addElems op 4 16 xs ys

/-- The reservation of the running job of a device on a base die (R187). -/
def State.redReserved (s : State) (n b : Nat) : Nat :=
  match (s.vd n).running with
  | some j => ((s.fab.redRes.find? (fun r => decide (r.vd = n) && decide (r.queue = j.queue))).map
      (fun r => nth 0 r.counts b)).getD 0
  | none => 0

/-- The sum of an entry is complete: it lands at the position of its last contributor, the entry is free. -/
def State.redDone (s : State) (p : Nat) (e : RedEntry) : State :=
  let c : Chunk := ⟨e.vd, e.openEng, e.opener, 0, e.sum, e.dst, e.landFrame, e.landBeat, none, e.from_, false, e.landPos,
    e.due, s.fab.nextId, [], s.fclk + passage true e.dst.toSlice false 0, false⟩
  { s with fab := { s.fab with
      nextId := s.fab.nextId + 1, redEntries := delNth s.fab.redEntries p, chunks := s.fab.chunks ++ [c] } }

/-- Whether a chunk is on its way to be added at the router of a base die. -/
def Chunk.addsAt (c : Chunk) (b : Nat) : Bool :=
  match c.red with
  | some (_, _, bd) => decide (bd = b)
  | none => false

/-- The place of the entry that a reduction chunk joins: that of its device and destination. -/
def State.redPlace (s : State) (c : Chunk) : Option Nat :=
  (List.range s.fab.redEntries.length).find? (fun j => match s.fab.redEntries[j]? with
    | some e => decide (e.vd = c.vd) && decide (e.dst = c.dst)
    | none => false)

/-- The places of the entries of a router. -/
def State.redAt (s : State) (b : Nat) : List Nat :=
  (List.range s.fab.redEntries.length).filter (fun j => match s.fab.redEntries[j]? with
    | some e => decide (e.bd = b)
    | none => false)

/-- A reduction chunk joins the entry at place `j`: it is the last contributor so far (R186). -/
def State.redJoin (s : State) (j : Nat) (c : Chunk) : State :=
  match s.fab.redEntries[j]? with
  | none => s
  | some e =>
    let e' : RedEntry := { e with
      sum := addChunks e.op e.sum c.data
      count := e.count + 1
      landFrame := c.landFrame
      landBeat := c.landBeat
      landPos := c.landPos
      from_ := e.from_ ++ [(c.eng, c.desc)] }
    if e'.contrib ≤ e'.count then s.redDone j e'
    else { s with fab := { s.fab with redEntries := s.fab.redEntries.set j e' } }

/-- A reduction chunk opens an entry of its router (R186). -/
def State.redOpen (s : State) (b : Nat) (c : Chunk) (r : Nat × Nat × Nat) : State :=
  let e : RedEntry := ⟨b, c.vd, c.dst, c.data, 1, r.2.1, r.1, c.desc, c.eng, c.landFrame, c.landBeat, c.landPos, c.due,
    [(c.eng, c.desc)]⟩
  let s := { s with fab := { s.fab with redEntries := s.fab.redEntries ++ [e] } }
  if r.2.1 ≤ 1 then s.redDone (s.fab.redEntries.length - 1) e else s

/-- REDUCTION_CHUNK_ARRIVAL (R186, R187): the `i`-th reduction chunk of a router joins the entry of its destination or
opens one within the reservation of its schedule; a chunk that would open one more ends the job. A chunk of a job that
has ended opens its entry all the same (R188). It does not arrive before its passage is over, nor while a flit of it awaits
its replay. -/
def execReductionChunkArrival (b : Fin 4) (i : Nat) (s : State) : Out :=
  ok (
    match (chunkIdx s.fab.chunks (fun c => c.addsAt b.val))[i]? with
    | none => s
    | some x =>
      match s.fab.chunks[x]? with
      | none => s
      | some c =>
        if c.bad ∨ s.fclk + 16 ≤ c.arrives then s
        else
          let s := s.dropChunk x
          match s.redPlace c with
          | some j => s.redJoin j c
          | none =>
            let used := (s.fab.redEntries.filter (fun e => decide (e.vd = c.vd) && decide (e.bd = b.val))).length
            if (s.liveJob c.vd).isSome ∧ s.redReserved c.vd b.val ≤ used then s.overrun c.vd c.eng c.desc
            else s.redOpen b.val c (c.red.getD (0, 1, b.val)))

/-- REDUCTION_ENTRY_EXPIRY (R188): the `i`-th entry of a router is still short at the end of the frame after the one the
schedule gives its landing position: it is freed without writing and the job overruns. -/
def execReductionEntryExpiry (b : Fin 4) (i : Nat) (s : State) : Out :=
  ok (
    match (s.redAt b.val)[i]? with
    | none => s
    | some j =>
      match s.fab.redEntries[j]? with
      | none => s
      | some e =>
        if s.frame < e.due + 2 then s
        else
          let s := { s with fab := { s.fab with redEntries := delNth s.fab.redEntries j } }
          if (s.liveJob e.vd).isSome then s.overrun e.vd e.openEng e.opener else s)

/-! The tables (R31, R169) -/

/-- Write one entry of FABRIC_SLOT_CORE or FABRIC_SLOT_SLICE (R196). -/
def State.setSlot (s : State) (isSlice : Bool) (unit : Nat) (owner : Option Nat) : State :=
  let k := if isSlice then Reg.fabricSlotSlice unit else Reg.fabricSlotCore unit
  match owner with
  | some n => s.setReg k (BitVec.ofNat 32 (65536 + n % 256))
  | none => s.setReg k 0

/-- Units in transit for one frame become FREE (R340). -/
def State.endTransit (s : State) : State :=
  let free (m : SMap Holder) : SMap Holder := m.map (fun (e : Nat × Holder) =>
    if e.2 = Holder.transit then (e.1, Holder.free) else e)
  { s with pool := { s.pool with cores := free s.pool.cores, slices := free s.pool.slices } }

/-- Whether a frame begins at this tick (R149). -/
def State.onBoundary (s : State) : Bool := decide (s.fabTick % 128 = 0)

/-- A write of the ownership or translation tables waits for the next frame boundary (R31, R169). -/
def State.pend (s : State) (w : TableWrite) : State :=
  { s with fab := { s.fab with pending := s.fab.pending ++ [(s.frame, w)] } }

/-- A write that a step of a rebind makes as it ends: at a frame boundary the frame that ends there is the one it was made
in (R341, R342). -/
def State.pendStep (s : State) (w : TableWrite) : State :=
  { s with fab := { s.fab with pending := s.fab.pending ++ [(if s.onBoundary then s.frame - 1 else s.frame, w)] } }

end Sys2Proof.Machine
end

