-- ==== Sys2Proof/Machine/Coherence.lean ====
section
/-! DEFINITION. The die caches and the home side of coherence (chapter Die caches and the directory): loads and
stores at a die, the merge buffer, the messages of R248 in every state of R259 and R260. -/

namespace Sys2Proof.Machine

/-! Blocks of a die -/

/-- The set of a sector (R239). -/
def dieSet (n sec : Nat) : Nat := (sec + (sec >>> 14) + (sec >>> 28) + 4099 * n) % 12288

/-- Whether a load hits in a state (R259). -/
def BSt.loadHits : BSt → Bool
  | .s | .e | .m | .smD | .miA | .eiA | .siA => true
  | _ => false

/-- The local core whose ways hold the ways of local core `j` of a die: itself in service, else the next
in-service core in ascending order (R240). -/
def State.wayCore (s : State) (d j : Nat) : Nat :=
  (((List.range 8).map (fun i => (j + i) % 8)).find? (fun i =>
    decide (s.coreHolder (8 * d + i) ≠ .notInService))).getD j

/-- The ways of a die that device `n` may use for core `c` (R240): of its own cores, or of the cores of its
set. -/
def State.waysFor (s : State) (d n : Nat) : List Nat :=
  let cores := s.coresOf n
  (List.range 16).filter (fun w => cores.contains (8 * d + s.wayCore d (w / 2)))

/-- Most recent use (R242, R243): the block takes the highest rank among the blocks of its set in the ways its device may use,
the others keep their order. -/
def Die.touch (d : Die) (ways : List Nat) (n sec : Nat) : Die :=
  let here (b : Block) : Bool := decide (dieSet b.vd b.sector = dieSet n sec) && ways.contains b.way
  let me (b : Block) : Bool := decide (b.vd = n) && decide (b.sector = sec)
  let grp := d.blocks.filter here
  { d with blocks := d.blocks.map (fun (b : Block) =>
      if ¬ here b then b
      else if me b then { b with age := grp.length - 1 }
      else { b with age := (grp.filter (fun x => decide (x.age < b.age) && !me x)).length }) }

/-- Most recent use of a block of die `d`. -/
def State.touch (s : State) (d n sec : Nat) : State := s.modDie d (fun k => k.touch (s.waysFor d n) n sec)

/-! Messages from a die -/

/-- The core whose access waits first for a sector: its port carries the request (R249). -/
def Die.asker (k : Die) (n sec : Nat) : Option Nat :=
  (k.acc.find? (fun a => a.waiting && decide (a.vd = n) && decide (a.addr / 256 = sec))).map (·.core)

/-- Send GetS or GetM and count it (R267). -/
def State.sendGet (s : State) (m : Bool) (d n sec : Nat) : State :=
  let port := (s.die d).asker n sec
  if m then (s.bump (Reg.cohereDieGetm d)).toHome .getM d n sec [] port
  else (s.bump (Reg.cohereDieGets d)).toHome .getS d n sec [] port

/-- Send a merge entry to its home as a masked write (R245), by the port of the lowest core that wrote it: the cores that
wrote it and read it are kept by the fences that wait for it (R283). -/
def State.sendEntry (s : State) (d id : Nat) : State :=
  match (s.die d).merge.find? (fun m => decide (m.id = id) && !m.sent) with
  | none => s
  | some m =>
    let bytes := ((List.range 256).filter (fun i => bitOf m.mask i)).map
      (fun i => (256 * m.sector + i, rd m.data i))
    let s := s.modDie d (fun k => { k with merge := k.merge.map (fun (x : MergeEntry) =>
      if x.id = id then { x with sent := true } else x) })
    let lo := (bytes.map (·.1)).headD (256 * m.sector)
    let hi := (bytes.map (·.1)).foldl max lo
    s.request ⟨.write, m.vd, lo, hi + 1 - lo, bytes, false, .merge d id, false, m.early, false⟩
      (some (8 * d + (setBitsOf 8 m.writers).headD 0))

/-- Deliver a load of the die to its group. -/
def State.loadDone (s : State) (a : DAccess) (bs : List Byte) : State :=
  s.accPart a.core a.slot a.id a.addr bs

/-- Whether a block of a die is on its way out: its Put is sent, or it is to leave. -/
def Die.leaving (k : Die) (n sec : Nat) : Bool :=
  match k.block n sec with
  | some b => b.leave || decide (b.st = .miA) || decide (b.st = .iiA)
  | none => true

/-- Put a block on the dirty list of a core (R247): a list with 256 blocks that do not leave already first writes back its
oldest. -/
def State.addDirty (s : State) (d core n sec : Nat) : State :=
  let k := s.die d
  let l := SMap.get (fun _ => ([] : List (Nat × Nat))) k.dirty core
  if l.contains (n, sec) then s
  else
    let stay := l.filter (fun x => !k.leaving x.1 x.2)
    let s := match stay with
      | o :: _ => if 256 ≤ stay.length then s.leaveDie d (fun b => decide (b.vd = o.1) && decide (b.sector = o.2)) else s
      | [] => s
    s.modDie d (fun k =>
      let l := SMap.get (fun _ => ([] : List (Nat × Nat))) k.dirty core
      { k.modBlock n sec (fun b => { b with dirtiers := b.dirtiers ||| 2 ^ (core % 8) }) with
        dirty := SMap.set (fun _ => ([] : List (Nat × Nat))) k.dirty core (l ++ [(n, sec)]) })

/-- Perform a store in a block held in E or M (R244): it becomes M and joins the storing core's list. -/
def State.storeInBlock (s : State) (d : Nat) (a : DAccess) : State :=
  let sec := a.addr / 256
  let s := (s.modDie d (fun k => k.modBlock a.vd sec (fun b => { b with
    st := .m, data := a.bytes.foldl (fun x y => x.set (y.1 % 256) y.2) b.data }))).touch d a.vd sec
  (s.addDirty d a.core a.vd sec).accPart a.core a.slot a.id a.addr []

/-- Put a store into the merge buffer (R245): it joins the unsent entry of its sector or takes a new one; with
32 entries the oldest unsent one is sent and the store waits. A full mask is sent. -/
def State.storeInMerge (s : State) (d q : Nat) (a : DAccess) : State :=
  let k := s.die d
  let sec := a.addr / 256
  let join (m : MergeEntry) : MergeEntry :=
    { m with
      data := a.bytes.foldl (fun x y => wr x (y.1 % 256) y.2) m.data
      mask := a.bytes.foldl (fun x y => x ||| 2 ^ (y.1 % 256)) m.mask
      writers := m.writers ||| 2 ^ (a.core % 8)
      early := a.early, window := a.window }
  let finish (id : Nat) (s : State) : State :=
    let s := (s.modDie d (fun k => { k with acc := delNth k.acc q })).accPart a.core a.slot a.id a.addr []
    match (s.die d).merge.find? (fun m => decide (m.id = id)) with
    | some m => if m.mask = fullMask then s.sendEntry d id else s
    | none => s
  match k.merge.find? (fun m => !m.sent && decide (m.vd = a.vd) && decide (m.sector = sec)) with
  | some m =>
    finish m.id (s.modDie d (fun k => { k with merge := k.merge.map (fun (x : MergeEntry) =>
      if x.id = m.id then join x else x) }))
  | none =>
    if 32 ≤ k.merge.length then
      match k.merge.find? (fun m => !m.sent) with
      | some m => s.sendEntry d m.id
      | none => s
    else
      finish k.nextId (s.modDie d (fun k => { k with
        merge := k.merge ++ [join ⟨k.nextId, a.vd, sec, [], 0, 0, 0, false, a.early, a.window⟩]
        nextId := k.nextId + 1 }))

/-! Accesses at a die (R244, R246, R259) -/

/-- Access `q` of a die with no older access of the die to its sector from the same core. -/
def firstAcc (as : List DAccess) (q : Nat) : Option DAccess :=
  match as[q]? with
  | none => none
  | some a =>
    if (as.take q).any (fun b => decide (b.core = a.core) && decide (b.vd = a.vd)
        && decide (b.addr / 256 = a.addr / 256)) then none else some a

/-- Note that access `q` waits for its block. -/
def Die.waitAcc (k : Die) (q : Nat) : Die :=
  match k.acc[q]? with
  | some a => { k with acc := k.acc.set q { a with waiting := true } }
  | none => k

/-- Take a way for a sector (R240, R243): a way of the device without a block, which goes to `st`; else the
least recent stable block of its ways is replaced and the miss waits. -/
def State.takeWay (s : State) (d n sec : Nat) (st : BSt) : Option State :=
  let k := s.die d
  let ways := s.waysFor d n
  let here := k.blocks.filter (fun b => decide (dieSet b.vd b.sector = dieSet n sec))
  if ¬ k.room then none
  else
    match ways.find? (fun w => here.all (fun b => decide (b.way ≠ w))) with
    | some w => some ((s.modDie d (fun k => { k with blocks := k.blocks ++
        [⟨n, sec, w, st, 0, 15, List.replicate 256 0, .none, false, false, false⟩] })).touch d n sec)
    | none => none

/-- The victim of a miss: the least recent stable block of the ways the device may use (R243). -/
def State.victim (s : State) (d n sec : Nat) : Option Block :=
  let ways := s.waysFor d n
  let here := (s.die d).blocks.filter (fun b => decide (dieSet b.vd b.sector = dieSet n sec)
    && b.st.stable && ways.contains b.way)
  let age := minN 0 (here.map (·.age))
  here.find? (fun b => decide (b.age = age))

/-- DIE_CACHE_LOAD (R246, R259): served from its merge entry, or after the entry is acknowledged; a hit; a wait; or
a miss that takes a way and sends GetS. A load that comes after the Inv of its block (IS_DI) does not use the data that
the home has ordered before it; a block whose bytes an error has taken does not hit (R268). -/
def dieLoad (d q : Nat) (s : State) : State :=
  let k := s.die d
  match firstAcc k.acc q with
  | none => s
  | some a =>
    if a.store then s else
    let sec := a.addr / 256
    let serve (bs : List Byte) (s : State) : State :=
      (s.modDie d (fun k => { k with acc := delNth k.acc q })).loadDone a bs
    let off := a.addr % 256
    match k.merge.find? (fun m => decide (m.vd = a.vd) && decide (m.sector = sec)) with
    | some m =>
      if m.sent then s
      else if (List.range a.len).all (fun i => bitOf m.mask (off + i)) then
        serve (rdN m.data off a.len) (s.modDie d (fun k => { k with merge := k.merge.map (fun (x : MergeEntry) =>
          if x.id = m.id then { x with readers := x.readers ||| 2 ^ (a.core % 8) } else x) }))
      else s.sendEntry d m.id
    | none =>
      match k.block a.vd sec with
      | some b =>
        if b.st.loadHits ∧ ¬ b.bad then serve ((b.data.drop off).take a.len) (s.touch d a.vd sec)
        else if b.st = BSt.isDI then s
        else s.modDie d (fun k => k.waitAcc q)
      | none =>
        match s.takeWay d a.vd sec .isD with
        | some s' => (s'.modDie d (fun k => k.waitAcc q)).sendGet false d a.vd sec
        | none =>
          match s.victim d a.vd sec with
          | some v => if k.room then s.putBlock d v.vd v.sector (some a.core) else s
          | none => s

/-- DIE_CACHE_STORE (R244, R259): a hit in E or M; GetM from S; the merge buffer where the die holds no copy; else
it waits for the block. -/
def dieStore (d q : Nat) (s : State) : State :=
  let k := s.die d
  match firstAcc k.acc q with
  | none => s
  | some a =>
    if ¬ a.store then s else
    let sec := a.addr / 256
    match k.block a.vd sec with
    | none => s.storeInMerge d q a
    | some b =>
      match b.st with
      | .e | .m => if b.bad then s else (s.modDie d (fun k => { k with acc := delNth k.acc q })).storeInBlock d a
      | .s =>
        if ¬ k.room ∨ b.bad then s
        else (s.modDie d (fun k => (k.modBlock a.vd sec (fun b => { b with st := .smD })).waitAcc q)).sendGet
          true d a.vd sec
      | _ => s.modDie d (fun k => k.waitAcc q)

/-! Grants and forwards at a die -/

/-- The first message that a test selects, complete and with no earlier message of its sender for its sector before it (R28,
R250): its place and itself. -/
def nextMsg (ms : List CohMsg) (p : CohMsg → Bool) : Option (Nat × CohMsg) :=
  ((List.range ms.length).zip ms).find? (fun e => p e.2 && e.2.ctl && e.2.whole &&
    !((ms.take e.1).any (fun m => decide (m.src = e.2.src) && decide (m.dst = e.2.dst)
      && decide (m.vd = e.2.vd) && decide (m.sector = e.2.sector))))

/-- Take a message out of flight. -/
def State.takeMsg (s : State) (i : Nat) : State := { s with msgs := delNth s.msgs i }

/-- Serve every waiting load of a sector from a block's data. -/
def State.serveLoads (s : State) (d n sec : Nat) : State :=
  let k := s.die d
  match k.block n sec with
  | none => s
  | some b =>
    let mine (a : DAccess) : Bool :=
      a.waiting && !a.store && decide (a.vd = n) && decide (a.addr / 256 = sec)
    let s' := (k.acc.filter mine).foldl (fun s a => s.loadDone a ((b.data.drop (a.addr % 256)).take a.len)) s
    s'.modDie d (fun k => { k with acc := k.acc.filter (fun a => !mine a) })

/-- Perform every waiting store of a sector in its block, in order. -/
def State.serveStores (s : State) (d n sec : Nat) : State :=
  let mine (a : DAccess) : Bool :=
    a.waiting && a.store && decide (a.vd = n) && decide (a.addr / 256 = sec)
  let as := (s.die d).acc.filter mine
  as.foldl (fun s a => s.storeInBlock d a)
    (s.modDie d (fun k => { k with acc := k.acc.filter (fun a => !mine a) }))

/-- A dirty block leaves its die, or is no longer dirty, before the home has its data (R282): the cores on whose lists it was
remember it for the fences that wait for completion. -/
def Die.noteMoved (k : Die) (n sec : Nat) : Die :=
  { k with moved := k.dirty.foldl (fun m (x : Nat × List (Nat × Nat)) =>
      if x.2.contains (n, sec) then
        SMap.set (fun _ => ([] : List (Nat × Nat))) m x.1
          ((SMap.get (fun _ => ([] : List (Nat × Nat))) m x.1).erase (n, sec) ++ [(n, sec)])
      else m) k.moved }

/-- The home has the data of a sector: the stores in it are complete (R282). -/
def State.settleMoved (s : State) (n sec : Nat) : State :=
  { s with dies := s.dies.map (fun (d : Nat × Die) => (d.1, { d.2 with
      moved := d.2.moved.map (fun (x : Nat × List (Nat × Nat)) => (x.1, x.2.erase (n, sec))) })) }

/-- Send the sector of a block from die `d` to the requester of a forward, if that is a die. -/
def State.toAsker (s : State) (kind : CohKind) (d n sec : Nat) (r : Option Nat) (data : List Byte) : State :=
  match r with
  | some c => s.sendMsg (.new kind (.die d) (.die c) n sec none data)
  | none => s

/-- What an owner in M does on a forward or an Inv (R259): its answer, and the state it goes to (none is I). -/
def State.ownerActs (s : State) (d n sec : Nat) (df : Deferred) : State :=
  match (s.die d).block n sec with
  | none => s
  | some b =>
    let s := if df = .none then s else s.modDie d (fun k => k.noteMoved n sec)
    match df with
    | .fwdS r =>
      ((s.toAsker .data d n sec r b.data).toHome .dataM d n sec b.data).modDie d (fun k =>
        (k.offLists n sec).modBlock n sec (fun b => { b with st := .s, deferred := .none }))
    | .fwdM r =>
      ((s.toAsker .dataM d n sec r b.data).toHome .invAck d n sec []).modDie d (fun k => k.dropBlock n sec)
    | .inv => (s.toHome .dataM d n sec b.data).modDie d (fun k => k.dropBlock n sec)
    | .none => s

/-- The grant of M: the block gets its data and its waiting stores are done; what was deferred then acts
(R259 IM_D, SM_D, IM_DS, IM_DI). -/
def State.grantM (s : State) (d n sec : Nat) (data : List Byte) : State :=
  match (s.die d).block n sec with
  | none => s
  | some b =>
    if b.st = BSt.imD ∨ b.st = BSt.smD ∨ b.st = BSt.imDS ∨ b.st = BSt.imDI then
      let s := s.modDie d (fun k => k.modBlock n sec (fun b => { b with st := .m, data := data, nacked := false }))
      let s := (s.serveStores d n sec).serveLoads d n sec
      (s.ownerActs d n sec b.deferred).pumpLeave d
    else s

/-- Inv, FwdGetS or FwdGetM at a die (R259). A block whose Put is on its way stays on its dirty lists (R271). -/
def State.dieInv (s : State) (d n sec : Nat) (df : Deferred) : State :=
  match (s.die d).block n sec with
  | none => s.toHome .invAck d n sec []
  | some b =>
    let ack (s : State) : State := s.toHome .invAck d n sec []
    let to_ (st : BSt) (s : State) : State := s.modDie d (fun k => k.modBlock n sec (fun b => { b with st := st }))
    let defer (st : BSt) : State := s.modDie d (fun k => k.modBlock n sec (fun b => { b with st := st, deferred := df }))
    let note : State := s.modDie d (fun k => k.noteMoved n sec)
    match df, b.st with
    | .inv, .s => (ack s).modDie d (fun k => k.dropBlock n sec)
    | .inv, .e => (ack s).modDie d (fun k => k.dropBlock n sec)
    | _, .m => (s.ownerActs d n sec df).pumpLeave d
    | .fwdS r, .e => (to_ .s (ack (s.toAsker .data d n sec r b.data))).pumpLeave d
    | .fwdM r, .e => (ack (s.toAsker .dataM d n sec r b.data)).modDie d (fun k => k.dropBlock n sec)
    | .inv, .isD => to_ .isDI (ack s)
    | .inv, .imD => defer .imDI
    | .fwdS _, .imD => defer .imDS
    | .fwdM _, .imD => defer .imDI
    | .inv, .smD => to_ .imD (ack s)
    | .inv, .miA => to_ .iiA (note.toHome .dataM d n sec b.data)
    | .fwdS r, .miA => to_ .iiA ((note.toAsker .data d n sec r b.data).toHome .dataM d n sec b.data)
    | .fwdM r, .miA => to_ .iiA (ack (note.toAsker .dataM d n sec r b.data))
    | .inv, .eiA => to_ .iiA (ack s)
    | .fwdS r, .eiA => to_ .iiA (ack (s.toAsker .data d n sec r b.data))
    | .fwdM r, .eiA => to_ .iiA (ack (s.toAsker .dataM d n sec r b.data))
    | .inv, .siA => to_ .iiA (ack s)
    | _, _ => s

/-- Handle the next Inv, FwdGetS or FwdGetM from a home to a die. -/
def dieForward (kind : CohKind) (i d : Nat) (s : State) : State :=
  match nextMsg s.msgs (fun m => decide (m.kind = kind) && decide (m.src = .home i) && decide (m.dst = .die d)) with
  | none => s
  | some (j, m) =>
    let df : Deferred := match kind with
      | .inv => .inv
      | .fwdGetS => .fwdS m.r
      | _ => .fwdM m.r
    (s.takeMsg j).dieInv d m.vd m.sector df

/-- Handle the next Data at a die (R259): waiting loads are served, from IS_D the block stays in S, from IS_DI
they use the data once and it goes to I. -/
def dieData (d : Nat) (s : State) : State :=
  match nextMsg s.msgs (fun m => decide (m.kind = .data) && decide (m.dst = .die d)) with
  | none => s
  | some (j, m) =>
    let s := s.takeMsg j
    match (s.die d).block m.vd m.sector with
    | none => s
    | some b =>
      let s := (s.modDie d (fun k => k.modBlock m.vd m.sector (fun b => { b with
        data := m.data, nacked := false }))).touch d m.vd m.sector
      match b.st with
      | .isD => ((s.modDie d (fun k => k.modBlock m.vd m.sector (fun b => { b with st := .s }))).serveLoads
          d m.vd m.sector).pumpLeave d
      | .isDI => ((s.serveLoads d m.vd m.sector).modDie d (fun k => k.dropBlock m.vd m.sector)).pumpLeave d
      | _ => s

/-- Handle the next DataE at a die (R259). -/
def dieDataE (i d : Nat) (s : State) : State :=
  match nextMsg s.msgs (fun m => decide (m.kind = .dataE) && decide (m.src = .home i) && decide (m.dst = .die d)) with
  | none => s
  | some (j, m) =>
    let s := s.takeMsg j
    match (s.die d).block m.vd m.sector with
    | some b =>
      if b.st = BSt.isD then
        (((s.modDie d (fun k => k.modBlock m.vd m.sector (fun b => { b with
          st := .e, data := m.data, nacked := false }))).touch d m.vd m.sector).serveLoads d m.vd m.sector).pumpLeave d
      else s
    | none => s

/-- Handle the next DataM at a die, from the home or from another die (R259). -/
def dieDataM (d : Nat) (s : State) : State :=
  match nextMsg s.msgs (fun m => decide (m.kind = .dataM) && decide (m.dst = .die d)) with
  | none => s
  | some (j, m) => (s.takeMsg j).grantM d m.vd m.sector m.data

/-- Handle the next PutAck at a die (R259): the block goes to I; fences stop waiting for it. -/
def diePutAck (i d : Nat) (s : State) : State :=
  match nextMsg s.msgs (fun m => decide (m.kind = .putAck) && decide (m.src = .home i) && decide (m.dst = .die d)) with
  | none => s
  | some (j, m) => ((s.takeMsg j).modDie d (fun k => k.dropBlock m.vd m.sector)).pumpLeave d

/-- Handle the next Nack at a die (R251): the block keeps its state and will resend. -/
def dieNack (i d : Nat) (s : State) : State :=
  match nextMsg s.msgs (fun m => decide (m.kind = .nack) && decide (m.src = .home i) && decide (m.dst = .die d)) with
  | none => s
  | some (j, m) =>
    ((s.takeMsg j).bump (Reg.cohereDieNacks d)).modDie d (fun k =>
      k.modBlock m.vd m.sector (fun b => { b with nacked := true }))

/-- COHERENCE_RESEND (R251): the `q`-th block of a die sends its refused request again. -/
def dieResend (d q : Nat) (s : State) : State :=
  match (s.die d).blocks[q]? with
  | none => s
  | some b =>
    if ¬ b.nacked then s
    else
      let s := s.modDie d (fun k => k.modBlock b.vd b.sector (fun b => { b with nacked := false }))
      match b.st with
      | .isD => s.sendGet false d b.vd b.sector
      | .imD | .smD => s.sendGet true d b.vd b.sector
      | _ => s

/-! The home side (R260) -/

/-- Handle a message from a die at a home, where it is next and its line is there. -/
def homeMsg (kind : CohKind) (i d : Nat) (s : State) (f : Nat → Nat → CohMsg → State → State) : State :=
  match nextMsg s.msgs (fun m => decide (m.kind = kind) && decide (m.src = .die d) && decide (m.dst = .home i)) with
  | none => s
  | some (j, m) =>
    match (s.slice i).find (m.sector / 16) with
    | none => s
    | some k => f j k m s

/-- Refuse a request (R255). -/
def State.nackMsg (s : State) (i d j : Nat) (m : CohMsg) : State :=
  (s.takeMsg j).sendMsg (.new .nack (.home i) (.die d) m.vd m.sector none [])

/-- Grant a sector to a die from a line (R211, R256). -/
def State.grant (s : State) (kind : CohKind) (i k d : Nat) (m : CohMsg) (vec : Nat) (st : DState) : State :=
  let l := (s.slice i).way k
  let sec := m.sector % 16
  (s.modSlice i (fun sl => sl.modWay k (fun l =>
    { l.setDir sec ⟨st, vec⟩ with rrpv := if m.missed then l.rrpv else 0 }))).sendMsg
    (.new kind (.home i) (.die d) m.vd m.sector none (l.bytes sec))

/-- A GetS or GetM finds its line missing or its sector not whole, which counts once (R211); a GetS that needs a sector in I
may be a dead read (R220). -/
def State.missMsg (s : State) (i : Nat) (m : CohMsg) (empty : Bool) : State :=
  if m.missed then s
  else
    let s := if empty ∧ m.kind = CohKind.getS then s.deadRead i (m.sector / 16) else s
    { s with msgs := s.msgs.map (fun (x : CohMsg) => if x.id = m.id then { x with missed := true } else x) }

/-- A GetS or GetM, message `j`, whose line is in way `k` (R255, R256, R260). -/
def State.handleGet (s : State) (wantM : Bool) (i d j k : Nat) (m : CohMsg) : State :=
  let sl := s.slice i
  let l := sl.way k
  let sec := m.sector % 16
  let dir := l.dir sec
  if l.held ∨ dir.st = DState.tr then s.nackMsg i d j m
  else if (l.sec sec).filling then s.missMsg i m (decide ((l.sec sec).st = .i))
  else if sl.acceptedIn m.sector then s
  else
    match dir.st with
    | .em =>
      let o := (vecDies dir.vec).headD 0
      if ¬ sl.trRoom then s.nackMsg i d j m
      else
        let kind : TrKind := if wantM then .emmA else .emsD
        (((s.takeMsg j).modSlice i (fun sl => sl.addTr k
          ⟨l.line, sec, kind, some d, some o, 0, false, false, false, []⟩)).sendMsg
            (.new (if wantM then .fwdGetM else .fwdGetS) (.home i) (.die o) m.vd m.sector (some d) []))
    | _ =>
      if ¬ l.full sec then (s.missMsg i m (decide ((l.sec sec).st = .i))).startFill i k sec
      else if ¬ wantM then
        if dir.st = DState.s then (s.takeMsg j).grant .data i k d m (dir.vec ||| 2 ^ d) .s
        else (s.takeMsg j).grant .dataE i k d m (2 ^ d) .em
      else
        let others := setBits dir.vec d 1 0
        if others = 0 then (s.takeMsg j).grant .dataM i k d m (2 ^ d) .em
        else if ¬ sl.trRoom then s.nackMsg i d j m
        else
          let s := (s.takeMsg j).modSlice i (fun sl => (sl.addTr k
            ⟨l.line, sec, .smA, some d, none, popcount 12 others, false, false, false, []⟩).modWay k
              (fun l => l.setDir sec ⟨.tr, others⟩))
          s.sendAll .inv i others m.vd m.sector

/-- GetS or GetM at the home (R255, R256, R260). -/
def homeGet (wantM : Bool) (i d : Nat) (s : State) : State :=
  match nextMsg s.msgs (fun m => decide (m.kind = if wantM then .getM else .getS) && decide (m.src = .die d)
      && decide (m.dst = .home i)) with
  | none => s
  | some (j, m) =>
    match (s.slice i).find (m.sector / 16) with
    | none => s.missMsg i m true
    | some k => s.handleGet wantM i d j k m

/-- Answer a Put. -/
def State.putAck (s : State) (i d j : Nat) (m : CohMsg) : State :=
  (s.takeMsg j).sendMsg (.new .putAck (.home i) (.die d) m.vd m.sector none [])

/-- PutS at the home (R260): in S the sender leaves the list; in a transaction it is answered and still awaited. -/
def homePutS (i d : Nat) (s : State) : State :=
  homeMsg .putS i d s (fun j k m s =>
    let sec := m.sector % 16
    let dir := ((s.slice i).way k).dir sec
    let s := s.putAck i d j m
    if dir.st = DState.s then
      let v := setBits dir.vec d 1 0
      (s.modSlice i (fun sl => sl.modWay k (fun l => l.setDir sec (if v = 0 then Dir.none else ⟨.s, v⟩)))).settleSlice i
    else s)

/-- PutE at the home (R260): in EM the copy is given up; in EMS_D it sets DROP. -/
def homePutE (i d : Nat) (s : State) : State :=
  homeMsg .putE i d s (fun j k m s =>
    let sec := m.sector % 16
    let l := (s.slice i).way k
    let s := s.putAck i d j m
    match (l.dir sec).st, (s.slice i).tr l.line sec with
    | .em, _ => (s.modSlice i (fun sl => sl.modWay k (fun l => l.setDir sec Dir.none))).settleSlice i
    | .tr, some t =>
      if t.kind = TrKind.emsD then s.modSlice i (fun sl => sl.modTr l.line sec (fun t => { t with drop := true }))
      else s
    | _, _ => s)

/-- Write the 256 bytes a message carries (R206, R211, R256). -/
def State.writeCarried (s : State) (i k : Nat) (m : CohMsg) : State :=
  (s.landBytes i k (m.sector % 16) ((List.range 256).zip m.data)).modSlice i (fun sl =>
    sl.modWay k (fun l => { l with rrpv := 0 }))

/-- PutM at the home (R260): in EM and EMS_D the data is written; in EMM_A it is discarded; in RI_A it is written
unless DISCARD. -/
def homePutM (i d : Nat) (s : State) : State :=
  homeMsg .putM i d s (fun j k m s =>
    let sec := m.sector % 16
    let l := (s.slice i).way k
    let s := s.putAck i d j m
    match (l.dir sec).st, (s.slice i).tr l.line sec with
    | .em, _ => (((s.writeCarried i k m).settleMoved m.vd m.sector).modSlice i (fun sl =>
        sl.modWay k (fun l => l.setDir sec Dir.none))).settleSlice i
    | .tr, some t =>
      let s := if t.kind = TrKind.emmA ∨ t.kind = TrKind.smA then s
        else (if t.discard then s else s.writeCarried i k m).settleMoved m.vd m.sector
      if t.kind = TrKind.emsD then s.modSlice i (fun sl => sl.modTr l.line sec (fun t => { t with drop := true }))
      else s
    | _, _ => s)

/-- An InvAck, or a DataM after its write, for an open transaction (R260). -/
def State.ackTr (s : State) (i k : Nat) (m : CohMsg) : State :=
  let sec := m.sector % 16
  let l := (s.slice i).way k
  match (s.slice i).tr l.line sec with
  | none => s
  | some t =>
    let bit (o : Option Nat) : Nat := match o with | some c => 2 ^ c | none => 0
    match t.kind with
    | .emsD =>
      let v := bit t.req ||| (if t.drop then 0 else bit t.owner)
      s.endTr i k sec (if v = 0 then Dir.none else ⟨.s, v⟩)
    | .emmA => s.endTr i k sec ⟨.em, bit t.req⟩
    | .smA =>
      if 1 < t.acks then s.modSlice i (fun sl => sl.modTr l.line sec (fun t => { t with acks := t.acks - 1 }))
      else
        let r := t.req.getD 0
        (s.sendMsg (.new .dataM (.home i) (.die r) m.vd m.sector none (l.bytes sec))).endTr i k sec ⟨.em, 2 ^ r⟩
    | .riA =>
      if 1 < t.acks then s.modSlice i (fun sl => sl.modTr l.line sec (fun t => { t with acks := t.acks - 1 }))
      else s.endTr i k sec Dir.none

/-- InvAck at the home (R260). -/
def homeInvAck (i d : Nat) (s : State) : State :=
  homeMsg .invAck i d s (fun j k m s => (s.takeMsg j).ackTr i k m)

/-- DataM returned to the home (R260): written unless DISCARD, then as InvAck. -/
def homeDataM (i d : Nat) (s : State) : State :=
  homeMsg .dataM i d s (fun j k m s =>
    let l := (s.slice i).way k
    let s := s.takeMsg j
    match (s.slice i).tr l.line (m.sector % 16) with
    | none => s
    | some t => ((if t.discard then s else s.writeCarried i k m).settleMoved m.vd m.sector).ackTr i k m)

/-- WRITE_ACKNOWLEDGEMENT (R280, R285): the `q`-th acknowledgement or notice on its way reaches a die. An
acknowledged entry leaves the merge buffer; one acknowledged early is owed its completion notice. -/
def writeAck (d q : Nat) (s : State) : State :=
  let k := s.die d
  match k.ackIn[q]? with
  | none => s
  | some (id, notice) =>
    let s := s.modDie d (fun k => { k with ackIn := delNth k.ackIn q })
    if notice then s.modDie d (fun k => { k with owed := k.owed.filter (fun m => !decide (m.id = id)) })
    else
      match k.merge.find? (fun m => decide (m.id = id)) with
      | none => s
      | some m => s.modDie d (fun k => { k with
          merge := k.merge.filter (fun m => !decide (m.id = id))
          owed := if m.early then k.owed ++ [m] else k.owed })

/-! The commands -/

/-- DIE_CACHE_LOAD (R259). -/
def execDieCacheLoad (d : Fin 12) (i : Nat) (s : State) : Out := ok (dieLoad d.val i s)

/-- DIE_CACHE_STORE (R244). -/
def execDieCacheStore (d : Fin 12) (i : Nat) (s : State) : Out := ok (dieStore d.val i s)

/-- MERGE_ENTRY_AGE_EXPIRY (R245): the `i`-th entry is old enough and is sent. -/
def execMergeEntryAgeExpiry (d : Fin 12) (i : Nat) (s : State) : Out :=
  ok (match (s.die d.val).merge[i]? with
    | some m => s.sendEntry d.val m.id
    | none => s)

/-- WRITE_ACKNOWLEDGEMENT (R280). -/
def execWriteAcknowledgement (d : Fin 12) (i : Nat) (s : State) : Out := ok (writeAck d.val i s)

/-- GETS (R260). -/
def execGets (i : Fin 512) (d : Fin 12) (s : State) : Out := ok (homeGet false i.val d.val s)

/-- GETM (R260). -/
def execGetm (i : Fin 512) (d : Fin 12) (s : State) : Out := ok (homeGet true i.val d.val s)

/-- PUTS (R260). -/
def execPuts (i : Fin 512) (d : Fin 12) (s : State) : Out := ok (homePutS i.val d.val s)

/-- PUTE (R260). -/
def execPute (i : Fin 512) (d : Fin 12) (s : State) : Out := ok (homePutE i.val d.val s)

/-- PUTM (R260). -/
def execPutm (i : Fin 512) (d : Fin 12) (s : State) : Out := ok (homePutM i.val d.val s)

/-- INVACK (R260). -/
def execInvack (i : Fin 512) (d : Fin 12) (s : State) : Out := ok (homeInvAck i.val d.val s)

/-- DATAM (R259, R260): dirty data returns to the home, or a grant of M reaches a die. -/
def execDatam (toHome : Bool) (i : Fin 512) (d : Fin 12) (s : State) : Out :=
  ok (if toHome then homeDataM i.val d.val s else dieDataM d.val s)

/-- INV (R259). -/
def execInv (i : Fin 512) (d : Fin 12) (s : State) : Out := ok (dieForward .inv i.val d.val s)

/-- FWDGETS (R259). -/
def execFwdgets (i : Fin 512) (d : Fin 12) (s : State) : Out := ok (dieForward .fwdGetS i.val d.val s)

/-- FWDGETM (R259). -/
def execFwdgetm (i : Fin 512) (d : Fin 12) (s : State) : Out := ok (dieForward .fwdGetM i.val d.val s)

/-- DATA (R259). -/
def execData (d : Fin 12) (s : State) : Out := ok (dieData d.val s)

/-- DATAE (R259). -/
def execDatae (i : Fin 512) (d : Fin 12) (s : State) : Out := ok (dieDataE i.val d.val s)

/-- PUTACK (R259). -/
def execPutack (i : Fin 512) (d : Fin 12) (s : State) : Out := ok (diePutAck i.val d.val s)

/-- NACK (R251). -/
def execNack (i : Fin 512) (d : Fin 12) (s : State) : Out := ok (dieNack i.val d.val s)

/-- COHERENCE_RESEND (R251). -/
def execCoherenceResend (d : Fin 12) (i : Nat) (s : State) : Out := ok (dieResend d.val i s)

end Sys2Proof.Machine
end

