-- ==== Sys2Proof/Machine/Sequencer.lean ====
section
/-! DEFINITION. The sequencer of a core (chapter The core and its matrix engine): fetch through the instruction
buffer, scalar instructions, issue queues and scoreboard, the end of a kernel and its drains. -/

namespace Sys2Proof.Machine

/-! Caches of 256-byte lines beside a core (R39, R67, R107) -/

/-- The line of a cache that holds a line number of a device. -/
def cacheFind (ls : List CLine) (n line : Nat) : Option CLine :=
  ls.find? (fun l => decide (l.vd = n) && decide (l.line = line))

/-- The larger age than every other. -/
def cacheTop (ls : List CLine) : Nat := (ls.map (·.age)).foldl max 0 + 1

/-- A line was used. -/
def cacheTouch (ls : List CLine) (n line : Nat) : List CLine :=
  let top := cacheTop ls
  ls.map (fun (l : CLine) => if l.vd = n ∧ l.line = line then { l with age := top } else l)

/-- Install a line in its set: the least recently used line of a full set goes (log entry 15: which lines
share a set). -/
def cacheInstall (sets ways : Nat) (ls : List CLine) (n line : Nat) (bs : List Byte) : List CLine :=
  let others := ls.filter (fun l => !(decide (l.vd = n) && decide (l.line = line)))
  let here := others.filter (fun l => decide (l.line % sets = line % sets))
  let oldest := minN 0 (here.map (·.age))
  let kept := if here.length < ways then others
    else others.filter (fun l => !(decide (l.line % sets = line % sets) && decide (l.age = oldest)))
  kept ++ [⟨line, n, cacheTop ls, bs⟩]

/-- The 128-bit instruction at an address, where the cache holds its line (R69). -/
def cacheWord (ls : List CLine) (n pc : Nat) : Option Nat :=
  (cacheFind ls n (pc / 256)).map (fun l => leNat ((l.bytes.drop (pc % 256)).take 16))

/-! The job on a core -/

/-- The descriptor a job runs under: its fallback once that has started (R365). -/
def Job.cur (j : Job) : JobDesc := if j.fellBack then j.fallback.getD j.desc else j.desc

/-- The device and the running job of a core. -/
def State.coreJob (s : State) (c : Nat) : Option (Nat × Job) :=
  match s.coreVd c with
  | none => none
  | some n => ((s.vd n).running).map (fun j => (n, j))

/-! Scalar registers (R71) -/

/-- Scalar register `r`; s0 reads as zero. -/
def Core.sreg (k : Core) (r : Nat) : W64 := if r = 0 then 0 else SMap.get (fun _ => (0 : W64)) k.sregs r

/-- Write scalar register `r`; writes to s0 are ignored. -/
def Core.setSreg (k : Core) (r : Nat) (v : W64) : Core :=
  if r = 0 then k else { k with sregs := SMap.set (fun _ => (0 : W64)) k.sregs r v }

/-! Fetch and issue (R39 to R41, R76) -/

/-- Ask the home for the instruction line of core `c`, where no fill is out (R39). -/
def State.startFetch (s : State) (c n line : Nat) : State :=
  if (s.core c).ibFill.isSome then s
  else (s.modCore c (fun k => { k with ibFill := some ⟨line, n, none, false, []⟩ })).request
    ⟨.plain, n, 256 * line, 256, [], false, .ibuf c line, false, false, false⟩

/-- Whether an address lies in the code region of a job (R353). -/
def Job.inCode (j : Job) (pc : Nat) : Bool :=
  decide (j.cur.codeAddr ≤ pc) && decide (pc + 16 ≤ j.cur.codeAddr + j.cur.codeLen)

/-- The next instruction of core `c` reaches issue (R39, R41, R76): a running core whose address lies outside its
code region faults with FETCH; a miss asks for the line; else `f` gets the word. -/
def State.fetch (s : State) (c : Nat) (f : Nat → State → State) : State :=
  let k := s.core c
  match s.coreJob c with
  | none => s
  | some (n, j) =>
    if k.seq ≠ SeqSt.running ∨ j.ended.isSome then s
    else if ¬ j.inCode k.pc then s.fault c 0x08 k.pc 0 0
    else
      match cacheWord k.ibuf n k.pc with
      | none => s.startFetch c n (k.pc / 256)
      | some w => f w (s.modCore c (fun k => { k with ibuf := cacheTouch k.ibuf n (k.pc / 256) }))

/-- The opcode of a word (R69). -/
def opcodeOf (w : Nat) : Nat := bitsOf w 120 8

/-- The instruction at issue is of an opcode: nothing where it is another. -/
def State.issueOp (s : State) (c op : Nat) (f : Nat → State → State) : State :=
  s.fetch c (fun w s' => if opcodeOf w = op then f w s' else s)

/-- The lowest cause of those that hold (R76). -/
def lowestCause (cs : List (Bool × Nat)) : Option Nat := (cs.find? (·.1)).map (·.2)

/-- Fault with the lowest cause, or go on. -/
def State.checked (s : State) (c : Nat) (cs : List (Bool × Nat)) (f : State → State) : State :=
  match lowestCause cs with
  | some x => s.fault c x (s.core c).pc 0 0
  | none => f s

/-- The next address. -/
def State.nextPc (s : State) (c : Nat) : State := s.modCore c (fun k => { k with pc := k.pc + 16 })

/-! Scalar instructions (R71) -/

/-- Fields of a scalar instruction. -/
def sdOf (w : Nat) : Nat := bitsOf w 115 5
def saOf (w : Nat) : Nat := bitsOf w 110 5
def sbOf (w : Nat) : Nat := bitsOf w 105 5
def sfunct (w : Nat) : Nat := bitsOf w 100 5
def immOf (w : Nat) : Nat := bitsOf w 0 64

/-- Whether the reserved bits of a scalar instruction are set. -/
def scalarResv (w : Nat) : Bool := decide (bitsOf w 64 36 ≠ 0)

/-- The result of SALU; none for a reserved code. -/
def saluOp (f : Nat) (a x : W64) : Option W64 :=
  match f with
  | 0 => some (a + x)
  | 1 => some (a - x)
  | 2 => some (a * x)
  | 3 => some (a &&& x)
  | 4 => some (a ||| x)
  | 5 => some (a ^^^ x)
  | 6 => some (a <<< (fld x 0 6))
  | 7 => some (a >>> (fld x 0 6))
  | 8 => some (BitVec.sshiftRight a (fld x 0 6))
  | 9 => some (if x.slt a then x else a)
  | 10 => some (if a.slt x then x else a)
  | _ => none

/-- The condition of SBR; none for a reserved code. -/
def sbrCond (f : Nat) (a b : W64) : Option Bool :=
  match f with
  | 0 => some true
  | 1 => some (decide (a = b))
  | 2 => some (decide (a ≠ b))
  | 3 => some (a.slt b)
  | 4 => some (!a.slt b)
  | 5 => some (a.ult b)
  | 6 => some (!a.ult b)
  | _ => none

/-- SALU (R71). -/
def execSalu (c : Fin 96) (s : State) : Out :=
  ok (s.issueOp c.val 0x01 (fun w s =>
    let k := s.core c.val
    let x := if bitOf w 104 then BitVec.ofNat 64 (immOf w) else k.sreg (sbOf w)
    match scalarResv w, saluOp (bitsOf w 100 4) (k.sreg (saOf w)) x with
    | false, some v => (s.modCore c.val (fun k => k.setSreg (sdOf w) v)).nextPc c.val
    | _, _ => s.fault c.val 0x02 k.pc 0 0))

/-- SLI (R71). -/
def execSli (c : Fin 96) (s : State) : Out :=
  ok (s.issueOp c.val 0x02 (fun w s =>
    s.checked c.val [(scalarResv w, 0x02)] (fun s =>
      (s.modCore c.val (fun k => k.setSreg (sdOf w) (BitVec.ofNat 64 (immOf w)))).nextPc c.val)))

/-- SBR (R71): the target is this address plus 16 times the signed IMM, as a 64-bit address. -/
def execSbr (c : Fin 96) (s : State) : Out :=
  ok (s.issueOp c.val 0x03 (fun w s =>
    let k := s.core c.val
    match scalarResv w, sbrCond (sfunct w) (k.sreg (saOf w)) (k.sreg (sbOf w)) with
    | false, some true =>
      s.modCore c.val (fun k => { k with pc := wrapN 64 ((k.pc : Int) + 16 * sext (immOf w) 64) })
    | false, some false => s.nextPc c.val
    | _, _ => s.fault c.val 0x02 k.pc 0 0))

/-- The causes of a scalar access of the tile store at an address (R76). -/
def tileCauses (w a : Nat) : List (Bool × Nat) :=
  [(scalarResv w, 0x02), (decide (0x800000 < a + 8), 0x06), (decide (a % 8 ≠ 0), 0x07)]

/-- The address of a scalar access. DESIGN CHOICE: the spec gives the sum no width; it wraps modulo 2^64 as scalar
arithmetic does, before the range is tested (log entry 49). -/
def Core.tileAddr (k : Core) (w : Nat) : Nat := ((k.sreg (saOf w)) + BitVec.ofNat 64 (immOf w)).toNat

/-- Whether a TGWAIT of the core has not completed: no younger instruction passes it to the tile store (R114). -/
def Core.tgwaits (k : Core) : Bool := k.qg.any (fun e => decide (opcodeOf e.word = 0x21) && decide (e.done = 0))

/-- SLDT (R71), after the tile-store writes that a TGWAIT orders before it (R114). -/
def execSldt (c : Fin 96) (s : State) : Out :=
  ok (s.issueOp c.val 0x05 (fun w s' =>
    let a := (s'.core c.val).tileAddr w
    if (s'.core c.val).tgwaits then s
    else s'.checked c.val (tileCauses w a) (fun s =>
      (s.modCore c.val (fun k => k.setSreg (sdOf w) (BitVec.ofNat 64 (rdLE k.tile a 8)))).nextPc c.val)))

/-- SSTT (R71), after the tile-store writes that a TGWAIT orders before it (R114). -/
def execSstt (c : Fin 96) (s : State) : Out :=
  ok (s.issueOp c.val 0x06 (fun w s' =>
    let a := (s'.core c.val).tileAddr w
    if (s'.core c.val).tgwaits then s
    else s'.checked c.val (tileCauses w a) (fun s =>
      (s.modCore c.val (fun k => { k with tile := wrLE k.tile a 8 (k.sreg (sbOf w)).toNat })).nextPc c.val)))

/-- END (R71): the kernel of the core is to end. -/
def execEndKernel (c : Fin 96) (s : State) : Out :=
  ok (s.issueOp c.val 0x07 (fun w s =>
    s.checked c.val [(scalarResv w, 0x02)] (fun s =>
      s.modCore c.val (fun k => { k with seq := .ending }))))

/-- The opcodes of the core (R69). -/
def coreOpcodes : List Nat :=
  [0x01, 0x02, 0x03, 0x05, 0x06, 0x07, 0x10, 0x18, 0x19, 0x1A, 0x20, 0x21, 0x30, 0x31, 0x38, 0x39, 0x3F]

/-- UNDEFINED_OPCODE (R69, R76). -/
def execUndefinedOpcode (c : Fin 96) (s : State) : Out :=
  ok (s.fetch c.val (fun w s' =>
    if coreOpcodes.contains (opcodeOf w) then s else s'.fault c.val 0x01 (s'.core c.val).pc 0 0))

/-- INSTRUCTION_BUFFER_FILL (R39): a line that has come back is installed unless a kernel boundary discarded it; a
core without its line asks for it. -/
def execInstructionBufferFill (c : Fin 96) (s : State) : Out :=
  ok (match (s.core c.val).ibFill with
  | none => s.fetch c.val (fun _ _ => s)
  | some f =>
    match f.bytes with
    | none => s
    | some bs => s.modCore c.val (fun k => { k with
        ibFill := none
        ibuf := if f.stale then k.ibuf else cacheInstall 32 4 k.ibuf f.vd f.line bs }))

/-- READ_ONLY_CACHE_FILL (R67, R116): the `i`-th fill of a core's read-only cache is installed once its data is
there, unless a kernel boundary discarded it; its bytes serve the accesses that wait for it. -/
def execReadOnlyCacheFill (c : Fin 96) (i : Nat) (s : State) : Out :=
  ok (match (s.core c.val).rocFills[i]? with
  | none => s
  | some f =>
    match f.bytes with
    | none => s
    | some bs =>
      let s := s.modCore c.val (fun k => { k with
        rocFills := delNth k.rocFills i
        roc := if f.stale then k.roc else cacheInstall 128 8 k.roc f.vd f.line bs })
      f.waiters.foldl (fun s w => s.accPart c.val (w % 64) (w / 64) (256 * f.line) bs) s)

/-! Queues and the scoreboard (R40 to R44) -/

/-- A queue of a core, its depth, and its replacement. -/
def Core.queue (k : Core) : QueueName → List QEntry
  | .matrix => k.qm
  | .accumulator => k.qa
  | .group => k.qg
  | .sync => k.qs
def queueDepth : QueueName → Nat
  | .matrix => 16
  | .accumulator => 8
  | .group => 8
  | .sync => 8
def Core.setQueue (k : Core) (q : QueueName) (l : List QEntry) : Core :=
  match q with
  | .matrix => { k with qm := l }
  | .accumulator => { k with qa := l }
  | .group => { k with qg := l }
  | .sync => { k with qs := l }

/-- Whether issue into a queue stalls (R41). -/
def Core.stalls (k : Core) (q : QueueName) : Bool :=
  decide (queueDepth q ≤ (k.queue q).length) || decide (32 ≤ k.board.length)

/-- Place an instruction in a queue with its scoreboard entry (R40, R43); the captured scalar values go with it. -/
def State.enqueue (s : State) (c : Nat) (q : QueueName) (w : Nat) (sa sb sc : W64) (accR accW : Nat)
    (rdR wrR : List (Nat × Nat)) : State :=
  (s.modCore c (fun k =>
    { k.setQueue q (k.queue q ++ [⟨w, k.pc, sa, sb, sc, some k.nextSb, false, 0⟩]) with
      board := k.board ++ [⟨k.nextSb, accR, accW, rdR, wrR⟩], nextSb := k.nextSb + 1 })).nextPc c

/-- Whether two envelopes of granules share one. -/
def rangesMeet (a b : List (Nat × Nat)) : Bool :=
  a.any (fun x => b.any (fun y => decide (x.1 < y.2) && decide (y.1 < x.2)))

/-- Whether a younger entry conflicts with an older one (R44). -/
def SBEntry.conflicts (young old : SBEntry) : Bool :=
  decide (young.accR &&& old.accW ≠ 0) || decide (young.accW &&& old.accR ≠ 0)
  || decide (young.accW &&& old.accW ≠ 0)
  || rangesMeet young.rdR old.wrR || rangesMeet young.wrR old.rdR || rangesMeet young.wrR old.wrR

/-- The scoreboard entry of a queued instruction. -/
def Core.entry (k : Core) (e : QEntry) : Option SBEntry :=
  k.board.find? (fun b => decide (some b.id = e.sb_))

/-- Whether an older entry and this one belong to one run of MMA instructions to one accumulator (R44). -/
def Core.mmaRun (k : Core) (old young : SBEntry) : Bool :=
  let run := (k.qm.filterMap (fun e => k.entry e)).filter (fun b => decide (old.id ≤ b.id) && decide (b.id ≤ young.id))
  (run.map (·.id)).contains old.id && (run.map (·.id)).contains young.id
  && run.all (fun b => decide (b.accW = young.accW))

/-- Whether no older entry holds an instruction back (R44), nor an older TGWAIT that has not completed (R114). -/
def Core.mayStart (k : Core) (e : QEntry) : Bool :=
  match k.entry e with
  | none => true
  | some y => k.board.all (fun o => decide (y.id ≤ o.id) || !y.conflicts o || k.mmaRun o y)
    && k.qg.all (fun t => decide (opcodeOf t.word ≠ 0x21) || !decide (t.done = 0) || decide (y.id ≤ t.sb_.getD 0))

/-- Steps of an instruction: those of an MMA, one of any other (R72). -/
def QEntry.steps (e : QEntry) : Nat := if opcodeOf e.word = 0x10 then bitsOf e.word 96 8 + 1 else 1

/-- Whether an instruction in a queue has done all it does. -/
def QEntry.over (e : QEntry) : Bool := e.started && decide (e.steps ≤ e.done)

/-- The place of the instruction at the head of its queue: the first that is not over. -/
def headIdx (l : List QEntry) : Option Nat := l.findIdx? (fun e => !e.over)

/-- Replace entry `i` of a queue. -/
def State.setEntry (s : State) (c : Nat) (q : QueueName) (i : Nat) (f : QEntry → QEntry) : State :=
  s.modCore c (fun k => match (k.queue q)[i]? with
    | some e => k.setQueue q ((k.queue q).set i (f e))
    | none => k)

/-- Remove entry `i` of a queue; its scoreboard entry is released where `rel` says so. -/
def State.dropEntry (s : State) (c : Nat) (q : QueueName) (i : Nat) (rel : Bool) : State :=
  s.modCore c (fun k => match (k.queue q)[i]? with
    | some e =>
      { k.setQueue q (delNth (k.queue q) i) with
        board := if rel then k.board.filter (fun b => !decide (some b.id = e.sb_)) else k.board }
    | none => k)

/-- The lane group of an MMA (R55). -/
def laneOf (w : Nat) : LaneGroup :=
  match bitsOf w 116 4 with
  | 8 => .splitFp32
  | 9 => .splitFp64
  | _ => .plain

/-- A TGL waits at the head while a kernel of its tag is in flight, or one has groups to place (R112, R120). -/
def Core.tglWaits (k : Core) (w : Nat) : Bool :=
  decide (opcodeOf w = 0x20) &&
  (k.kernels.any (fun g => decide (g.tag = bitsOf w 114 3)) || k.kernels.any (fun g => decide (g.placed < g.count)))

/-- QUEUE_HEAD_START (R42, R44, R55, R112): the instruction at the head of a queue starts once no older entry conflicts
with it. -/
def execQueueHeadStart (c : Fin 96) (q : QueueName) (s : State) : Out :=
  ok (
    let k := s.core c.val
    match headIdx (k.queue q) with
    | none => s
    | some i =>
      match (k.queue q)[i]? with
      | none => s
      | some e =>
        if e.started ∨ ¬ k.mayStart e ∨ k.tglWaits e.word then s
        else
          let s := s.setEntry c.val q i (fun e => { e with started := true })
          if opcodeOf e.word = 0x10 then s.modCore c.val (fun k => { k with lane := laneOf e.word }) else s)

/-- SCOREBOARD_RELEASE (R43): the oldest instruction of a queue that is over leaves it with its entry. -/
def execScoreboardRelease (c : Fin 96) (q : QueueName) (s : State) : Out :=
  ok (match (s.core c.val).queue q with
  | e :: _ => if e.over then s.dropEntry c.val q 0 true else s
  | [] => s)

/-- The started instruction at the head of a queue, of an opcode, acts. -/
def State.actHead (s : State) (c : Nat) (q : QueueName) (op : Nat) (f : Nat → QEntry → State → State) : State :=
  let k := s.core c
  match headIdx (k.queue q) with
  | none => s
  | some i =>
    match (k.queue q)[i]? with
    | none => s
    | some e => if e.started ∧ opcodeOf e.word = op then f i e s else s

/-- An instruction has done all it does. -/
def State.finishEntry (s : State) (c : Nat) (q : QueueName) (i : Nat) : State :=
  s.setEntry c q i (fun e => { e with done := e.steps })

/-! Drains (R247, R283, R285) -/

/-- Whether a part of an instruction belongs to a group that is still there (R286: kernels in flight are not
covered). -/
def Core.live (k : Core) (slot id : Nat) : Bool :=
  match SMap.get (fun _ => (none : Option Group)) k.gslots slot with
  | some g => !g.stopped && g.out.any (fun o => decide (o.id = id / 2))
  | none => false

/-- Whether a group of a core has stopped and still has something to do (R147). -/
def Core.lingering (k : Core) : Bool := k.gslots.any (fun e => e.2.elim false (·.stopped))

/-- Whether an answer goes to a group of core `c` that is gone or has stopped. -/
def State.pastOf (s : State) (c : Nat) (r : ReqSrc) : Bool :=
  match r with
  | .load d g id => decide (d = c) && !(s.core c).live g id
  | .store d g id => decide (d = c) && !(s.core c).live g id
  | _ => false

/-- Whether a store or home operation of a group of core `c` that is gone has not yet reached a merge entry, a
block or its home (R282, R286). -/
def State.storesOut (s : State) (c : Nat) : Bool :=
  (s.core c).lingering
  || (s.die (dieOfCore c)).acc.any (fun a => a.store && decide (a.core = c) && !(s.core c).live a.slot a.id)
  || s.nacked.any (fun o => s.pastOf c o.src) || s.opRsps.any (fun r => s.pastOf c r.src)
  || s.fab.reqs.any (fun r => decide (r.kind = .write) && s.pastOf c r.src)
  || s.fab.ops.any (fun o => s.pastOf c o.src) || s.fab.rsps.any (fun r => s.pastOf c r.src)
  || s.slices.any (fun (e : Nat × Slice) => e.2.reqs.any (fun r => decide (r.kind = .write) && s.pastOf c r.src)
      || e.2.opsIn.any (fun o => s.pastOf c o.src)
      || e.2.lines.any (fun (l : Nat × Line) => l.2.ops.any (fun o => s.pastOf c o.src)))

/-- Start the drain of core `c`: every merge entry that names it is sent, every block of its dirty list is
written back (R247, R283). DEDUCED: the drain waits for every entry that names the core, one sent before it too, as the
outcomes of R295 and R296 require (log entry 53). -/
def State.startDrain (s : State) (c : Nat) : State :=
  let d := dieOfCore c
  let bit (m : Nat) : Bool := bitOf m (c % 8)
  let es := (s.die d).merge.filter (fun m => bit m.writers || bit m.readers)
  let list := SMap.get (fun _ => ([] : List (Nat × Nat))) (s.die d).dirty c
  let s := es.foldl (fun s m => s.sendEntry d m.id) s
  let s := s.leaveDie d (fun b => list.contains (b.vd, b.sector) && decide (b.st = .m))
  s.modCore c (fun k => { k with drain := some ⟨es.map (·.id), list⟩ })

/-- Whether the data of a sector is still on its way to its home: in a dirty block, or in a DataM (R282). -/
def State.dataAway (s : State) (n sec : Nat) : Bool :=
  s.dies.any (fun d => (d.2.block n sec).any (·.dirty))
  || s.msgs.any (fun m => decide (m.kind = .dataM) && decide (m.vd = n) && decide (m.sector = sec))

/-- Whether a sector of device `n` lies in a WINDOW region of the job of core `c` (R285). -/
def State.windowSector (s : State) (c n sec : Nat) : Bool :=
  match s.coreJob c with
  | some (v, j) => decide (v = n) && (match s.region n j.regions (256 * sec) with
    | some (_, x) => decide (x.rtype = 2)
    | none => false)
  | none => false

/-- Whether what a drain waits for is acknowledged (R285); `scope` 2 chip, 3 system, 4 the completion barrier. A block that
another die has taken completes once its data is at the home (R282). -/
def State.drainOver (s : State) (c : Nat) (dr : Drain) (scope : Nat) : Bool :=
  let d := s.die (dieOfCore c)
  let bit (m : MergeEntry) : Bool := bitOf m.writers (c % 8)
  d.merge.all (fun m => !dr.entries.contains m.id)
  && d.blocks.all (fun b => !(dr.puts.contains (b.vd, b.sector)
      && (b.leave && decide (b.st = .m) || decide (b.st = .miA) || decide (b.st = .iiA))))
  && (decide (scope < 3) || d.owed.all (fun m => !(bit m && (decide (scope = 4) || m.window))))
  && (decide (scope < 3) || (SMap.get (fun _ => ([] : List (Nat × Nat))) d.moved c).all (fun x =>
      (decide (scope = 3) && !s.windowSector c x.1 x.2) || !s.dataAway x.1 x.2))

/-- Core `c` drains at a scope: `f` goes on once it is over (R285). -/
def State.drained (s : State) (c scope : Nat) (f : State → State) : State :=
  if s.storesOut c then s
  else
    let s := if (s.core c).drain.isSome then s else s.startDrain c
    match (s.core c).drain with
    | some dr => if s.drainOver c dr scope then f (s.modCore c (fun k => { k with drain := none })) else s
    | none => s

/-- Put a kernel boundary on the read-only and group instruction caches of a core (R116); an engine that runs no
kernel keeps nothing else (R109). -/
def Core.boundary (k : Core) : Core :=
  let stale (f : CFill) : CFill := { f with stale := true }
  let rests := k.kernels.isEmpty
  { k with
    roc := [], gic := [], rocFills := k.rocFills.map stale, gicFills := k.gicFills.map stale
    rr := if rests then rrRest else k.rr
    co := if rests then [none, none, none, none] else k.co }

/-- CORE_KERNEL_END (R71, R116, R247, R283): the kernel ends on a core once its queues and scoreboard are empty and
its drain is acknowledged; its caches are invalidated. -/
def execCoreKernelEnd (c : Fin 96) (s : State) : Out :=
  ok (
    let k := s.core c.val
    if k.seq ≠ SeqSt.ending ∨ ¬ k.board.isEmpty ∨ ¬ (k.qm ++ k.qa ++ k.qg ++ k.qs).isEmpty then s
    else s.drained c.val 2 (fun s => s.modCore c.val (fun k => { k.boundary with seq := .ended })))

end Sys2Proof.Machine
end

