-- ==== Sys2Proof/Machine/Compose.lean ====
section
/-! DEFINITION. Composition (chapter Virtual devices and elastic composition): the descriptor and its checks, the
operations of COMPOSE_CMD, the states of a rebind, the books of the pool. -/

namespace Sys2Proof.Machine

/-! The descriptor (R330) -/

/-- Base die of a unit: cores are 24 to a base die, slices 128 (R14, R198). -/
def unitBd (isSlice : Bool) (u : Nat) : Nat := if isSlice then bdOfSlice u else bdOfCore u

/-- Bits [lo + len - 1 : lo] of word `i` of a staging area. -/
def dfld (ws : List W32) (i lo len : Nat) : Nat := fld (nth 0 ws i) lo len

/-- Four 12-bit fields of two words, from word `i`. -/
def dquad (ws : List W32) (i : Nat) : List Nat :=
  [dfld ws i 0 12, dfld ws i 16 12, dfld ws (i + 1) 0 12, dfld ws (i + 1) 16 12]

/-- SLICE_MAP entry `l`. -/
def dslice (ws : List W32) (l : Nat) : Nat := dfld ws (64 + l / 2) (16 * (l % 2)) 16

/-- CORE_MAP entry `n`. -/
def dcore (ws : List W32) (n : Nat) : Nat := dfld ws (32 + n / 4) (8 * (n % 4)) 8

/-- Sum of the four bytes of a shape. -/
def shapeSum (shape : Nat) : Nat := sumN ((List.range 4).map (fun b => bitsOf shape (8 * b) 8))

/-- The descriptor in a staging area: NC cores, or for a set the sum of CORE_SHAPE. -/
def parseDesc (ws : List W32) (forSet : Bool) : Desc :=
  let shape := dfld ws 2 0 32
  let nc := dfld ws 0 8 7
  let cores := if forSet then min 96 (shapeSum shape) else if dfld ws 0 16 4 = 0 then min 96 nc else 0
  ⟨dfld ws 0 20 1 == 1, dfld ws 0 16 4, nc, dfld ws 0 0 8, dfld ws 1 10 8, dfld ws 1 0 10, shape, dfld ws 3 0 32,
   dquad ws 4, dquad ws 6, dfld ws 8 16 16, dfld ws 8 0 7, dfld ws 9 0 13, dfld ws 10 10 10, dfld ws 10 0 10,
   (List.range 8).map (fun r => ⟨dfld ws (16 + r) 31 1 == 1, dfld ws (16 + r) 20 4, dfld ws (16 + r) 10 10,
     dfld ws (16 + r) 0 10⟩),
   (List.range cores).map (dcore ws), (List.range (min 512 (dfld ws 1 0 10))).map (fun l => dslice ws l % 512)⟩

/-- The reserved bits of a word of the header and the runs. -/
def descResv (i : Nat) : List (Nat × Nat) :=
  match i with
  | 0 => [(21, 11), (15, 1)]
  | 1 => [(18, 14)]
  | 2 | 3 => []
  | 4 | 5 | 6 | 7 => [(12, 4), (28, 4)]
  | 8 => [(7, 9)]
  | 9 => [(13, 19)]
  | 10 => [(20, 12)]
  | _ => if 16 ≤ i ∧ i < 24 then [(24, 7)] else if 32 ≤ i ∧ i < 56 then [] else if 64 ≤ i then [] else [(0, 32)]

/-- Whether a staging area has a reserved bit or code set (R330, R332 0x01); SLICE_MAP entries at or above NS are
ignored. -/
def descReserved (ws : List W32) : Bool :=
  (List.range 64).any (fun i => (descResv i).any (fun x => decide (dfld ws i x.1 x.2 ≠ 0)))
  || (List.range (min 512 (dfld ws 1 0 10))).any (fun l => decide (bitsOf (dslice ws l) 9 6 ≠ 0))
  || decide (8 < dfld ws 0 16 4)

/-- Whether every SLICE_MAP entry below NS has VALID = 1. -/
def slicesValid (ws : List W32) : Bool :=
  (List.range (min 512 (dfld ws 1 0 10))).all (fun l => bitOf (dslice ws l) 15)

/-- A word from two 12-bit fields. -/
def pair12 (xs : List Nat) (i : Nat) : Nat := nth 0 xs i + nth 0 xs (i + 1) * 65536

/-- A word of CORE_MAP; entries past the map read 0xFF. -/
def coreMapWord (cores : List Nat) (i : Nat) : Nat :=
  sumN ((List.range 4).map (fun b => nth 0xFF cores (4 * i + b) * 2 ^ (8 * b)))

/-- A word of SLICE_MAP. -/
def sliceMapWord (sl : List Nat) (i : Nat) : Nat :=
  let e (l : Nat) : Nat := match sl[l]? with
    | some x => 0x8000 + x
    | none => 0
  e (2 * i) + e (2 * i + 1) * 65536

/-- The 320 words of a descriptor (READ, R333). -/
def Desc.words (d : Desc) : List W32 :=
  ([d.vd + d.nc * 2 ^ 8 + d.sharedSet * 2 ^ 16 + b2n d.privOk * 2 ^ 20, d.ns + d.lbdMap * 2 ^ 10, d.coreShape,
    d.sliceShape, pair12 d.flags 0, pair12 d.flags 2, pair12 d.red 0, pair12 d.red 2,
    d.qps + d.netWeight * 65536, d.credits, d.winFirst + d.winCount * 2 ^ 10, 0, 0, 0, 0, 0]
   ++ (List.range 8).map (fun r => match (d.runs[r]? : Option Run) with
     | some x => x.first + x.count * 2 ^ 10 + x.cls * 2 ^ 20 + b2n x.valid * 2 ^ 31
     | none => 0)
   ++ List.replicate 8 0 ++ (List.range 24).map (coreMapWord d.coreMap) ++ List.replicate 8 0
   ++ (List.range 256).map (sliceMapWord d.sliceMap)).map (BitVec.ofNat 32)

/-! What a descriptor asks for -/

/-- Physical base die of logical base die `b` under an LBD_MAP. -/
def lbdOf (m b : Nat) : Nat := bitsOf m (2 * b) 2

/-- Whether an LBD_MAP is one to one (R325). -/
def lbdOk (m : Nat) : Bool := decide (((List.range 4).map (lbdOf m)).Nodup)

/-- The logical extents of the valid runs with their classes (R331). -/
def Desc.logical (d : Desc) : List (Nat × Nat) :=
  d.runs.flatMap (fun r => if r.valid then (List.range r.count).map (fun i => (r.first + i, r.cls)) else [])

/-- The logical base die of each logical flag word (R326). -/
def Desc.flagBds (d : Desc) : List Nat :=
  (List.range 4).flatMap (fun b => List.replicate (nth 0 d.flags b) b)

/-- Reduction entries asked for on each physical base die. -/
def Desc.redNeed (d : Desc) : List Nat :=
  (List.range 4).map (fun p => sumN ((List.range 4).map (fun b => if lbdOf d.lbdMap b = p then nth 0 d.red b else 0)))

/-- CORE_SHAPE of a device: its set's where it uses one (R327). -/
def State.coreShapeOf (s : State) (n : Nat) : Nat :=
  let d := (s.vd n).desc
  if d.sharedSet = 0 then d.coreShape else (s.set_ d.sharedSet).coreShape

/-! The books (R319, R343) -/

/-- Free reduction entries of a router. -/
def State.redFree (s : State) (b : Nat) : Nat := 2048 - sumN (s.vds.map (fun e => nth 0 e.2.redHeld b))

/-- Free send credits. -/
def State.creditsFree (s : State) : Nat := 4096 - sumN (s.vds.map (fun e => e.2.creditsHeld))

/-- Free queue pairs. -/
def State.qpsFree (s : State) : Nat := 16384 - s.pool.qpOwner.length

/-- Free flag words of a router. -/
def State.flagsFree (s : State) (b : Nat) : Nat :=
  4096 - (s.pool.flagOwner.filter (fun e => decide (e.1 / 4096 = b))).length

/-- The FREE extents of a class, lowest first. -/
def State.freeExtents (s : State) (cls : Nat) : List Nat :=
  (s.pool.extents.filter (fun e => decide (e.2.st = .free) && decide (e.2.cls = cls))).map (·.1)

/-- The first `k` free numbers from `x` upward of an owner map, within `f` numbers. -/
def freeFrom (m : SMap Nat) : Nat → Nat → Nat → List Nat
  | 0, _, _ => []
  | f + 1, x, k =>
    if k = 0 then []
    else if SMap.get (fun _ => 0) m x = 0 then x :: freeFrom m f (x + 1) (k - 1)
    else freeFrom m f (x + 1) k

/-- Set the owner of numbers of an owner map (0: free). -/
def own (m : SMap Nat) (v : Nat) (xs : List Nat) : SMap Nat := xs.foldl (fun m x => SMap.set (fun _ => 0) m x v) m

/-- Holder of a unit. -/
def State.holder (s : State) (isSlice : Bool) (u : Nat) : Holder :=
  if isSlice then s.sliceHolder u else s.coreHolder u

/-- Set the holder of a unit. -/
def State.setHolder (s : State) (isSlice : Bool) (u : Nat) (h : Holder) : State :=
  if isSlice then s.setSliceHolder u h else s.setCoreHolder u h

/-- Whether device `n` owns a unit, numbered or not. -/
def Holder.ownedBy (h : Holder) (n : Nat) : Bool :=
  match h with
  | .owned v _ => decide (v = n)
  | _ => false

/-- The units device `n` owns: cores or slices. -/
def State.unitsOf (s : State) (isSlice : Bool) (n : Nat) : List Nat :=
  ((if isSlice then s.pool.slices else s.pool.cores).filter (fun e => e.2.ownedBy n)).map (·.1)

/-- The pool extents device `n` holds, those without a logical number among them. -/
def State.extentsHeld (s : State) (n : Nat) : List (Nat × Extent) :=
  s.pool.extents.filter (fun e => decide (e.2.owner = n) && (decide (e.2.st = .owned) || decide (e.2.st = .suspect)))

/-! Checks (R332) -/

/-- Operation codes (R333). -/
def opCreate : Nat := 0
def opDestroy : Nat := 1
def opMove : Nat := 2
def opResize : Nat := 3

/-- Whether a list of units breaks a rule of R325, R337 or R339. -/
def State.badUnits (s : State) (op n : Nat) (isSlice : Bool) (lbdMap shape : Nat) (us old : List Nat) : Bool :=
  decide (us.isEmpty) || decide (shapeSum shape ≠ us.length) || !lbdOk lbdMap || !decide us.Nodup
  || ((List.range us.length).zip us).any (fun e =>
    let h := s.holder isSlice e.2
    decide (unitBd isSlice e.2 ≠ lbdOf lbdMap (shapeBd shape e.1))
    || !(decide (h = .free) || (decide (op = opResize) && h.ownedBy n)
      || (decide (op = opMove) && decide (old[e.1]? = some e.2))))

/-- Whether logical extent `e` of a class keeps its pool extent through an operation on a device (R339). -/
def State.keeps (s : State) (n e cls : Nat) : Option Nat :=
  match s.extentOf n e with
  | some p => if (s.extent p).cls = cls then some p else none
  | none => none

/-- Whether the runs of a descriptor break a rule of R331 or ask for more than there is. -/
def State.badExtents (s : State) (op n : Nat) (d : Desc) : Bool :=
  let ls := d.logical
  let need := if op = opMove then [] else ls.filter (fun x => decide (op = opCreate) || (s.keeps n x.1 x.2).isNone)
  decide (ls.isEmpty) || d.runs.any (fun r => r.valid && decide (r.count = 0))
  || ls.any (fun x => decide (1023 < x.1)) || !decide ((ls.map (·.1)).Nodup)
  || (List.range 16).any (fun c =>
    decide ((s.freeExtents c).length < (need.filter (fun x => decide (x.2 = c))).length))

/-- The place of each logical flag word of a new composition: the word it keeps, or none where it needs a new one on
the router of its base die (R326, R339). -/
def State.flagPlaces (s : State) (n : Nat) (d : Desc) : List (Nat × Option Nat) :=
  let old := (s.vd n).flagMap
  ((List.range d.flagBds.length).zip d.flagBds).map (fun e =>
    let p := lbdOf d.lbdMap e.2
    (p, match old[e.1]? with
      | some w => if w / 4096 = p then some w else none
      | none => none))

/-- Whether flag words are short on a router. -/
def State.badFlags (s : State) (n : Nat) (d : Desc) : Bool :=
  let ps := (s.flagPlaces n d).filter (fun e => e.2.isNone)
  (List.range 4).any (fun b => decide (s.flagsFree b < (ps.filter (fun e => decide (e.1 = b))).length))

/-- The entries device `n` may count as its own: for a MOVE those of its composition, else all it holds. -/
def State.redBase (s : State) (move : Bool) (n : Nat) : List Nat :=
  if move then (s.vd n).desc.redNeed else (s.vd n).redHeld

/-- Whether reduction entries are short on a router. -/
def State.badRed (s : State) (op n : Nat) (d : Desc) : Bool :=
  (List.range 4).any (fun b =>
    decide (nth 0 (s.redBase (decide (op = opMove)) n) b + s.redFree b < nth 0 d.redNeed b))

/-- Whether queue pairs or credits are short or out of range. -/
def State.badNet (s : State) (n : Nat) (d : Desc) : Bool :=
  decide (64 < d.qps) || decide (4096 < d.credits)
  || decide ((s.vd n).qpMap.length + s.qpsFree < d.qps)
  || decide ((s.vd n).creditsHeld + s.creditsFree < d.credits)

/-- Whether a window extent is not one of the device's (R331). -/
def Desc.badWindow (d : Desc) : Bool :=
  let ls := d.logical.map (·.1)
  (List.range d.winCount).any (fun i => !ls.contains (d.winFirst + i))

/-- Whether a MOVE changes more than the placement (R337). -/
def Desc.moved (old new : Desc) : Bool :=
  decide ({ new with coreMap := old.coreMap, sliceMap := old.sliceMap, lbdMap := old.lbdMap } ≠ old)

/-- Whether a rule of R327 to R329 is broken by a CREATE, MOVE or RESIZE. -/
def State.badSet (s : State) (op n : Nat) (d : Desc) : Bool :=
  (decide (d.sharedSet ≠ 0) && (!(s.set_ d.sharedSet).valid || decide ((s.set_ d.sharedSet).lbdMap ≠ d.lbdMap)))
  || (decide (op = opMove) && decide ((s.vd n).desc.sharedSet ≠ 0))
  || (decide (op = opResize) && decide ((s.vd n).desc.sharedSet ≠ d.sharedSet))

/-- Whether the devices and states rule out an operation (0x02). -/
def State.badState (s : State) (op n : Nat) : Bool :=
  let st := (s.vd n).st
  if op = opCreate then decide (st ≠ .absent)
  else decide (st = .absent) || (decide (op ≠ opDestroy) && decide (st = .contained))

/-- The result of the checks of CREATE, MOVE and RESIZE: the lowest code that fails (R332). -/
def State.checkDesc (s : State) (op : Nat) (ws : List W32) (d : Desc) : Option Nat :=
  let n := d.vd
  let old := (s.vd n).desc
  let shared := decide (d.sharedSet ≠ 0)
  lowestCause [
    (descReserved ws, 0x01), (s.badState op n, 0x02),
    (decide ((d.nc = 0) = (d.sharedSet = 0)) || decide (96 < d.nc)
      || (!shared && s.badUnits op n false d.lbdMap d.coreShape d.coreMap old.coreMap), 0x03),
    (decide (512 < d.ns) || !slicesValid ws
      || s.badUnits op n true d.lbdMap d.sliceShape d.sliceMap old.sliceMap, 0x04),
    (s.badExtents op n d, 0x05), (s.badFlags n d, 0x06), (s.badRed op n d, 0x07), (s.badNet n d, 0x08),
    (d.badWindow, 0x09), (decide (op = opMove) && old.moved d, 0x0A), (s.badSet op n d, 0x0B)]

/-! Gaining and releasing (R334, R339, R340) -/

/-- Choose the pool extent of each logical extent of a composition: the one it keeps, else the lowest FREE one of its
class not chosen yet. -/
def State.chooseExtents (s : State) (n : Nat) (fresh : Bool) : List (Nat × Nat) → List Nat → List (Nat × Nat)
  | [], _ => []
  | (e, c) :: ls, used =>
    match (if fresh then none else s.keeps n e c) with
    | some p => (e, p) :: s.chooseExtents n fresh ls used
    | none =>
      match (s.freeExtents c).find? (fun p => !used.contains p) with
      | some p => (e, p) :: s.chooseExtents n fresh ls (p :: used)
      | none => s.chooseExtents n fresh ls used

/-- Choose the flag words of a composition in order. -/
def chooseFlags (m : SMap Nat) : List (Nat × Option Nat) → List Nat
  | [] => []
  | (p, w) :: ps =>
    match w with
    | some x => x :: chooseFlags m ps
    | none =>
      let x := (freeFrom m 4096 (4096 * p) 1).headD (4096 * p)
      x :: chooseFlags (own m 1 [x]) ps

/-- Gain a unit: it is owned without a logical number and starts empty. -/
def State.gainUnit (s : State) (n : Nat) (isSlice : Bool) (u : Nat) : State :=
  let s := s.setHolder isSlice u (.owned n none)
  if isSlice then s.setSlice u Slice.empty else s.setCore u Core.rest

/-- Allot what a composition asks for beyond what its device holds (R334, R341 GAINING): extents, flag words, entries,
queue pairs and credits. The extents, words and pairs of the whole composition are answered. -/
def State.allot (s : State) (n : Nat) (d : Desc) (fresh move : Bool) : State × (List (Nat × Nat) × List Nat × List Nat) :=
  let exts := if move then (d.logical.filterMap (fun x => (s.extentOf n x.1).map (fun p => (x.1, p))))
    else s.chooseExtents n fresh d.logical []
  let words := chooseFlags s.pool.flagOwner (s.flagPlaces n d)
  let old := (s.vd n).qpMap
  let qps := (old ++ freeFrom s.pool.qpOwner 16384 0 (d.qps - old.length)).take (max d.qps old.length)
  let newWords := words.filter (fun w => !(s.vd n).flagMap.contains w)
  let s := (exts.map (·.2)).foldl (fun s p => s.modExtent p (fun x =>
    if x.st = ExtState.free then { x with st := .owned, owner := n, logical := none } else x)) s
  let s : State := { s with pool := { s.pool with
    flagOwner := own s.pool.flagOwner (n + 1) words, qpOwner := own s.pool.qpOwner (n + 1) qps } }
  let s := newWords.foldl (fun s w => s.setFlag w 0) s
  let s := s.modVd n (fun v => { v with
    redHeld := (List.range 4).map (fun b => nth 0 v.redHeld b + (nth 0 d.redNeed b - nth 0 (s.redBase move n) b))
    creditsHeld := max v.creditsHeld d.credits })
  (s, exts, words, qps)

/-- Whether a composition without its device's old units holds a unit. -/
def Desc.units (d : Desc) (isSlice : Bool) : List Nat :=
  if isSlice then d.sliceMap else d.coreMap

/-- Number the units of a composition (R325); a device on a shared set has no cores of its own. -/
def State.number (s : State) (n : Nat) (d : Desc) (isSlice : Bool) : State :=
  let us := if isSlice ∨ d.sharedSet = 0 then d.units isSlice else []
  ((List.range us.length).zip us).foldl (fun s e => s.setHolder isSlice e.2 (.owned n (some e.1))) s

/-- A released extent (R324 step 1): its lines are discarded and it scrubs. -/
def State.scrub (s : State) (p : Nat) : State :=
  s.modExtent p (fun x => if x.st = ExtState.withdrawn then { x with logical := none }
    else { x with st := .scrubbing, logical := none })

/-- A unit leaves a device at a frame boundary and is in transit (R340 steps 4 and 5). -/
def State.leave (s : State) (isSlice : Bool) (u : Nat) : State := (s.setSlot isSlice u none).setHolder isSlice u .transit

/-! CREATE, READ, the shared sets -/

/-- CREATE (R334): the device is built from free resources with zeroed state; its translation and the ownership of its ports
take effect together at the next frame boundary, where it exists and the operation ends (R169). -/
def State.create (s : State) (d : Desc) : State :=
  let n := d.vd
  let s := ((s.setVd n VDev.absent).clearVf n)
  let s := ((((s.setReg (Reg.cacheVdDeadread n) 0).setReg (Reg.cacheVdDrops n) 0).setReg
    (Reg.cacheVdMaskevict n) 0).setReg (Reg.cohereVdStale n) 0).setReg (Reg.cohereVdConflict n) 0
  let r := s.allot n d true false
  let gain (isSlice : Bool) (s : State) : State :=
    let us := if isSlice ∨ d.sharedSet = 0 then d.units isSlice else []
    us.foldl (fun s u => (s.gainUnit n isSlice u).pend (.slot isSlice u (some n))) s
  let s := gain true (gain false r.1)
  let s := s.modVd n (fun v => { v with desc := d, flagMap := r.2.2.1, qpMap := r.2.2.2 })
  (s.pend (.create n r.2.1)).setRegFld Reg.composeStatus 16 8 n

/-- The translation of a new device takes effect (R169, R334): its units and extents have their logical numbers, it is
active, its CREATE has ended. -/
def State.createEnds (s : State) (n : Nat) (exts : List (Nat × Nat)) : State :=
  let d := (s.vd n).desc
  let s := (s.number n d false).number n d true
  let s := exts.foldl (fun s e => s.modExtent e.2 (fun x => { x with logical := some e.1 })) s
  (s.modVd n (fun v => { v with st := .active })).composeDone n 0

/-- What a set's descriptor reads as (R333 READ). -/
def SetSt.desc (x : SetSt) (k : Nat) : Desc :=
  { Desc.zero with sharedSet := k, lbdMap := x.lbdMap, coreShape := x.coreShape, coreMap := x.cores }

/-- READ (R333): the descriptor of a device as last committed, or of a set, goes to the staging area. -/
def State.readComposition (s : State) (ws : List W32) : State :=
  let n := dfld ws 0 0 8
  let k := dfld ws 0 16 4
  let done (code : Nat) (s : State) : State := s.composeDone n code
  if descReserved ws then done 1 s
  else if k ≠ 0 ∧ dfld ws 0 8 7 = 0 then
    if (s.set_ k).valid then done 0 (s.setRegs (Reg.composeDesc 0) ((s.set_ k).desc k).words) else done 0x0B s
  else if (s.vd n).st = .absent then done 2 s
  else done 0 (s.setRegs (Reg.composeDesc 0) (s.vd n).desc.words)

/-- Devices that use a set. -/
def State.setUsers (s : State) (k : Nat) : List Nat :=
  (s.vds.filter (fun e => decide (e.2.st ≠ .absent) && decide (e.2.desc.sharedSet = k))).map (·.1)

/-- SET_CREATE (R327): a set is formed from free cores; it has no device switched in yet. -/
def State.setCreate (s : State) (ws : List W32) : State :=
  let d := parseDesc ws true
  let k := d.sharedSet
  match lowestCause [
    (descReserved ws, 0x01),
    (decide (96 < shapeSum d.coreShape) || s.badUnits opCreate 0 false d.lbdMap d.coreShape d.coreMap [], 0x03),
    (decide (k = 0) || (s.set_ k).valid, 0x0B)] with
  | some code => s.composeDone d.vd code
  | none =>
    let s := ((List.range d.coreMap.length).zip d.coreMap).foldl (fun s e =>
      (s.setCoreHolder e.2 (.inSet k e.1)).setCore e.2 Core.rest) s
    (s.modSet k (fun _ => ⟨true, d.lbdMap, d.coreShape, d.coreMap, none, none, 255, 0⟩)).composeDone d.vd 0

/-- SET_DESTROY (R329): refused while a device uses the set; its cores return to the pool through a frame of
transit. -/
def State.setDestroy (s : State) (ws : List W32) : State :=
  let n := dfld ws 0 0 8
  let k := dfld ws 0 16 4
  match lowestCause [
    (descReserved ws, 0x01), (decide (k = 0) || !(s.set_ k).valid || !(s.setUsers k).isEmpty, 0x0B)] with
  | some code => s.composeDone n code
  | none =>
    let cores := (s.set_ k).cores
    let s := cores.foldl (fun s c => (s.setCore c Core.rest).pend (.leave false c)) s
    (s.modSet k (fun _ => SetSt.absent)).composeDone n 0

/-! DESTROY -/

/-- Everything in flight for a device goes: messages, blocks and entries of the die caches, what its slices and the
channels hold for it. -/
def State.dropTraffic (s : State) (n : Nat) : State :=
  let s := s.settleHost (fun r => decide (r.vd = n))
  let s : State := { s with
    msgs := s.msgs.filter (fun (m : CohMsg) => !decide (m.vd = n))
    nacked := s.nacked.filter (fun (o : HomeOp) => !decide (o.vd = n))
    fab := { s.fab with
      chunks := s.fab.chunks.filter (fun (c : Chunk) => !decide (c.vd = n))
      flagMsgs := s.fab.flagMsgs.filter (fun (m : FlagMsg) => !decide (m.vd = n))
      dem := s.fab.dem.filter (fun (m : DemMsg) => !decide (m.vd = n))
      reed := (s.fab.emptyReed (fun m => decide (m.vd = n))).reed }
    dies := s.dies.map (fun (d : Nat × Die) => (d.1, { d.2 with
      blocks := d.2.blocks.filter (fun (b : Block) => !decide (b.vd = n))
      acc := d.2.acc.filter (fun (a : DAccess) => !decide (a.vd = n))
      merge := d.2.merge.filter (fun (m : MergeEntry) => !decide (m.vd = n))
      owed := d.2.owed.filter (fun (m : MergeEntry) => !decide (m.vd = n))
      dirty := d.2.dirty.map (fun (x : Nat × List (Nat × Nat)) => (x.1, x.2.filter (fun y => !decide (y.1 = n))))
      moved := d.2.moved.map (fun (x : Nat × List (Nat × Nat)) => (x.1, x.2.filter (fun y => !decide (y.1 = n)))) }))
    chans := s.chans.map (fun (c : Nat × Channel) => (c.1, { c.2 with
      reads := c.2.reads.filter (fun (r : ChRead) => !decide (r.vd = n))
      writes := c.2.writes.filter (fun (w : ChWrite) => !decide (w.vd = n)) })) }
  (s.unitsOf true n).foldl (fun s i => s.setSlice i Slice.empty) s

/-- DESTROY (R335): FLR of the VF, then every resource is released; the device is absent from the frame boundary
that withdraws its ownership, that of the ports of a shared set it is switched in on too, where the operation ends. -/
def State.destroyVd (s : State) (n : Nat) : State :=
  let shared := (s.vd n).desc.sharedSet
  let ports := if shared ≠ 0 ∧ (s.set_ shared).switched = some n then (s.set_ shared).cores else []
  let s := (s.flrVf n).dropTraffic n
  let cores := s.unitsOf false n
  let slices := s.unitsOf true n
  let exts := s.extentsHeld n
  let s := exts.foldl (fun s e => s.scrub e.1) s
  let s : State := { s with pool := { s.pool with
    flagOwner := s.pool.flagOwner.filter (fun (e : Nat × Nat) => !decide (e.2 = n + 1))
    qpOwner := s.pool.qpOwner.filter (fun (e : Nat × Nat) => !decide (e.2 = n + 1)) } }
  let s := cores.foldl (fun s c => (s.setCore c Core.rest).pend (.leave false c)) s
  let s := slices.foldl (fun s i => s.pend (.leave true i)) s
  let s := ports.foldl (fun s c => s.pend (.slot false c none)) s
  let s := if shared = 0 then s else s.modSet shared (fun x => { x with
    switched := if x.switched = some n then none else x.switched
    next := if x.next = some n then none else x.next })
  let s := s.modVd n (fun v => { v with redHeld := [0, 0, 0, 0], creditsHeld := 0 })
  (((s.pend (.destroy n)).abortRelease n).setRegFld Reg.composeStatus 16 8 n)

/-! Rebinding (R337 to R342) -/

/-- Start a rebind that has passed its checks (R341): QUIESCING begins. -/
def State.startRebind (s : State) (move : Bool) (d : Desc) : State :=
  let s : State := { s with binder := { s.binder with
    running := some ⟨move, .quiescing, d.vd, d, s.frame, 0, false, false, [], [], []⟩ } }
  (s.modVd d.vd (fun v => { v with st := .rebinding })).setRegFld Reg.composeStatus 16 8 d.vd

/-- Whether a table write ends a CREATE or a DESTROY. -/
def TableWrite.endsOp : TableWrite → Bool
  | .create _ _ => true
  | .destroy _ => true
  | _ => false

/-- Whether an operation of the binder is still running: a rebind, or a CREATE or DESTROY that waits for its frame
boundary. -/
def State.binderBusy (s : State) : Bool := s.binder.running.isSome || s.fab.pending.any (fun e => e.2.endsOp)

/-- An operation on a copied staging area (R332, R333). -/
def State.composeOp (s : State) (op : Nat) (ws : List W32) : State :=
  let n := dfld ws 0 0 8
  match op with
  | 0 =>
    let d := parseDesc ws false
    match s.checkDesc 0 ws d with
    | some code => s.composeDone n code
    | none => s.create d
  | 1 =>
    match lowestCause [(descReserved ws, 0x01), (s.badState opDestroy n, 0x02)] with
    | some code => s.composeDone n code
    | none => s.destroyVd n
  | 2 =>
    let d := parseDesc ws false
    match s.checkDesc 2 ws d with
    | some code => s.composeDone n code
    | none => s.startRebind true d
  | 3 =>
    let d := parseDesc ws false
    match s.checkDesc 3 ws d with
    | some code => s.composeDone n code
    | none => s.startRebind false d
  | 4 => s.readComposition ws
  | 5 => s.setCreate ws
  | 6 => s.setDestroy ws
  | _ => s.composeDone n 1

/-- A write of GO to COMPOSE_CMD with an operation code (R332, R344, R459): the staging area is copied and the operation
runs, a READ at once even during a rebind; while another runs, or before full service, the request is held; where
one is held already, OVERRUN sets. -/
def State.composeGo (s : State) (op : Nat) : State :=
  if s.clock.mode ≠ .full ∧ ¬ (s.clock.mode = .starting ∧ 9 ≤ s.clock.step) then s
  else
  let s := s.setRegFld Reg.composeCmd 0 4 op
  let ws := s.regList (Reg.composeDesc 0) 320
  if s.clock.mode = .full ∧ op = 4 ∧ s.binderBusy then s.readComposition ws
  else if s.binder.pending.isSome then s.setRegBit Reg.composeStatus 25 true
  else if s.clock.mode ≠ .full ∨ s.binderBusy then
    { s with binder := { s.binder with pending := some (op, ws) } }
  else s.composeOp op ws

/-- CREATE (R334). -/
def execCreate (s : State) : Out := ok (s.composeGo 0)

/-- DESTROY (R335). -/
def execDestroy (s : State) : Out := ok (s.composeGo 1)

/-- MOVE (R337). -/
def execMove (s : State) : Out := ok (s.composeGo 2)

/-- RESIZE (R339). -/
def execResize (s : State) : Out := ok (s.composeGo 3)

/-- READ (R333). -/
def execReadDesc (s : State) : Out := ok (s.composeGo 4)

/-- SET_CREATE (R327). -/
def execSetCreate (s : State) : Out := ok (s.composeGo 5)

/-- SET_DESTROY (R329). -/
def execSetDestroy (s : State) : Out := ok (s.composeGo 6)

/-- COMPOSE_PENDING_START (R344, R459): a held request starts once the running operation has ended and full service
has begun. -/
def execComposePendingStart (s : State) : Out :=
  ok (match s.binder.pending with
  | none => s
  | some (op, ws) =>
    if s.binderBusy ∨ s.clock.mode ≠ .full then s
    else ({ s with binder := { s.binder with pending := none } }).composeOp op ws)

/-! Quiescing -/

/-- Whether a stream is in flight, or begins, in the frame that starts now (R363): from the start of its first frame
until its flag add, or its last chunk where it has none. -/
def State.streamInFlight (s : State) (j : Job) (x : Stream) : Bool :=
  decide (j.epoch + x.desc.frame0 ≤ s.frame) && !x.stopped
  && (if x.desc.flagEn then !x.flagged else decide (x.written < x.desc.chunks))

/-- Whether the checkpoint the job of a device waits at is clean (R363). -/
def State.cleanAt (s : State) (n : Nat) (j : Job) : Bool :=
  s.fab.engines.all (fun e => !decide (e.2.vd = n) || e.2.streams.all (fun x => !s.streamInFlight j x))

/-- Whether a rebind has reached its quiesce point (R337, R339): no job of the device runs, or for a MOVE its job waits
at a clean checkpoint, judged at the frame boundary that follows its arrival (R363). -/
def State.quiescent (s : State) (b : BindOp) : Bool :=
  match (s.vd b.vd).running with
  | none => true
  | some j => b.isMove && j.ended.isNone && decide (j.phase = .ckpt) && decide (j.stopped < s.frame) && s.cleanAt b.vd j

/-- The chunks that an engine's core has read for positions of a schedule that stands still are given back (R189). -/
def State.dropElastic (s : State) (n : Nat) : State :=
  { s with fab := { s.fab with engines := s.fab.engines.map (fun (e : Nat × EngineSt) =>
    (e.1, if e.2.vd = n then { e.2 with elastic := [] } else e.2)) } }

/-- The units a rebind gains. -/
def State.gained (s : State) (b : BindOp) (isSlice : Bool) : List Nat :=
  (b.desc.units isSlice).filter (fun u => !(s.holder isSlice u).ownedBy b.vd)

/-- QUIESCING ends (R341, R342): the device's next job is held, or its running job pauses with its epoch stopped; GAINING
begins with the ports of the gained units. -/
def State.quiesce (s : State) (b : BindOp) : State :=
  let paused := (s.vd b.vd).running.isSome
  let s := (s.modVd b.vd (fun v => { v with
    held := true
    running := v.running.map (fun (j : Job) => { j with phase := .paused, stopped := s.frame }) })).dropElastic b.vd
  let slots (isSlice : Bool) (s : State) : State :=
    (s.gained b isSlice).foldl (fun s u => s.pendStep (.slot isSlice u (some b.vd))) s
  let s := slots true (slots false s)
  { s with binder := { s.binder with
    running := some { b with st := .gaining, stopped := s.frame, quiescedJob := paused } } }

/-- The running rebind, in a state. -/
def State.inBind (s : State) (st : BindState) (f : BindOp → State) : State :=
  match s.binder.running with
  | some b => if b.st = st then f b else s
  | none => s

/-- The rebind ends with a result: its device is no longer rebinding. -/
def State.endRebind (s : State) (n code : Nat) : State :=
  let s := s.modVd n (fun v => { v with st := if v.st = VdState.rebinding then .active else v.st, held := false })
  ({ s with binder := { s.binder with running := none } }).composeDone n code

/-- QUIESCE_POINT (R337, R339, R342): at a frame boundary. -/
def execQuiescePoint (s : State) : Out :=
  ok (s.inBind .quiescing (fun b => if s.onBoundary && s.quiescent b then s.quiesce b else s))

/-- COMPOSE_TIMEOUT (R341, R344): quiescing has taken FRAMES frames, 0 disabling the limit; a quiesce point that arrives in
that frame wins. -/
def execComposeTimeout (s : State) : Out :=
  ok (s.inBind .quiescing (fun b =>
    let limit := s.regFld Reg.composeTimeout 0 24
    if limit = 0 ∨ s.frame < b.since + limit then s
    else if s.quiescent b then (if s.onBoundary then s.quiesce b else s)
    else s.endRebind b.vd 0x0C))

/-- The units a rebind gives up. -/
def State.leaving (s : State) (b : BindOp) (isSlice : Bool) : List Nat :=
  (s.unitsOf isSlice b.vd).filter (fun u => !(b.desc.units isSlice).contains u)
    |>.filter (fun u => !b.isMove || ((s.vd b.vd).desc.units isSlice).contains u)

/-- The slices a rebind flushes (R215): every one where NS changes, else those that leave or take another number. -/
def State.flushed (s : State) (b : BindOp) : List Nat :=
  let old := s.vd b.vd |>.desc
  let mine := s.unitsOf true b.vd
  if old.ns ≠ b.desc.ns then mine
  else mine.filter (fun u => decide (old.sliceMap.idxOf u ≠ b.desc.sliceMap.idxOf u))

/-- The logical extents a rebind releases, and the pool extents (R339). -/
def State.released (s : State) (b : BindOp) : List (Nat × Extent) :=
  if b.isMove then []
  else (s.extentsHeld b.vd).filter (fun e => !(b.exts.map (·.2)).contains e.1)

/-- Whether a block of a device must leave its die cache for a rebind: it lies in a way of a leaving core, or its home
is to be flushed (R215, R340). -/
def State.mustEmpty (s : State) (b : BindOp) (d : Nat) (x : Block) : Bool :=
  decide (x.vd = b.vd) &&
  ((s.leaving b false).contains (8 * d + s.wayCore d (x.way / 2))
   || (match s.homeSlice b.vd (x.sector / 16) with
       | some i => (s.flushed b).contains i
       | none => false))

/-- Drain the leaving cores and send the Put of every stable block that must leave (R340 steps 1 and 2). -/
def State.startEmptying (s : State) (b : BindOp) : State :=
  let s := (s.leaving b false).foldl (fun s c => if (s.core c).drain.isNone then s.startDrain c else s) s
  let puts := s.dies.flatMap (fun (d : Nat × Die) =>
    (d.2.blocks.filter (fun x => s.mustEmpty b d.1 x && x.st.stable)).map (fun x => (d.1, x.sector)))
  puts.foldl (fun s x => s.putBlock x.1 b.vd x.2) s

/-- Frames that the copy of moving contexts and the zeroing of leaving cores take (R342): F_copy + Z. -/
def State.moveFrames (s : State) (b : BindOp) : Nat :=
  let moves := b.isMove && decide ((s.vd b.vd).desc.coreMap ≠ b.desc.coreMap)
  (if moves then (132160 + 64 * s.sendClass - 1) / (64 * s.sendClass) else 0) + (if (s.leaving b false).isEmpty then 0 else 2)

/-- Whether the coherence traffic of a device has ended. -/
def State.quietVd (s : State) (b : BindOp) : Bool :=
  s.msgs.all (fun m => !decide (m.vd = b.vd))
  && s.dies.all (fun d => d.2.blocks.all (fun x => !s.mustEmpty b d.1 x))
  && (s.leaving b false).all (fun c => match (s.core c).drain with
      | some dr => s.drainOver c dr 2
      | none => true)
  && (s.flushed b).all (fun i =>
      let sl := s.slice i
      sl.reqs.isEmpty && sl.opsIn.isEmpty && sl.trans.isEmpty && sl.fills.isEmpty
      && sl.lines.all (fun e => e.2.ops.isEmpty && !e.2.anyFilling))

/-- Copy the context of each logical core that moves (R338): tile store, accumulator file, sequencer state. -/
def State.copyContexts (s : State) (b : BindOp) : State :=
  if ¬ b.isMove then s
  else
    ((s.vd b.vd).desc.coreMap.zip b.desc.coreMap).foldl (fun s e =>
      if e.1 = e.2 then s
      else
        let o := s.core e.1
        s.modCore e.2 (fun k => { k with
          tile := o.tile, acc := o.acc, tags := o.tags, sregs := o.sregs, pc := o.pc, seq := o.seq })) s

/-- MOVING_END (R340, R341, R342): once every drain and emptying has ended and the frames of the copies have passed, contexts
are copied, leaving cores are zeroed, slices flushed and the lines of released extents discarded; COMMITTING begins, whose table
writes wait for the next frame boundary. While blocks remain, those now stable send their Puts. -/
def execMovingEnd (s : State) : Out :=
  ok (s.inBind .moving (fun b =>
    if ¬ s.quietVd b then s.startEmptying b
    else if (if s.onBoundary then s.frame else s.frame + 1) < b.stopped + s.moveFrames b then s
    else
      let n := b.vd
      let leaving := s.leaving b false
      let flush := s.flushed b
      let rel := (s.released b).filterMap (fun e => e.2.logical)
      let s := s.chans.foldl (fun s c => s.performWrites c.1 (fun w => decide (w.vd = n))) s
      let s := s.copyContexts b
      let s := leaving.foldl (fun s c => s.setCore c Core.rest) s
      let s := flush.foldl (fun s i => s.flushSlice i) s
      let s := s.discardLines n (fun l => rel.contains (l / 2 ^ 18))
      if b.abandoned then s.endRebind n 0x0D
      else
        let s := leaving.foldl (fun s c => s.pendStep (.leave false c)) s
        let s := (s.leaving b true).foldl (fun s i => s.pendStep (.leave true i)) s
        { s.pendStep .rebind with binder := { s.binder with running := some { b with st := .committing } } }))

/-- Write the values of the flag words of a composition: a word that exists before and after keeps its value by its
logical number, one that is new reads zero (R339). -/
def State.moveFlags (s : State) (old new : List Nat) : State :=
  let vals := (List.range new.length).map (fun i => match old[i]? with
    | some w => s.flag w
    | none => 0)
  (new.zip vals).foldl (fun s e => s.setFlag e.1 e.2) s

/-- The engines of a device under a new composition: each keeps its list and stands where its unit now is. -/
def State.moveEngines (s : State) (n : Nat) : State :=
  let mine := s.fab.engines.filter (fun (e : Nat × EngineSt) => decide (e.2.vd = n))
  let rest := s.fab.engines.filter (fun (e : Nat × EngineSt) => !decide (e.2.vd = n))
  let place (x : EngineSt) : Nat :=
    if x.list < 96 then nth 0 (s.coresOf n) x.list else 96 + 4 * n + s.lbd n (x.list - 96)
  { s with fab := { s.fab with engines := mine.foldl (fun m e =>
      SMap.set (fun _ => EngineSt.none) m (place e.2) e.2) rest } }

/-- A paused job resumes at its checkpoint (R197, R342): its epoch moves by the frames from the one whose end stopped it,
and its cores go on. -/
def State.resumePaused (s : State) (n : Nat) : State :=
  match (s.vd n).running with
  | none => s
  | some j =>
    if j.phase ≠ JobPhase.paused ∨ j.ended.isSome then s
    else
      let s := s.modVd n (fun v => { v with running := some { j with
        phase := .running, epoch := j.epoch + (s.frame + 1 - j.stopped) } })
      (s.coresOf n).foldl (fun s c => s.modCore c (fun k => match k.seq with
        | .ckpt _ => { k with seq := .running }
        | _ => k)) s

/-- What waits at the slices of a device goes to the homes of its new translation; requests for memory that it no longer
has are answered or dropped. -/
def State.reroute (s : State) (n : Nat) : State :=
  let gone (a : Nat) : Bool := (s.lineKey n (lineOf a)).isNone
  let s := s.settleHost (fun r => decide (r.vd = n) && gone r.addr)
  let stays (i a : Nat) : Bool := decide (s.homeSlice n (lineOf a) = some i)
  let reqs := s.slices.flatMap (fun (e : Nat × Slice) =>
    e.2.reqs.filter (fun r => decide (r.vd = n) && !stays e.1 r.addr && !gone r.addr))
  let ops := s.slices.flatMap (fun (e : Nat × Slice) =>
    e.2.opsIn.filter (fun o => decide (o.vd = n) && !stays e.1 o.addr && !gone o.addr))
  let s : State := { s with slices := s.slices.map (fun (e : Nat × Slice) => (e.1, { e.2 with
    reqs := e.2.reqs.filter (fun r => !decide (r.vd = n) || (stays e.1 r.addr && !gone r.addr))
    opsIn := e.2.opsIn.filter (fun o => !decide (o.vd = n) || (stays e.1 o.addr && !gone o.addr)) })) }
  ops.foldl State.sendHomeOp (reqs.foldl State.request s)

/-- The commit of a rebind (R169, R341, R346): the translation takes the new composition, flag values move, what the device no
longer has is released, GEN increments, the job resumes and VFn receives a composition event. -/
def State.commitRebind (s : State) (b : BindOp) : State :=
  let n := b.vd
  let rel := s.released b
  let v := s.vd n
  let s := s.moveFlags v.flagMap b.flags
  let s := if b.isMove then s else rel.foldl (fun s e => s.scrub e.1) s
  let s := b.exts.foldl (fun s e => s.modExtent e.2 (fun x => { x with logical := some e.1 })) s
  let qps := b.qps.take b.desc.qps
  let drop (m : SMap Nat) (kept : List Nat) : SMap Nat :=
    m.filter (fun (e : Nat × Nat) => !decide (e.2 = n + 1) || kept.contains e.1)
  let s : State := { s with
    pool := { s.pool with
      flagOwner := if b.isMove then own s.pool.flagOwner 0 (v.flagMap.filter (fun w => !b.flags.contains w))
        else drop s.pool.flagOwner b.flags
      qpOwner := drop s.pool.qpOwner qps }
    net := { s.net with qps := SMap.clearRange s.net.qps (64 * n + b.desc.qps) (64 * n + 64) } }
  let s := s.clearRegs (Reg.transportQpCtx n b.desc.qps) (Reg.transportQpCtx n 64)
  let s := s.modVd n (fun x => { x with
    desc := b.desc, flagMap := b.flags, qpMap := qps, gen := (x.gen + 1) % 256
    redHeld := if b.isMove then x.redHeld.zipWith (fun h c => h - c) (v.desc.redNeed.zipWith (fun o w => o - w) b.desc.redNeed)
      else b.desc.redNeed
    creditsHeld := if b.isMove then x.creditsHeld else b.desc.credits })
  let s := ((s.number n b.desc false).number n b.desc true).moveEngines n
  let s := s.reroute n
  let s := (s.resumePaused n).event n 0x30 ((v.gen + 1) % 256)
  if b.abandoned then s.endRebind n 0x0D
  else { s with binder := { s.binder with running := some { b with st := .resuming, since := s.frame } } }

/-- The device that a set brings in owns its ports (R328): the set's cores are zeroed, but not for a job whose context is to
be restored. -/
def State.switchEnds (s : State) (k d : Nat) : State :=
  let restore : Bool := (s.vd d).running.isNone && (match s.nextQueue d with
    | some q => ((s.vd d).preemptedIn q).isSome
    | none => false)
  let s := (s.set_ k).cores.foldl (fun s c => s.modCore c (fun x =>
    if restore then { x with drain := none } else Core.rest)) s
  s.modSet k (fun x => { x with switched := some d, since := s.frame })

/-- One write of the ownership or translation tables takes effect (R31, R169, R340). -/
def State.applyWrite (s : State) (w : TableWrite) : State :=
  match w with
  | .slot isSlice u o => s.setSlot isSlice u o
  | .leave isSlice u => s.leave isSlice u
  | .create n exts => s.createEnds n exts
  | .destroy n => (s.setVd n VDev.absent).composeDone n 0
  | .switch k d => s.switchEnds k d
  | .rebind => s.inBind .committing s.commitRebind

/-- A frame boundary at which the table writes made before it take effect together (R31). -/
def State.commitTables (s : State) : State :=
  let f := s.frame
  let due := (s.fab.pending.filter (fun e => decide (e.1 < f))).map (·.2)
  due.foldl State.applyWrite { s with fab := { s.fab with
    pending := s.fab.pending.filter (fun (e : Nat × TableWrite) => !decide (e.1 < f)) } }

/-- SLOT_TABLE_COMMIT (R31): at the first frame boundary after the writes they take effect together. -/
def execSlotTableCommit (s : State) : Out := ok (if s.commitDue then s.commitTables else s)

/-- Whether the port of a unit that a rebind gains still waits for its frame boundary. -/
def State.gainPending (s : State) (b : BindOp) : Bool :=
  s.fab.pending.any (fun e => match e.2 with
    | .slot isSlice u _ => (s.gained b isSlice).contains u
    | _ => false)

/-- GAINING_END (R340, R341): at the frame boundary the gained units are owned; MOVING begins with the drains and the
emptying. A rebind abandoned meanwhile stops here, and keeps what it gained. DEDUCED: the boundary is the one at which
quiescing ended, as in the example of R342 (log entry 55). -/
def execGainingEnd (s : State) : Out :=
  ok (s.inBind .gaining (fun b =>
    let s := if s.commitDue then s.commitTables else s
    if s.gainPending b then s
    else
      let n := b.vd
      let gain (isSlice : Bool) (s : State) : State := (s.gained b isSlice).foldl (fun s u => s.gainUnit n isSlice u) s
      let s := gain true (gain false s)
      let r := s.allot n b.desc false b.isMove
      let s := r.1
      if b.abandoned then s.endRebind n 0x0D
      else
        let b' : BindOp := { b with st := .moving, exts := r.2.1, flags := r.2.2.1, qps := r.2.2.2 }
        ({ s with binder := { s.binder with running := some b' } }).startEmptying b'))

/-- COMMITTING_END (R31, R169, R341): at the frame boundary the table writes of the rebind take effect, with every other that
is due. -/
def execCommittingEnd (s : State) : Out :=
  ok (s.inBind .committing (fun _ => if s.commitDue then s.commitTables else s))

/-- RESUMING_END (R341): one frame after the commit the rebind ends. -/
def execResumingEnd (s : State) : Out :=
  ok (s.inBind .resuming (fun b =>
    if s.frame ≤ b.since then s else s.endRebind b.vd (if b.abandoned then 0x0D else 0)))

/-- The keys of memory an extent covers: its area and its spill positions on each channel (R302). -/
def Extent.covers (x : Extent) (key : Nat) : Bool :=
  let ch := key / 2 ^ 33
  let p := key % 2 ^ 33 / 4096
  let nc := x.chans.length
  let k := x.chans.idxOf ch
  let a := 262144 / nc
  x.chans.contains ch &&
  ((decide (nth 0 x.bases k ≤ p) && decide (p < nth 0 x.bases k + a))
   || (decide (2063360 + nth 0 x.spill k ≤ p)
       && decide (p < 2063360 + nth 0 x.spill k + (chanCount nc k 18 0 262144 - a))))

/-- Every line of an extent reads zero (R324 step 2): write-backs that wait for it are overwritten with it. -/
def State.zeroExtent (s : State) (e : Nat) : State :=
  let x := s.extent e
  { s with
    mem := s.mem.filter (fun (m : Nat × Byte) => !x.covers m.1)
    chans := s.chans.map (fun (c : Nat × Channel) => (c.1, { c.2 with
      writes := c.2.writes.filter (fun (w : ChWrite) => !x.covers w.key)
      faults := c.2.faults.filter (fun (u : Nat × MemFault) => !x.covers (c.1 * 2 ^ 33 + 128 * u.1)) })) }

/-- SCRUB_END (R324): a released extent has been zero filled and is FREE. -/
def execScrubEnd (e : Fin 640) (s : State) : Out :=
  ok (if (s.extent e.val).st = .scrubbing then
    (s.zeroExtent e.val).modExtent e.val (fun x => { x with st := .free, owner := 0, logical := none })
  else s)

end Sys2Proof.Machine
end

