-- ==== Sys2Proof/Machine/Sync.lean ====
section
/-! DEFINITION. The sync queue of a core (chapters The scheduled fabric; Memory ordering; Jobs): FLAGSET, FLAGWAIT with
its wake and its timeout, FENCE, WAITC, CKPT. -/

namespace Sys2Proof.Machine

/-- Fields of FLAGSET and FLAGWAIT (R180, R182). -/
def flagOp (w : Nat) : Nat := bitsOf w 118 2
def flagOrder (w : Nat) : Bool := bitOf w 117
def flagNo (w : Nat) : Nat := bitsOf w 96 16

/-- The value of FLAGSET and FLAGWAIT: SA plus IMM modulo 2^32. -/
def QEntry.flagValue (e : QEntry) : W32 := BitVec.ofNat 32 (e.sa.toNat + bitsOf e.word 0 32)

/-- Whether a flag word number lies beyond the allotment of the core's device (R195). -/
def State.flagBeyond (s : State) (c f : Nat) : Bool :=
  match s.coreVd c with
  | some n => decide (s.flagCount n ≤ f)
  | none => true

/-- Place a sync instruction in its queue; those that hold issue stop the sequencer (R182, R286, R362). -/
def State.enqueueSync (s : State) (c w sa : Nat) (hold : Bool) : State :=
  let s := s.enqueue c .sync w ((s.core c).sreg sa) 0 0 0 0 [] []
  if hold then s.modCore c (fun k => { k with seq := .held }) else s

/-- A sync instruction issues: stalls, checks, queue. -/
def State.issueSync (s : State) (c op : Nat) (hold : Bool) (here : Nat → Bool) (causes : Nat → List (Bool × Nat)) : State :=
  s.issueOp c op (fun w s' =>
    if ¬ here w ∨ (s'.core c).stalls .sync then s
    else s'.checked c (causes w) (fun s => s.enqueueSync c w (bitsOf w 112 5) hold))

/-- Whether every older instruction of the core has completed; a launched TGL has (R286, R296), but for a CKPT,
which waits for its kernel too (R115). -/
def Core.olderDone (k : Core) (e : QEntry) (kernels : Bool) : Bool :=
  k.board.all (fun b => decide (e.sb_.getD 0 ≤ b.id)
    || (!kernels && k.kernels.any (fun g => decide (g.sb_ = some b.id))))

/-- The flag operation of an OP code and a value. -/
def flagOpOf (o : Nat) (v : W32) : FlagOp :=
  match o with
  | 0 => .add v
  | 1 => .write v
  | 2 => .arrive
  | _ => .arm v

/-- Whether the message of a FLAGSET of core `c` has still to leave its send port (R180). -/
def State.flagsetWaits (s : State) (c : Nat) : Bool :=
  s.fab.reed.any (fun m => decide (m.path.head?.map (·.1) = some c) && (match m.body with
    | .flag x => decide (x.sender = c)
    | _ => false))

/-- The started FLAGSET at the head sends its message, with ORDER after the wait of a release (R180, R287); it completes when
the message leaves the send port. -/
def State.flagsetAct (s : State) (c o : Nat) : State :=
  s.actHead c .sync 0x30 (fun _ e s =>
    match s.coreVd c with
    | none => s
    | some n =>
      if flagOp e.word ≠ o ∨ s.flagsetWaits c then s
      else
        let send (s : State) : State :=
          s.sendFlag ⟨n, s.flagWord n (flagNo e.word), flagOpOf o e.flagValue, c⟩ (.core c)
        if ¬ flagOrder e.word then send s
        else if (s.core c).olderDone e false then s.drained c 2 send
        else s)

/-- The causes of a FLAGSET (R180, R195). -/
def flagsetCauses (s : State) (c w : Nat) : List (Bool × Nat) :=
  [(decide (bitsOf w 32 64 ≠ 0), 0x02), (s.flagBeyond c (flagNo w), 0x20)]

/-- A FLAGSET of an OP code. -/
def State.flagset (s : State) (c o : Nat) (ph : Phase) : State :=
  match ph with
  | .issue => s.issueSync c 0x30 false (fun w => decide (flagOp w = o)) (flagsetCauses s c)
  | .act => s.flagsetAct c o

/-- FLAGSET_ADD (R180). -/
def execFlagsetAdd (c : Fin 96) (ph : Phase) (s : State) : Out := ok (s.flagset c.val 0 ph)

/-- FLAGSET_WRITE (R180). -/
def execFlagsetWrite (c : Fin 96) (ph : Phase) (s : State) : Out := ok (s.flagset c.val 1 ph)

/-- FLAGSET_ARRIVE (R181). -/
def execFlagsetArrive (c : Fin 96) (ph : Phase) (s : State) : Out := ok (s.flagset c.val 2 ph)

/-- FLAGSET_ARM (R181). -/
def execFlagsetArm (c : Fin 96) (ph : Phase) (s : State) : Out := ok (s.flagset c.val 3 ph)

/-- The condition of a FLAGWAIT on a flag word (R181, R182). -/
def flagHolds (mode : Nat) (flag value : W32) : Bool :=
  match mode with
  | 0 => reached flag value.toNat
  | 1 => decide (wrapN 12 ((fld flag 20 12 : Int) - (fld value 0 12 : Int)) < 2048)
  | _ => decide (flag = value)

/-- The sync instruction at the head completes and the sequencer issues again. -/
def State.syncDone (s : State) (c i : Nat) : State :=
  (s.dropEntry c .sync i true).modCore c (fun k => { k with seq := if k.seq = .held then .running else k.seq })

/-- The router of a flag word sends a wake to a core of device `n` (R182). -/
def State.sendWake (s : State) (n word c : Nat) : State := s.sendReed n (.wake c) (.bd (word / 4096)) (.core c)

/-- Whether a wake is on its way to a core, or has reached it. -/
def State.wakeOut (s : State) (c : Nat) : Bool :=
  s.fab.wakes.contains c || s.fab.reed.any (fun m => decide (m.body = .wake c))

/-- The FLAGWAIT at the head of core `c` completes; other wakes sent for it are not for a later one. -/
def State.flagwaitDone (s : State) (c : Nat) : State :=
  (s.dropWakes c).actHead c .sync 0x31 (fun i _ s =>
    (s.modCore c (fun k => { k with flagWait := none })).syncDone c i)

/-- FLAGWAIT (R182, R195): it holds issue from its issue on; at the head it waits at the router of its word, which
sends the wake at once where the condition holds. -/
def execFlagwait (c : Fin 96) (ph : Phase) (s : State) : Out :=
  ok (match ph with
  | .issue => s.issueSync c.val 0x31 true (fun _ => true) (fun w =>
      [(decide (flagOp w = 3) || flagOrder w || decide (bitsOf w 32 64 ≠ 0), 0x02),
       (s.flagBeyond c.val (flagNo w), 0x20)])
  | .act => s.actHead c.val .sync 0x31 (fun _ e s =>
      match s.coreVd c.val with
      | none => s
      | some n =>
        if (s.core c.val).flagWait.isSome then s
        else
          let x := s.flagWord n (flagNo e.word)
          let s := s.modCore c.val (fun k => { k with
            flagWait := some ⟨x, flagOp e.word, e.flagValue, s.frame, e.pc⟩ })
          if flagHolds (flagOp e.word) (s.flag x) e.flagValue then s.sendWake n x c.val else s))

/-- FLAGWAIT_WAKE (R182): a wake has reached a waiting core, whose FLAGWAIT completes. Wakes of a FLAGWAIT that has ended are
gone with it, so each is for the one that waits. -/
def execFlagwaitWake (c : Fin 96) (s : State) : Out :=
  ok (if ¬ s.fab.wakes.contains c.val then s
  else if (s.core c.val).flagWait.isNone then s.dropWakes c.val
  else s.flagwaitDone c.val)

/-- FLAG_TIMEOUT (R183, R197): a FLAGWAIT that has waited longer than FABRIC_FLAG_TIMEOUT.FRAMES faults; 0 disables the
limit. One whose condition has become true completes. -/
def execFlagTimeout (c : Fin 96) (s : State) : Out :=
  ok (match (s.core c.val).flagWait with
  | none => s
  | some f =>
    if s.regFld Reg.fabricFlagTimeout 0 24 = 0 ∨ s.frame - f.since ≤ s.regFld Reg.fabricFlagTimeout 0 24 then s
    else if flagHolds f.mode (s.flag f.word) f.value ∨ s.wakeOut c.val then s.flagwaitDone c.val
    else s.actHead c.val .sync 0x31 (fun i _ s => (s.dropEntry c.val .sync i true).fault c.val 0x21 f.pc 0 0))

/-- FENCE (R285, R286). -/
def execFence (c : Fin 96) (ph : Phase) (s : State) : Out :=
  ok (match ph with
  | .issue => s.issueSync c.val 0x38 true (fun _ => true) (fun w =>
      [(decide (bitsOf w 118 2 = 0) || decide (bitsOf w 0 118 ≠ 0), 0x02)])
  | .act => s.actHead c.val .sync 0x38 (fun i e s =>
      let scope := bitsOf e.word 118 2
      if ¬ (s.core c.val).olderDone e false then s
      else if scope = 1 then s.syncDone c.val i
      else s.drained c.val scope (fun s => s.syncDone c.val i)))

/-- WAITC (R285, R286). -/
def execWaitc (c : Fin 96) (ph : Phase) (s : State) : Out :=
  ok (match ph with
  | .issue => s.issueSync c.val 0x39 true (fun _ => true) (fun w => [(decide (bitsOf w 0 120 ≠ 0), 0x02)])
  | .act => s.actHead c.val .sync 0x39 (fun i e s =>
      if (s.core c.val).olderDone e false then s.drained c.val 4 (fun s => s.syncDone c.val i) else s))

/-- CKPT (R115, R362): once every older instruction has completed, group kernels among them, the core waits at it. -/
def execCkpt (c : Fin 96) (ph : Phase) (s : State) : Out :=
  ok (match ph with
  | .issue => s.issueSync c.val 0x3F true (fun _ => true) (fun w => [(decide (bitsOf w 0 108 ≠ 0), 0x02)])
  | .act => s.actHead c.val .sync 0x3F (fun i e s =>
      if ¬ (s.core c.val).olderDone e true ∨ ¬ (s.core c.val).kernels.isEmpty then s
      else (s.dropEntry c.val .sync i true).modCore c.val (fun k => { k with seq := .ckpt (bitsOf e.word 108 12) })))

end Sys2Proof.Machine
end

