-- ==== Sys2Proof/Machine/Jobs.lean ====
section
/-! DEFINITION. Jobs (chapter Jobs, shares, deadlines and preemption): queues and doorbells, taking, starting and ending a
job, checkpoints and the deadline monitor, preemption, shares, accounting, FENCE descriptors. -/

namespace Sys2Proof.Machine

/-! Queues (R348 to R352) -/

/-- Add to an accounting counter (R373), 64 bits wide. -/
def State.acctAdd (s : State) (n i k : Nat) : State :=
  s.modVd n (fun v => { v with acct := v.acct.set i ((nth 0 v.acct i + k) % 2 ^ 64) })

/-- A write of SQ_TAIL (R349, R350, R352, R386, R460): descriptors become available with the stamps of the IOD front end, which
forwards the doorbell to the device's scheduler as a reed message, or the write is refused; and whether it is counted under
R10, which a refused one is not. -/
def State.doorbellW (s : State) (n q : Nat) (w : W32) : State × Bool :=
  if ¬ s.vfHere n then (s, false)
  else
    let tail := fld w 0 16
    let size := s.qSize n q
    let old := s.sqTail n q
    let k := (tail + size - old) % size
    let waiting := (old + size - s.sqHead n q) % size
    if ¬ s.qOn n q ∨ s.clock.downBusy ∨ s.clock.offReady ∨ size ≤ tail ∨ size - 1 < waiting + k then
      (s.setRegBit (Reg.queueStatus n q) 1 true, false)
    else
      let idx := (List.range k).map (fun i => (old + i) % size)
      let s := s.setRegFld (Reg.queueSqTail n q) 0 16 tail
      let s := s.modVd n (fun v => { v with
        stamps := (v.stamps.filter (fun (x : Nat × Nat × Nat) => !(decide (x.1 = q) && idx.contains x.2.1)))
          ++ idx.map (fun i => (q, i, s.time.toNat)) })
      ((s.acctAdd n 0 k).sendReed n (.bell n q tail) .iod (.bd (s.schedulerOf n)), setsRsvd (Reg.queueSqTail n q) w)

/-- The doorbell with its count (R349). -/
def State.doorbell (s : State) (n q : Nat) (w : W32) : State := State.counted (s.doorbellW n q w) (Reg.queueSqTail n q)

/-- DOORBELL (R349). -/
def execDoorbell (vd : Fin 256) (q : Fin 4) (tail : W32) (s : State) : Out :=
  ok (s.doorbell vd.val q.val tail)

/-- A write of CQ_HEAD (R350), and whether it is counted. -/
def State.cqHeadW (s : State) (n q : Nat) (w : W32) : State × Bool :=
  if ¬ s.vfHere n then (s, false)
  else
    let head := fld w 0 16
    let size := s.qSize n q
    let old := s.cqHead n q
    if head < size ∧ (head + size - old) % size ≤ (s.cqTail n q + size - old) % size then
      (s.setRegFld (Reg.queueCqHead n q) 0 16 head, setsRsvd (Reg.queueCqHead n q) w)
    else (s.setRegBit (Reg.queueStatus n q) 2 true, false)

/-- A write of CQ_HEAD with its count. -/
def State.writeCqHead (s : State) (n q : Nat) (w : W32) : State := State.counted (s.cqHeadW n q w) (Reg.queueCqHead n q)

/-- CQ_HEAD_WRITE (R350). -/
def execCqHeadWrite (vd : Fin 256) (q : Fin 4) (head : W32) (s : State) : Out :=
  ok (s.writeCqHead vd.val q.val head)

/-- A write of ENABLE (R375): the change to 1 zeroes the indices and is refused under a reserved LOG2N. -/
def State.enableQueue (s : State) (n q : Nat) (en : Bool) : State :=
  if ¬ s.vfHere n then s
  else
    let l := s.regFld (Reg.queueSqCfg n q) 16 5
    if en ∧ (l < 4 ∨ 16 < l) then s
    else if en ∧ ¬ s.qOn n q then
      let s := ((((s.setReg (Reg.queueSqHead n q) 0).setReg (Reg.queueSqTail n q) 0).setReg
        (Reg.queueCqHead n q) 0).setReg (Reg.queueCqTail n q) 0).setRegBit (Reg.queueSqCfg n q) 31 true
      let s : State := { s with fab := s.fab.emptyReed (fun m => match m.body with
        | .bell v x _ => decide (v = n) && decide (x = q)
        | _ => false) }
      s.modVd n (fun v => { v with
        tails := v.tails.set q 0, phases := v.phases.set q true, stamps := v.stamps.filter (fun (x : Nat × Nat × Nat) => !decide (x.1 = q)) })
    else s.setRegBit (Reg.queueSqCfg n q) 31 en

/-- QUEUE_ENABLE (R375). -/
def execQueueEnable (vd : Fin 256) (q : Fin 4) (en : Bool) (s : State) : Out :=
  ok (s.enableQueue vd.val q.val en)

/-! Completion records (R348, R360, R361) -/

/-- What a record says beside its place. -/
structure Completion where
  tag : Nat
  status : Nat
  sqIndex : Nat
  fellBack : Bool
  late : Bool
  preempts : Nat
  lastCkpt : Nat
  lcore : Nat
  cause : Nat
  run : Nat
  irq : Bool
deriving DecidableEq, Repr

/-- The 32 bytes of a record. -/
def Completion.bytes (r : Completion) (phase : Bool) (now : Nat) : List Byte :=
  leBytes 8 r.tag
  ++ leBytes 4 (b2n phase * 2 ^ 31 + r.status * 2 ^ 16 + r.sqIndex)
  ++ leBytes 4 (b2n r.fellBack * 2 ^ 31 + b2n r.late * 2 ^ 30 + b2n (decide (0 < r.preempts)) * 2 ^ 29 + r.lastCkpt)
  ++ leBytes 4 (r.preempts * 2 ^ 16 + r.lcore * 2 ^ 8 + r.cause)
  ++ leBytes 4 (min (2 ^ 32 - 1) (r.run / 1000)) ++ leBytes 8 now

/-- Write a completion record (R358, R360): where its 32 B lie in regions it is written; CQ_TAIL advances, one counter
counts it, its vector is raised. -/
def State.complete (s : State) (n q : Nat) (rs : List Region) (r : Completion) : State :=
  let tail := s.cqTail n q
  let size := s.qSize n q
  let addr := s.reg64 (Reg.queueCqBase n q) / 32 * 32 % 2 ^ 48 + 32 * tail
  let phase := nth true (s.vd n).phases q
  let s := if s.inRegions n rs addr 32 then s.devWrite n addr (r.bytes phase s.time.toNat) else s
  let s := s.setRegFld (Reg.queueCqTail n q) 0 16 ((tail + 1) % size)
  let s := if tail + 1 = size then s.modVd n (fun v => { v with phases := v.phases.set q (!phase) }) else s
  let s := s.acctAdd n (if r.status ≠ 0 then 3 else if r.fellBack then 4 else 2) 1
  if r.irq then s.vecVf n q else s

/-! Shares (R366 to R368) -/

/-- Devices of a set with work at an eligible queue head that may run. -/
def State.setReady (s : State) (k : Nat) : List Nat :=
  (s.setUsers k).filter (fun n => decide ((s.vd n).st ≠ .contained) && !(s.vd n).held && (s.vd n).fence.isNone
    && (s.nextQueue n).isSome)

/-- What a round of R367 adds to a device's deficit. -/
def State.shareStep (s : State) (wmax n : Nat) : Nat :=
  max 10000 (s.regFld Reg.schedQuantum 0 24) * s.regFld (Reg.schedVdShare n) 0 16 / wmax

/-- The choice of R367 on set `k`: devices without work lose what they have left; rounds are added until a ready device
has a positive deficit; the first after the one that ran last is chosen. -/
def State.choose (s : State) (k : Nat) : State :=
  let ready := s.setReady k
  let s := ((s.setUsers k).filter (fun n => !ready.contains n)).foldl (fun s n =>
    s.modVd n (fun v => { v with deficit := min v.deficit 0 })) s
  if ready.isEmpty then s.modSet k (fun x => { x with next := none })
  else
    let wmax := (ready.map (fun n => s.regFld (Reg.schedVdShare n) 0 16)).foldl max 1
    let rounds (n : Nat) : Option Nat :=
      let d := (s.vd n).deficit
      let i := s.shareStep wmax n
      if 0 < d then some 0 else if i = 0 then none else some ((-d).toNat / i + 1)
    let need := minN 0 (ready.filterMap rounds)
    let s := ready.foldl (fun s n => s.modVd n (fun v => { v with
      deficit := v.deficit + ((need * s.shareStep wmax n : Nat) : Int) })) s
    let last := (s.set_ k).last
    let order := ((List.range 256).map (fun i => (last + 1 + i) % 256)).filter (fun n => ready.contains n)
    s.modSet k (fun x => { x with next := order.find? (fun n => decide (0 < (s.vd n).deficit)) })

/-- After a job end or a preemption the set of the device chooses (R367). -/
def State.shareChoice (s : State) (n : Nat) : State :=
  let k := (s.vd n).desc.sharedSet
  if k = 0 then s else s.choose k

/-- Whether a device has a job that is not saving its context. -/
def VDev.busy (v : VDev) : Bool := v.incoming.isSome || v.running.any (fun j => decide (j.phase ≠ .saving))

/-- The choice of a set, made where none stands: the chosen device has its job, or work that may run (R367). -/
def State.standing (s : State) (k : Nat) : State :=
  match (s.set_ k).next with
  | some d => if (s.vd d).busy ∨ (s.setReady k).contains d then s else s.choose k
  | none => s.choose k

/-- Whether it is the turn of a device, after a choice where none stands: it has cores of its own, or its set has
chosen it and runs no job of another (R351, R367). -/
def State.turn (s : State) (n : Nat) : Bool × State :=
  let k := (s.vd n).desc.sharedSet
  if k = 0 then (true, s)
  else
    let s := s.standing k
    (decide ((s.set_ k).next = some n) && (s.setUsers k).all (fun m => decide (m = n) || !(s.vd m).busy), s)

/-- Whether a device has the cores its job is to run on (R328): its own, or those of its set once it is switched in. -/
def State.switchedIn (s : State) (n : Nat) : Bool :=
  let k := (s.vd n).desc.sharedSet
  decide (k = 0) || decide ((s.set_ k).switched = some n)

/-- Whether a job holds the cores of a set: any but one that waits for its first epoch. -/
def State.setHeld (s : State) (k : Nat) : Bool :=
  (s.setUsers k).any (fun n => (s.vd n).running.any (fun j => decide (j.phase ≠ .taken) || j.started))

/-- Whether a switch of a set waits for its frame boundary. -/
def State.switching (s : State) (k : Nat) : Bool :=
  s.fab.pending.any (fun e => match e.2 with
    | .switch j _ => decide (j = k)
    | _ => false)

/-- SHARED_SET_SWITCH (R328): the set's cores drain; once the drains have ended, the ports and the translation of the chosen
device wait for the next frame boundary, where they take effect and the cores are zeroed unless a context is to be
restored. -/
def execSharedSetSwitch (k : Fin 8) (ph : Phase) (s : State) : Out :=
  ok (
    let k := k.val + 1
    let x := s.set_ k
    if ¬ x.valid ∨ s.setHeld k then s
    else
      match ph with
      | .issue =>
        let s := s.standing k
        match (s.set_ k).next with
        | none => s
        | some d =>
          if x.switched = some d ∨ s.switching k then s
          else x.cores.foldl (fun s c => s.startDrain c) s
      | .act =>
        match x.next with
        | none => s
        | some d =>
          if s.switching k then (if s.commitDue then s.commitTables else s)
          else
            let drained := x.cores.all (fun c => match (s.core c).drain with
              | some dr => s.drainOver c dr 2
              | none => false)
            if x.switched = some d ∨ ¬ drained then s
            else (x.cores.foldl (fun s c => s.pend (.slot false c (some d))) s).pend (.switch k d))

/-! Descriptors (R353 to R355) -/

/-- A job descriptor from its 128 bytes. -/
def parseJob (bs : List Byte) : JobDesc :=
  let n := leNat bs
  let f (off lo len : Nat) : Nat := bitsOf n (8 * off + lo) len
  ⟨f 0 28 4, f 0 27 1 == 1, f 0 26 1 == 1, f 0 25 1 == 1, f 0 24 1 == 1, f 0 0 12, f 8 0 64, f 0x10 0 48,
   f 0x18 0 32, f 0x1C 0 32, f 0x20 0 48, BitVec.ofNat 64 (f 0x28 0 64), f 0x30 0 32, f 0x34 0 32, f 0x38 0 48,
   f 0x40 0 48,
   decide (f 0 12 12 ≠ 0) || decide (f 4 0 32 ≠ 0) || decide (f 0x10 48 16 ≠ 0) || decide (f 0x20 48 16 ≠ 0)
   || decide (f 0x38 48 16 ≠ 0) || decide (f 0x40 48 16 ≠ 0) || decide (f 0x48 0 448 ≠ 0)⟩

/-- Bytes of a context record (R369). -/
def ctxSize : Nat := 8458240

/-- Whether `len` bytes from an address lie whole in one NORMAL region of a device (R369). -/
def State.saveOk (s : State) (n : Nat) (rs : List Region) (addr len : Nat) : Bool :=
  let first := addr / 4096
  let last := (addr + len - 1) / 4096
  match regionAt rs addr with
  | some (i, r) =>
    decide (r.rtype = 0) && decide (last ≤ r.limit) && decide (addr + len ≤ 2 ^ 48)
    && (rs.take i).all (fun x => decide (x.limit < x.base) || decide (x.limit < first) || decide (last < x.base))
    && (List.range (last / 2 ^ 18 + 1 - first / 2 ^ 18)).all (fun e => (s.extentOf n (first / 2 ^ 18 + e)).isSome)
  | none => false

/-- Whether the checks that a descriptor and a fallback descriptor share fail (R355). -/
def State.jobBad (s : State) (n : Nat) (rs : List Region) (j : JobDesc) : Bool :=
  j.reserved || decide (j.kind ≠ 0) || decide (j.codeAddr % 16 ≠ 0) || decide (j.codeLen = 0)
  || decide (j.codeLen % 16 ≠ 0) || decide (j.schedAddr % 64 ≠ 0) || (j.priv && !(s.vd n).desc.privOk)
  || (s.region n rs j.codeAddr).isNone || (decide (j.schedAddr ≠ 0) && !s.inRegions n rs j.schedAddr 64)

/-- Whether a descriptor fails a check of R355 of its own: its fallback's address, its cost table, the save area. -/
def State.primaryBad (s : State) (n q : Nat) (rs : List Region) (j : JobDesc) : Bool :=
  s.jobBad n rs j
  || (decide (j.fallbackAddr ≠ 0) && (decide (j.fallbackAddr % 128 ≠ 0) || !s.inRegions n rs j.fallbackAddr 128))
  || (j.deadlineEn && (decide (j.costAddr % 4 ≠ 0) || !s.inRegions n rs j.costAddr (4 * (j.nckpt + 1))))
  || (s.hasSave n q && !s.saveOk n rs (s.saveAt n q) ((s.coresOf n).length * ctxSize))

/-! Loading a schedule (R165, R187) -/

/-- How many descriptors of a list, its end descriptor among them, must be readable. -/
def State.listLen (s : State) (n addr count : Nat) : Nat :=
  match (List.range count).find? (fun i => decide (bitsOf (s.devLE n (addr + 64 * i + 56) 8) 60 4 = 0)) with
  | some i => i + 1
  | none => count + 1

/-- Load the schedule of a job (R165): none where it is refused; else its lists get their engines and its reduction
entries are reserved. -/
def State.loadSchedule (s : State) (n q : Nat) (rs : List Region) (addr : Nat) : Option State :=
  let clear : State := { s with fab := { s.fab with
    engines := s.fab.engines.filter (fun (e : Nat × EngineSt) => !decide (e.2.vd = n))
    redRes := s.fab.redRes.filter (fun (r : RedRes) => !(decide (r.vd = n) && decide (r.queue = q))) } }
  if addr = 0 then some clear
  else
    let d := (s.vd n).desc
    let h := s.devLE n addr 64
    let f (lo len : Nat) : Nat := bitsOf h lo len
    let table := f 256 48
    if ¬ s.inRegions n rs table 1600 then none
    else
      let entries := (List.range 100).map (fun i => s.devLE n (table + 16 * i) 16)
      let lists := ((List.range 100).zip entries).map (fun e => (e.1, bitsOf e.2 0 48, bitsOf e.2 64 32))
      let nc := (s.coresOf n).length
      let kept (b : Nat) : Nat := sumN ((clear.fab.redRes.filter (fun r => decide (r.vd = n))).map
        (fun r => nth 0 r.counts (lbdOf d.lbdMap b)))
      let red (b : Nat) : Nat := f (320 + 12 * b) 12
      let bad := decide (f 480 32 ≠ 0x4B534348) || decide (f 472 8 ≠ 1) || decide (f 448 8 ≠ 0)
        || decide (f 304 16 ≠ 0) || decide (f 0 256 ≠ 0)
        || entries.any (fun e => decide (bitsOf e 48 16 ≠ 0) || decide (bitsOf e 96 32 ≠ 0))
        || lists.any (fun l => decide (l.2.2 ≠ 0) && (
            (if l.1 < 96 then decide (nc ≤ l.1) else decide (bitsOf d.sliceShape (8 * (l.1 - 96)) 8 = 0))
            || !s.inRegions n rs l.2.1 (64 * s.listLen n l.2.1 l.2.2)))
        || decide (f 468 4 ≠ s.demandD) || decide (s.sendClass < f 462 6) || decide (s.recvClass < f 456 6)
        || decide (f 416 32 ≠ s.coreShapeOf n) || decide (f 384 32 ≠ d.sliceShape)
        || decide (s.flagCount n < f 368 16)
        || (List.range 4).any (fun b => decide (nth 0 d.red b < red b + kept b))
      if bad then none
      else
        let counts := (List.range 4).map (fun p => sumN ((List.range 4).map (fun b =>
          if lbdOf d.lbdMap b = p then red b else 0)))
        let place (l : Nat) : Nat := if l < 96 then nth 0 (s.coresOf n) l else 96 + 4 * n + lbdOf d.lbdMap (l - 96)
        some { clear with fab := { clear.fab with
          redRes := clear.fab.redRes ++ [⟨n, q, counts⟩]
          engines := (lists.filter (fun l => decide (l.2.2 ≠ 0))).foldl (fun m l =>
            SMap.set (fun _ => EngineSt.none) m (place l.1) ⟨n, l.1, l.2.1, false, [], []⟩) clear.fab.engines } }

/-! Taking and starting (R351, R355 to R357) -/

/-- Whether the scheduler of a device may take a job (R351, R371, R395, R460, R507): it has none, or the one it has saves its
context. -/
def State.mayTake (s : State) (n : Nat) : Bool :=
  let v := s.vd n
  (decide (v.st = .active) || decide (v.st = .rebinding)) && !v.busy && v.fence.isNone && !v.held
    && !s.clock.downBusy && !s.clock.offReady && !s.cancelling n

/-- Whether the head of a queue is a preempted job, or the one that saves its context. -/
def State.preemptedHead (s : State) (n q : Nat) : Bool :=
  ((s.vd n).preemptedIn q).isSome || (s.vd n).running.any (fun j => decide (j.queue = q))

/-- Host window writes of a device that a home has accepted and not yet completed (R395). -/
def State.hostAccepted (s : State) (n : Nat) : List Nat :=
  s.slices.flatMap (fun (e : Nat × Slice) => (e.2.reqs.filter (fun r => r.accepted && decide (r.vd = n))).filterMap
    (fun r => match r.src with
      | .host id => some id
      | _ => none))

/-- The submission stamp of a descriptor. -/
def VDev.stamp (v : VDev) (q i : Nat) : Nat :=
  ((v.stamps.find? (fun x => decide (x.1 = q) && decide (x.2.1 = i))).map (·.2.2)).getD 0

/-- A record for a descriptor that starts nothing. -/
def Completion.none (tag status idx : Nat) (irq : Bool) : Completion :=
  ⟨tag, status, idx, false, false, 0, 0, 0x7F, 0, 0, irq⟩

/-- A job just taken, with the first frame that can be its epoch. -/
def Job.new (epoch q i : Nat) (j : JobDesc) (fb : Option JobDesc) (stamp : Nat) (rs : List Region) : Job :=
  ⟨q, i, j, fb, false, false, 0, 0, stamp, 0, rs, false, .taken, epoch, 0, 0, 0, 0, [], false, Option.none⟩

/-- The job that a device has taken: it runs, or waits behind the one that saves its context (R371). -/
def State.accept (s : State) (n : Nat) (j : Job) : State :=
  s.modVd n (fun v => if v.running.isSome then { v with incoming := some j } else { v with running := some j })

/-- Take the descriptor at ring index `i` of queue `q` (R348, R355, R356, R395). -/
def State.take (s : State) (n q i : Nat) : State :=
  let rs := s.regionTable n
  let addr := s.reg64 (Reg.queueSqBase n q) / 128 * 128 % 2 ^ 48 + 128 * i
  let s := s.setRegFld (Reg.queueSqHead n q) 0 16 ((i + 1) % s.qSize n q)
  let ends (tag status : Nat) (irq : Bool) (s : State) : State :=
    (s.complete n q rs (Completion.none tag status i irq)).shareChoice n
  if ¬ s.inRegions n rs addr 128 then ends 0 4 false s
  else
    let j := parseJob (s.devRead n addr 128)
    let s := s.devSeen n addr 128
    if j.kind = 1 then
      s.modVd n (fun v => { v with fence := some ⟨q, i, j.tag, j.irq, s.hostAccepted n⟩ })
    else
      let bad := s.primaryBad n q rs j
      let named := decide (j.fallbackAddr ≠ 0) && !bad
      let fb := if named then some (parseJob (s.devRead n j.fallbackAddr 128)) else Option.none
      let s := if named then s.devSeen n j.fallbackAddr 128 else s
      let fbBad : Bool := match fb with
        | some f => s.jobBad n rs f
        | none => false
      if bad ∨ fbBad then ends j.tag 4 j.irq s
      else
        match s.loadSchedule n q rs j.schedAddr with
        | none => ends j.tag 5 j.irq s
        | some s => s.accept n (Job.new (s.frame + 3) q i j fb ((s.vd n).stamp q i) rs)

/-- The set of a device notes that it runs. -/
def State.noteRun (s : State) (n : Nat) : State :=
  let k := (s.vd n).desc.sharedSet
  if k = 0 then s else s.modSet k (fun x => { x with last := n })

/-- JOB_TAKE (R351, R355): the descriptor at the head of the chosen queue is taken; a preempted job at the head comes first. -/
def execJobTake (vd : Fin 256) (s : State) : Out :=
  ok (
    let n := vd.val
    if ¬ s.mayTake n then s
    else
      match s.nextQueue n with
      | none => s
      | some q =>
        let t := s.turn n
        if ¬ t.1 then t.2
        else if s.preemptedHead n q then t.2
        else
          let s := t.2.take n q (s.sqHead n q)
          if (s.vd n).busy then s.noteRun n else s)

/-- A core as at the first instruction of a kernel (R50, R116, R357): the tile store stays. -/
def Core.startAt (k : Core) (j : JobDesc) (l nc ck : Nat) : Core :=
  let k := { ({ k with kernels := [], gslots := [] } : Core).boundary with
    sregs := [], pc := j.codeAddr, seq := .running, ibuf := []
    ibFill := k.ibFill.map (fun (f : CFill) => { f with stale := true })
    qm := [], qa := [], qg := [], qs := [], board := [], acc := [], tags := [], lane := .none
    flagWait := Option.none, drain := Option.none }
  ((((k.setSreg 1 j.arg).setSreg 2 (BitVec.ofNat 64 l)).setSreg 3 (BitVec.ofNat 64 nc)).setSreg 4 (BitVec.ofNat 64 ck))

/-- Whether the schedule epoch of a job that waits for it falls on this frame boundary (R328, R356, R371): the third after its
acceptance or a later one, on cores that it has and whose zeroing after a switch is over. -/
def State.epochDue (s : State) (n : Nat) (j : Job) : Bool :=
  let k := (s.vd n).desc.sharedSet
  decide (j.phase = JobPhase.taken) && !(s.vd n).held && s.onBoundary && decide (j.epoch ≤ s.frame) && !j.toLoad
    && s.switchedIn n && (decide (k = 0) || j.started || decide ((s.set_ k).since + 2 ≤ s.frame))

/-- JOB_EPOCH (R356, R357): at the schedule epoch every logical core starts at CODE_ADDR; a job that starts for the
first time is counted. -/
def execJobEpoch (vd : Fin 256) (s : State) : Out :=
  ok (
    let n := vd.val
    match s.liveJob n with
    | none => s
    | some j =>
      if ¬ s.epochDue n j then s
      else
        let cores := s.coresOf n
        let s := ((List.range cores.length).zip cores).foldl (fun s e => s.modCore e.2 (fun k =>
          k.startAt j.cur e.1 cores.length (if j.fellBack then j.lastCkpt else 0))) s
        let s := s.modVd n (fun v => { v with running := some { j with
          phase := .running, epoch := s.frame, started := true } })
        if j.started then s else s.acctAdd n 1 1)

/-! Ending (R358 to R361) -/

/-- Attribute the engine time of a device (R373): three counters, and the deficit of a device on a set. -/
def State.attribute (s : State) (n : Nat) : State :=
  let v := s.vd n
  let k := v.desc.sharedSet
  let per := if k = 0 then 0 else nth 0 v.unattr 0 / max 1 (s.set_ k).cores.length
  let s := ((s.acctAdd n 6 (nth 0 v.unattr 0)).acctAdd n 7 (nth 0 v.unattr 1)).acctAdd n 8 (nth 0 v.unattr 2)
  s.modVd n (fun v => { v with unattr := [0, 0, 0], deficit := v.deficit - (per : Int) })

/-- Whether every stream of a device's schedule has completed (R358). -/
def State.streamsDone (s : State) (n : Nat) : Bool :=
  s.fab.engines.all (fun e => !decide (e.2.vd = n) || (e.2.ended && e.2.streams.all (fun x =>
    if x.desc.flagEn then x.flagged else decide (x.desc.chunks ≤ x.written))))

/-- Whether the queues of the cores a device has are empty. -/
def State.coresStopped (s : State) (n : Nat) : Bool :=
  (s.ownCores n).all (fun c => let k := s.core c; (k.qm ++ k.qa ++ k.qg ++ k.qs).isEmpty)

/-- Whether the cores a device has have done all they issued, and their stores are complete at a scope. -/
def State.coresOver (s : State) (n scope : Nat) : Bool :=
  (s.ownCores n).all (fun c =>
    let k := s.core c
    (k.qm ++ k.qa ++ k.qg ++ k.qs).isEmpty && k.kernels.isEmpty && !s.storesOut c && (match k.drain with
      | some dr => s.drainOver c dr scope
      | none => false))

/-- Start the drains of cores that have none. -/
def State.startDrains (s : State) (n : Nat) : State :=
  (s.ownCores n).foldl (fun s c =>
    if (s.core c).drain.isSome ∨ s.storesOut c then s else s.startDrain c) s

/-- The cores a device has are idle. -/
def State.idleCores (s : State) (n : Nat) : State :=
  (s.ownCores n).foldl (fun s c => s.modCore c (fun k => { k with seq := .idle, drain := Option.none })) s

/-- The job leaves the device (R187, R188, R358): its engines, reservation and open reductions are gone, its cores are
idle; one that was taken behind it is the device's. -/
def State.jobGone (s : State) (n q : Nat) : State :=
  let s := s.idleCores n
  let s : State := { s with fab := { s.fab with
    engines := s.fab.engines.filter (fun (e : Nat × EngineSt) => !decide (e.2.vd = n))
    redRes := s.fab.redRes.filter (fun (r : RedRes) => !(decide (r.vd = n) && decide (r.queue = q)))
    redEntries := s.fab.redEntries.filter (fun (e : RedEntry) => !decide (e.vd = n)) } }
  s.modVd n (fun v => { v with running := v.incoming, incoming := Option.none, preemptReq := false })

/-- The record of a job that ends (R360). -/
def Job.completion (j : Job) (e : JobEndSt) : Completion :=
  ⟨j.desc.tag, e.status, j.sqIndex, j.fellBack, j.late, j.preempts, j.lastCkpt, e.lcore, e.cause, j.runTicks, j.cur.irq⟩

/-- JOB_END (R358, R360, R361): once every core has ended and every stream completed, or once the cores of a job that was
ended have stopped, and its stores have performed, its record is written; the set of the device chooses again. The job of a
contained device, whose homes take no store in (R233), waits for its cores alone (R506). -/
def execJobEnd (vd : Fin 256) (s : State) : Out :=
  ok (
    let n := vd.val
    match (s.vd n).running with
    | none => s
    | some j =>
      let normal := j.ended.isNone && decide (j.phase = .running) && s.streamsDone n
        && (s.coresOf n).all (fun c => decide ((s.core c).seq = .ended))
      if ¬ normal ∧ j.ended.isNone ∨ s.cancelling n ∨ ¬ s.coresStopped n then s
      else if (s.vd n).st ≠ .contained ∧ ¬ s.coresOver n (if j.cur.windowOut then 3 else 2) then s.startDrains n
      else
        let e := j.ended.getD ⟨0, 0, 0x7F⟩
        ((((s.attribute n).jobGone n j.queue).complete n j.queue j.regions (j.completion e)).shareChoice n))

/-- The run limit acts (R359): every core stops, its streams are cancelled, the job is to end LIMIT. -/
def State.limitJob (s : State) (n : Nat) : State := ((s.stopCores n).cancelStreams n).endJob n 3 0 0x7F

/-- Whether a job has passed its run limit. -/
def Job.overLimit (j : Job) : Bool := decide (j.desc.limit ≠ 0) && decide (j.desc.limit * 1000 < j.runTicks)

/-- RUN_LIMIT (R359). -/
def execRunLimit (vd : Fin 256) (s : State) : Out :=
  ok (match s.liveJob vd.val with
  | some j => if j.overLimit then s.limitJob vd.val else s
  | none => s)

/-! Checkpoints (R362 to R365) -/

/-- Cores that wait at a CKPT go on. -/
def State.releaseCkpt (s : State) (n : Nat) : State :=
  (s.coresOf n).foldl (fun s c => s.modCore c (fun k => match k.seq with
    | .ckpt _ => { k with seq := .running }
    | _ => k)) s

/-- The index at which a core waits. -/
def Core.ckptAt (k : Core) : Option Nat :=
  match k.seq with
  | .ckpt i => some i
  | _ => none

/-- Whether the deadline monitor projects a job beyond its deadline (R364), in signed 64-bit arithmetic. -/
def projectsLate (elapsed run cost0 rem deadline margin : Int) : Bool :=
  let done := cost0 - rem
  let f0 := if 0 < done then (sext (wrapN 64 (run * 65536)) 64).tdiv done else 65536
  let f := max 4096 (min 1048576 f0)
  decide (deadline - margin < elapsed + rem * f / 65536)

/-- Start the fallback of a job at checkpoint `i` (R365): the primary's streams are cancelled from the next frame boundary, where
the fallback's schedule is loaded; its epoch is the third boundary at the earliest. -/
def State.startFallback (s : State) (n i : Nat) (j : Job) : State :=
  (s.cancelStreams n).modVd n (fun v => { v with running := some { j with
    fellBack := true, lastCkpt := i, phase := .taken, epoch := s.frame + 3, toLoad := true } })

/-- The schedule of a fallback is loaded (R165, R365), or refused. -/
def State.loadFallback (s : State) (n : Nat) : State :=
  match (s.vd n).running with
  | none => s
  | some j =>
    let s := s.modVd n (fun v => { v with running := some { j with toLoad := false } })
    match s.loadSchedule n j.queue j.regions j.cur.schedAddr with
    | some s => s
    | none => (s.stopCores n).endJob n 5 0 0x7F

/-- Whether a rebind or a preemption waits for a checkpoint of a device. -/
def State.ckptWanted (s : State) (n : Nat) : Bool :=
  (s.vd n).preemptReq || (match s.binder.running with
    | some b => decide (b.vd = n) && b.isMove && decide (b.st = .quiescing)
    | none => false)

/-- CHECKPOINT (R362 to R364): every logical core waits at a CKPT. The run limit is tested, the deadline monitor runs, and
the cores go on unless a rebind or a preemption waits for the frame boundary. -/
def execCheckpoint (vd : Fin 256) (s : State) : Out :=
  ok (
    let n := vd.val
    let cores := s.coresOf n
    match s.liveJob n, cores with
    | some j, c0 :: _ =>
      if j.phase ≠ JobPhase.running ∨ cores.any (fun c => (s.core c).ckptAt.isNone) then s
      else
        let i := ((s.core c0).ckptAt).getD 0
        let j := { j with ckptIndex := i, lastCkpt := if j.fellBack then j.lastCkpt else i, stopped := s.frame }
        let s := s.modVd n (fun v => { v with running := some j })
        if j.overLimit then s.limitJob n
        else
          let word (w : Nat) : Int := (s.devLE n (j.desc.costAddr + 4 * w) 4 : Nat)
          let judged := j.desc.deadlineEn && !j.fellBack && decide (1 ≤ i) && decide (i ≤ j.desc.nckpt)
          let late := judged && projectsLate ((s.time.toNat : Int) - j.stamp) j.runTicks (word 0) (word i) j.desc.deadline j.desc.margin
          let s := if judged then (s.devSeen n j.desc.costAddr 4).devSeen n (j.desc.costAddr + 4 * i) 4 else s
          if late ∧ j.fallback.isSome then s.startFallback n i j
          else
            let s := if late then s.modVd n (fun v => { v with running := some { j with late := true } }) else s
            if s.ckptWanted n then
              s.modVd n (fun v => { v with running := v.running.map (fun (j : Job) => { j with phase := .ckpt }) })
            else s.releaseCkpt n
    | _, _ => s)

/-- A preemption starts (R370): the epoch stops, the job's engines stand still, the cores drain; its engine time is attributed and
its set chooses (R367, R373). DEDUCED: the attribution falls here and again at the end of the save, with nothing to
attribute in between (log entry 56). -/
def State.startSave (s : State) (n : Nat) : State :=
  let mine := s.fab.engines.filter (fun (e : Nat × EngineSt) => decide (e.2.vd = n))
  let s := s.attribute n
  let s := s.modVd n (fun v => { v with
    preemptReq := false
    running := v.running.map (fun (j : Job) => { j with
      phase := .saving, stopped := s.frame, saved := s.frame, saveBase := s.saveAt n j.queue
      engines := mine.map (fun e => { e.2 with elastic := [] }) }) })
  let s : State := { s with fab := { s.fab with
    engines := s.fab.engines.filter (fun (e : Nat × EngineSt) => !decide (e.2.vd = n)) } }
  (s.startDrains n).shareChoice n

/-- CHECKPOINT_CLEAN (R363): at the frame boundary that follows its arrival the checkpoint is judged: a clean one serves a MOVE first, then a
preemption; else the cores go on. -/
def execCheckpointClean (vd : Fin 256) (s : State) : Out :=
  ok (
    let n := vd.val
    match s.liveJob n with
    | none => s
    | some j =>
      if j.phase ≠ JobPhase.ckpt ∨ ¬ s.onBoundary ∨ s.frame ≤ j.stopped then s
      else
        let clean := s.cleanAt n j
        let move : Option BindOp := s.binder.running.filter (fun b =>
          decide (b.vd = n) && b.isMove && decide (b.st = .quiescing))
        match clean, move, (s.vd n).preemptReq with
        | true, some b, _ => s.quiesce b
        | true, none, true => s.startSave n
        | _, _, _ => (s.modVd n (fun v => { v with
            running := v.running.map (fun (j : Job) => { j with phase := .running }) })).releaseCkpt n)

/-! Preemption (R369, R370, R553, R554) -/

/-- Type tag codes of a context record (R554). -/
def tagCode : AccTag → Nat
  | .fp32 => 0
  | .int32 => 1
  | .fp64 => 2
def tagOf (n : Nat) : AccTag := if n = 1 then .int32 else if n = 2 then .fp64 else .fp32

/-- Byte `i` of a natural. -/
def byteOf (n i : Nat) : Byte := BitVec.ofNat 8 (bitsOf n (8 * i) 8)

/-- Byte `o` of the sequencer state of a core (R554). -/
def Core.seqByte (k : Core) (o : Nat) : Byte :=
  if o < 8 then byteOf k.pc o
  else if o < 0x108 then byteOf (k.sreg ((o - 8) / 8)).toNat ((o - 8) % 8)
  else if o < 0x118 then BitVec.ofNat 8 (tagCode (SMap.get (fun _ => AccTag.fp32) k.tags (o - 0x108)))
  else if o < 0x11C then byteOf (k.ckptAt.getD 0) (o - 0x118)
  else 0

/-- Byte `o` of the context record of a core (R369). -/
def Core.ctxByte (k : Core) (o : Nat) : Byte :=
  if o < 0x800000 then rd k.tile o
  else if o < 0x810000 then byteOf (SMap.get (fun _ => (0 : W32)) k.acc ((o - 0x800000) / 4)).toNat (o % 4)
  else k.seqByte (o - 0x810000)

/-- Write bytes given by a function from a device address upward, sector by sector. -/
def State.devFill (s : State) (n addr len : Nat) (f : Nat → Byte) : State :=
  ((List.range ((addr + len + 255) / 256 - addr / 256)).map (· + addr / 256)).foldl (fun s sec =>
    s.devWriteSec n sec (((List.range 256).filter (fun i => decide (addr ≤ 256 * sec + i) && decide (256 * sec + i < addr + len))).map
      (fun i => (i, f (256 * sec + i - addr))))) s

/-- Frames that the save of a device's contexts into an area, or their reading back, takes at least (R371): those of the ports, of the
slices, and of the channel with the most lines of the area. -/
def State.saveFrames (s : State) (n base : Nat) (save : Bool) : Nat :=
  let d := (s.vd n).desc
  let nc := (s.coresOf n).length
  let m := ((List.range 4).map (fun b => bitsOf d.sliceShape (8 * b) 8)).foldl max 0
  let up (a b : Nat) : Nat := (a + b - 1) / b
  let chans := (List.range (2065 * nc)).filterMap (fun i => (s.lineKey n (base / 4096 + i)).map (·.1))
  let most := ((List.range 80).map (fun c => chans.count c)).foldl max 0
  max (max (up (132160 * m) (d.ns * 64 * (if save then s.sendClass else s.recvClass))) (up (nc * 132160) (d.ns * 192 * s.schedS)))
    (up (4096 * most) 23296)

/-- The lines of a save area. -/
def State.saveLines (s : State) (n base : Nat) : List Nat :=
  (List.range (2065 * (s.coresOf n).length)).map (· + base / 4096)

/-- Whether a line is at its home and may not leave it now: an operation or a fill is under way in it. -/
def State.lineBusy (s : State) (n line : Nat) : Bool :=
  match s.homeSlice n line with
  | none => false
  | some i => match (s.slice i).find line with
    | some k => let l := (s.slice i).way k; !l.ops.isEmpty || l.anyFilling || l.held || !l.noCopies
    | none => false

/-- A line is written back, what the write-back buffer holds of it first, and removed, as ACTION 1 of R229 does. -/
def State.lineOut (s : State) (n line : Nat) : State :=
  match s.homeSlice n line with
  | none => s
  | some i =>
    let sl := s.slice i
    let old := sl.wbuf.filter (fun w => decide (w.line = line))
    let s := old.foldl (fun s w => s.lineToMem n { Line.none with line := w.line, secs := w.secs, data := w.data }) s
    let s := s.modSlice i (fun sl => { sl with wbuf := sl.wbuf.filter (fun (w : WbLine) => !decide (w.line = line)) })
    match sl.find line with
    | some k => (s.lineToMem n (sl.way k)).modSlice i (fun sl => sl.setWay k Line.none)
    | none => s

/-- A line is read whole with last-use marks and dropped (R219, R370). -/
def State.lineUsed (s : State) (n line : Nat) : State :=
  match s.homeSlice n line with
  | none => s
  | some i =>
    let s := s.devSeen n (4096 * line) 4096
    match (s.slice i).find line with
    | some k => (s.modSlice i (fun sl => sl.modWay k (fun l => { l with dead := 2 ^ 64 - 1 }))).startDrop i k
    | none => s

/-- PREEMPTION_SAVE_END (R370, R371): the drains have ended and every context is in the save area, written through and removed
from the slices; the job's engine time is attributed, PREEMPTS increments, the job stays at the head of its queue. -/
def execPreemptionSaveEnd (vd : Fin 256) (s : State) : Out :=
  ok (
    let n := vd.val
    match s.liveJob n with
    | none => s
    | some j =>
      if j.phase ≠ JobPhase.saving then s
      else if ¬ s.coresOver n 2 then s.startDrains n
      else if s.frame < j.saved + s.saveFrames n j.saveBase true ∨ (s.saveLines n j.saveBase).any (s.lineBusy n) then s
      else
        let base := j.saveBase
        let cores := s.coresOf n
        let s := ((List.range cores.length).zip cores).foldl (fun s e =>
          s.devFill n (base + e.1 * ctxSize) ctxSize (s.core e.2).ctxByte) s
        let s := (s.saveLines n base).foldl (fun s l => s.lineOut n l) s
        let j' : Job := { j with phase := .preempted, preempts := satAdd 255 j.preempts 1 }
        let s := ((s.attribute n).acctAdd n 5 1).idleCores n
        s.modVd n (fun v => { v with
          running := v.incoming, incoming := Option.none, preemptReq := false, preempted := v.preempted ++ [j'] }))

/-- A core with the context of a record read back (R369, R554); it waits at its CKPT. -/
def Core.restore (k : Core) (f : Nat → Byte) : Core :=
  let le (o len : Nat) : Nat := leNat ((List.range len).map (fun i => f (o + i)))
  let st := 0x810000
  { ({ k with kernels := [], gslots := [] } : Core).boundary with
    tile := ((List.range 0x800000).map (fun i => (i, f i))).filter (fun x => decide (x.2 ≠ 0))
    acc := ((List.range 16384).map (fun i => (i, BitVec.ofNat 32 (le (0x800000 + 4 * i) 4)))).filter (fun x => decide (x.2 ≠ 0))
    pc := le st 8
    sregs := ((List.range 31).map (fun i => (i + 1, BitVec.ofNat 64 (le (st + 16 + 8 * i) 8)))).filter (fun x => decide (x.2 ≠ 0))
    tags := ((List.range 16).map (fun i => (i, tagOf (f (st + 0x108 + i)).toNat))).filter (fun x => decide (x.2 ≠ AccTag.fp32))
    seq := .ckpt (le (st + 0x118) 4 % 4096), ibuf := [], qm := [], qa := [], qg := [], qs := [], board := [], lane := .none
    flagWait := Option.none, drain := Option.none }

/-- The contexts of a job are read back, and each line of its save area is dropped (R370). -/
def State.readContexts (s : State) (n : Nat) (j : Job) : State :=
  let cores := s.coresOf n
  let s := ((List.range cores.length).zip cores).foldl (fun s e =>
    s.modCore e.2 (fun k => k.restore (fun o =>
      let a := j.saveBase + e.1 * ctxSize + o
      nth 0 (s.homeSector n (a / 256)) (a % 256)))) s
  (s.saveLines n j.saveBase).foldl (fun s l => s.lineUsed n l) s

/-- A job whose context is back goes on after its CKPT, with its engines where its units are now and its epoch moved
(R363, R370). -/
def State.goOn (s : State) (n : Nat) (j : Job) : State :=
  let cores := s.coresOf n
  let place (x : EngineSt) : Nat :=
    if x.list < 96 then nth 0 cores x.list else 96 + 4 * n + s.lbd n (x.list - 96)
  let s : State := { s with fab := { s.fab with
    engines := j.engines.foldl (fun m x => SMap.set (fun _ => EngineSt.none) m (place x) x) s.fab.engines } }
  (s.modVd n (fun v => { v with running := some { j with
    phase := .running, epoch := j.epoch + (s.frame + 1 - j.stopped), engines := [] } })).releaseCkpt n

/-- JOB_RESUME (R351, R370, R553): the preempted job at the head of the queue the scheduler takes from: its save area is
checked again, and one that fails ends INVALID; else its contexts are read back. Once the frames that this takes have passed
(R371), at a frame boundary, it goes on. -/
def execJobResume (vd : Fin 256) (s : State) : Out :=
  ok (
    let n := vd.val
    match s.liveJob n with
    | some j =>
      if j.phase = JobPhase.restoring ∧ s.onBoundary ∧ j.saved + s.saveFrames n j.saveBase false ≤ s.frame then s.goOn n j else s
    | none =>
      if ¬ s.mayTake n ∨ (s.vd n).running.isSome then s
      else
        match s.nextQueue n with
        | none => s
        | some q =>
          let t := s.turn n
          match t.1 && t.2.switchedIn n, (s.vd n).preemptedIn q with
          | true, some j =>
            let s := t.2.modVd n (fun v => { v with preempted := v.preempted.filter (fun (x : Job) => !decide (x.queue = q)) })
            if s.saveAt n q ≠ j.saveBase ∨ ¬ s.saveOk n j.regions j.saveBase ((s.coresOf n).length * ctxSize) then
              let s : State := { s with fab := { s.fab with
                redRes := s.fab.redRes.filter (fun (r : RedRes) => !(decide (r.vd = n) && decide (r.queue = q))) } }
              (s.complete n q j.regions (j.completion ⟨4, 0, 0x7F⟩)).shareChoice n
            else
              ((s.readContexts n j).modVd n (fun v => { v with
                running := some { j with phase := .restoring, saved := s.frame } })).noteRun n
          | _, _ => t.2)

/-! FENCE descriptors (R395) -/

/-- Whether every write to a WINDOW region by jobs of a device is complete (R282): none waits in a merge entry or for its completion
notice, and no block or message holds bytes of such a region that the home has not had. -/
def State.windowsDone (s : State) (n : Nat) : Bool :=
  let rs := s.regionTable n
  let win (sec : Nat) : Bool := match s.region n rs (256 * sec) with
    | some (_, x) => decide (x.rtype = 2)
    | none => false
  s.dies.all (fun d => d.2.owed.all (fun m => !(decide (m.vd = n) && m.window))
    && d.2.merge.all (fun m => !(decide (m.vd = n) && m.window))
    && d.2.blocks.all (fun b => !(decide (b.vd = n) && b.dirty && win b.sector)))
  && s.msgs.all (fun m => !(decide (m.vd = n) && (decide (m.kind = .dataM) || decide (m.kind = .putM)) && win m.sector))

/-- FENCE_RECORD (R361, R395). -/
def execFenceRecord (vd : Fin 256) (s : State) : Out :=
  ok (
    let n := vd.val
    match (s.vd n).fence with
    | none => s
    | some f =>
      if ¬ s.windowsDone n ∨ (s.hostAccepted n).any (fun id => f.waits.contains id) then s
      else
        ((s.modVd n (fun v => { v with fence := Option.none })).complete n f.queue (s.regionTable n)
          (Completion.none f.tag 0 f.sqIndex f.irq)).shareChoice n)

/-! Accounting (R372 to R374) -/

/-- ENGINE_TIME_ATTRIBUTION (R373, R368): at a 1,000-tick boundary the time of every running job is attributed; a device of
a set whose deficit is used up while another waits is asked to give way. -/
def execEngineTimeAttribution (s : State) : Out :=
  ok (if s.time.toNat % 1000 ≠ 0 then s
  else
    (s.vds.filter (fun e => e.2.running.isSome)).foldl (fun s e =>
      let n := e.1
      let s := s.attribute n
      let k := (s.vd n).desc.sharedSet
      if k ≠ 0 ∧ (s.vd n).deficit ≤ 0 ∧ (s.setReady k).any (fun m => decide (m ≠ n)) then s.requestPreempt n else s) s)

/-- Store the nine counters of a device from a register upward. -/
def State.capture (s : State) (n k : Nat) : State :=
  ((List.range 9).zip (s.vd n).acct).foldl (fun s e => s.setReg64 (k + 8 * e.1) e.2) s

/-- A capture through ACCT_CTRL (R374). -/
def State.acctSnap (s : State) (n : Nat) : State :=
  if (s.vd n).st = .absent then s else s.capture n (Reg.acctCount n 0)

/-- ACCT_SNAP (R374). -/
def execAcctSnap (vd : Fin 256) (s : State) : Out := ok (if s.vfHere vd.val then s.acctSnap vd.val else s)

/-- A capture through SCHED_ACCT_SNAP (R374, R378): with CLEAR the counters are zeroed at the capture. -/
def State.schedSnap (s : State) (n : Nat) (clear : Bool) : State :=
  let s := (s.setRegFld Reg.schedAcctSnap 0 8 n).capture n (Reg.schedAcct 0)
  if clear then s.modVd n (fun v => { v with acct := [0, 0, 0, 0, 0, 0, 0, 0, 0] }) else s

/-- SCHED_ACCT_SNAP (R374). -/
def execSchedAcctSnap (vd : Fin 256) (clear : Bool) (s : State) : Out := ok (if s.pfServed Reg.schedAcctSnap then s.schedSnap vd.val clear else s)

/-- The manager asks for a preemption (R368, R378); ignored where none can be. -/
def State.schedPreempt (s : State) (n : Nat) : State := (s.setRegFld Reg.schedPreempt 0 8 n).requestPreempt n

/-- SCHED_PREEMPT (R368). -/
def execSchedPreempt (vd : Fin 256) (s : State) : Out := ok (if s.pfServed Reg.schedPreempt then s.schedPreempt vd.val else s)

/-! Time -/

/-- Whether a tick counts for a running job (R359, R372): its cores are held by it. -/
def Job.ticks (j : Job) : Bool :=
  decide (j.phase = .running) || decide (j.phase = .ckpt) || (decide (j.phase = .taken) && j.started)

/-- One tick of a device: its job's run and its engine time. -/
def State.tickVd (s : State) (n : Nat) (v : VDev) : VDev :=
  match v.running with
  | none => v
  | some j =>
    if ¬ j.ticks then v
    else
      let cores := s.coresOf n
      let matrix := cores.filter (fun c => (s.core c).qm.any (fun e => e.started && !e.over))
      let group := cores.filter (fun c => (s.core c).gslots.any (fun g => g.2.isSome))
      { v with
        running := some { j with runTicks := j.runTicks + 1 }
        unattr := [nth 0 v.unattr 0 + cores.length, nth 0 v.unattr 1 + matrix.length, nth 0 v.unattr 2 + group.length] }

/-- A report over MCTP is returned 8 s after its request at the latest (R499); the model takes that bound. -/
def FwSt.tick (f : FwSt) (now : Nat) : FwSt :=
  match f.report with
  | some (t, bs) => if t + 800000000 ≤ now then { f with report := none, sent := .report bs :: f.sent } else f
  | none => f

/-- ACLK periods of a compute die in one TCLK tick: eight, four while it is stretched (R438, R448). -/
def DieBudget.tick (b : DieBudget) : DieBudget := { b with aclk := b.aclk + if b.stretched then 4 else 8 }

/-- The ACLK of the twelve compute dies in one tick. -/
def State.tickAclk (s : State) : State := (List.range 12).foldl (fun s d => s.modPdie d DieBudget.tick) s

/-- A frame begins (R31, R197, R340, R365): units in transit are FREE, streams that are to be cancelled are, and a fallback's schedule
is loaded. -/
def State.newFrame (s : State) : State :=
  let s := s.endTransit
  let s := s.fab.cancels.foldl (fun s c => s.cancelNow c.1 c.2.1) s
  let s : State := { s with fab := { s.fab with cancels := [] } }
  (s.vds.filter (fun e => e.2.running.any (·.toLoad))).foldl (fun s e => s.loadFallback e.1) s

/-- What the fabric does in a tick on its own (R68, R157, R173): chunks arrive at their destinations, send elastic buffers fill,
demand chunks move; at the last tick of a frame the next one begins. While the clocks of the dies are gated nothing moves. -/
def State.tickFabric (s : State) (before : State) : State :=
  if s.clock.gated then s else
  let s := ((s.tickArrivals before.fclk s.fclk).tickElastic).tickDemand
  if s.frame = before.frame then s else s.newFrame

/-- One TCLK tick (R451): the time base counts while the steward's domain has power; running jobs run, the fabric moves (log
entry 2). -/
def State.tick (s : State) : State :=
  if s.clock.powered then
    ({ s.tickAclk with
      time := s.time + 1
      vds := s.vds.map (fun (e : Nat × VDev) => (e.1, s.tickVd e.1 e.2))
      fw := s.fw.tick (s.time.toNat + 1) } : State).tickFabric s
  else s

end Sys2Proof.Machine
end

