-- ==== Sys2Proof/Machine/Host.lean ====
section
/-! DEFINITION. The host port (chapter The host port): CXL.mem requests and their responses, HDM decoder 0, the link,
FLR and VF Enable. -/

namespace Sys2Proof.Machine

/-- The windows of a device (R330): whether its logical extent `l` is a window extent. -/
def Desc.window (d : Desc) (l : Nat) : Bool := decide (d.winFirst ≤ l) && decide (l < d.winFirst + d.winCount)

/-- Whether pool extent `k` is a window extent of its owner (R400 HOSTPORT_WIN). -/
def State.isWindow (s : State) (k : Nat) : Bool :=
  let x := s.extent k
  match decide (x.st = .owned), x.logical with
  | true, some l => (s.vd x.owner).desc.window l
  | _, _ => false

/-- The device and the device address a DPA hits (R388, R459, R460), or none for a window miss. -/
def State.windowHit (s : State) (dpa : Nat) : Option (Nat × Nat) :=
  let k := bitsOf dpa 30 10
  let x := s.extent k
  if s.host.committed ∧ s.host.memEnable ∧ s.clock.mode = ModuleMode.full ∧ ¬ s.clock.offReady
      ∧ s.isWindow k ∧ ((s.vd x.owner).st = .active ∨ (s.vd x.owner).st = .rebinding) then
    x.logical.map (fun l => (x.owner, l * 2 ^ 30 + bitsOf dpa 0 30))
  else none

/-- Whether the CXL link is up (R400). -/
def State.linkUp (s : State) : Bool := s.regBit Reg.hostportLink 31

/-- The owner of the extent of a DPA, if it has one. -/
def State.dpaOwner (s : State) (dpa : Nat) : Option Nat :=
  let x := s.extent (bitsOf dpa 30 10)
  if x.st = ExtState.owned ∨ x.st = ExtState.suspect then some x.owner else none

/-- Whether a host write to a device address is acknowledged early (R280): the governing region's EARLY_ACK. -/
def State.earlyAck (s : State) (n addr : Nat) : Bool :=
  match s.region n (s.regionTable n) addr with
  | some (_, r) => r.earlyAck
  | none => false

/-- The next host request is taken (R392, R399): its number, its arrival; `resp` is there for one that needs no home. -/
def State.hostTake (s : State) (read : Bool) (dpa : Nat) (resp : Option (List Byte)) : State :=
  { s with host := { s.host with
      reqs := s.host.reqs ++ [⟨s.host.nextId, read, dpa, s.dpaOwner dpa, s.time.toNat, resp⟩]
      nextId := s.host.nextId + 1 } }

/-- A CXL.mem read of 64 bytes (R388, R390, R391). -/
def State.hostRead64 (s : State) (dpa : Nat) : State :=
  if ¬ s.linkUp then s
  else
    match s.windowHit dpa with
    | none => (s.windowMiss dpa).hostTake true dpa (some (List.replicate 64 0))
    | some (n, a) => (s.hostTake true dpa none).request
        ⟨.coherent, n, a / 64 * 64, 64, [], false, .host s.host.nextId, false, false, false⟩

/-- A CXL.mem write of the bytes of a 64-byte line that a mask enables (R388, R390, R391). -/
def State.hostWrite64 (s : State) (dpa : Nat) (bytes : List Byte) (be : W64) : State :=
  if ¬ s.linkUp then s
  else
    match s.windowHit dpa with
    | none => (s.windowMiss dpa).hostTake false dpa (some [])
    | some (n, a) =>
      let base := a / 64 * 64
      let bs := ((List.range 64).filter (fun i => fld be i 1 == 1)).map (fun i => (base + i, nth 0 bytes i))
      if bs.isEmpty then s.hostTake false dpa (some [])
      else (s.hostTake false dpa none).request
        ⟨.write, n, base, 64, bs, false, .host s.host.nextId, false, s.earlyAck n base, false⟩

/-- MEMRD (R391). -/
def execMemrd (dpa : Nat) (s : State) : Out := ok (s.hostRead64 dpa)

/-- MEMWR (R391). -/
def execMemwr (dpa : Nat) (bytes : List Byte) (s : State) : Out := ok (s.hostWrite64 dpa bytes (BitVec.allOnes 64))

/-- MEMWRPTL (R391). -/
def execMemwrptl (dpa : Nat) (bytes : List Byte) (be : W64) (s : State) : Out := ok (s.hostWrite64 dpa bytes be)

/-- MEMSPECRD (R391): dropped. -/
def execMemspecrd (_ : Nat) (s : State) : Out := ok s

/-- MEMINV (R391): no effect, answered with Cmp. -/
def execMeminv (dpa : Nat) (s : State) : Out :=
  ok (if s.linkUp then { s with host := { s.host with sent := (dpa, []) :: s.host.sent } } else s)

/-- UNSUPPORTED_MESSAGE (R391): dropped; a CXL RAS uncorrectable protocol error is logged. -/
def execUnsupportedMessage (_ : Nat) (s : State) : Out :=
  ok (if s.linkUp then { s with host := { s.host with rasLogged := true } } else s)

/-- The longest response measured (R400). -/
def State.noteMax (s : State) (k ticks : Nat) : State :=
  s.setRegFld k 0 24 (max (s.regFld k 0 24) (min ticks (2 ^ 24 - 1)))

/-- HOST_RESPONSE (R397, R399): a response that is ready is sent, `ticks` after the request's arrival as the port measures it; a late
one is counted, recorded with the owner and the time, raises PF vector 3 and, where asked for, sends the owner an event. -/
def execHostResponse (i ticks : Nat) (s : State) : Out :=
  ok (match s.host.reqs[i]? with
    | none => s
    | some r =>
      match s.linkUp && decide (s.time.toNat = r.arrived + ticks), r.resp with
      | true, some bs =>
        let s : State := { s with host := { s.host with
          reqs := delNth s.host.reqs i, sent := (r.dpa, bs) :: s.host.sent } }
        let s := s.noteMax (if r.read then Reg.hostportRdMax else Reg.hostportWrMax) ticks
        if ticks ≤ (if r.read then 150 else 100) then s
        else
          let s := s.bump (if r.read then Reg.hostportRdLate else Reg.hostportWrLate)
          let s := s.record { ErrRec.mk0 0 7 (if r.read then 1 else 2) 0 with
            vd := r.vd, ext := r.vd.map (fun _ => bitsOf r.dpa 30 10), addr := some r.dpa, detail := min ticks (2 ^ 24 - 1) }
          let s := s.vecPf 3
          match s.regBit Reg.hostportCtrl 0, r.vd with
          | true, some n => s.event n 0x50 (b2n (!r.read) * 2 ^ 24 + min ticks (2 ^ 24 - 1))
          | _, _ => s
      | _, _ => s)

/-- HDM_DECODER_COMMIT (R389): a commit of more than one way or above 640 GiB fails; a committed decoder is locked. The
command carries DVSEC Mem_Enable as the host has it from then on (R388). -/
def execHdmDecoderCommit (ways sizeGiB : Nat) (memEnable : Bool) (s : State) : Out :=
  ok (
    let s : State := { s with host := { s.host with memEnable := memEnable } }
    if s.host.committed then s
    else if ways ≠ 1 ∨ 640 < sizeGiB then { s with host := { s.host with hdmErr := true } }
    else { s with host := { s.host with committed := true, hdmErr := false, sizeGiB := sizeGiB } })

/-- MAX_CLEAR (R400). -/
def State.clearMax (s : State) : State := (s.setReg Reg.hostportRdMax 0).setReg Reg.hostportWrMax 0

/-- MAX_CLEAR (R400). -/
def execMaxClear (s : State) : Out := ok (if s.pfServed Reg.hostportCtrl then s.clearMax else s)

/-- MISS_ADDR_CLEAR (R400): VALID is cleared, which re-arms the capture. -/
def execMissAddrClear (s : State) : Out := ok (if s.pfServed Reg.hostportMissAddr then s.setRegBit (Reg.hostportMissAddr + 4) 31 false else s)

/-- The link as it has trained (R381, R400); below x16 at 64 GT/s DEGRADED sets, with a record. -/
def State.linkTrained (s : State) (width speed : Nat) (flit256 lopt : Bool) : State :=
  let s := s.setReg Reg.hostportLink (BitVec.ofNat 32 (2 ^ 31 + b2n flit256 * 2 ^ 30 + b2n (flit256 && lopt) * 2 ^ 29
    + width % 256 * 2 ^ 16 + speed % 256))
  if width < 16 ∨ speed < 64 then
    (s.setRegBit Reg.identStatus 0 true).record (ErrRec.mk0 1 7 3 0)
  else s

/-- HOST_LINK_RETRAIN (R381). -/
def execHostLinkRetrain (width speed : Nat) (flit256 lopt : Bool) (s : State) : Out :=
  ok (if s.clock.step < 4 ∨ ¬ s.clock.powered then s else s.linkTrained width speed flit256 lopt)

/-- LINK_DOWN (R462): no reset; requests in flight get no response. -/
def execLinkDown (s : State) : Out :=
  ok ({ s with host := { s.host with reqs := [] } }.setRegBit Reg.hostportLink 31 false)

/-- D3HOT (R386): no state of the device changes. -/
def execD3hot (s : State) : Out := ok s

/-- FLR of every VF, where VF Enable is set (R386). -/
def State.vfsOff (s : State) : State :=
  if s.host.vfEnable then
    let s := ((List.range 256).filter (fun n => decide ((s.vd n).st ≠ .absent))).foldl (fun s n => s.flrVf n) s
    { s with host := { s.host with vfEnable := false } }
  else s

/-- PF_FLR (R386): the PF's configuration state is reset, VF Enable is cleared; composition and memory stay. -/
def execPfFlr (s : State) : Out := ok (
  let s := s.vfsOff
  { s with host := { s.host with memEnable := false } })

/-- VF_ENABLE_CLEAR (R386). -/
def execVfEnableClear (s : State) : Out := ok s.vfsOff

/-- VF_ENABLE_SET (R386, R462): accepted only in full service. -/
def execVfEnableSet (s : State) : Out :=
  ok (if s.clock.mode = ModuleMode.full then { s with host := { s.host with vfEnable := true } } else s)

/-- VF_FLR (R454, R382): FLR of VFn, where its bus is assigned. -/
def execVfFlr (vd : Fin 256) (s : State) : Out := ok (if s.host.vfEnable ∧ s.vfReached vd.val then s.flrVf vd.val else s)

end Sys2Proof.Machine
end

