-- ==== Sys2Proof/Machine/Transport.lean ====
section
/-! DEFINITION. Queue pairs of the Tuilin transport and their sending side (chapter The network port and the Tuilin
transport): ARM and RESET, work requests, segments, acknowledgements, retransmission. -/

namespace Sys2Proof.Machine

/-! Pairs -/

/-- Ring size of an armed pair (R410). -/
def Qp.size (p : Qp) : Nat := 2 ^ p.ctx.log2n

/-- Bytes of payload of a segment of a pair (R410 SEG). -/
def QpCtx.segBytes (c : QpCtx) : Nat := 1024 * 2 ^ c.seg

/-- The logical pair of a physical number in a device (R410). -/
def State.pairOf (s : State) (n phys : Nat) : Option Nat :=
  let q := (s.vd n).qpMap.idxOf phys
  if q < (s.vd n).qpMap.length then some q else none

/-- The physical number of a logical pair. -/
def State.physQp (s : State) (n q : Nat) : Nat := nth 0xFFFF (s.vd n).qpMap q

/-- Whether the host reaches pair `q` of a device (R425). -/
def State.pairHere (s : State) (n q : Nat) : Bool := s.vfHere n && decide (q < (s.vd n).desc.qps)

/-- `a - b` as PSNs. -/
def psnSub (a b : Nat) : Nat := (a + 2 ^ 24 - b % 2 ^ 24) % 2 ^ 24

/-- The IP address of a device (R424). -/
def State.netIp (s : State) (n : Nat) : Nat :=
  s.reg64 (Reg.netportIp n) + 2 ^ 64 * s.reg64 (Reg.netportIp n + 8)

/-- Whether an address is an IPv4 one in its mapped form (R403). -/
def isV4 (ip : Nat) : Bool := decide (ip / 2 ^ 32 = 0xFFFF)

/-- Whether bytes lie wholly in NORMAL or WINDOW regions of a device (R413, R416). -/
def State.inMemory (s : State) (n addr len : Nat) : Bool :=
  decide (len = 0) ||
  (decide (addr + len ≤ 2 ^ 48) &&
    (let rs := s.regionTable n
     (List.range ((addr + len - 1) / 4096 - addr / 4096 + 1)).all (fun i =>
      match s.region n rs ((addr / 4096 + i) * 4096) with
      | some (_, r) => decide (r.rtype ≠ 1)
      | none => false)))

/-- Whether every extent of a range belongs to a device (R411). -/
def State.ownsRange (s : State) (n lo hi : Nat) : Bool :=
  (List.range (hi / 2 ^ 30 + 1 - lo / 2 ^ 30)).all (fun i => s.ownsAddr n ((lo / 2 ^ 30 + i) * 2 ^ 30))

/-- The transport adds to a flag word of a device; a word beyond its allotment does not exist. -/
def State.addFlag (s : State) (n f v : Nat) : State :=
  if f < s.flagCount n then s.sendFlag ⟨n, s.flagWord n f, .add (BitVec.ofNat 32 v), 2048 + n⟩ .iod else s

/-! Rings (R414, R415) -/

/-- The indices of the rings of a pair. -/
def State.qpSqTail (s : State) (n q : Nat) : Nat := s.regFld (Reg.transportQpSqTail n q) 0 16
def State.qpSqHead (s : State) (n q : Nat) : Nat := s.regFld (Reg.transportQpSqHead n q) 0 16
def State.qpCqTail (s : State) (n q : Nat) : Nat := s.regFld (Reg.transportQpCqTail n q) 0 16
def State.qpCqHead (s : State) (n q : Nat) : Nat := s.regFld (Reg.transportQpCqHead n q) 0 16

/-- The 32 bytes of a completion record (R414). -/
def netRecord (tag : Nat) (phase : Bool) (status index bytes addr now : Nat) : List Byte :=
  leBytes 8 tag ++ leBytes 4 (b2n phase * 2 ^ 31 + status * 2 ^ 16 + index) ++ leBytes 4 bytes
  ++ leBytes 8 addr ++ leBytes 8 now

/-- Free entries of the send completion ring. -/
def State.cqRoom (s : State) (n q : Nat) : Nat :=
  let size := (s.qp n q).size
  size - 1 - (s.qpCqTail n q + size - s.qpCqHead n q) % size

/-- Write a send record (R414); with IRQ it raises VF vector 6. A full ring takes none. -/
def State.sendRecord (s : State) (n q : Nat) (w : WorkReq) (status bytes : Nat) : State :=
  if s.cqRoom n q = 0 then s
  else
    let p := s.qp n q
    let tail := s.qpCqTail n q
    let s := s.devWrite n (p.ctx.cqBase + 32 * tail) (netRecord w.tag p.phaseS status w.idx bytes w.laddr s.time.toNat)
    let s := s.setRegFld (Reg.transportQpCqTail n q) 0 16 ((tail + 1) % p.size)
    let s := if tail + 1 = p.size then s.modQp n q (fun p => { p with phaseS := !p.phaseS }) else s
    if w.irq then s.vecVf n 6 else s

/-! Work requests (R412, R413) -/

/-- A work request as its 64 bytes give it. -/
def parseWork (idx : Nat) (bs : List Byte) : WorkReq :=
  let v := leNat bs
  let f (off lo len : Nat) : Nat := bitsOf v (8 * off + lo) len
  let b (off i : Nat) : Bool := bitOf v (8 * off + i)
  ⟨idx, f 0 28 4, b 0 27, b 0 26, b 0 25, b 0 24, b 0 23, f 0 20 3, f 0 16 4, f 4 0 32, f 8 0 64, f 0x10 0 48,
   f 0x18 0 48, f 0x20 16 16, f 0x20 0 16, f 0x24 16 16, f 0x24 0 16, f 0x28 0 32, f 0x2C 0 16, false, 0, 0⟩

/-- Whether a reduce-write has a pair of operation and type (R221, R408). -/
def reduceAllowed (rtype rop : Nat) : Bool :=
  decide (rtype ≤ 4) && (decide (rop ≤ 2) || (decide (rop ≤ 5) && decide (rtype ≤ 1)))

/-- Whether a work request fails with LOCAL_ACCESS at fetch (R413). -/
def State.workBad (s : State) (n : Nat) (w : WorkReq) : Bool :=
  match w.kind with
  | 0 => decide (w.len = 0) || decide (2 ^ 30 < w.len) || !s.inMemory n w.laddr w.len
  | 1 => decide (w.len = 0) || decide (2 ^ 24 < w.len) || !s.inMemory n w.laddr w.len
      || decide (w.laddr % 4096 ≠ w.raddr % 4096)
  | 2 => decide (w.len = 0) || decide (2 ^ 30 < w.len) || !s.inMemory n w.laddr w.len
      || !reduceAllowed w.rtype w.rop
      || decide (w.laddr % 64 ≠ 0) || decide (w.raddr % 64 ≠ 0) || decide (w.len % 64 ≠ 0)
  | 3 => decide (w.len ≠ 0)
  | _ => true

/-- Whether the gate of a request is open (R412); a flag word beyond the allotment never opens one. -/
def State.workGate (s : State) (n : Nat) (w : WorkReq) : Bool :=
  !w.gateEn || (decide (w.gateFlag < s.flagCount n) && reached (s.flag (s.flagWord n w.gateFlag)) w.gateValue)

/-- Whether a request has been cut and sent whole, so that the next of its pair is taken. -/
def WorkReq.allCut (w : WorkReq) : Bool := w.opened && decide (w.len ≤ w.cut)

/-- Bytes a request has moved: all once it is complete, else those cut and acknowledged, or landed. -/
def Qp.moved (p : Qp) (w : WorkReq) : Nat :=
  if w.kind = 1 then
    match p.reads.find? (fun r => decide (r.wr = w.idx)) with
    | some r => w.len - sumN (r.missing.map (fun m => m.2 - m.1))
    | none => 0
  else w.cut - sumN ((p.segs.filter (fun x => decide (x.wr = w.idx) && !x.sacked)).map (fun x => x.pkt.length))

/-- A request completes with a status (R413, R414): with OK its LFLAG is added first; then its record is written. -/
def State.finishWork (s : State) (n q : Nat) (w : WorkReq) (status : Nat) : State :=
  let bytes := if status = 0 then w.len else (s.qp n q).moved w
  let s := s.modQp n q (fun p => { p with
    wrs := p.wrs.filter (fun (x : WorkReq) => !decide (x.idx = w.idx))
    reads := p.reads.filter (fun (r : OutRead) => !decide (r.wr = w.idx)) })
  let s := if status = 0 ∧ w.lflagEn then s.addFlag n w.lflag w.lflagAdd else s
  if w.signal then s.sendRecord n q w status bytes else s

/-- The ring indices of work requests posted and not taken. -/
def State.posted (s : State) (n q : Nat) : List Nat :=
  let size := (s.qp n q).size
  (List.range ((s.qpSqTail n q + size - s.qpSqHead n q) % size)).map (fun i => (s.qpSqHead n q + i) % size)

/-- Every pending request of a pair completes, with the status that a function gives its ring index (R411, R414). -/
def State.flushWork (s : State) (n q : Nat) (status : Nat → Nat) : State :=
  let p := s.qp n q
  let s := p.wrs.foldl (fun s w => s.finishWork n q w (status w.idx)) s
  let s := (s.posted n q).foldl (fun s i =>
    let a := p.ctx.sqBase + 64 * i
    (s.devSeen n a 64).finishWork n q (parseWork i (s.devRead n a 64)) (status i)) s
  (s.setRegFld (Reg.transportQpSqHead n q) 0 16 (s.qpSqTail n q)).modQp n q (fun p => { p with
    segs := [], wrs := [], reads := [], timer := none })

/-- A pair enters ERROR (R411, R414, R425): ERR takes the code, the request at `who` completes with it and the others
with FLUSHED (every one with it where the path failed), and VF vector 6 is raised. -/
def State.failPair (s : State) (n q code : Nat) (who : Option Nat) : State :=
  let s := s.setRegFld (Reg.transportQpStatus n q) 16 8 code
  let s := s.flushWork n q (fun i => if code = 4 ∨ who = some i then code else 5)
  (s.modQp n q (fun p => { p with st := .error, answers := [] })).vecVf n 6

/-- Gates of a device are looked at: the request in turn of each pair goes on where its gate is open, and a NOP then
completes (R413). -/
def State.openGates (s : State) (n : Nat) : State :=
  (List.range (s.vd n).desc.qps).foldl (fun s q =>
    match (s.qp n q).wrs.find? (fun w => !w.opened) with
    | some w =>
      if (s.qp n q).st = QpSt.armed ∧ s.workGate n w then
        let s := s.modQp n q (fun p => { p with wrs := p.wrs.map (fun (x : WorkReq) =>
          if x.idx = w.idx then { x with opened := true } else x) })
        if w.kind = 3 then s.finishWork n q w 0 else s
      else s
    | none => s) s

/-- WORK_REQUEST_FETCH (R412, R413, R460): the engine takes the next request of an armed pair once the one before it
has been sent, and checks it. -/
def execWorkRequestFetch (vd : Fin 256) (q : Fin 64) (s : State) : Out :=
  ok (
    let n := vd.val
    let q := q.val
    let p := s.qp n q
    let head := s.qpSqHead n q
    if p.st ≠ QpSt.armed ∨ s.clock.downBusy ∨ s.clock.offReady ∨ head = s.qpSqTail n q ∨ p.wrs.any (fun w => !w.allCut)
        ∨ s.cqRoom n q ≤ p.wrs.length ∨ (s.vd n).st = .contained then s
    else
      let w := { parseWork head (s.devRead n (p.ctx.sqBase + 64 * head) 64) with msg := p.nextMsg }
      let s := s.devSeen n (p.ctx.sqBase + 64 * head) 64
      let s := s.setRegFld (Reg.transportQpSqHead n q) 0 16 ((head + 1) % p.size)
      let s := s.modQp n q (fun p => { p with wrs := p.wrs ++ [w], nextMsg := (p.nextMsg + 1) % 2 ^ 16 })
      if s.workBad n w then s.failPair n q 6 (some head) else s.openGates n)

/-! ARM and RESET (R410, R411) -/

/-- The context in 128 bytes of memory. -/
def parseCtx (bs : List Byte) : QpCtx :=
  let v := leNat bs
  let f (off lo len : Nat) : Nat := bitsOf v (8 * off + lo) len
  let b (off i : Nat) : Bool := bitOf v (8 * off + i)
  ⟨f 0 29 3, f 0 27 2, b 0 26, b 0 25, b 0 24, f 0 18 6, f 0 0 12, f 4 24 8, f 4 0 16, f 8 16 16, f 8 0 16,
   f 0xC 16 16, f 0xC 0 16, f 0x10 0 128, f 0x20 0 24, f 0x24 0 24, f 0x28 0 48, f 0x30 0 48, f 0x38 0 48,
   b 0x40 16, f 0x40 0 5, f 0x44 0 16, f 0x48 0 48, f 0x50 0 48⟩

/-- The reserved bits of a context: offset, first bit, count. The low bits of an aligned base are among them. -/
def ctxReserved : List (Nat × Nat × Nat) :=
  [(0, 12, 6), (4, 16, 8), (0x20, 24, 8), (0x24, 24, 8), (0x28, 48, 16), (0x30, 48, 16), (0x38, 48, 16), (0x28, 0, 6),
   (0x30, 0, 5), (0x38, 0, 5), (0x40, 5, 11), (0x40, 17, 15), (0x44, 16, 16), (0x48, 48, 16), (0x50, 48, 16), (0x58, 0, 320)]

/-- Whether ARM is refused (R411). -/
def State.armRefused (s : State) (n : Nat) (bs : List Byte) : Bool :=
  let c := parseCtx bs
  ctxReserved.any (fun r => decide (bitsOf (leNat bs) (8 * r.1 + r.2.1) r.2.2 ≠ 0))
  || decide (c.seg = 3) || decide (c.log2n < 4) || decide (16 < c.log2n)
  || decide (c.udpSrc0 = 0)
  || decide (s.netIp n = 0) || (isV4 (s.netIp n) != isV4 c.peerIp)
  || !s.ownsRange n c.raBase c.raLimit
  || decide (s.flagCount n ≤ c.dbflag)

/-- ARM of a pair in RESET (R411); in any other state it does nothing. -/
def State.armPair (s : State) (n q : Nat) : State :=
  let s := s.setRegFld (Reg.transportQpCmd n q) 0 1 0
  let addr := s.reg64 (Reg.transportQpCtx n q) % 2 ^ 48 / 128 * 128
  if (s.qp n q).st ≠ QpSt.reset then s
  else
    let bs := s.devRead n addr 128
    let s := s.devSeen n addr 128
    if ¬ s.ownsAddr n addr ∨ s.armRefused n bs then s.setRegFld (Reg.transportQpStatus n q) 16 8 8
    else
      let c := parseCtx bs
      let s := s.modQp n q (fun _ => { Qp.rest with
        st := .armed, ctx := c, nextPsn := c.sendPsn0, epsn := c.recvPsn0, rate := 1024, rateAt := s.time.toNat })
      let s := s.setRegFld (Reg.transportQpStatus n q) 16 8 0
      [Reg.transportQpSqTail n q, Reg.transportQpSqHead n q, Reg.transportQpCqHead n q, Reg.transportQpCqTail n q,
        Reg.transportQpRcqHead n q, Reg.transportQpRcqTail n q].foldl (fun s k => s.setReg k 0) s

/-- ARM (R411). -/
def execArm (vd : Fin 256) (q : Fin 64) (s : State) : Out :=
  ok (if s.pairHere vd.val q.val then s.armPair vd.val q.val else s)

/-- RESET of a pair (R411): outstanding segments are discarded, pending requests flushed. -/
def State.resetPair (s : State) (n q : Nat) : State :=
  let s := s.setRegFld (Reg.transportQpCmd n q) 0 1 1
  let s := s.flushWork n q (fun _ => 5)
  s.modQp n q (fun _ => Qp.rest)

/-- RESET (R411). -/
def execReset (vd : Fin 256) (q : Fin 64) (s : State) : Out :=
  ok (if s.pairHere vd.val q.val then s.resetPair vd.val q.val else s)

/-! Doorbells (R415) -/

/-- Whether a new tail of a pair's ring is refused (R349, R350, R415, R460). -/
def State.postRefused (s : State) (n q tail : Nat) : Bool :=
  let p := s.qp n q
  let old := s.qpSqTail n q
  let k := (tail + p.size - old) % p.size
  decide (p.st ≠ QpSt.armed) || s.clock.downBusy || s.clock.offReady || decide (p.size ≤ tail)
  || decide (p.size - 1 < (s.posted n q).length + k)

/-- Set the tail of a pair's ring, or refuse (R349, R350, R415, R460). -/
def State.postWork (s : State) (n q tail : Nat) : State :=
  if s.postRefused n q tail then s.setRegBit (Reg.transportQpStatus n q) 27 true
  else s.setRegFld (Reg.transportQpSqTail n q) 0 16 tail

/-- A write of SQ_TAIL (R415), and whether it is counted under R10, which a refused one is not. -/
def State.ringPairW (s : State) (n q : Nat) (w : W32) : State × Bool :=
  let tail := fld w 0 16
  (s.postWork n q tail, !s.postRefused n q tail && setsRsvd (Reg.transportQpSqTail n q) w)

/-- A write of SQ_TAIL with its count. -/
def State.ringPair (s : State) (n q : Nat) (w : W32) : State := State.counted (s.ringPairW n q w) (Reg.transportQpSqTail n q)

/-- QP_DOORBELL (R415). -/
def execQpDoorbell (vd : Fin 256) (q : Fin 64) (tail : W32) (s : State) : Out :=
  ok (if s.pairHere vd.val q.val then s.ringPair vd.val q.val tail else s)

/-- The head register of a pair's completion ring, of its receive ring with `recv`. -/
def qpHeadReg (n q : Nat) (recv : Bool) : Nat := if recv then Reg.transportQpRcqHead n q else Reg.transportQpCqHead n q

/-- A write of CQ_HEAD or RCQ_HEAD (R350, R415), and whether it is counted. -/
def State.qpHeadW (s : State) (n q : Nat) (recv : Bool) (w : W32) : State × Bool :=
  let head := fld w 0 16
  let size := (s.qp n q).size
  let hk := qpHeadReg n q recv
  let tk := if recv then Reg.transportQpRcqTail n q else Reg.transportQpCqTail n q
  let old := s.regFld hk 0 16
  if head < size ∧ (head + size - old) % size ≤ (s.regFld tk 0 16 + size - old) % size then
    (s.setRegFld hk 0 16 head, setsRsvd hk w)
  else (s.setRegBit (Reg.transportQpStatus n q) 26 true, false)

/-- A write of CQ_HEAD or RCQ_HEAD with its count. -/
def State.writeQpHead (s : State) (n q : Nat) (recv : Bool) (w : W32) : State :=
  State.counted (s.qpHeadW n q recv w) (qpHeadReg n q recv)

/-- QP_CQ_HEAD_WRITE (R415). -/
def execQpCqHeadWrite (vd : Fin 256) (q : Fin 64) (recv : Bool) (head : W32) (s : State) : Out :=
  ok (if s.pairHere vd.val q.val then s.writeQpHead vd.val q.val recv head else s)

/-! Sending (R407, R409, R422) -/

/-- The frames of a packet sent by pair `q` of a device. -/
def State.packet (s : State) (vd : Fin 256) (q : Nat) : Packet :=
  let c := (s.qp vd.val q).ctx
  ⟨true, vd, s.netIp vd.val, if c.vlan = 0 then none else some ⟨c.prio % 8, Nat.mod_lt _ (by decide)⟩, BitVec.ofNat 6 c.dscp,
   false, 0, 0, 0, false, false, false, false, false, c.peerQpn,
   s.physQp vd.val q, 0, 0, 0, 0, 0, 0, c.peerRkey, 0, 0, 0, []⟩

/-! The packet on the wire (R408) -/

/-- The 256 bits of the header of a packet, bit 255 first on the wire (R408). -/
def packetHeader (p : Packet) (op : Nat) : Nat :=
  2 ^ 252 + (op % 16) * 2 ^ 248 + b2n p.first * 2 ^ 247 + b2n p.last * 2 ^ 246 + b2n p.notify * 2 ^ 245 + b2n p.ackReq * 2 ^ 244
  + b2n p.retx * 2 ^ 243 + (p.dstQp % 2 ^ 16) * 2 ^ 224 + (p.srcQp % 2 ^ 16) * 2 ^ 208 + (p.psn % 2 ^ 24) * 2 ^ 184
  + (p.msg % 2 ^ 16) * 2 ^ 168 + (p.length % 2 ^ 13) * 2 ^ 155 + (p.rtype % 8) * 2 ^ 152 + (p.rop % 16) * 2 ^ 148
  + (p.raddr % 2 ^ 48) * 2 ^ 80 + (p.rkey % 2 ^ 16) * 2 ^ 64 + (p.flag % 2 ^ 16) * 2 ^ 48 + (p.flagAdd % 2 ^ 16) * 2 ^ 32
  + (if op = 4 ∨ op = 5 then (p.ackPsn % 2 ^ 24) * 256 + p.nakCode % 256 else p.aux % 2 ^ 32)

/-- The payload with its padding: zeros up to 64 B for the data opcodes, the SACK bitmap of an ACK, nothing for NAK and CNP
(R408). PRESUMED: the bitmap goes out most significant byte first, as the header does (log entry 58). -/
def packetPadded (p : Packet) (op : Nat) : List Byte :=
  if op = 4 then (leBytes 8 p.sack.toNat).reverse
  else if op = 5 ∨ op = 6 then []
  else p.payload ++ List.replicate (64 - p.payload.length) 0

/-- Header, padded payload and TCRC of a packet, in the order they go out (R408): TCRC is the CRC-32C over the first two.
PRESUMED: it goes out most significant byte first, as the header does (log entry 58). -/
def packetWire (p : Packet) (op : Nat) : List Byte :=
  let body := (leBytes 32 (packetHeader p op)).reverse ++ packetPadded p op
  body ++ (leBytes 4 (crc32c body)).reverse

/-- Bytes of a data frame of a context, from destination address to FCS (R408, R409): Ethernet header, tag, IP header, UDP header,
Tuilin header, padded payload, TCRC, FCS. -/
def QpCtx.frameBytes (c : QpCtx) (payload : Nat) : Nat :=
  14 + (if c.vlan = 0 then 0 else 4) + (if isV4 c.peerIp then 20 else 40) + 8 + 32 + max 64 payload + 4 + 4

/-! Resources, pacing and the timer (R406, R422) -/

/-- Segments of a device sent and not covered by an ACK (R422): each holds a send credit. -/
def State.outstanding (s : State) (n : Nat) : Nat :=
  sumN ((s.net.qps.filter (fun (e : Nat × Qp) => decide (e.1 / 64 = n))).map (fun e =>
    (e.2.segs.filter (fun x => !x.sacked)).length))

/-- Whether a pair may send one more new segment (R422). -/
def State.maySend (s : State) (n q : Nat) : Bool :=
  decide (s.outstanding n < 64 * (s.vd n).desc.credits)
  && decide (((s.qp n q).segs.filter (fun x => !x.sacked)).length < 1024)

/-- Now, in 2,000ths of a tick: the time one byte takes at 1.6 Tb/s. -/
def State.lineNow (s : State) : Nat := 2000 * s.time.toNat

/-- The ticks of NETPORT_RTO (R422, R424): 8 to 64 microseconds. -/
def State.rtoTicks (s : State) : Nat := 100 * max 8 (min 64 (s.regFld Reg.netportRto 0 7))

/-- A pair has sent a data frame (R406, R422): the line is taken for as long as the frame, with preamble and gap, needs, and the pair
waits for the time it takes at its rate in 1,024ths of line rate; its timer starts where it does not run. -/
def State.sentFrame (s : State) (n q op bytes : Nat) : State :=
  let cost := (bytes + 20) * (if s.net.mode = 1 then 2 else 1)
  let s : State := { s with net := { s.net with lineFree := max s.lineNow s.net.lineFree + cost } }
  s.modQp n q (fun p => { p with
    paceAt := max s.lineNow p.paceAt + cost * 1024 / max 1 p.rate
    timer := if op = 3 ∨ p.timer.isSome then p.timer else some (s.time.toNat + s.rtoTicks) })

/-- A frame leaves the port. -/
def State.emit (s : State) (f : TxFrame) : State := { s with net := { s.net with sent := f :: s.net.sent } }

/-- Send a new segment of a pair with the next PSN. -/
def State.newSeg (s : State) (n q op wr : Nat) (pkt : Packet) : State :=
  let psn := (s.qp n q).nextPsn
  let pkt := { pkt with psn := psn }
  (s.modQp n q (fun p => { p with
    nextPsn := (psn + 1) % 2 ^ 24, segs := p.segs ++ [⟨psn, op, pkt, false, false, wr⟩] })).emit (.data n q op pkt)

/-- Send the next segment of a WRITE or REDUCE, cut at SEG and at 4 KiB of RADDR (R409). -/
def State.sendWrite (s : State) (vd : Fin 256) (q : Nat) (w : WorkReq) : State :=
  let n := vd.val
  let seg := (s.qp n q).ctx.segBytes
  let addr := w.raddr + w.cut
  let len := min (min (seg - w.cut % seg) (4096 - addr % 4096)) (w.len - w.cut)
  let last := decide (w.cut + len = w.len)
  let pkt := { s.packet vd q with
    first := decide (w.cut = 0), last := last, notify := last && w.notify, msg := w.msg, length := len
    rtype := if w.kind = 2 then w.rtype else 0
    rop := if w.kind = 2 then w.rop else 0
    raddr := addr
    flag := if last then w.rflag else 0
    flagAdd := if last then w.rflagAdd else 0
    payload := s.devRead n (w.laddr + w.cut) len }
  let s := s.devSeen n (w.laddr + w.cut) len
  let s := s.modQp n q (fun p => { p with wrs := p.wrs.map (fun (x : WorkReq) =>
    if x.idx = w.idx then { x with cut := x.cut + len } else x) })
  s.newSeg n q (if w.kind = 2 then 1 else 0) w.idx pkt

/-- Send the READ_REQ of a READ (R420). -/
def State.sendReadReq (s : State) (vd : Fin 256) (q : Nat) (w : WorkReq) : State :=
  let n := vd.val
  let psn := (s.qp n q).nextPsn
  let pkt := { s.packet vd q with
    first := true, last := true, notify := w.notify, msg := w.msg, raddr := w.raddr, aux := w.len
    flag := w.rflag, flagAdd := w.rflagAdd }
  let s := s.modQp n q (fun p => { p with
    wrs := p.wrs.map (fun (x : WorkReq) => if x.idx = w.idx then { x with cut := w.len } else x)
    reads := p.reads ++ [⟨w.idx, [psn], w.raddr, w.laddr, w.len, [(0, w.len)], false⟩] })
  s.newSeg n q 2 w.idx pkt

/-- Ask again for the bytes of a read that are missing (R422): a new READ_REQ from the first of them to the last. -/
def State.askAgain (s : State) (vd : Fin 256) (q : Nat) (r : OutRead) : State :=
  let n := vd.val
  let p := s.qp n q
  let lo := minN 0 (r.missing.map (·.1))
  let hi := (r.missing.map (·.2)).foldl max 0
  let pkt := { s.packet vd q with
    first := true, last := true, msg := p.nextMsg, raddr := r.start + lo, aux := hi - lo }
  let s := s.modQp n q (fun p => { p with
    nextMsg := (p.nextMsg + 1) % 2 ^ 16
    reads := p.reads.map (fun (x : OutRead) => if x.wr = r.wr then { x with again := false, psns := x.psns ++ [p.nextPsn] } else x) })
  s.newSeg n q 2 r.wr pkt

/-- Send the next READ_RESP of a READ_REQ that the pair answers (R420), cut at SEG and at 4 KiB boundaries. -/
def State.sendAnswer (s : State) (vd : Fin 256) (q : Nat) (a : Answer) : State :=
  let n := vd.val
  let seg := (s.qp n q).ctx.segBytes
  let len := min (min seg (4096 - a.addr % 4096)) a.left
  let pkt := { s.packet vd q with
    first := a.first, last := decide (len = a.left), psn := a.psn, length := len, raddr := a.addr
    payload := s.devRead n a.addr len }
  let s := s.devSeen n a.addr len
  let rest : List Answer := if a.left ≤ len then [] else [⟨a.psn, a.addr + len, a.left - len, false⟩]
  let s := s.modQp n q (fun p => { p with answers := rest ++ p.answers.drop 1 })
  s.emit (.data n q 3 pkt)

/-- What pair `q` sends at its turn, if it can send anything (R407, R422): a retransmission, a read asked for again, an
answer, a segment of the request in turn. It waits for its rate (R406); a contained device, whose reads no home accepts (R233),
sends nothing. -/
def State.trySend (s : State) (vd : Fin 256) (q : Nat) : Option State :=
  let n := vd.val
  let p := s.qp n q
  if p.st ≠ QpSt.armed ∨ s.net.paused.contains p.ctx.prio ∨ s.lineNow + 2000 ≤ p.paceAt ∨ (s.vd n).st = .contained then none
  else
    match p.segs.find? (fun x => x.again && !x.sacked) with
    | some x =>
      let pkt := { x.pkt with retx := true }
      some (((s.modQp n q (fun p => { p with segs := p.segs.map (fun (y : OutSeg) =>
        if y.psn = x.psn then { y with again := false, pkt := pkt } else y) })).bump (Reg.transportQpRetx n q)).emit
          (.data n q x.op pkt))
    | none =>
      match p.reads.find? (·.again), s.maySend n q with
      | some r, true => some (s.askAgain vd q r)
      | _, _ =>
        match p.answers with
        | a :: _ => some (s.sendAnswer vd q a)
        | [] =>
          match p.wrs.find? (fun w => !w.allCut), s.maySend n q with
          | some w, true =>
            if ¬ w.opened then none
            else if w.kind = 1 then
              if p.reads.length < 16 then some (s.sendReadReq vd q w) else none
            else some (s.sendWrite vd q w)
          | _, _ => none

/-- Whether a frame of the port itself may leave: ACK, NAK and CNP wait while their priority is paused (R427). -/
def State.ctlFree (s : State) : TxFrame → Bool
  | .ctl _ _ _ _ _ _ => !s.net.paused.contains (s.regFld Reg.netportCtrl 24 3)
  | _ => true

/-- The pair of a device that sends at the device's turn, the bytes of its frame, and the state after it (R407): the pair after the
last that sent, among those that have something to send. -/
def State.nextSend (s : State) (vd : Fin 256) : Option (Nat × Nat × State) :=
  let n := vd.val
  let last := SMap.get (fun _ => 0) s.net.turn n
  if (s.vd n).desc.netWeight = 0 then none
  else ((List.range 64).map (fun i => (last + 1 + i) % 64)).findSome? (fun q => (s.trySend vd q).map (fun t =>
    let f := match t.net.sent with
      | .data _ _ op p :: _ => (op, (s.qp n q).ctx.frameBytes p.payload.length)
      | _ => (0, 0)
    (q, f.2, ({ t with net := { t.net with turn := SMap.set (fun _ => 0) t.net.turn n q } }).sentFrame n q f.1 f.2)))

/-- The bytes that one unit of NET_WEIGHT adds to a device's deficit in a round. DESIGN CHOICE: the spec names none; that of the
largest frame lets every device with weight send at each of its turns (log entry 58). -/
def drrQuantum : Nat := 4202

/-- What a device may send in its turn (R407). -/
def State.drrDeficit (s : State) (n : Nat) : Nat := SMap.get (fun _ => 0) s.net.deficit n

/-- The device that sends next under deficit round robin, with its deficit then (R407): the one whose turn it is while its deficit
covers its next frame, else the next one with something to send, whose deficit grows by its weight. -/
def State.drrNext (s : State) : Option (Fin 256 × Nat) :=
  let at_ (i : Nat) : Fin 256 := ⟨i % 256, Nat.mod_lt _ (by decide)⟩
  let cur := at_ s.net.rrVd
  match s.nextSend cur with
  | some (_, b, _) =>
    if b ≤ s.drrDeficit cur.val then some (cur, s.drrDeficit cur.val)
    else
      (((List.range 256).map (fun i => at_ (cur.val + 1 + i))).find? (fun n => (s.nextSend n).isSome)).map (fun n =>
        (n, s.drrDeficit n.val + drrQuantum * (s.vd n.val).desc.netWeight))
  | none =>
    (((List.range 256).map (fun i => at_ (cur.val + 1 + i))).find? (fun n => (s.nextSend n).isSome)).map (fun n =>
      (n, s.drrDeficit n.val + drrQuantum * (s.vd n.val).desc.netWeight))

/-- The device that has sent keeps its turn with what is left of its deficit; one with nothing more to send keeps none (R407). -/
def State.drrSent (s : State) (n : Fin 256) (left : Nat) : State :=
  { s with net := { s.net with
    rrVd := n.val
    deficit := SMap.set (fun _ => 0) s.net.deficit n.val (if (s.nextSend n).isSome then left else 0) } }

/-- SEGMENT_SEND (R407): frames of the port itself go first, in order; then device `vd` sends a segment, where its turn has
come and the line is free within the tick. -/
def execSegmentSend (vd : Fin 256) (s : State) : Out :=
  ok (
    if ¬ s.net.up ∨ s.clock.offReady then s
    else
      match s.net.tx.find? s.ctlFree with
      | some f => ({ s with net := { s.net with tx := s.net.tx.erase f } }).emit f
      | none =>
        if s.lineNow + 2000 ≤ s.net.lineFree then s
        else
          match s.drrNext, s.nextSend vd with
          | some (n, d), some (_, b, t) => if n = vd then t.drrSent vd (d - b) else s
          | _, _ => s)

/-! Acknowledgement (R413, R422) -/

/-- WRITEs and REDUCEs whose every segment has been sent and acknowledged complete (R413). -/
def State.completeWork (s : State) (n q : Nat) : State :=
  let p := s.qp n q
  (p.wrs.filter (fun w => w.allCut && (decide (w.kind = 0) || decide (w.kind = 2))
    && !p.segs.any (fun x => decide (x.wr = w.idx) && !x.sacked))).foldl (fun s w => s.finishWork n q w 0) s

/-- The pair of a received control packet, where it is armed and the source is its peer (R416). -/
def State.ctlPair (s : State) (p : Packet) : Option Nat :=
  match s.pairOf p.vd.val p.dstQp with
  | some q =>
    let r := s.qp p.vd.val q
    if r.st = QpSt.armed ∧ p.srcIp = r.ctx.peerIp ∧ p.srcQp = r.ctx.peerQpn then some q else none
  | none => none

/-- An ACK covers segments below ACK_PSN and those of its bitmap (R421, R422); the expiry count clears when ACK_PSN
advances. An ACK_PSN outside what the pair has sent covers nothing. -/
def State.takeAck (s : State) (n q ackPsn sack : Nat) : State :=
  let p := s.qp n q
  let base := match p.segs with
    | x :: _ => x.psn
    | [] => p.nextPsn
  if psnSub p.nextPsn base < psnSub ackPsn base then s
  else
    let below (x : OutSeg) : Bool := decide (psnSub x.psn base < psnSub ackPsn base)
    let inMap (x : OutSeg) : Bool :=
      let k := psnSub x.psn ackPsn
      decide (1 ≤ k) && decide (k ≤ 64) && bitOf sack (k - 1)
    let segs := (p.segs.filter (fun x => !below x)).map (fun (x : OutSeg) => if inMap x then { x with sacked := true } else x)
    (s.modQp n q (fun p => { p with
      expiries := if p.segs.any below then 0 else p.expiries, segs := segs })).completeWork n q

/-- What a received packet needs before anything else: the port is up; a malformed packet is dropped (R416). -/
def State.onPacket (s : State) (p : Packet) (f : State → State) : State :=
  if ¬ s.net.up then s
  else if ¬ p.wellFormed ∨ s.netIp p.vd.val = 0 then s.bump Reg.netportDrops
  else f s

/-- Whether the retransmission timer of a pair runs (R422): segments or reads are outstanding, or its next segment waits
in a paused priority. -/
def State.timerRuns (s : State) (n q : Nat) : Bool :=
  let p := s.qp n q
  decide (p.st = .armed) && (p.segs.any (fun x => !x.sacked) || !p.reads.isEmpty
    || (s.net.paused.contains p.ctx.prio && p.wrs.any (fun w => w.opened && !w.allCut)))

/-- The timer of a pair stops with nothing left to time (R422). -/
def State.settleTimer (s : State) (n q : Nat) : State :=
  if s.timerRuns n q then s else s.modQp n q (fun p => { p with timer := none })

/-- ACK (R422). -/
def execAck (p : Packet) (s : State) : Out :=
  ok (s.onPacket p (fun s => match s.ctlPair p with
    | some q => (s.takeAck p.vd.val q p.ackPsn p.sack.toNat).settleTimer p.vd.val q
    | none => s))

/-- NAK (R414, R422): 0x01 leaves its segment to the next expiry; the others end the pair with their status. -/
def execNak (p : Packet) (s : State) : Out :=
  ok (s.onPacket p (fun s => match s.ctlPair p with
    | some q =>
      let n := p.vd.val
      let pr := s.qp n q
      let who := match pr.segs.find? (fun x => decide (x.psn = p.ackPsn)) with
        | some x => some x.wr
        | none => (pr.wrs.head?).map (·.idx)
      match p.nakCode with
      | 1 => s.modQp n q (fun r => { r with segs := r.segs.map (fun (x : OutSeg) =>
          if x.psn = p.ackPsn then { x with sacked := false } else x) })
      | 2 => s.failPair n q 2 who
      | 3 => s.failPair n q 1 who
      | 4 => s.failPair n q 2 who
      | 5 => s.failPair n q 3 who
      | _ => s
    | none => s))

/-- CNP (R406): the rate halves, at most once in 1,000 ticks. -/
def execCnp (p : Packet) (s : State) : Out :=
  ok (s.onPacket p (fun s => match s.ctlPair p with
    | some q => s.modQp p.vd.val q (fun r =>
        let now := s.time.toNat
        if r.lastCut + 1000 ≤ now then { r with rate := max (r.rate / 2) 1, lastCut := now, rateAt := now }
        else { r with rateAt := now })
    | none => s))

/-- RATE_INCREASE (R406): after 2,000 ticks without a CNP the rate of an armed pair rises by 64. -/
def execRateIncrease (vd : Fin 256) (q : Fin 64) (s : State) : Out :=
  ok (
    let p := s.qp vd.val q.val
    if p.st ≠ QpSt.armed ∨ s.time.toNat < p.rateAt + 2000 then s
    else s.modQp vd.val q.val (fun p => { p with rate := min (p.rate + 64) 1024, rateAt := s.time.toNat }))

/-- Everything outstanding of a pair is to be sent again: segments that no ACK covers, and reads whose READ_REQ one
does (R422). -/
def Qp.resend (p : Qp) : Qp :=
  { p with
    segs := p.segs.map (fun (x : OutSeg) => if x.sacked then x else { x with again := true })
    reads := p.reads.map (fun (r : OutRead) =>
      if p.segs.any (fun x => r.psns.contains x.psn && !x.sacked) then r else { r with again := true }) }

/-- RETRANSMISSION_TIMEOUT (R422): the timer of a pair expires, NETPORT_RTO after its start, and starts again. The eighth expiry without progress fails the path: the
pair goes on with path 1 if it has one it is not on, or every pending request completes with PATH_FAILED. -/
def execRetransmissionTimeout (vd : Fin 256) (q : Fin 64) (s : State) : Out :=
  ok (
    let n := vd.val
    let q := q.val
    let p := s.qp n q
    let again := some (s.time.toNat + s.rtoTicks)
    if ¬ s.timerRuns n q ∨ p.timer.any (fun t => decide (s.time.toNat < t)) then s
    else if p.expiries + 1 < 8 then s.modQp n q (fun p => { p.resend with expiries := p.expiries + 1, timer := again })
    else if p.path = 0 ∧ p.ctx.udpSrc1 ≠ 0 then s.modQp n q (fun p => { p.resend with expiries := 0, path := 1, timer := again })
    else s.failPair n q 4 none)

end Sys2Proof.Machine
end

