-- ==== Sys2Proof/Machine/Net.lean ====
section
/-! DEFINITION. The network port and the receiving side of the Tuilin transport (chapter The network port and the Tuilin
transport): receive checks, the staging buffer, delivery, messages, acknowledgements, flow control; and the flag
operations of the routers, which post work requests and open gates. -/

namespace Sys2Proof.Machine

/-! The staging buffer (R404, R416) -/

/-- Whether a priority has its own share of the staging buffer. -/
def State.txEn (s : State) (p : Nat) : Bool := bitOf (s.regFld Reg.netportPfc 8 8) p

/-- Bytes that segments of the priorities a test selects hold in the staging buffer. -/
def State.staged (s : State) (f : Nat → Bool) : Nat :=
  sumN ((s.net.staging.filter (fun x => f x.pkt.prio.val && (decide (x.acked < x.parts) || decide (x.sent < x.parts)))).map
    (fun x => x.pkt.length))

/-- Whether a priority's share has room for more bytes: 1 MiB of its own, or the remainder of 8 MiB. -/
def State.stageRoom (s : State) (p len : Nat) : Bool :=
  if s.txEn p then decide (s.staged (fun x => decide (x = p)) + len ≤ 2 ^ 20)
  else decide (s.staged (fun x => !s.txEn x) + len ≤ 2 ^ 23 - 2 ^ 20 * popcount 8 (s.regFld Reg.netportPfc 8 8))

/-- Append a frame of the port itself. -/
def State.queueTx (s : State) (f : TxFrame) : State := { s with net := { s.net with tx := s.net.tx ++ [f] } }

/-- XOFF above 768 KiB and XON below 512 KiB, for a priority whose TX_EN bit is set (R404). -/
def State.flowControl (s : State) (p : Nat) : State :=
  let o := s.staged (fun x => decide (x = p))
  if ¬ s.txEn p then s
  else if 786432 < o ∧ ¬ s.net.xoff.contains p then
    ({ s with net := { s.net with xoff := p :: s.net.xoff } }).queueTx (.pfc p true)
  else if o < 524288 ∧ s.net.xoff.contains p then
    ({ s with net := { s.net with xoff := s.net.xoff.erase p } }).queueTx (.pfc p false)
  else s

/-- The writes of one sector each that bytes make, from offset `done` on, with fuel. -/
def sectorPartsFrom (addr : Nat) : Nat → Nat → Nat → List (Nat × Nat)
  | 0, _, _ => []
  | f + 1, left, done =>
    if left = 0 then []
    else
      let k := min (256 - (addr + done) % 256) left
      (done, k) :: sectorPartsFrom addr f (left - k) (done + k)

/-- The writes of one sector each that `len` bytes from an address make: offset and length. -/
def sectorParts (addr len : Nat) : List (Nat × Nat) := sectorPartsFrom addr (len / 256 + 2) len 0

/-- Put a segment that lands at `addr` into the staging buffer (R416). -/
def State.stage (s : State) (n q : Nat) (p : Packet) (addr : Nat) (resp reduce : Bool) : State :=
  let parts := if reduce then p.length / 64 else (sectorParts addr p.length).length
  ({ s with net := { s.net with
      staging := s.net.staging ++ [(⟨s.net.nextSeg, n, q, p, addr, resp, reduce, parts, 0, 0, 0, 0⟩ : Staged)]
      nextSeg := s.net.nextSeg + 1 } }).flowControl p.prio.val

/-! Messages (R419) -/

/-- A receive record of a complete message (R414, R419); a full ring drops it and sets RCQ_LOST. -/
def State.recvRecord (s : State) (n q : Nat) (m : RxMsg) : State :=
  let p := s.qp n q
  if p.ctx.rcqBase = 0 then s
  else
    let tail := s.regFld (Reg.transportQpRcqTail n q) 0 16
    if (tail + 1) % p.size = s.regFld (Reg.transportQpRcqHead n q) 0 16 then
      s.setRegBit (Reg.transportQpStatus n q) 28 true
    else
      let s := s.devWrite n (p.ctx.rcqBase + 32 * tail) (netRecord 0 p.phaseR 0 m.msg m.bytes m.addr s.time.toNat)
      let s := s.setRegFld (Reg.transportQpRcqTail n q) 0 16 ((tail + 1) % p.size)
      let s := if tail + 1 = p.size then s.modQp n q (fun p => { p with phaseR := !p.phaseR }) else s
      s.vecVf n 6

/-- Whether a message has come whole and every segment of it is complete. -/
def RxMsg.whole (m : RxMsg) : Bool :=
  match m.first, m.last with
  | some f, some l => decide (psnSub l f + 1 ≤ m.done)
  | _, _ => false

/-- A message that is whole leaves (R419): with NOTIFY its flag is added and its record is written. -/
def State.settleMsg (s : State) (n q msg : Nat) : State :=
  match (s.qp n q).rx.find? (fun m => decide (m.msg = msg)) with
  | some m =>
    if ¬ m.whole then s
    else
      let s := s.modQp n q (fun p => { p with rx := p.rx.filter (fun (x : RxMsg) => !decide (x.msg = msg)) })
      if m.notify then (s.addFlag n m.flag m.flagAdd).recvRecord n q m else s
  | none => s

/-- A segment of a message is accepted (R417, R419). -/
def State.noteSeg (s : State) (n q : Nat) (p : Packet) : State :=
  let old : RxMsg := ((s.qp n q).rx.find? (fun m => decide (m.msg = p.msg))).getD ⟨p.msg, none, none, 0, 0, 0, false, 0, 0⟩
  let m : RxMsg := { old with
    bytes := old.bytes + p.length
    first := if p.first then some p.psn else old.first
    addr := if p.first then p.raddr else old.addr
    last := if p.last then some p.psn else old.last
    notify := if p.last then p.notify else old.notify
    flag := if p.last then p.flag else old.flag
    flagAdd := if p.last then p.flagAdd else old.flagAdd }
  s.modQp n q (fun r => { r with rx := r.rx.filter (fun (x : RxMsg) => !decide (x.msg = p.msg)) ++ [m] })

/-- A segment of a message is complete. -/
def State.segComplete (s : State) (n q msg : Nat) : State :=
  (s.modQp n q (fun r => { r with rx := r.rx.map (fun (x : RxMsg) =>
    if x.msg = msg then { x with done := x.done + 1 } else x) })).settleMsg n q msg

/-! Receive checks (R416, R417) -/

/-- A NAK is to be sent for a packet. -/
def State.nakPacket (s : State) (p : Packet) (code : Nat) : State :=
  let n := p.vd.val
  { s with net := { s.net with naks := s.net.naks ++
      [(n, (s.pairOf n p.dstQp).getD 0, TxFrame.ctl n 5 p.srcQp p.psn code 0)] } }

/-- Whether a PSN has been accepted. -/
def Qp.seen (r : Qp) (psn : Nat) : Bool := decide (2 ^ 23 ≤ psnSub psn r.epsn) || r.accepted.contains psn

/-- Drop the PSNs at the front of those accepted, while the next expected one is among them. -/
def advance (acc : List Nat) : Nat → Nat → List Nat × Nat
  | 0, e => (acc, e)
  | f + 1, e => if acc.contains e then advance (acc.erase e) f ((e + 1) % 2 ^ 24) else (acc, e)

/-- A PSN is marked accepted (R417). -/
def Qp.accept (r : Qp) (psn : Nat) : Qp :=
  let a := advance (psn :: r.accepted) 1025 r.epsn
  { r with accepted := a.1, epsn := a.2, ackPending := true }

/-- Whether a request may not touch what it names (R416): permission, RKEY, remote window, regions, REDUCE form, NOTIFY
beyond the allotment. `op` 0 is WRITE, 1 REDUCE, 2 READ_REQ. -/
def State.accessBad (s : State) (n q op : Nat) (p : Packet) : Bool :=
  let c := (s.qp n q).ctx
  let len := if op = 2 then p.aux else p.length
  !(match op with | 0 => c.permW | 1 => c.permRed | _ => c.permR)
  || decide (p.rkey ≠ c.rkey)
  || (decide (len ≠ 0) && (decide (p.raddr < c.raBase) || decide (c.raLimit < p.raddr + len - 1)))
  || !s.inMemory n p.raddr len
  || (decide (op = 1) && (decide (p.raddr % 64 ≠ 0) || decide (p.length % 64 ≠ 0) || !reduceAllowed p.rtype p.rop))
  || (p.notify && decide (s.flagCount n ≤ p.flag))

/-- A segment marked CE makes the receiver send a CNP, at most one per pair in 1,000 ticks (R406). -/
def State.noteCe (s : State) (n q : Nat) (p : Packet) : State :=
  let now := s.time.toNat
  if p.ce ∧ ((s.qp n q).lastCnp.all (fun t => decide (t + 1000 ≤ now))) then
    (s.modQp n q (fun r => { r with lastCnp := some now })).queueTx (.ctl n 6 (s.qp n q).ctx.peerQpn 0 0 0)
  else s

/-- A data segment or a READ_REQ arrives: the first condition of R416 that holds decides; `take` is what an accepted one
does. -/
def State.recvSeg (s : State) (op : Nat) (p : Packet) (take : Nat → State → State) : State :=
  s.onPacket p (fun s =>
    let n := p.vd.val
    match s.ctlPair p with
    | none => s.nakPacket p 4
    | some q =>
      let r := s.qp n q
      if (s.vd n).st = .contained then s.nakPacket p 5
      else if r.seen p.psn then s.modQp n q (fun r => { r with ackPending := true })
      else if 1023 < psnSub p.psn r.epsn then s.nakPacket p 2
      else if s.accessBad n q op p then s.nakPacket p 3
      else if ¬ s.stageRoom p.prio.val p.length then s.nakPacket p 1
      else
        let s := (s.modQp n q (fun r => r.accept p.psn)).noteCe n q p
        take q (s.noteSeg n q p))

/-- WRITE (R417, R418): accepted into staging. -/
def execWrite (p : Packet) (s : State) : Out :=
  ok (s.recvSeg 0 p (fun q s =>
    if p.length = 0 then s.segComplete p.vd.val q p.msg else s.stage p.vd.val q p p.raddr false false))

/-- REDUCE (R417, R418): accepted into staging. -/
def execReduce (p : Packet) (s : State) : Out :=
  ok (s.recvSeg 1 p (fun q s =>
    if p.length = 0 then s.segComplete p.vd.val q p.msg else s.stage p.vd.val q p p.raddr false true))

/-- READ_REQ (R420): acknowledged like any segment; the pair answers it. -/
def execReadReq (p : Packet) (s : State) : Out :=
  ok (s.recvSeg 2 p (fun q s =>
    let n := p.vd.val
    let s := s.segComplete n q p.msg
    if p.aux = 0 then s
    else s.modQp n q (fun r => { r with answers := r.answers ++ [⟨p.psn, p.raddr, p.aux, true⟩] })))

/-- The outstanding read a READ_RESP belongs to, if its bytes lie within it (R416, R420). -/
def Qp.readOf (r : Qp) (p : Packet) : Option OutRead :=
  r.reads.find? (fun x => x.psns.contains p.psn && decide (x.start ≤ p.raddr) && decide (p.raddr + p.length ≤ x.start + x.len))

/-- READ_RESP (R416, R420): landed at LADDR + (RADDR - start), or dropped and counted. -/
def execReadResp (p : Packet) (s : State) : Out :=
  ok (s.onPacket p (fun s =>
    let n := p.vd.val
    match s.ctlPair p with
    | none => s.bump Reg.netportDrops
    | some q =>
      match (s.qp n q).readOf p with
      | none => s.bump Reg.netportDrops
      | some x =>
        let s := (s.modQp n q (fun r => { r with expiries := 0 })).noteCe n q p
        if p.length = 0 then s else s.stage n q p (x.laddr + (p.raddr - x.start)) true false))

/-! Delivery (R418) -/

/-- Whether a rebind of a device pauses its deliveries (R427). -/
def State.deliveryPaused (s : State) (n : Nat) : Bool :=
  match s.binder.running with
  | some b => decide (b.vd = n) && (decide (b.st = .moving) || decide (b.st = .committing))
  | none => false

/-- The type and operation of a reduce-write (R221, R408). -/
def redType : Nat → HomeType
  | 0 => .int32 | 1 => .int64 | 2 => .fp32 | 3 => .bf16 | _ => .fp64
def redFn : Nat → HomeFn
  | 0 => .add | 1 => .min | 2 => .max | 3 => .and | 4 => .or | _ => .xor

/-- Change the staged segment of a number. -/
def State.modStaged (s : State) (id : Nat) (f : Staged → Staged) : State :=
  { s with net := { s.net with staging := s.net.staging.map (fun (x : Staged) => if x.id = id then f x else x) } }

/-- Send the writes of a segment, one for each sector it touches, under the EARLY_ACK of their regions (R280, R418). -/
def State.deliverWrite (s : State) (x : Staged) : State :=
  let ps := sectorParts x.addr x.pkt.length
  let early := (ps.filter (fun p => s.earlyAck x.vd (x.addr + p.1))).length
  let s := s.modStaged x.id (fun y => { y with sent := y.parts, early := early })
  ps.foldl (fun s p =>
    let a := x.addr + p.1
    s.request ⟨.write, x.vd, a, p.2, addrBytes a (((x.pkt.payload ++ List.replicate x.pkt.length 0).drop p.1).take p.2),
      false, .net x.id, false, s.earlyAck x.vd a, false⟩) s

/-- Reduce-writes of the engine on a line that have no response yet. -/
def State.reducing (s : State) (n line : Nat) : Nat :=
  sumN ((s.net.staging.filter (fun x => x.reduce && decide (x.vd = n) && decide (lineOf x.addr = line))).map
    (fun x => x.sent - x.acked))

/-- Send reduce-writes of a segment, one for each chunk, with at most 16 on one line (R418). -/
def State.deliverReduce (s : State) (x : Staged) : State :=
  let k := min (16 - s.reducing x.vd (lineOf x.addr)) (x.parts - x.sent)
  let s := s.modStaged x.id (fun y => { y with sent := y.sent + k })
  (List.range k).foldl (fun s i =>
    let c := x.sent + i
    s.sendHomeOp ⟨x.vd, x.addr + 64 * c, redFn x.pkt.rop, redType x.pkt.rtype, true,
      (x.pkt.payload.drop (64 * c)).take 64, [], .net x.id, [c]⟩) s

/-- SEGMENT_DELIVERY (R417, R418, R427): staged segment `i` goes to its home slices, after those of its pair that were
accepted before it; a reduce-write that had a Nack is sent again. -/
def execSegmentDelivery (i : Nat) (s : State) : Out :=
  ok (match s.net.staging[i]? with
    | none => s
    | some x =>
      if s.deliveryPaused x.vd then s
      else
        match s.nacked.find? (fun o => decide (o.src = .net x.id)) with
        | some o => ({ s with nacked := s.nacked.erase o }).sendHomeOp o
        | none =>
          if x.parts ≤ x.sent
              ∨ (s.net.staging.take i).any (fun y => decide (y.vd = x.vd) && decide (y.q = x.q) && decide (y.sent < y.parts))
          then s
          else if x.reduce then s.deliverReduce x
          else s.deliverWrite x)

/-- Take a range of bytes out of those missing. -/
def subRange (lo hi : Nat) (ms : List (Nat × Nat)) : List (Nat × Nat) :=
  ms.flatMap (fun m => [(m.1, min m.2 lo), (max m.1 hi, m.2)].filter (fun r => decide (r.1 < r.2)))

/-- The bytes of a READ_RESP are complete at their homes (R413, R420). -/
def State.readLanded (s : State) (n q : Nat) (p : Packet) : State :=
  match (s.qp n q).readOf p with
  | none => s
  | some x =>
    let lo := p.raddr - x.start
    let left := subRange lo (lo + p.length) x.missing
    let s := s.modQp n q (fun r => { r with reads := r.reads.map (fun (y : OutRead) =>
      if y.wr = x.wr then { y with missing := left } else y) })
    match left, (s.qp n q).wrs.find? (fun w => decide (w.idx = x.wr)) with
    | [], some w => (s.finishWork n q w 0).settleTimer n q
    | _, _ => s

/-- NETWORK_WRITE_ACK (R418, R419): the `i`-th answer of a home to a network write or reduce-write: staging space is
freed once every part is acknowledged; the segment is complete once those acknowledged early have completed. -/
def execNetworkWriteAck (i : Nat) (s : State) : Out :=
  ok (match s.net.ackOut[i]? with
    | none => s
    | some (id, notice) =>
      let s := { s with net := { s.net with ackOut := delNth s.net.ackOut i } }
      match s.net.staging.find? (fun x => decide (x.id = id)) with
      | none => s
      | some x =>
        let y : Staged := if notice then { x with notices := x.notices + 1 } else { x with acked := x.acked + 1 }
        let s := (s.modStaged id (fun _ => y)).flowControl x.pkt.prio.val
        if y.acked < y.parts ∨ y.notices < y.early then s
        else
          let s : State := { s with net := { s.net with
            staging := s.net.staging.filter (fun (z : Staged) => !decide (z.id = id)) } }
          if x.resp then s.readLanded x.vd x.q x.pkt else s.segComplete x.vd x.q x.pkt.msg)

/-! Acknowledgement (R421) -/

/-- The SACK bitmap of a pair: bit k stands for the PSN 1 + k beyond the next expected one. -/
def Qp.sackMap (r : Qp) : Nat :=
  sumN ((List.range 64).map (fun k => b2n (r.accepted.contains ((r.epsn + 1 + k) % 2 ^ 24)) * 2 ^ k))

/-- An acknowledgement measured above 200 ticks is counted and recorded, and raises PF vector 4 (R421). -/
def State.ackMeasured (s : State) (n q ticks : Nat) : State :=
  if ticks ≤ 200 then s
  else ((s.bump Reg.netportAckLate).record { ErrRec.mk0 0 8 1 (s.physQp n q) with vd := some n }).vecPf 4

/-- ACK_SEND (R421): a pair's NAK, or else its pending ACK, is generated, `ticks` after the segment it answers. -/
def execAckSend (vd : Fin 256) (q : Fin 64) (ticks : Nat) (s : State) : Out :=
  ok (
    let n := vd.val
    let q := q.val
    match s.net.naks.find? (fun x => decide (x.1 = n) && decide (x.2.1 = q)) with
    | some x =>
      let s := ({ s with net := { s.net with naks := s.net.naks.erase x } }).queueTx x.2.2
      let s := match x.2.2 with
        | .ctl _ _ _ _ 1 _ => s.bump Reg.netportRnr
        | _ => s
      s.ackMeasured n q ticks
    | none =>
      let r := s.qp n q
      if ¬ r.ackPending then s
      else
        let s := s.modQp n q (fun r => { r with ackPending := false })
        (s.queueTx (.ctl n 4 r.ctx.peerQpn r.epsn 0 r.sackMap)).ackMeasured n q ticks)

/-! The port (R402 to R404, R424) -/

/-- ARP_REQUEST (R403): answered for a device with an IPv4 address; any other is dropped. -/
def execArpRequest (vd : Fin 256) (s : State) : Out :=
  ok (if ¬ s.net.up then s
  else if s.netIp vd.val ≠ 0 ∧ isV4 (s.netIp vd.val) then s.queueTx (.arp vd.val)
  else s.bump Reg.netportDrops)

/-- NEIGHBOUR_SOLICITATION (R403): answered for a device with an IPv6 address; any other is dropped. -/
def execNeighbourSolicitation (vd : Fin 256) (s : State) : Out :=
  ok (if ¬ s.net.up then s
  else if s.netIp vd.val ≠ 0 ∧ ¬ isV4 (s.netIp vd.val) then s.queueTx (.ndp vd.val)
  else s.bump Reg.netportDrops)

/-- NON_TUILIN_FRAME (R403): dropped and counted. -/
def execNonTuilinFrame (s : State) : Out := ok (if s.net.up then s.bump Reg.netportDrops else s)

/-- PAUSE_FRAME (R402, R403): dropped and counted. -/
def execPauseFrame (s : State) : Out := ok (if s.net.up then s.bump Reg.netportDrops else s)

/-- Mark a priority paused, or not, by the partner; NETPORT_LINK.PAUSED shows it. -/
def State.setPaused (s : State) (p : Nat) (on : Bool) : State :=
  let l := s.net.paused.filter (fun x => !decide (x = p))
  ({ s with net := { s.net with paused := if on then p :: l else l } }).setRegBit Reg.netportLink (8 + p) on

/-- PFC_FRAME (R404): a priority whose RX_EN bit is set pauses for the quanta the frame names; else the frame is dropped
and counted. -/
def execPfcFrame (p : Fin 8) (quanta : Nat) (s : State) : Out :=
  ok (if ¬ s.net.up then s
  else if bitOf (s.regFld Reg.netportPfc 0 8) p.val then s.setPaused p.val (decide (quanta ≠ 0))
  else s.bump Reg.netportDrops)

/-- PFC_PAUSE_EXPIRY (R404): the time a PFC frame named has run out. -/
def execPfcPauseExpiry (p : Fin 8) (s : State) : Out :=
  ok (if s.net.paused.contains p.val then s.setPaused p.val false else s)

/-- The link goes up or down (R424): UP, MODE and PHY show it, PF vector 4 is raised on each change. -/
def State.netLink (s : State) (up : Bool) : State :=
  if s.net.up = up then s
  else
    let s : State := { s with net := { s.net with up := up } }
    let s := s.setRegBit Reg.netportLink 31 up
    (((s.setRegFld Reg.netportLink 30 1 s.net.mode).setRegFld Reg.netportLink 28 2 s.net.phy)).vecPf 4

/-- A write of NETPORT_CTRL (R424): ENABLE going to 1 applies MODE and PHY and starts training; going to 0 it stops the
port. -/
def State.writeNetCtrl (s : State) (v : W32) : State :=
  let was := s.regBit Reg.netportCtrl 31
  let s := s.setReg Reg.netportCtrl (v &&& 0xF700FFFF#32)
  if ¬ was ∧ fld v 31 1 = 1 then
    { s with net := { s.net with training := true, mode := fld v 30 1, phy := fld v 28 2 } }
  else if was ∧ fld v 31 1 = 0 then ({ s with net := { s.net with training := false } }).netLink false
  else s

/-- NETPORT_ENABLE (R424). -/
def execNetportEnable (ctrl : W32) (s : State) : Out :=
  ok (if s.pfServed Reg.netportCtrl then (s.writeNetCtrl ctrl).countRsvd Reg.netportCtrl ctrl else s)

/-- NETPORT_LINK_CHANGE (R424). -/
def execNetportLinkChange (up : Bool) (s : State) : Out :=
  ok (if up ∧ ¬ s.net.training then s else s.netLink up)

/-! Flag operations (R179, R181, R182) -/

/-- A flag word after an operation (R180, R181). -/
def flagApply (w : W32) : FlagOp → W32
  | .add v => w + v
  | .write v => v
  | .arm v => BitVec.ofNat 32 (fld v 0 10)
  | .arrive =>
    let limit := if fld w 0 10 = 0 then 1024 else fld w 0 10
    if limit ≤ fld w 10 10 + 1 then BitVec.ofNat 32 ((fld w 20 12 + 1) % 4096 * 2 ^ 20 + fld w 0 10)
    else BitVec.ofNat 32 (fld w 20 12 * 2 ^ 20 + (fld w 10 10 + 1) * 2 ^ 10 + fld w 0 10)

/-- The `i`-th message on its way to router `b`. -/
def State.routerMsg (s : State) (b i : Nat) : Option FlagMsg :=
  (s.fab.flagMsgs.filter (fun m => decide (m.word / 4096 = b)))[i]?

/-- A FLAGSET that changes the doorbell flag of a pair posts its work requests (R415). -/
def State.flagDoorbell (s : State) (n f : Nat) (v : W32) : State :=
  (List.range (s.vd n).desc.qps).foldl (fun s q =>
    let p := s.qp n q
    if p.st = QpSt.armed ∧ p.ctx.dbflagEn ∧ p.ctx.dbflag = f then s.postWork n q (fld v 0 16 % p.size) else s) s

/-- FLAG_OPERATION (R179 to R182, R415): a router applies a message to its word whole, after those the same sender sent
to that word before it; cores whose FLAGWAIT now holds are sent wakes, work requests are posted, gates open. -/
def execFlagOperation (b : Fin 4) (i : Nat) (s : State) : Out :=
  ok (match s.routerMsg b.val i with
    | none => s
    | some m =>
      if s.fab.flagMsgs.find? (fun x => decide (x.word = m.word) && decide (x.sender = m.sender)) ≠ some m then s
      else
        let old := s.flag m.word
        let new := flagApply old m.op
        let s := ({ s with fab := { s.fab with flagMsgs := s.fab.flagMsgs.erase m } }).setFlag m.word new
        if old = new then s
        else
          let wakes := (s.cores.filter (fun (e : Nat × Core) => match e.2.flagWait with
            | some f => decide (f.word = m.word) && flagHolds f.mode new f.value && !s.wakeOut e.1
            | none => false)).map (·.1)
          let s := wakes.foldl (fun s c => s.sendWake m.vd m.word c) s
          let f := (s.vd m.vd).flagMap.idxOf m.word
          let s := if m.sender < 96 then s.flagDoorbell m.vd f new else s
          s.openGates m.vd)

end Sys2Proof.Machine
end

