-- ==== Sys2Proof/Machine/Matrix.lean ====
section
/-! DEFINITION. The matrix engine (chapters The core and its matrix engine; Number formats): MMA, the accumulator
instructions, their checks at issue and their effect on the accumulators and the tile store. -/

namespace Sys2Proof.Machine

/-! Shapes (R47, R52, R61) -/

/-- The classes of operands that pair with one another (R52). -/
def isFp8 (f : Nat) : Bool := decide (f = 1) || decide (f = 2)
def isFp6 (f : Nat) : Bool := decide (f = 3) || decide (f = 4)
def isFp4 (f : Nat) : Bool := decide (f = 5)
def isSmall (f : Nat) : Bool := isFp8 f || isFp6 f || isFp4 f

/-- K of a step of an operand pairing; none where the table of R52 does not list it. -/
def stepK (a b : Nat) : Option Nat :=
  if isFp4 a && isFp4 b then some 64
  else if isSmall a && isSmall b then some 32
  else if a = 0 ∧ b = 0 then some 32
  else if (a = 6 ∧ b = 6) ∨ (a = 7 ∧ b = 7) then some 16
  else if a = 8 ∧ b = 8 then some 2
  else if a = 9 ∧ b = 9 then some 1
  else none

/-- Bytes of a row of K elements of a format (R52). -/
def rowBytes (f k : Nat) : Nat := k * codeWidth f / 8

/-- Element `e` of a row (R62). -/
def elemOf (f : Nat) (row : List Byte) (e : Nat) : Nat := bitsOf (leNat row) (codeWidth f * e) (codeWidth f)

/-- Granules of 256 B that bytes [a, b) touch (R43). -/
def granules (a b : Nat) : Nat × Nat := (a / 256, (b + 255) / 256)

/-- Whether [a, a + n) lies in the tile store, for a signed address. -/
def inTile (a : Int) (n : Nat) : Bool := decide (0 ≤ a) && decide (a + n ≤ 0x800000)

/-! MMA -/

/-- Fields of MMA (R72). -/
structure Mma where
  fa : Nat
  fb : Nat
  acc : Nat
  zero : Bool
  mode : Nat
  steps : Nat
  aBase : Nat
  aStride : Int
  bBase : Nat
  bStride : Int
  saBase : Nat
  sbBase : Nat
deriving DecidableEq, Repr

/-- The fields of an MMA word. -/
def parseMma (w : Nat) : Mma :=
  ⟨bitsOf w 116 4, bitsOf w 112 4, bitsOf w 108 4, bitOf w 107, bitsOf w 105 2, bitsOf w 96 8 + 1,
   bitsOf w 81 15, sext (bitsOf w 73 8) 8, bitsOf w 58 15, sext (bitsOf w 50 8) 8, bitsOf w 32 18, bitsOf w 14 18⟩

/-- K of the instruction's steps. -/
def Mma.k (m : Mma) : Nat := (stepK m.fa m.fb).getD 32

/-- Addresses of the operand tiles and scale vectors of step `i` (R72, R73). -/
def Mma.aAt (m : Mma) (i : Nat) : Int := 256 * ((m.aBase : Int) + m.aStride * i)
def Mma.bAt (m : Mma) (i : Nat) : Int := 256 * ((m.bBase : Int) + m.bStride * i)
def Mma.scaleSize (m : Mma) : Nat := if m.mode = 1 ∧ isFp4 m.fa ∧ isFp4 m.fb then 64 else 32
def Mma.saAt (m : Mma) (i : Nat) : Nat := 32 * m.saBase + (if m.mode = 1 then i * m.scaleSize else 0)
def Mma.sbAt (m : Mma) (i : Nat) : Nat := 32 * m.sbBase + (if m.mode = 1 then i * m.scaleSize else 0)

/-- The accumulator type of an MMA (R49). -/
def Mma.tag (m : Mma) : AccTag := if m.fa = 0 then .int32 else if m.fa = 9 then .fp64 else .fp32

/-- The accumulators an operation of a type names, as bits. -/
def accBits (t : AccTag) (acc : Nat) : Nat := if t = .fp64 then 3 * 2 ^ (acc - acc % 2) else 2 ^ acc

/-- The tag of an accumulator (R50). -/
def Core.tag (k : Core) (acc : Nat) : AccTag := SMap.get (fun _ => AccTag.fp32) k.tags acc

/-- Set the tags of the accumulators of a mask. -/
def Core.setTags (k : Core) (mask : Nat) (t : AccTag) : Core :=
  { k with tags := (setBitsOf 16 mask).foldl (fun m a => SMap.set (fun _ => AccTag.fp32) m a t) k.tags }

/-- Whether every accumulator of a mask has a tag. -/
def Core.allTag (k : Core) (mask : Nat) (t : AccTag) : Bool := (setBitsOf 16 mask).all (fun a => decide (k.tag a = t))

/-- The tile-store ranges an MMA reads over all its steps, with their sizes (R43). -/
def Mma.reads (m : Mma) : List (Int × Nat) :=
  (List.range m.steps).flatMap (fun i =>
    [(m.aAt i, 32 * rowBytes m.fa m.k), (m.bAt i, 32 * rowBytes m.fb m.k)]
    ++ (if m.mode = 0 then [] else [((m.saAt i : Int), m.scaleSize), ((m.sbAt i : Int), m.scaleSize)]))

/-- The envelope of a list of ranges in granules (R43). -/
def envelope (rs : List (Int × Nat)) : List (Nat × Nat) :=
  match rs with
  | [] => []
  | _ =>
    let lo := minN 0 (rs.map (fun r => r.1.toNat))
    let hi := (rs.map (fun r => r.1.toNat + r.2)).foldl max 0
    [granules lo hi]

/-- The checks of MMA in the order of their causes (R53, R72, R76). -/
def mmaCauses (k : Core) (w : Nat) : List (Bool × Nat) :=
  let m := parseMma w
  [(bitOf w 104 || decide (bitsOf w 0 14 ≠ 0) || decide (m.mode = 3) || decide (0xA < m.fa) || decide (0xA < m.fb), 0x02),
   ((stepK m.fa m.fb).isNone || (decide (m.mode ≠ 0) && !(isSmall m.fa && isSmall m.fb)), 0x03),
   (decide (m.tag = .fp64) && decide (m.acc % 2 = 1), 0x04),
   (!m.zero && !k.allTag (accBits m.tag m.acc) m.tag, 0x05),
   (!m.reads.all (fun r => inTile r.1 r.2), 0x06)]

/-- MMA (R53, R72, R76): checked at issue and placed in the matrix queue. -/
def execMma (c : Fin 96) (s : State) : Out :=
  ok (s.issueOp c.val 0x10 (fun w s' =>
    let k := s'.core c.val
    if k.stalls .matrix then s
    else
      let m := parseMma w
      let bits := accBits m.tag m.acc
      s'.checked c.val (mmaCauses k w) (fun s =>
        let s := s.enqueue c.val .matrix w 0 0 0 bits bits (envelope m.reads) []
        if m.zero then s.modCore c.val (fun k => k.setTags bits m.tag) else s)))

/-! One step (R46 to R51, R84 to R93) -/

/-- An accumulator word. -/
def Core.accWord (k : Core) (t i j : Nat) : Nat := (SMap.get (fun _ => (0 : W32)) k.acc (1024 * t + 32 * i + j)).toNat

/-- Write an accumulator word. -/
def Core.setAcc (k : Core) (t i j v : Nat) : Core :=
  { k with acc := SMap.set (fun _ => (0 : W32)) k.acc (1024 * t + 32 * i + j) (BitVec.ofNat 32 v) }

/-- The value of an accumulator of a type: 32 bits, or the 64 bits of a pair (R49). -/
def Core.accVal (k : Core) (t : AccTag) (acc i j : Nat) : Nat :=
  if t = .fp64 then k.accWord acc i j + 2 ^ 32 * k.accWord (acc + 1) i j else k.accWord acc i j

/-- Write an accumulator of a type. -/
def Core.setAccVal (k : Core) (t : AccTag) (acc i j v : Nat) : Core :=
  if t = .fp64 then (k.setAcc acc i j (v % 2 ^ 32)).setAcc (acc + 1) i j (v / 2 ^ 32) else k.setAcc acc i j v

/-- The 1,024 positions of the array. -/
def positions : List (Nat × Nat) := (List.range 1024).map (fun x => (x / 32, x % 32))

/-- The scale bytes that apply to element `e` of row or column `i` (R61, R84, R85). -/
def scaleOf (m : Mma) (v : List Byte) (i e : Nat) : Nat :=
  if m.mode = 0 then 0x7F
  else if m.scaleSize = 64 then (nth 0 v (2 * i + e / 32)).toNat
  else (nth 0 v i).toNat

/-- The result of one DPU for one step, from its rows, scale vectors and accumulator. -/
def dpuStep (m : Mma) (rowA colB : List Byte) (va vb : List Byte) (i j acc : Nat) : Nat :=
  let ks := List.range m.k
  match Fmt.ofCode m.fa, Fmt.ofCode m.fb with
  | some fa, some fb =>
    if m.fa = 8 then ks.foldl (fun x e => Fmt.fp32.fmac (elemOf 8 rowA e) (elemOf 8 colB e) x) acc
    else if m.fa = 9 then Fmt.fp64.fmac (elemOf 9 rowA 0) (elemOf 9 colB 0) acc
    else
      let ps := ks.map (fun e =>
        ((fa.dec (elemOf m.fa rowA e)).mul (fb.dec (elemOf m.fb colB e))).scale
          ((scaleOf m va i e : Int) + scaleOf m vb j e - 254))
      let bad := ks.any (fun e =>
        decide (fa.dec (elemOf m.fa rowA e) = .nan) || decide (fb.dec (elemOf m.fb colB e) = .nan)
        || decide (scaleOf m va i e = 0xFF) || decide (scaleOf m vb j e = 0xFF))
      stepFp acc bad ps
  | _, _ => stepInt acc (ks.map (elemOf 0 rowA)) (ks.map (elemOf 0 colB))

/-- Step `x` of an MMA on a core. -/
def Core.mmaStep (k : Core) (m : Mma) (x : Nat) : Core :=
  let ra := rowBytes m.fa m.k
  let rb := rowBytes m.fb m.k
  let a := (m.aAt x).toNat
  let b := (m.bAt x).toNat
  let va := if m.mode = 0 then [] else rdN k.tile (m.saAt x) m.scaleSize
  let vb := if m.mode = 0 then [] else rdN k.tile (m.sbAt x) m.scaleSize
  positions.foldl (fun (k' : Core) p =>
    let old := if m.zero && decide (x = 0) then 0 else k.accVal m.tag m.acc p.1 p.2
    k'.setAccVal m.tag m.acc p.1 p.2
      (dpuStep m (rdN k.tile (a + p.1 * ra) ra) (rdN k.tile (b + p.2 * rb) rb) va vb p.1 p.2 old)) k

/-- The sluice window of a core's die (R56): 64 ACLK each, counted on the die's own ACLK (log entry 16). -/
def State.sluiceWindow (s : State) (c : Nat) : Nat := (s.pdie (dieOfCore c)).aclk / 64

/-- A core as its sluice stands in window `w` (R56): a changed setting applies from a new window on, and ACLK taken
beyond the last setting count in the windows that follow. -/
def Core.atWindow (k : Core) (w : Nat) : Core :=
  if k.window < w then { k with
    window := w
    winSteps := k.winSteps - k.sluice * (w - k.window)
    sluice := k.sluiceNext }
  else k

/-- The sluice setting in force on a core (R434). -/
def State.sluiceInForce (s : State) (c : Nat) : Nat := ((s.core c).atWindow (s.sluiceWindow c)).sluice

/-- Whether a step of `cost` ACLK may issue in the present window (R56). DESIGN CHOICE: an FP64 step counts two ACLK,
more than a window has at N = 1, and no core is ever stopped (R434): it issues in a window of which nothing is
taken, and takes the next window's ACLK too (log entry 16). -/
def Core.mayStep (k : Core) (cost : Nat) : Bool :=
  decide (k.winSteps + cost ≤ k.sluice) || (decide (k.sluice < cost) && decide (k.winSteps = 0))

/-- Take `cost` ACLK of the window. -/
def Core.takeSluice (k : Core) (cost : Nat) : Core := { k with winSteps := k.winSteps + cost }

/-- ACLK of a step: two for FP64 (R56). -/
def Mma.cost (m : Mma) : Nat := if m.fa = 9 then 2 else 1

/-- MMA_STEP (R46, R51, R56, R86): the next step of the running MMA, where the sluice does not hold it back. -/
def execMmaStep (c : Fin 96) (s : State) : Out :=
  ok (s.actHead c.val .matrix 0x10 (fun i e s =>
    let m := parseMma e.word
    let k := (s.core c.val).atWindow (s.sluiceWindow c.val)
    if ¬ k.mayStep m.cost then s
    else (s.setCore c.val ((k.mmaStep m e.done).takeSluice m.cost)).setEntry c.val .matrix i
        (fun e => { e with done := e.done + 1 })))

/-! The accumulator queue (R74, R94 to R100) -/

/-- The tag that ACCZ sets. -/
def acczTag (w : Nat) : AccTag :=
  match bitsOf w 102 2 with
  | 1 => .int32
  | 2 => .fp64
  | _ => .fp32

/-- Whether the bits of a mask come in even-odd pairs. -/
def pairedMask (m : Nat) : Bool := (List.range 8).all (fun i => bitOf m (2 * i) == bitOf m (2 * i + 1))

/-- The accumulators of a mask become zero. -/
def Core.zeroAcc (k : Core) (mask : Nat) : Core :=
  { k with acc := (setBitsOf 16 mask).foldl (fun m a => SMap.clearRange m (1024 * a) (1024 * a + 1024)) k.acc }

/-- ACCZ (R50, R74): checked at issue; in its turn it zeroes the accumulators of its mask. -/
def execAccz (c : Fin 96) (ph : Phase) (s : State) : Out :=
  ok (match ph with
  | .issue => s.issueOp c.val 0x18 (fun w s' =>
      if (s'.core c.val).stalls .accumulator then s
      else
        let mask := bitsOf w 104 16
        s'.checked c.val
          [(decide (bitsOf w 0 102 ≠ 0) || decide (bitsOf w 102 2 = 3), 0x02),
           (decide (acczTag w = .fp64) && !pairedMask mask, 0x04)]
          (fun s => (s.enqueue c.val .accumulator w 0 0 0 0 mask [] []).modCore c.val
            (fun k => k.setTags mask (acczTag w))))
  | .act => s.actHead c.val .accumulator 0x18 (fun i e s =>
      (s.modCore c.val (fun k => k.zeroAcc (bitsOf e.word 104 16))).finishEntry c.val .accumulator i))

/-- The type an accumulator image has (R74). -/
def accldTag (w : Nat) : AccTag :=
  match bitsOf w 116 4 with
  | 9 => .fp64
  | 0xA => .int32
  | _ => .fp32

/-- Bytes of an element of an accumulator image (R61). -/
def AccTag.bytes : AccTag → Nat
  | .fp64 => 8
  | _ => 4

/-- ACCLD (R61, R74): checked at issue; in its turn it loads an accumulator image. -/
def execAccld (c : Fin 96) (ph : Phase) (s : State) : Out :=
  ok (
    let src (w : Nat) : Nat := 256 * bitsOf w 97 15
    let acc (w : Nat) : Nat := bitsOf w 112 4
    match ph with
    | .issue => s.issueOp c.val 0x19 (fun w s' =>
        if (s'.core c.val).stalls .accumulator then s
        else
          let t := accldTag w
          let f := bitsOf w 116 4
          let bits := accBits t (acc w)
          s'.checked c.val
            [(decide (bitsOf w 0 97 ≠ 0) || !(decide (f = 8) || decide (f = 9) || decide (f = 0xA)), 0x02),
             (decide (t = .fp64) && decide (acc w % 2 = 1), 0x04),
             (!inTile (src w) (1024 * t.bytes), 0x06)]
            (fun s => (s.enqueue c.val .accumulator w 0 0 0 0 bits [granules (src w) (src w + 1024 * t.bytes)] []).modCore
              c.val (fun k => k.setTags bits t)))
    | .act => s.actHead c.val .accumulator 0x19 (fun i e s =>
        let t := accldTag e.word
        (s.modCore c.val (fun k => positions.foldl (fun (k' : Core) p =>
          k'.setAccVal t (acc e.word) p.1 p.2 (rdLE k.tile (src e.word + t.bytes * (32 * p.1 + p.2)) t.bytes)) k)).finishEntry
            c.val .accumulator i))

/-- Whether a tag may be stored in an output format (R94). -/
def storeOk (t : AccTag) (f : Nat) : Bool :=
  match t with
  | .fp32 => decide (1 ≤ f) && decide (f ≤ 8)
  | .int32 => decide (f ≤ 8) || decide (f = 0xA)
  | .fp64 => decide (f = 8) || decide (f = 9)

/-- The tag with its code, to be carried with a queued instruction. -/
def AccTag.code : AccTag → W64
  | .fp32 => 0
  | .int32 => 1
  | .fp64 => 2
def tagOfCode (v : W64) : AccTag := if v = 1 then .int32 else if v = 2 then .fp64 else .fp32

/-- Fields of ACCST (R74). -/
def accstDst (w : Nat) : Nat := 256 * bitsOf w 89 15
def accstScale (w : Nat) : Nat := 32 * bitsOf w 71 18

/-- The checks of ACCST (R70, R74, R76, R94). -/
def accstCauses (k : Core) (w : Nat) : List (Bool × Nat) :=
  let f := bitsOf w 116 4
  let acc := bitsOf w 112 4
  let t := k.tag acc
  let layout := bitsOf w 105 2
  let so := bitOf w 107
  [(bitOf w 104 || decide (bitsOf w 0 71 ≠ 0) || decide (bitsOf w 110 2 = 3) || decide (layout = 3) || decide (0xA < f), 0x02),
   (!storeOk t f || (so && !isSmall f) || (decide (f = 0xA) && decide (layout ≠ 0)), 0x03),
   ((decide (t = .fp64) || decide (f = 9)) && decide (acc % 2 = 1), 0x04),
   (decide (t = .fp64) && !k.allTag (accBits .fp64 acc) .fp64, 0x05),
   (!inTile (accstDst w) (128 * codeWidth f) || (so && !inTile (accstScale w) 32), 0x06)]

/-- The value of an accumulator element (R94). -/
def accValue (t : AccTag) (v : Nat) : FVal :=
  match t with
  | .fp32 => Fmt.fp32.dec v
  | .fp64 => Fmt.fp64.dec v
  | .int32 => FVal.ofInt (sext v 32)

/-- An element converted for a store without block scales (R95 to R98). -/
def storeElem (t : AccTag) (f : Nat) (mode : RMode) (sat : Bool) (v : Nat) : Nat :=
  match Fmt.ofCode f with
  | some g => g.enc mode sat (accValue t v)
  | none =>
    if f = 0xA then v
    else
      let i := sext v 32
      if sat then wrapN 8 (max (-128) (min 127 i)) else v % 256

/-- The elements of an output block converted with a block scale (R99, R100), and the scale byte. -/
def storeBlock (f : Fmt) (mode : Nat → RMode) (vs : List FVal) : List Nat × Nat :=
  match blockScale f vs with
  | none => (vs.map (fun _ => 0), 0xFF)
  | some (sc, e) =>
    (((List.range vs.length).zip vs).map (fun p => f.enc (mode p.1) true (p.2.scale (-e))), sc)

/-- The bit of the output at which element (i, j) of width `wd` lies (R61, R62). -/
def outBit (f layout i j : Nat) : Nat :=
  let wd := codeWidth f
  let k := if isFp4 f then 32 else (stepK f f).getD 32
  let row := k * wd
  match layout with
  | 1 => j / k * (32 * row) + i * row + j % k * wd
  | 2 => i / k * (32 * row) + j * row + i % k * wd
  | _ => i * (32 * wd) + j * wd

/-- The rounding of element `x` of a store (R95, R96): stochastic rounding takes the draw of its DPU. -/
def storeMode (round draw x : Nat) : RMode :=
  match round with
  | 1 => .rtz
  | 2 => .sr (Config.freeRand16 (draw + x)).toNat
  | _ => .rne

/-- The codes of the 1,024 elements an ACCST writes, by position 32 i + j, and its scale vector (R75, R94 to
R100). -/
def Core.accstCodes (k : Core) (t : AccTag) (w draw : Nat) : List Nat × List Byte :=
  let f := bitsOf w 116 4
  let acc := bitsOf w 112 4
  let mode := storeMode (bitsOf w 110 2) draw
  let v (i j : Nat) : Nat := k.accVal t acc i j
  match bitOf w 107, Fmt.ofCode f with
  | true, some g =>
    let cols := decide (bitsOf w 105 2 = 2)
    let blocks := (List.range 32).map (fun b => storeBlock g
      (fun e => mode (if cols then 32 * e + b else 32 * b + e))
      ((List.range 32).map (fun e => accValue t (if cols then v e b else v b e))))
    ((List.range 1024).map (fun x =>
      if cols then nth 0 (nth ([], 0) blocks (x % 32)).1 (x / 32) else nth 0 (nth ([], 0) blocks (x / 32)).1 (x % 32)),
     blocks.map (fun b => BitVec.ofNat 8 b.2))
  | _, _ =>
    ((List.range 1024).map (fun x => storeElem t f (mode x) (bitOf w 109) (v (x / 32) (x % 32))), [])

/-- ACCST (R74, R75, R94 to R100): checked at issue; in its turn it converts the accumulator into the tile store.
DESIGN CHOICE: where its output and its scale vector overlap, the scale vector is written last (log entry 49). -/
def execAccst (c : Fin 96) (ph : Phase) (s : State) : Out :=
  ok (match ph with
  | .issue => s.issueOp c.val 0x1A (fun w s' =>
      let k := s'.core c.val
      if k.stalls .accumulator then s
      else
        let t := k.tag (bitsOf w 112 4)
        let bits := accBits t (bitsOf w 112 4)
        let d := accstDst w
        s'.checked c.val (accstCauses k w) (fun s =>
          s.enqueue c.val .accumulator w 0 0 t.code bits (if bitOf w 108 then bits else 0) []
            (envelope (((d : Int), 128 * codeWidth (bitsOf w 116 4)) ::
              (if bitOf w 107 then [((accstScale w : Int), 32)] else [])))))
  | .act => s.actHead c.val .accumulator 0x1A (fun i e s =>
      let w := e.word
      let f := bitsOf w 116 4
      let t := tagOfCode e.sc
      let draw := s.freeCtr
      let s := if bitsOf w 110 2 = 2 then { s with freeCtr := draw + 1024 } else s
      (s.modCore c.val (fun k =>
        let out := k.accstCodes t w draw
        let image := ((List.range 1024).zip out.1).foldl
          (fun n p => n + p.2 <<< outBit f (bitsOf w 105 2) (p.1 / 32) (p.1 % 32)) 0
        let k := { k with tile := wrL (wrL k.tile (accstDst w) (leBytes (128 * codeWidth f) image)) (accstScale w) out.2 }
        if bitOf w 108 then k.zeroAcc (accBits t (bitsOf w 112 4)) else k)).finishEntry c.val .accumulator i))

end Sys2Proof.Machine
end

