-- ==== Sys2Proof/Machine/Power.lean ====
section
/-! DEFINITION. Power (chapter Power budgets, droop, thermal and supply limits): the budget exchange, the sluice loop, the
floor power state, droop, ageing trim, thermal and supply limits, THROTTLE_N. -/

namespace Sys2Proof.Machine

/-! The floor power state (R437) -/

/-- Whether the clocks of the dies run (R456 step 4 and after). -/
def State.clocksOn (s : State) : Bool :=
  s.clock.powered && decide (4 ≤ s.clock.step) && !s.clock.gated && decide (s.clock.mode ≠ .recovery)

/-- Whether the steward's supply monitors and inputs act: with power, and not after a thermal trip (R546). -/
def State.monitors (s : State) : Bool := s.clock.powered && !s.power.tripped

/-- Whether a cause of the floor power state holds (R437). -/
def State.floorCause (s : State) : Bool :=
  s.power.supplyWarn || s.power.throttle || s.power.dies.any (fun (e : Nat × DieBudget) => e.2.hot)
  || s.regBit Reg.powerCtrl 0

/-- POWER_FLOOR.GRANT, in 1/8 W. -/
def State.floorGrant (s : State) : Nat := s.regFld Reg.powerFloor 16 12

/-- Where a cause holds, the module enters the floor power state: FLOOR = 1 goes to every compute die at once. -/
def State.floorEnter (s : State) : State :=
  if s.clocksOn ∧ s.floorCause ∧ ¬ s.power.floor then
    let s : State := { s with power := { s.power with floor := true } }
    (List.range 12).foldl (fun (s : State) (d : Nat) => s.modPdie d (fun b =>
      { b with msgs := b.msgs ++ [⟨b.sent.getD s.floorGrant, true, s.regFld Reg.powerInput 16 8, b.seq⟩] })) s
  else s

/-- A power event to every enabled VF (R444). -/
def State.eventAll (s : State) (code data : Nat) : State :=
  if s.host.vfEnable then (List.range 256).foldl (fun s n => s.event n code data) s else s

/-! The budget exchange (R430 to R433) -/

/-- Bits [127:32] of a budget message (R430): TYPE, DIE, bits [118:112], and the fields below. -/
def msgBody (type die flags low : Nat) : Nat := type * 2 ^ 92 + die % 32 * 2 ^ 87 + flags % 128 * 2 ^ 80 + low % 2 ^ 80

/-- The CRC-32C of a budget message (R430). PRESUMED: over its twelve bytes, the most significant first (log entry 59). -/
def msgCrc (body : Nat) : Nat := crc32c (leBytes 12 body).reverse

/-- A budget message as it arrives: its body, where its CRC-32C holds. -/
def msgArrives (body : Nat) (err : LaneErr) : Option Nat :=
  if msgCrc (body ^^^ err.body) = msgCrc body ^^^ err.crc then some (body ^^^ err.body) else none

/-- NMIN (R430): the lowest sluice setting in force on the cores of a die. -/
def State.nMin (s : State) (d : Nat) : Nat :=
  if d < 12 then minN 64 ((List.range 8).map (fun i => s.sluiceInForce (8 * d + i))) else 64

/-- The REPORT of a die (R430): SEQ, POWER, DEMAND, GRANT_ACK, TEMP, NMIN. -/
def State.reportBody (s : State) (d : Nat) (r : ReportMsg) : Nat :=
  let b := s.pdie d
  msgBody 1 d 0 (b.nextSeq % 65536 * 2 ^ 64 + r.power % 65536 * 2 ^ 48 + r.demand % 65536 * 2 ^ 32
    + b.dieGrant.getD 0 % 65536 * 2 ^ 16 + b.temp % 256 * 2 ^ 8 + s.nMin d % 128 * 2)

/-- What the steward notes of a REPORT that arrives. -/
def DieBudget.reported (b : DieBudget) (body : Nat) : DieBudget :=
  { b with
    power := body / 2 ^ 48 % 65536
    demand := body / 2 ^ 32 % 65536
    ack := body / 2 ^ 16 % 65536
    seq := body / 2 ^ 64 % 65536
    rep := .good }

/-- The steward takes a REPORT, where it has arrived whole. -/
def State.takeReport (s : State) (d : Nat) (body : Option Nat) : State :=
  match body with
  | none => (s.bump Reg.powerMsgLost).modPdie d (fun b => { b with rep := .bad })
  | some x => s.modPdie d (fun b => b.reported x)

/-- REPORT (R430, R433): the die sends it; a valid one is noted, one that fails its CRC is discarded and counted. -/
def execReport (d : Fin 17) (r : ReportMsg) (s : State) : Out :=
  ok (if ¬ s.clocksOn then s
  else
    (s.modPdie d.val (fun b => { b with nextSeq := (b.nextSeq + 1) % 65536 })).takeReport d.val
      (msgArrives (s.reportBody d.val r) r.err))

/-- The power a die is taken to draw: as reported, or the grant it last holds (R433). -/
def DieBudget.draws (b : DieBudget) : Nat := if b.rep = .good then b.power else b.sent.getD 0

/-- The power a compute die wants: as reported, or the grant it last holds. -/
def DieBudget.wants (b : DieBudget) : Nat := if b.rep = .good then b.demand else b.sent.getD 0

/-- POWER_CAP as it acts (R445). -/
def State.capWatts (s : State) : Nat := max 500 (min 1500 (s.regFld Reg.powerCap 0 11))

/-- The pool of R431 that is left for the compute dies. -/
def State.budgetPool (s : State) : Int :=
  (s.capWatts * 8 : Nat) - (sumN ((List.range 5).map (fun i => (s.pdie (12 + i)).draws + 16)) : Nat)

/-- The grants of R431 to the twelve compute dies, and whether the cap is unmet. -/
def State.budgetGrants (s : State) : List Nat × Bool :=
  let f := s.floorGrant
  let pool := s.budgetPool
  if pool ≤ (12 * f : Nat) then (List.replicate 12 f, true)
  else
    let extra := pool.toNat - 12 * f
    let want := (List.range 12).map (fun c => max (s.pdie c).wants f)
    let wsum := sumN (want.map (fun w => w - f))
    (want.map (fun w => if wsum = 0 then f else min w (f + extra * (w - f) / wsum)), false)

/-- The grant sent to a die (R432): a lower one at once, a higher one only where raises may go. -/
def sentGrant (old : Option Nat) (g : Nat) (raises : Bool) : Option Nat :=
  match old with
  | none => some g
  | some x => if g < x ∨ raises then some g else some x

/-- Whether a lowered die has acknowledged the grant it was sent (R432). -/
def State.lowerAcked (s : State) (d : Nat) : Bool :=
  decide ((s.pdie d).rep = .good) && decide ((s.pdie d).sent = some (s.pdie d).ack)

/-- The end of an exchange for a die: what did not arrive is dropped, and the new GRANT leaves. -/
def DieBudget.exchanged (b : DieBudget) (grant : Option Nat) (floor : Bool) (eta : Nat) : DieBudget :=
  { b with
    missed := if b.got ∨ b.sent.isNone then 0 else b.missed + 1
    got := false
    rep := .missing
    sent := grant
    msgs := grant.toList.map (fun g => ⟨g, floor, eta, b.seq⟩) }

/-- Whether compute die `d` has a core in service. -/
def State.cdInService (s : State) (d : Nat) : Bool :=
  (List.range 8).any (fun i => decide (s.coreHolder (8 * d + i) ≠ .notInService))

/-- Since when every budget term is at 1 and the measured input power above the cap (R436), and whether that is reported. -/
def State.overCap (s : State) : Option (Nat × Bool) :=
  if (List.range 12).all (fun d => !s.cdInService d || decide ((s.pdie d).nb = 1))
      ∧ s.capWatts * 8 < s.regFld Reg.powerInput 0 16 then
    some (s.power.capOver.getD (s.time.toNat, false))
  else none

/-- BUDGET_EXCHANGE (R429 to R433, R437): messages that have not arrived are counted, the grants are computed and sent,
and the floor power state ends where no cause remains. -/
def execBudgetExchange (inputPower eta : Nat) (s : State) : Out :=
  ok (if ¬ s.clocksOn then s
  else
    let input := min inputPower 65535
    let lost := sumN ((List.range 17).map (fun d =>
      b2n (decide ((s.pdie d).rep = .missing)) + (s.pdie d).msgs.length))
    let s := s.bumpFld Reg.powerMsgLost 0 32 lost
    let s := s.setReg Reg.powerInput (BitVec.ofNat 32 (eta % 256 * 65536 + input))
    let s : State := { s with power := { s.power with energy := s.power.energy + input } }
    let (gs, unmet) := s.budgetGrants
    let s := if unmet then s.setRegBit Reg.powerStatus 27 true else s
    let capOver := s.overCap
    let isLower (c : Nat) : Bool := match (s.pdie c).sent with
      | none => false
      | some x => decide (nth 0 gs c < x)
    let now := (List.range 12).filter isLower
    let old := s.power.lowered.filter (fun c => !s.lowerAcked c)
    let raises := now.isEmpty && old.isEmpty
    let floor := s.power.floor && s.floorCause
    let grantOf (d : Nat) : Option Nat :=
      if d < 12 then sentGrant (s.pdie d).sent (nth 0 gs d) raises else some ((s.pdie d).draws + 16)
    let s' : State := { s with power := { s.power with
      floor := floor, unmet := unmet, capOver := capOver, lowered := now ++ old.filter (fun c => !now.contains c) } }
    (List.range 17).foldl (fun (t : State) (d : Nat) =>
      t.modPdie d (fun b => b.exchanged (grantOf d) (floor && decide (d < 12)) (eta % 256))) s')

/-- A sluice setting as POWER_FLOOR.N and POWER_COREn.MAX act (R445). -/
def clampN (n : Nat) : Nat := if n = 0 then 1 else min n 64

/-- The sluice setting of core `c` of a die with these terms (R434). -/
def State.sluiceN (s : State) (c : Nat) (b : DieBudget) : Nat :=
  let m := min (min b.nb b.nt) (clampN (s.regFld (Reg.powerCore c) 0 7))
  let m := if b.dieFloor then min m (clampN (s.regFld Reg.powerFloor 0 7)) else m
  if b.droop then min m 16 else m

/-- The cores of compute die `d` take their settings; each applies from the core's next 64-ACLK window (R434). -/
def State.setSluice (s : State) (d : Nat) : State :=
  (List.range 8).foldl (fun (s : State) (i : Nat) =>
    let n := s.sluiceN (8 * d + i) (s.pdie d)
    s.modCore (8 * d + i) (fun k => { k with sluiceNext := n })) s

/-- Bits [127:32] of a GRANT to a die (R430). -/
def GrantMsg.body (m : GrantMsg) (d : Nat) : Nat :=
  msgBody 2 d (b2n m.floor * 64) (m.seq % 65536 * 2 ^ 64 + m.grant % 65536 * 2 ^ 48 + m.eta % 256 * 2 ^ 40)

/-- What a die takes from a GRANT that arrives. -/
def DieBudget.granted (b : DieBudget) (body : Nat) : DieBudget :=
  { b with
    dieGrant := some (body / 2 ^ 48 % 65536)
    eta := body / 2 ^ 40 % 256
    got := true
    missed := 0
    dieFloor := decide (body / 2 ^ 86 % 2 = 1) }

/-- A die takes a GRANT, where it has arrived whole. -/
def State.takeGrant (s : State) (d : Nat) (body : Option Nat) : State :=
  match body with
  | none => s.bump Reg.powerMsgLost
  | some x =>
    let s := s.modPdie d (fun b => b.granted x)
    if (s.pdie d).dieFloor ∧ d < 12 then s.setSluice d else s

/-- GRANT (R430, R433, R437, R446): the oldest message on its way to a die arrives. FLOOR = 1 acts at once; FLOOR = 0 lets
the budget terms return at the next loop. -/
def execGrant (d : Fin 17) (err : LaneErr) (s : State) : Out :=
  ok (match (s.pdie d.val).msgs with
    | [] => s
    | m :: rest =>
      (s.modPdie d.val (fun b => { b with msgs := rest })).takeGrant d.val (msgArrives (m.body d.val) err))

/-- GRANT_TIMEOUT (R433): a compute die without a valid GRANT in three exchanges takes the floor grant. -/
def execGrantTimeout (d : Fin 12) (s : State) : Out :=
  ok (if s.clocksOn ∧ 3 ≤ (s.pdie d.val).missed then
    s.modPdie d.val (fun b => { b with dieGrant := some s.floorGrant })
  else s)

/-! The sluice loop (R434, R435, R441) -/

/-- The budget term after a loop (R435): `p` is the measured input-referred power, `g` the grant. -/
def budgetTerm (nb p g : Nat) : Nat :=
  if g < p then max (nb - max 1 (nb * (p - g) / p)) 1
  else if p ≤ g - g / 64 then min (nb + 1) 64
  else nb

/-- The measured input-referred power. An ETA of 0 gives no quotient: the power is then a free value (log entry 6). -/
def inputReferred (draw power eta : Nat) : Nat := if eta = 0 then Config.freeNat draw else power * 256 / eta

/-- The thermal term of a compute die after a loop (R441), with its own temperature and its base die's. -/
def thermalTerm (nt temp base : Nat) : Nat :=
  if 95 < temp then max (nt - 1) 1
  else if temp < 93 ∧ base < 93 then min (nt + 1) 64
  else nt

/-- A die's hottest junction is read (R441): above 105 °C it is a cause of the floor power state, with a record, PF vector 2
and an event; below 103 °C that ends. -/
def State.junction (s : State) (d temp : Nat) : State :=
  let was := (s.pdie d).hot
  let s := s.modPdie d (fun b => { b with temp := temp % 256 })
  if ¬ was ∧ 105 < temp then
    let s := s.modPdie d (fun b => { b with hot := true })
    (((s.record (ErrRec.mk0 0 0x0A 1 d)).vecPf 2).eventAll 0x43 1).floorEnter
  else if was ∧ temp < 103 then (s.modPdie d (fun b => { b with hot := false })).eventAll 0x43 0
  else s

/-- The thermal trip (R441, R446): the fatal record is written, every rail but the steward's is off, THERMTRIP_N is asserted;
only a power-on ends this. -/
def State.trip (s : State) (d : Nat) : State :=
  let s := (s.fatalRecord (ErrRec.mk0 2 0x0A 2 d)).discard 6 (fun _ => true)
  { s with
    power := { s.power with tripped := true }
    fw := s.fw.cut
    clock := { s.clock with mode := .off, step := 0, gated := true } }

/-- SLUICE_LOOP (R434, R435, R441): a die controller reads its sensors; a compute die sets NB, NT and its cores' settings; a
base die above 95 °C lowers NT of its three compute dies. -/
def execSluiceLoop (d : Fin 17) (power temp : Nat) (s : State) : Out :=
  ok (if ¬ s.clocksOn then s
  else
    let d := d.val
    let s := s.junction d temp
    if 115 ≤ temp ∧ s.monitors then s.trip d
    else if d < 12 then
      let (k, s) := s.draw
      let base := (s.pdie (12 + d / 3)).temp
      let s := s.modPdie d (fun b => { b with
        nb := match b.dieGrant with
          | none => b.nb
          | some g => budgetTerm b.nb (inputReferred k power b.eta) g
        nt := thermalTerm b.nt temp base })
      (s.setSluice d).modPdie d (fun b => { b with droop := false })
    else if d < 16 ∧ 95 < temp then
      (List.range 3).foldl (fun (s : State) (i : Nat) =>
        s.modPdie (3 * (d - 12) + i) (fun b => { b with nt := max (b.nt - 1) 1 })) s
    else s)

/-- CAP_UNMET (R436): with every budget term at 1 the measured input power has stayed above the cap for 1 ms. -/
def execCapUnmet (s : State) : Out :=
  ok (match s.power.capOver with
    | some (t, false) =>
      if s.clocksOn ∧ t + 100000 ≤ s.time.toNat then
        (({ s with power := { s.power with capOver := some (t, true) } }).setRegBit Reg.powerStatus 27 true).vecPf 2
      else s
    | _ => s)

/-- A write of POWER_CTRL (R437). -/
def State.writePowerCtrl (s : State) (on : Bool) : State := (s.setRegBit Reg.powerCtrl 0 on).floorEnter

/-- FORCE_FLOOR (R437): the floor power state is entered at once, and left at the next exchange. -/
def execForceFloor (on : Bool) (s : State) : Out := ok (if s.portServes then s.writePowerCtrl on else s)

/-! Droop and ageing (R438 to R440) -/

/-- DROOP (R438): the die's clock is stretched, which is one event until the stretch ends; the droop term applies from
the next windows for one loop. -/
def execDroop (d : Fin 12) (_ : Fin 8) (s : State) : Out :=
  ok (if ¬ s.clocksOn then s
  else
    let s := if (s.pdie d.val).stretched then s else s.bump (Reg.powerDieStretch d.val)
    (s.modPdie d.val (fun b => { b with stretched := true, droop := true })).setSluice d.val)

/-- STRETCH_END (R438). -/
def execStretchEnd (d : Fin 12) (s : State) : Out :=
  ok (s.modPdie d.val (fun b => { b with stretched := false }))

/-- STRETCH_LIMIT (R439): module-fatal. -/
def execStretchLimit (d : Fin 12) (s : State) : Out :=
  ok (if (s.pdie d.val).stretched then s.fatal (ErrRec.mk0 2 0x0A 3 d.val) else s)

/-- The byte that codes a trim (R471). -/
def trimCode (t : Nat) : Byte := BitVec.ofNat 8 (nth 0 trimCodes t)

/-- A die's trim falls to what the monitors allow; each change is written to the calibration set (R440). -/
def State.lowerTrim (s : State) (d allowed : Nat) : State :=
  if allowed < (s.pdie d).trim then
    let s := s.modPdie d (fun b => { b with trim := allowed })
    { s with peat := { s.peat with ops := s.peat.ops ++ [.trim d (trimCode allowed)] } }
  else s

/-- AGEING_TRIM (R440): the reading of the monitors, 3.6 × 10^11 ticks after the last one. -/
def execAgeingTrim (allowed : List Nat) (s : State) : Out :=
  ok (if ¬ s.clocksOn ∨ s.time.toNat < s.power.trimAt + 360000000000 then s
  else (List.range 17).foldl (fun s d => s.lowerTrim d (nth 7 allowed d))
    { s with power := { s.power with trimAt := s.time.toNat } })

/-! Thermal trip and supply (R441, R442) -/

/-- THERMAL_TRIP (R441, R446): a junction has reached 115 °C. -/
def execThermalTrip (d : Fin 17) (temp : Nat) (s : State) : Out :=
  ok (if ¬ s.monitors ∨ temp < 115 then s else s.trip d.val)

/-- The warning threshold as it acts, in 0.1 V (R442, R445). -/
def State.warnLevel (s : State) : Nat := max 420 (min 460 (s.regFld Reg.powerSupply 0 9))

/-- SUPPLY_WARN (R442): the input is below WARN. -/
def execSupplyWarn (vin : Nat) (s : State) : Out :=
  ok (if ¬ s.monitors ∨ s.power.supplyWarn ∨ s.warnLevel ≤ vin then s
  else
    let s : State := { s with power := { s.power with supplyWarn := true, vin := vin } }
    (((s.bump Reg.powerWarnCount).floorEnter).vecPf 2).eventAll 0x40 0)

/-- SUPPLY_OK (R442): the input has been at or above WARN + 1 V for 1 ms. -/
def execSupplyOk (vin : Nat) (s : State) : Out :=
  ok (if s.monitors ∧ s.power.supplyWarn ∧ s.warnLevel + 10 ≤ vin then
    ({ s with power := { s.power with supplyWarn := false, vin := vin } }).eventAll 0x41 0
  else s)

/-- SUPPLY_RESET (R442, R454): the input is below 40 V. -/
def execSupplyReset (vin : Nat) (s : State) : Out :=
  ok (if ¬ s.monitors ∨ 400 ≤ vin ∨ s.power.supplyReset then s
  else
    let was := s.clock.mode
    let s : State := { s with power := { s.power with supplyReset := true, vin := vin } }
    let s := s.moduleReset 1 keepsReset 3
    if was = .recovery then { s with clock := { s.clock with mode := .recovery } } else s)

/-! THROTTLE_N (R443) -/

/-- A recognised assertion, or a further second of it, is reported. -/
def State.throttleEvents (s : State) : State := (s.vecPf 2).eventAll 0x42 0

/-- THROTTLE (R443, R541): a low level of 1 µs is recognised. -/
def execThrottle (s : State) : Out :=
  ok (if ¬ s.monitors ∨ ¬ s.side.vrefGood ∨ s.power.throttle ∨ s.clock.mode = .recovery then s
  else
    let now := s.time.toNat
    let s : State := { s with power := { s.power with throttle := true, throttleAt := now, throttleEvent := now } }
    ((s.bump Reg.powerThrottleCount).floorEnter).throttleEvents)

/-- THROTTLE_RELEASE (R443): the input has been high for 50 µs and the hold of 50 µs has run out. -/
def execThrottleRelease (s : State) : Out :=
  ok (if s.power.throttle ∧ s.power.throttleAt + 5000 ≤ s.time.toNat then
    { s with power := { s.power with throttle := false } }
  else s)

/-- THROTTLE_REPEAT (R443): every further 10^8 ticks of continuous assertion. -/
def execThrottleRepeat (s : State) : Out :=
  ok (if s.power.throttle ∧ s.power.throttleEvent + 100000000 ≤ s.time.toNat then
    ({ s with power := { s.power with throttleEvent := s.power.throttleEvent + 100000000 } }).throttleEvents
  else s)

end Sys2Proof.Machine
end

