-- ==== Sys2Proof/Machine/Peat.lean ====
section
/-! DEFINITION. The peat store (chapter The peat store, configuration record and calibration): the configuration record
and its defaults, the calibration set, the error journal, the CALIB operations. -/

namespace Sys2Proof.Machine

/-- The 32-bit word at a byte offset of an image. -/
def word32 (bs : List Byte) (off : Nat) : Nat := leNat ((bs.drop off).take 4)

/-- Replace the bytes of an image from an offset. -/
def putBytes (bs : List Byte) (off : Nat) (new : List Byte) : List Byte :=
  bs.take off ++ new ++ bs.drop (off + new.length)

/-- An area as it is read: erased bytes are 0xFF. -/
def flashBytes (len : Nat) (bs : List Byte) : List Byte := bs ++ List.replicate (len - bs.length) 0xFF

/-! The configuration record (R466 to R469) -/

/-- Whether a copy is valid (R467). -/
def recordValid (bs : List Byte) : Bool :=
  decide (bs.length = 512) && decide (word32 bs 0 = 0x4B434647) && decide (word32 bs 4 = 512 * 65536 + 1)
  && decide (word32 bs 0x1FC = crc32c (bs.take 0x1FC))

/-- Reserved bits of the word at an offset (R466). -/
def confResv (off : Nat) : Nat :=
  if off = 0 ∨ off = 4 ∨ off = 8 ∨ off = 0x20 ∨ off = 0x1FC then 0
  else if off = 0x10 then 0xFFFFC0F8
  else if off = 0x14 then 0xFE00F800
  else if off = 0x18 then 0x0FFFFF80
  else if off = 0x24 then 0xFFFF0000
  else if 0x40 ≤ off ∧ off < 0x130 then
    if off % 16 < 8 then 0 else if off % 16 = 8 then 0xFFFF0000 else 0x7FFFFC00
  else 0xFFFFFFFF

/-- Whether a reserved bit of a word is set. -/
def confBad (bs : List Byte) (off : Nat) : Bool := decide (word32 bs off &&& confResv off ≠ 0)

/-- A field of a record: its byte offset and lowest bit, whether it takes its default under R467, its value. -/
structure ConfField where
  off : Nat
  lo : Nat
  bad : Bool
  value : Nat
deriving DecidableEq, Repr

/-- A field with a default code: `bad` where its word has a reserved bit or its value is out of range. -/
def confField (bs : List Byte) (off lo len dflt : Nat) (zero : Bool) (fits : Nat → Bool) : ConfField :=
  let v := bitsOf (word32 bs off) lo len
  let bad := confBad bs off || !fits v
  ⟨off, lo, bad, if bad || (zero && decide (v = 0)) then dflt else v⟩

/-- The fields of CLASS_k (R466, R467): CHANNELS, and VALID with COUNT. -/
def classFields (bs : List Byte) (k : Nat) : List ConfField :=
  let base := 0x40 + 16 * (k - 1)
  let badCh := confBad bs base || confBad bs (base + 4) || confBad bs (base + 8)
  let ch := if badCh then 0 else leNat ((bs.drop base).take 10)
  let w := word32 bs (base + 12)
  let count := bitsOf w 0 10
  let valid := bitOf w 31
  let badV := confBad bs (base + 12) || decide (620 < count) || (valid && (decide (count = 0) || decide (ch = 0)))
  [⟨base, 0, badCh, ch⟩, ⟨base + 12, 0, badV, if badV then 0 else w⟩]

/-- Every field of a valid copy (R466, R467); `mac` is the fused address. -/
def confFields (bs : List Byte) (mac : Nat) : List ConfField :=
  let demand := confField bs 0x10 0 3 2 true (fun v => decide (v ≤ 4))
  let s := 15 - demand.value
  let macV := leNat ((bs.drop 0x20).take 6)
  let badM := confBad bs 0x20 || confBad bs 0x24 || bitOf macV 40
  [demand,
   confField bs 0x10 8 6 s true (fun v => decide (v = 0) || (decide (s ≤ v) && decide (v ≤ 2 * s))),
   confField bs 0x14 16 9 440 true (fun v => decide (v = 0) || (decide (420 ≤ v) && decide (v ≤ 460))),
   confField bs 0x14 0 11 1400 true (fun v => decide (v = 0) || (decide (500 ≤ v) && decide (v ≤ 1500))),
   confField bs 0x18 31 1 1 false (fun _ => true),
   confField bs 0x18 30 1 0 false (fun _ => true),
   confField bs 0x18 28 2 0 false (fun v => decide (v ≤ 2)),
   confField bs 0x18 0 7 0x5A true (fun v => decide (v = 0) || (decide (8 ≤ v) && decide (v ≤ 0x77))),
   ⟨0x20, 0, badM, if badM || decide (macV = 0) then mac else macV⟩]
  ++ (List.range 15).flatMap (fun i => classFields bs (i + 1))

/-- The value of the field at an offset and lowest bit. -/
def confGet (fs : List ConfField) (off lo : Nat) : Nat :=
  match fs.find? (fun f => decide (f.off = off) && decide (f.lo = lo)) with
  | some f => f.value
  | none => 0

/-- Words that hold no field and have a bit set (R467). -/
def confStray (bs : List Byte) : List Nat :=
  ((List.range 128).map (fun i => 4 * i)).filter (fun off => decide (confResv off = 0xFFFFFFFF) && confBad bs off)

/-- The record in force with defaults filled in (R479 READ_ACTIVE). -/
def confImage (seq : Nat) (fs : List ConfField) : List Byte :=
  let g := confGet fs
  let cls := (List.range 15).flatMap (fun i =>
    leBytes 12 (g (0x40 + 16 * i) 0) ++ leBytes 4 (g (0x4C + 16 * i) 0))
  let body := leBytes 4 0x4B434647 ++ leBytes 4 (512 * 65536 + 1) ++ leBytes 4 seq ++ leBytes 4 0
    ++ leBytes 4 (g 0x10 8 * 256 + g 0x10 0) ++ leBytes 4 (g 0x14 16 * 65536 + g 0x14 0)
    ++ leBytes 4 (g 0x18 31 * 2 ^ 31 + g 0x18 30 * 2 ^ 30 + g 0x18 28 * 2 ^ 28 + g 0x18 0) ++ leBytes 4 0
    ++ leBytes 8 (g 0x20 0) ++ leBytes 24 0 ++ cls ++ leBytes 204 0
  body ++ leBytes 4 (crc32c body)

/-- The image whose every field holds its default code. -/
def confDefault : List Byte := leBytes 24 0 ++ leBytes 4 (2 ^ 31) ++ leBytes 484 0

/-- The copy that governs (R468): the valid one with the later SEQ, copy 0 on a tie. -/
def laterCopy (copies : List (List Byte)) : Option Nat :=
  let a := nth [] copies 0
  let b := nth [] copies 1
  match recordValid a, recordValid b with
  | true, true => if laterSeq (word32 b 8) (word32 a 8) then some 1 else some 0
  | true, false => some 0
  | false, true => some 1
  | false, false => none

/-- A field of the record in force. -/
def State.conf (s : State) (off lo len : Nat) : Nat := bitsOf (word32 s.peat.record off) lo len

/-- Step 3 reads the record (R468): SRC, DEFAULTED and SEQ, a journalled record for each field and word at fault or for
the lack of a valid copy. -/
def State.readConfig (s : State) : State :=
  let src := laterCopy s.peat.copies
  let bs := match src with
    | some c => nth [] s.peat.copies c
    | none => confDefault
  let fs := confFields bs s.fac.mac
  let seq := word32 bs 8
  let bad := fs.filter (·.bad)
  let stray := confStray bs
  let names := bad.map (fun f => (f.off, f.lo)) ++ stray.map (fun off => (off, 0))
  let s : State := { s with peat := { s.peat with record := confImage seq fs } }
  let s := s.setReg Reg.calibRecord (BitVec.ofNat 32
    ((match src with | some c => c + 1 | none => 0) * 2 ^ 30 + b2n (!names.isEmpty) * 2 ^ 29 + seq % 2 ^ 24))
  let s := names.foldl (fun s n => s.record { ErrRec.mk0 0 0x0B 3 0 with
    note := leBytes 2 n.1 ++ leBytes 2 n.2 }) s
  match src with
  | some _ => s
  | none => s.record (ErrRec.mk0 1 0x0B 4 0)

/-- Registers and the sideband address take the record's values (R424, R429, R442, R466, R542). -/
def State.applyConfig (s : State) : State :=
  let s := s.setRegFld Reg.powerCap 0 11 (s.conf 0x14 0 11)
  let s := s.setRegFld Reg.powerSupply 0 9 (s.conf 0x14 16 9)
  let s := s.setRegFld Reg.netportCtrl 28 4 (s.conf 0x18 31 1 * 8 + s.conf 0x18 30 1 * 4 + s.conf 0x18 28 2)
  let s := s.setReg64 Reg.netportMac (leNat ((s.peat.record.drop 0x20).take 6))
  { s with side := { s.side with staticAddr := s.conf 0x18 0 7 } }

/-! The calibration set (R470 to R473) -/

/-- Whether a set is valid (R472). -/
def calValid (bs : List Byte) : Bool :=
  decide (bs.length = 2048) && decide (word32 bs 0 = 0x4B43414C) && decide (word32 bs 4 = 2048 * 65536 + 1)
  && decide (word32 bs 0x7BC = crc32c (bs.take 0x7BC))

/-- The trim a set stores for a die, in 5 mV steps (R471): 0 for a code that is not valid. -/
def storedTrim (bs : List Byte) (d : Nat) : Nat :=
  let b := (nth 0xFF bs (0x7C0 + d)).toNat
  match trimCodes.findIdx? (fun c => decide (c = b)) with
  | some t => t
  | none => 0

/-- Step 3 reads the calibration set (R470, R472): STATE and WRITES, and a record for an invalid one. -/
def State.readCalibration (s : State) : State :=
  let bs := s.peat.cal
  let valid := calValid bs
  let st := if valid then bitsOf (word32 bs 8) 31 1 else if bs.isEmpty then 3 else 2
  let s : State := { s with peat := { s.peat with calInForce := if valid then bs else [] } }
  let s := s.setReg Reg.calibCal (BitVec.ofNat 32 (st * 2 ^ 30 + (if bs.isEmpty then 0 else word32 bs 8 % 65536)))
  if st = 2 then s.record (ErrRec.mk0 1 0x0B 5 0) else s

/-- The set as WRITE_CAL stores an image (R473): ORIGIN 1, WRITES counted, CRC recomputed, trims as given. -/
def calStored (old bs : List Byte) : List Byte :=
  let writes := satAdd 0xFFFF (if old.isEmpty then 0 else word32 old 8 % 65536) 1
  let bs := putBytes bs 8 (leBytes 4 (2 ^ 31 + writes))
  putBytes bs 0x7BC (leBytes 4 (crc32c (bs.take 0x7BC)))

/-! The journal (R474 to R478) -/

/-- The 256 bytes of an entry (R474); bytes without content in the rule are free (log entry 6). -/
def JEntry.bytes (e : JEntry) : List Byte :=
  let body := e.body.take 224
  let head := leBytes 4 0x4B4A4E4C ++ leBytes 4 e.seq ++ leBytes 4 e.start ++ leBytes 8 e.time ++ leBytes 1 e.kind
    ++ leBytes 1 e.sev ++ leBytes 2 body.length ++ (List.range 4).map (fun i => Config.freeJournal e.seq (24 + i))
  let n := 32 + body.length
  head ++ leBytes 4 (crc32c (head ++ body)) ++ body
    ++ (List.range (256 - n)).map (fun i => Config.freeJournal e.seq (n + i))

/-- The entries of the journal, from either sector kind. -/
def PeatSt.entries (p : PeatSt) : List JEntry := p.ring.map (·.2) ++ p.fatal

/-- The newest entry (R475). -/
def PeatSt.newest (p : PeatSt) : Option JEntry :=
  p.entries.foldl (fun a e => match a with
    | none => some e
    | some x => if laterSeq e.seq x.seq then some e else some x) none

/-- A start entry (R475, R478), which carries CLOCKTIME_CAUSE. -/
def State.startEntry (s : State) : State :=
  s.program ⟨0, s.peat.jstart, s.time.toNat, 1, 0, leBytes 4 (s.reg Reg.clocktimeCause).toNat⟩

/-- Step 3 continues SEQ and START from the newest entry, takes over the count carried from a fatal restart, and writes
a start entry (R475, R477). -/
def State.openJournal (s : State) : State :=
  let (q, n) := match s.peat.newest with
    | some e => ((e.seq + 1) % 2 ^ 32, (e.start + 1) % 2 ^ 32)
    | none => (0, 0)
  let s := s.setReg Reg.calibJournalLost (BitVec.ofNat 32 s.peat.carried)
  ({ s with peat := { s.peat with jseq := q, jstart := n, carried := 0 } }).startEntry

/-- The oldest waiting entry is programmed (R474, R477), once no other flash operation waits (R465). -/
def State.programNext (s : State) : State :=
  match s.peat.ops, s.peat.waiting with
  | [], e :: rest => ({ s with peat := { s.peat with waiting := rest, retried := false } }).program e
  | _, _ => s

/-- JOURNAL_ENTRY (R474 to R477). -/
def execJournalEntry (s : State) : Out := ok (if s.clock.powered then s.programNext else s)

/-- SUPPRESSED_ENTRY (R477): the entry that follows a window with withheld entries gives their counts by severity and
class. -/
def execSuppressedEntry (s : State) : Out :=
  ok (if s.clock.powered ∧ ¬ s.peat.withheld.isEmpty ∧ s.peat.windowAt + 100000000 ≤ s.time.toNat then
    let body := s.peat.withheld.flatMap (fun w => leBytes 1 0 ++ leBytes 3 w.1 ++ leBytes 4 w.2)
    let e : JEntry := ⟨0, s.peat.jstart, s.time.toNat, 2, 0, body⟩
    { s with peat := { s.peat with waiting := s.peat.waiting ++ [e], withheld := [], windowCount := 0 } }
  else s)

/-! CALIB operations (R479) -/

/-- An operation ends with a result. -/
def State.calibDone (s : State) (result : Nat) : State :=
  (({ s with peat := { s.peat with cmd := none } }).setRegFld Reg.calibStatus 0 8 result).setRegFld Reg.calibStatus 30 2 1

/-- Bytes go into CALIB_BUF from byte 0. -/
def State.fillCalibBuf (s : State) (bs : List Byte) : State :=
  s.setRegs (Reg.calibBuf 0) ((List.range ((bs.length + 3) / 4)).map (fun i => BitVec.ofNat 32 (word32 bs (4 * i))))

/-- The first bytes of CALIB_BUF. -/
def State.calibImage (s : State) (len : Nat) : List Byte :=
  (s.regList (Reg.calibBuf 0) (len / 4)).flatMap (fun w => leBytes 4 w.toNat)

/-- An operation of the flash begins; BUSY sets. -/
def State.calibStart (s : State) (op : Nat) (f : FlashOp) : State :=
  ({ s with peat := { s.peat with cmd := some op, ops := s.peat.ops ++ [f] } }).setRegBit Reg.calibStatus 31 true

/-- WRITE_RECORD (R469): the image of CALIB_BUF is checked; the copy other than the later valid one takes it. -/
def State.writeRecord (s : State) : State :=
  let bs := s.calibImage 512
  if ¬ recordValid bs then s.calibDone 2
  else if (confFields bs s.fac.mac).any (·.bad) ∨ ¬ (confStray bs).isEmpty then s.calibDone 3
  else
    let (target, seq) := match laterCopy s.peat.copies with
      | some c => (1 - c, (word32 (nth [] s.peat.copies c) 8 + 1) % 2 ^ 32)
      | none => (0, 1)
    let bs := putBytes bs 8 (leBytes 4 seq)
    s.calibStart 1 (.record target (putBytes bs 0x1FC (leBytes 4 (crc32c (bs.take 0x1FC)))))

/-- GO of CALIB_CMD with an operation and a key (R478, R479); one that arrives while BUSY sets OVERRUN. -/
def State.calibGo (s : State) (op : Nat) (key : Byte) : State :=
  if ¬ s.portServes then s
  else
    let s := s.setRegFld Reg.calibCmd 0 4 op
    if s.peat.cmd.isSome then s.setRegBit Reg.calibStatus 29 true
    else
      match op with
      | 0 =>
        let c := laterCopy s.peat.copies
        (s.fillCalibBuf (flashBytes 512 (nth [] s.peat.copies (c.getD 0)))).calibDone (if c.isSome then 0 else 6)
      | 1 => s.writeRecord
      | 2 => (s.fillCalibBuf (flashBytes 2048 s.peat.cal)).calibDone (if calValid s.peat.cal then 0 else 6)
      | 3 =>
        let bs := s.calibImage 2048
        if key ≠ 0xC5 then s.calibDone 4
        else if ¬ calValid bs then s.calibDone 2
        else s.calibStart 3 (.cal (calStored s.peat.cal bs))
      | 4 =>
        match s.peat.entries.find? (fun e => decide (e.seq = (s.reg Reg.calibJournalSel).toNat)) with
        | some e => (s.fillCalibBuf e.bytes).calibDone 0
        | none => s.calibDone 5
      | 5 => (s.fillCalibBuf s.peat.record).calibDone 0
      | 6 => if key ≠ 0xC5 then s.calibDone 4 else s.calibStart 6 .clear
      | _ => s.calibDone 1

/-- READ_RECORD (R479). -/
def execReadRecord (s : State) : Out := ok (s.calibGo 0 0)

/-- WRITE_RECORD (R469). -/
def execWriteRecord (s : State) : Out := ok (s.calibGo 1 0)

/-- READ_CAL (R479). -/
def execReadCal (s : State) : Out := ok (s.calibGo 2 0)

/-- WRITE_CAL (R473). -/
def execWriteCal (key : Byte) (s : State) : Out := ok (s.calibGo 3 key)

/-- READ_JOURNAL (R478). -/
def execReadJournal (s : State) : Out := ok (s.calibGo 4 0)

/-- READ_ACTIVE (R479). -/
def execReadActive (s : State) : Out := ok (s.calibGo 5 0)

/-- CLEAR_JOURNAL (R478). -/
def execClearJournal (key : Byte) (s : State) : Out := ok (s.calibGo 6 key)

/-- The journal is erased; a start entry continues SEQ and START (R478). -/
def State.clearJournal (s : State) : State :=
  ({ s with peat := { s.peat with ring := [], ringPos := 0, fatal := [] } }).startEntry

end Sys2Proof.Machine
end

