-- ==== Sys2Proof/Machine/Clocks.lean ====
section
/-! DEFINITION. Clocks, resets and start-up (chapters Clocks, elapsed time, reset and start-up; The module, its dies and its
three planes; and the rules they name): the selection of a firmware set, the ten steps, the pool, the reset
kinds, orderly power-down. -/

namespace Sys2Proof.Machine

/-! Firmware sets (R485 to R490) -/

/-- The state of a set (R487): 0 EMPTY, 1 STAGED, 2 TRIAL, 3 CONFIRMED, 4 REJECTED. -/
def FwSet.state (f : FwSet) : Nat :=
  if ¬ f.magic then 0
  else if f.rejected then 4
  else if f.confirmed then 3
  else if f.trial then 2
  else if f.staged then 1
  else 0

/-- Whether a header passes the checks of R484 that a stored set can fail later: its key slot is not revoked and its SVN is
not below the floor. -/
def State.headerOk (s : State) (k : Nat) : Bool :=
  let f := s.fw.fwset k
  f.magic && decide (s.fac.svnFloor ≤ f.svn) && !bitOf s.fac.revoked f.keySlot

/-- Whether a set verifies at step 2 (R485). -/
def State.verifies (s : State) (e : StartEnv) (k : Nat) : Bool :=
  (if k = 0 then e.setAOk else e.setBOk) && s.headerOk k

/-- The sets the ROM tries, in order (R488, R489). -/
def State.candidates (s : State) : List Nat :=
  let st (k : Nat) : Nat := (s.fw.fwset k).state
  if 3 ≤ s.clock.resets5 then
    let k := 1 - s.fw.lastSel
    if st k = 3 then [k] else []
  else
    let confirmed := if laterSeq s.fw.setB.actSeq s.fw.setA.actSeq then [1, 0] else [0, 1]
    [0, 1].filter (fun k => decide (st k = 1)) ++ confirmed.filter (fun k => decide (st k = 3))

/-- Try the candidates: one that does not verify becomes REJECTED; a STAGED one that does becomes TRIAL. -/
def State.trySets (e : StartEnv) : List Nat → State → State × Option Nat
  | [], s => (s, none)
  | k :: ks, s =>
    if s.verifies e k then
      let staged := decide ((s.fw.fwset k).state = 1)
      ({ s with fw := { s.fw.modSet k (fun f => { f with trial := f.trial || staged }) with
          active := k, lastSel := k, trial := staged, accepted := false, armed := s.time.toNat } }, some k)
    else State.trySets e ks { s with fw := s.fw.modSet k (fun f => { f with rejected := true }) }

/-- A set that is TRIAL at step 2 becomes REJECTED (R488). -/
def FwSet.endTrial (f : FwSet) : FwSet := if f.state = 2 then { f with rejected := true } else f

/-- The selection of step 2 (R488 to R490). -/
def State.selectSet (s : State) (e : StartEnv) : State × Option Nat :=
  let s : State := { s with fw := { s.fw with
    setA := s.fw.setA.endTrial, setB := s.fw.setB.endTrial, trial := false } }
  State.trySets e s.candidates s

/-- A trial ends without confirmation (R492): REJECTED is programmed, a contained entry with the cause is journalled, and
the steward performs a module reset of a kind. -/
def State.endTrial (s : State) (cause kind : Nat) : State :=
  let s : State := { s with fw := { s.fw.modSet s.fw.active (fun f => { f with rejected := true }) with trial := false } }
  let r : ErrRec := { ErrRec.mk0 1 0x0B 6 0 with seq := s.err.seq, time := s.time.toNat }
  let s := (s.bump (Reg.errorClassCount 0x0B)).nextSeq
  let s := s.program ⟨0, s.peat.jstart, s.time.toNat, 0, 1, r.bytes ++ leBytes 4 cause⟩
  let s := s.stewardRestart.moduleReset kind keepsReset 1
  if kind = 5 then { s with clock := { s.clock with resets5 := s.clock.resets5 + 1 } } else s

/-! Units in service (R18, R24, R457) -/

/-- Failed lanes of a group of a causeway direction. -/
def failedLanes (e : StartEnv) (n : Nat) (dirB : Bool) (g : Nat) : Nat :=
  sumN ((e.lanes.filter (fun f => decide (f.causeway = n) && decide (f.dirB = dirB) && decide (f.group = g))).map
    (·.failed))

/-- Groups of a causeway direction in service (R18): a group has one spare. -/
def cwGroups (e : StartEnv) (n : Nat) (dirB : Bool) : Nat :=
  ((List.range 36).filter (fun g => decide (failedLanes e n dirB g ≤ 1))).length

/-- Spare lanes switched in. -/
def cwSpares (e : StartEnv) (n : Nat) (dirB : Bool) : Nat :=
  ((List.range 36).filter (fun g => decide (failedLanes e n dirB g = 1))).length

/-- Whether a causeway has a disabled group. -/
def cwDegraded (e : StartEnv) (n : Nat) : Bool :=
  decide (cwGroups e n false < 36) || decide (cwGroups e n true < 36)

/-- Whether both directions of a causeway have a group in service. -/
def cwUp (e : StartEnv) (n : Nat) : Bool := decide (0 < cwGroups e n false) && decide (0 < cwGroups e n true)

/-- Whether core `c` is enabled by fuse, passes its test, and sits on a die whose cache passed (R24, R457). -/
def State.corePasses (s : State) (e : StartEnv) (c : Nat) : Bool :=
  fld s.fac.fuseMap c 1 == 1 && !e.coreFail.contains c && !e.dieCacheFail.contains (dieOfCore c)

/-- Cores of base die `b` that pass. -/
def State.bdCores (s : State) (e : StartEnv) (b : Nat) : Nat :=
  ((List.range 24).filter (fun i => s.corePasses e (24 * b + i))).length

/-- One round of R457: the first ring causeway without a group between two base dies in service takes the one with fewer
cores, on a tie the higher-numbered, out of service. -/
def State.dropBd (s : State) (e : StartEnv) (bds : List Nat) : List Nat :=
  match (List.range 4).find? (fun n => bds.contains n && bds.contains ((n + 1) % 4) && !cwUp e n) with
  | none => bds
  | some n =>
    let a := min n ((n + 1) % 4)
    let b := max n ((n + 1) % 4)
    let out := if s.bdCores e a < s.bdCores e b then a else b
    bds.filter (fun x => !decide (x = out))

/-- The base dies in service (R457). -/
def State.bdsIn (s : State) (e : StartEnv) : List Nat :=
  let start := (List.range 4).filter (fun k => cwUp e (4 + k))
  (List.range 4).foldl (fun l _ => s.dropBd e l) start

/-- g_min (R155, R457). -/
def State.gMin (s : State) (e : StartEnv) : Nat :=
  let bds := s.bdsIn e
  let counts (n : Nat) : Bool :=
    if n < 4 then bds.contains n && bds.contains ((n + 1) % 4) else bds.contains (n - 4)
  minN 36 (((List.range 8).filter counts).flatMap (fun n => [cwGroups e n false, cwGroups e n true]))

/-- Cores in service: the core map (R24, R457). -/
def State.coreMap (s : State) (e : StartEnv) : List Nat :=
  let bds := s.bdsIn e
  (List.range 96).filter (fun c => s.corePasses e c && bds.contains (bdOfCore c))

/-- Slices in service (R216, R457). -/
def State.sliceMap (s : State) (e : StartEnv) : List Nat :=
  let bds := s.bdsIn e
  (List.range 512).filter (fun i => !e.sliceFail.contains i && bds.contains (bdOfSlice i))

/-- Channels in service. -/
def State.chansIn (s : State) : List Nat := (List.range 80).filter (fun ch => decide (s.regFld (Reg.memctlChStatus ch) 30 2 = 1))

/-- Cores of the grade (R23). -/
def Factory.gradeCores (f : Factory) : Nat := 96 - gradeOff f.grade

/-! The pool (R302, R303, R321) -/

/-- How many data and balance positions of each channel the extents formed so far take. -/
abbrev Used := SMap (Nat × Nat)

/-- What a channel has in use. -/
def Used.at (u : Used) (ch : Nat) : Nat × Nat := SMap.get (fun _ => ((0 : Nat), (0 : Nat))) u ch

/-- One extent of a class over a channel set (R302, R303): `a` positions and its spill on each channel; none where it does
not fit. -/
def formExtent (u : Used) (cls : Nat) (chans : List Nat) (a : Nat) (spills : List Nat) : Option (Used × Extent) :=
  let need := chans.zip spills
  if chans.isEmpty then none
  else if need.all (fun x => decide ((u.at x.1).1 + a ≤ 2031616) && decide ((u.at x.1).2 + x.2 ≤ 32768)) then
    let e : Extent := ⟨.free, cls, 0, none, chans, chans.map (fun ch => (u.at ch).1), chans.map (fun ch => (u.at ch).2)⟩
    some (need.foldl (fun (v : Used) (x : Nat × Nat) =>
      SMap.set (fun _ => ((0 : Nat), (0 : Nat))) v x.1 ((u.at x.1).1 + a, (u.at x.1).2 + x.2)) u, e)
  else none

/-- Up to `n` extents of a class, as many as fit. -/
def formClass (cls : Nat) (chans : List Nat) (a : Nat) (spills : List Nat) : Nat → Used → Used × List Extent
  | 0, u => (u, [])
  | n + 1, u =>
    match formExtent u cls chans a spills with
    | none => (u, [])
    | some (u, e) =>
      let (u, es) := formClass cls chans a spills n u
      (u, e :: es)

/-- The extents of a class over the channels in service among its set. -/
def formSet (cls : Nat) (chans : List Nat) (n : Nat) (u : Used) : Used × List Extent :=
  let nc := chans.length
  let a := 262144 / nc
  formClass cls chans a ((List.range nc).map (fun k => chanRank nc k 262144 - a)) n u

/-- The pinned classes of the record that are valid: number, channel set in service, COUNT (R466). -/
def State.pinned (s : State) : List (Nat × List Nat × Nat) :=
  ((List.range 15).map (fun i =>
    let w := word32 s.peat.record (0x4C + 16 * i)
    let mask := leNat ((s.peat.record.drop (0x40 + 16 * i)).take 10)
    (bitOf w 31, (i + 1, s.chansIn.filter (fun ch => bitOf mask ch), bitsOf w 0 10)))).filterMap
    (fun x => if x.1 then some x.2 else none)

/-- The pinned classes in ascending order: the positions taken, the extents, and the classes that fall short. -/
def formPinned (u : Used) : List (Nat × List Nat × Nat) → Used × List Extent × List Nat
  | [] => (u, [], [])
  | (k, chans, count) :: rest =>
    let (u, es) := formSet k chans count u
    let (u, more, short) := formPinned u rest
    (u, es ++ more, if es.length < count then k :: short else short)

/-- The pool is formed (R321): pinned classes first, then class 0 over every channel in service, numbered in the order they
are formed; shortfalls are reported. -/
def State.formPool (s : State) (e : StartEnv) : State :=
  let (u, es, short) := formPinned [] s.pinned
  let (_, zero) := formSet 0 s.chansIn (640 - es.length) u
  let all := es ++ zero
  let put (m : SMap Extent) (x : Nat × Extent) : SMap Extent := SMap.set (fun _ => Extent.absent) m x.1 x.2
  let s : State := { s with pool := { Pool.empty with
    cores := (s.coreMap e).foldl (fun m c => SMap.set (fun _ => Holder.notInService) m c .free) []
    slices := (s.sliceMap e).foldl (fun m c => SMap.set (fun _ => Holder.notInService) m c .free) []
    extents := ((List.range all.length).zip all).foldl put [] } }
  short.foldl (fun s k => s.record (ErrRec.mk0 1 5 5 k)) s

/-! The steps (R456) -/

/-- The device has one of its reduced modes from now on (R458). -/
def State.enter (s : State) (m : ModuleMode) : State := { s with clock := { s.clock with mode := m } }

/-- A step has ended: its time counts in µs from the origin of its step. -/
def State.stepEnded (s : State) (k : Nat) : State :=
  ({ s with clock := { s.clock with step := k } }).setReg (Reg.clocktimeStep k)
    (BitVec.ofNat 32 ((s.time.toNat - s.clock.origin) / 100))

/-- Step 2 (R488, R458). -/
def State.bootSet (s : State) (e : StartEnv) : State :=
  match s.selectSet e with
  | (s, some _) => s.stepEnded 2
  | (s, none) => s.enter .recovery

/-- The start continues with parts that load: what a later start finds where a trial's part has failed. -/
def envLoaded (e : StartEnv) : StartEnv := { e with partsOk := true }

/-- A part of the running set fails to load (R482, R492): a trial ends with cause LOAD. -/
def State.loadFailed (s : State) (e : StartEnv) : State :=
  if s.fw.trial then
    let s := s.endTrial 0x0F 5
    { s with clock := { s.clock with phys := some (envLoaded e) } }
  else s

/-- Step 4 (R440, R456, R457): the PLL locks, the trims are set, the CXL link trains; causes of floor power act. -/
def State.clocksUp (s : State) (e : StartEnv) : State :=
  if ¬ e.pllOk then s.enter .recovery
  else if ¬ e.partsOk then s.loadFailed e
  else
    let s := ({ s with clock := { s.clock with pllLock := true } }).stepEnded 4
    let s := (List.range 17).foldl (fun (s : State) (d : Nat) =>
      (s.modPdie d (fun b => { b with trim := storedTrim s.peat.calInForce d })).lowerTrim d (nth 0 e.trimAllowed d)) s
    let s : State := { s with power := { s.power with trimAt := s.time.toNat } }
    let s := if e.cxlWidth = 0 then s else s.linkTrained e.cxlWidth e.cxlSpeed e.cxlFlit256 e.cxlLopt
    s.floorEnter

/-- The register of a causeway (R196). -/
def cwWord (e : StartEnv) (n : Nat) : W32 :=
  BitVec.ofNat 32 (cwGroups e n true * 2 ^ 26 + cwGroups e n false * 2 ^ 20 + cwSpares e n true * 2 ^ 14
    + cwSpares e n false * 2 ^ 8 + b2n (cwDegraded e n))

/-- Step 5 (R18, R149, R153, R155): lanes are repaired, the class sizes follow g_min, frame 0 begins. -/
def State.fabricUp (s : State) (e : StartEnv) : State :=
  let s := (List.range 8).foldl (fun s n => s.setReg (Reg.fabricCauseway n) (cwWord e n)) s
  let bad := (List.range 8).filter (cwDegraded e)
  let s := bad.foldl (fun s n => s.record (ErrRec.mk0 1 6 1 n)) s
  let d := s.conf 0x10 0 3
  let cs := s.conf 0x10 8 6
  let cr := 3 * (15 - d) - cs
  let g := s.gMin e
  let s := s.setReg Reg.fabricStatus (BitVec.ofNat 32 (cr * g / 36 * 2 ^ 24 + cs * g / 36 * 2 ^ 16
    + sumN (bad.map (fun n => 2 ^ n)) * 2 ^ 8 + (d - 1)))
  let s : State := { s with fab := { s.fab with started := true } }
  (s.setReg64 Reg.clocktimeFrame0 s.time.toNat).stepEnded 5

/-- A channel is retired at start-up (R310, R314). -/
def State.retireAtStart (s : State) (ch step : Nat) : State :=
  ((s.setRegFld (Reg.memctlChStatus ch) 30 2 2).setRegFld (Reg.memctlChStatus ch) 8 4 step).record (ErrRec.mk0 1 5 3 ch)

/-- The raw bursts of the training area (R300). -/
def trainingBase : Nat := 64 * 2096640

/-- A channel enters service (R310, R311, R317): the zero fill has left every line zero with valid check words, and the verify step
its data in the training area, from a seed that the spec does not give. -/
def State.channelUp (s : State) (ch : Nat) : State :=
  let d := s.freeCtr
  let verify : TgRun := ⟨trainingBase, trainingBase + 64 * 512 - 1, 0, 0, 2, 2, Config.freeNat d % 2 ^ 32, 0, 4, d, false⟩
  (({ s with freeCtr := d + 1 }).modChan ch (fun _ => { Channel.rest with
    trainTemp := s.regFld (Reg.memctlChStatus ch) 16 8, trainedAt := s.time.toNat, runs := [verify] })).setRegFld
    (Reg.memctlChStatus ch) 30 2 1

/-- Step 6 (R310, R311): every channel that trains and fills enters service; the others are retired. -/
def State.memoryUp (s : State) (e : StartEnv) : State :=
  ((List.range 80).foldl (fun (s : State) (ch : Nat) =>
    if s.regFld (Reg.memctlChStatus ch) 30 2 = 2 then s
    else
      match e.channelFail.find? (fun f => decide (f.1 = ch)) with
      | some f => s.retireAtStart ch (f.2 % 16)
      | none => s.channelUp ch) s).stepEnded 6

/-- Channels of base dies out of service leave service (R457); one retired before only takes the step. -/
def State.dropChannels (s : State) (bds : List Nat) : State :=
  (List.range 80).foldl (fun (s : State) (ch : Nat) =>
    if bds.contains (ch / 20) then s
    else if s.regFld (Reg.memctlChStatus ch) 30 2 = 2 then s.setRegFld (Reg.memctlChStatus ch) 8 4 11
    else s.retireAtStart ch 11) s

/-- Whether the smallest working set of R457 is there. -/
def State.worksAtAll (s : State) (e : StartEnv) : Bool :=
  let slices := s.sliceMap e
  s.linkUp && (s.bdsIn e).any (fun b => decide (8 ≤ (slices.filter (fun i => decide (bdOfSlice i = b))).length))
  && !s.chansIn.isEmpty && !(s.coreMap e).isEmpty

/-- Whether a unit is below its grade (R25, R26). -/
def State.belowGrade (s : State) (e : StartEnv) : Bool :=
  decide ((s.coreMap e).length < s.fac.gradeCores) || decide ((s.sliceMap e).length < 512)
  || decide (s.chansIn.length < 80) || (List.range 8).any (cwDegraded e)

/-- The words of IDENT that step 9 sets (R26). -/
def State.setIdent (s : State) (e : StartEnv) : State :=
  let cores := s.coreMap e
  let m := maskOf 96 cores
  let s := (List.range 3).foldl (fun s j => s.setReg (Reg.identCoreMap j) (BitVec.ofNat 32 (fld m (32 * j) 32))) s
  let cds := (List.range 12).filter (fun d => cores.any (fun c => decide (dieOfCore c = d)))
  let s := s.setReg Reg.identUnits (BitVec.ofNat 32 ((maskOf 4 (s.bdsIn e)).toNat * 2 ^ 28 + (maskOf 12 cds).toNat * 2 ^ 16
    + s.pool.extents.length))
  s.setRegFld Reg.identStatus 16 7 cores.length

/-- Step 9 (R457, R458, R321, R26, R384): the units in service are judged, the pool is formed, IDENT is final, and the port leaves
configuration retry. -/
def State.judge (s : State) (e : StartEnv) : State :=
  if ¬ e.partsOk then s.loadFailed e
  else
    let s := s.dropChannels (s.bdsIn e)
    let low := s.belowGrade e
    let s := if low then (s.setRegBit Reg.identStatus 0 true).record (ErrRec.mk0 1 0x0B 7 0) else s
    let s : State := { s with host := { s.host with crs := false } }
    if ¬ s.worksAtAll e then ((s.setRegBit Reg.identStatus 1 true).stepEnded 9).enter .mgmtOnly
    else
      let s := (s.formPool e).setIdent e
      let s : State := { s with host := { s.host with memInfo := true } }
      let s := s.setRegFld Reg.cacheStatus 16 10 (s.sliceMap e).length
      let s := (s.setRegFld Reg.memctlStatus 0 7 s.chansIn.length).setRegFld Reg.memctlStatus 16 10 s.pool.extents.length
      s.stepEnded 9

/-- Step 10 and full service (R424, R456, R459, R489): the network port trains where the record enables it. -/
def State.fullService (s : State) (e : StartEnv) : State :=
  let c := s.reg Reg.netportCtrl
  let s := if fld c 31 1 = 1 then
      let s : State := { s with net := { s.net with training := true, mode := fld c 30 1, phy := fld c 28 2 } }
      if e.ethUp then s.netLink true else s
    else s
  let s := (s.stepEnded 10).setRegBit Reg.identStatus 2 true
  ({ s with clock := { s.clock with resets5 := 0 } }).enter .full

/-- Whether step 3 may begin (R454 to R456): PERST_N is released, the CXL link and the supply are out of reset. -/
def State.mayConfigure (s : State) : Bool := !s.clock.held && !s.clock.linkReset && !s.power.supplyReset

/-- Step `k` of a start-up, where it is the next one. -/
def State.startStep (e : StartEnv) (k : Nat) (s : State) : State :=
  if s.clock.mode ≠ .starting ∨ s.clock.step + 1 ≠ k then s
  else
    match k with
    | 1 => if e.selfTestOk then s.stepEnded 1 else s.enter .recovery
    | 2 => s.bootSet e
    | 3 =>
      if ¬ s.mayConfigure then s
      else
        let s : State := { s with clock := { s.clock with origin := s.time.toNat } }
        ((s.openJournal.readConfig).readCalibration.applyConfig).stepEnded 3
    | 4 => s.clocksUp e
    | 5 => s.fabricUp e
    | 6 => s.memoryUp e
    | 7 => s.stepEnded 7
    | 8 => s.stepEnded 8
    | 9 => s.judge e
    | 10 => s.fullService e
    | _ => s

/-- Steps up to `n`. -/
def State.startTo (s : State) (e : StartEnv) (n : Nat) : State :=
  (List.range n).foldl (fun s i => s.startStep e (i + 1)) s

/-- A start-up begins (R461): its tick is kept; the registers of the last one are set afresh. -/
def State.beginStart (s : State) (e : StartEnv) : State :=
  let s := s.setReg64 Reg.clocktimeStart s.time.toNat
  let s := s.setReg64 Reg.clocktimeFrame0 0
  let s := (List.range 10).foldl (fun s i => s.setReg (Reg.clocktimeStep (i + 1)) 0) s
  { s with clock := { s.clock with begun := true, origin := s.time.toNat, phys := some e } }

/-- Start-up runs as far as the environment says; one that waits is taken up again. -/
def State.startup (s : State) (e : StartEnv) : State :=
  let s := if s.clock.begun then { s with clock := { s.clock with phys := some e } } else s.beginStart e
  s.startTo e (min e.lastStep 10)

/-! Power-on and the resets (R451, R454, R455) -/

/-- POWER_ON (R451, R454, R535): power-good after a power loss. The time base is zero, every register has its reset value, and
start-up runs from step 1; PERST_N may be low, and an input below 41 V is a supply reset. -/
def execPowerOn (p : PowerGood) (e : StartEnv) (s : State) : Out :=
  ok (if s.clock.powered then s
  else
    let s := s.discard 0 (fun _ => false)
    let s : State := { s with
      time := 0
      power := { PowerSt.rest with vin := s.power.vin, supplyReset := !p.above41 }
      clock := { ClockSt.rest with powered := true, mode := .starting, held := !p.perstHigh }
      err := .rest
      peat := { s.peat with carried := 0 }
      fw := { s.fw with lastSel := s.fw.active }
      side := { s.side with i3c := false, dynAddr := 0 } }
    s.startup e)

/-- POWER_LOSS (R451, R452): the steward's domain stops; only the peat store and the fuses keep what they hold. -/
def execPowerLoss (s : State) : Out :=
  ok (if ¬ s.clock.powered then s
  else
    let s := s.stewardRestart.discard 0 (fun _ => false)
    { s with power := .rest, clock := .rest, err := .rest })

/-- PERST_N_ASSERT (R454, R455, R546). -/
def execPerstNAssert (s : State) : Out :=
  ok (if ¬ s.monitors ∨ s.clock.held ∨ s.clock.mode = .recovery then s
  else
    let s := s.moduleReset 2 keepsReset 3
    { s with clock := { s.clock with held := true } })

/-- PERST_N_RELEASE (R455, R456). -/
def execPerstNRelease (e : StartEnv) (s : State) : Out :=
  ok (if ¬ s.monitors ∨ ¬ s.clock.held then s
  else ({ s with clock := { s.clock with held := false } }).startup e)

/-- PERST_N_GLITCH (R455): ignored and counted. -/
def execPerstNGlitch (s : State) : Out := ok (if s.monitors then s.bump Reg.clocktimePerstGlitch else s)

/-- CXL_HOT_RESET (R454): hot reset or link disable from the host. -/
def execCxlHotReset (s : State) : Out :=
  ok (if ¬ s.monitors ∨ ¬ s.linkUp ∨ s.clock.linkReset then s
  else
    let s := s.moduleReset 3 keepsReset 3
    { s with clock := { s.clock with linkReset := true } })

/-- LINK_RESET_STATE_EXIT (R454). -/
def execLinkResetStateExit (e : StartEnv) (s : State) : Out :=
  ok (if ¬ s.monitors ∨ ¬ s.clock.linkReset then s
  else ({ s with clock := { s.clock with linkReset := false } }).startup e)

/-- SUPPLY_RESET_END (R442, R454): the input is at or above 41 V again. -/
def execSupplyResetEnd (e : StartEnv) (s : State) : Out :=
  ok (if ¬ s.monitors ∨ ¬ s.power.supplyReset then s
  else ({ s with power := { s.power with supplyReset := false } }).startup e)

/-- A steward module reset of a kind (R454): the steward restarts from its ROM. -/
def State.stewardReset (s : State) (kind : Nat) : State := s.stewardRestart.moduleReset kind keepsReset 1

/-- MODULE_RESET (R461): requested by CLOCKTIME_RESET. -/
def execModuleReset (e : StartEnv) (s : State) : Out := ok (if s.portServes then (s.stewardReset 4).startup e else s)

/-- FIRMWARE_WATCHDOG (R454, R489). -/
def execFirmwareWatchdog (e : StartEnv) (s : State) : Out :=
  ok (if ¬ s.monitors ∨ s.clock.step < 2 then s
  else
    let s := s.stewardReset 5
    ({ s with clock := { s.clock with resets5 := s.clock.resets5 + 1 } }).startup e)

/-- The buses the host has assigned to the port, as a configuration request shows them (R382): one that is answered with
Configuration Request Retry Status shows nothing. -/
def State.assignBus (s : State) (r : CfgRequest) : State :=
  if s.host.crs then s else { s with host := { s.host with pfBus := r.bus.toNat, nextBus := r.nextBus } }

/-- CONFIGURATION_REQUEST (R382, R456): answered with Configuration Request Retry Status until step 9 has ended; meanwhile
start-up goes on, up to the step the command names, with what the environment decided last (log entry 9). From then on a
request tells the port its buses. -/
def execConfigurationRequest (r : CfgRequest) (s : State) : Out :=
  ok (match s.monitors, s.clock.phys with
    | true, some e =>
      let s := s.assignBus r
      let s := if s.clock.begun then s else s.beginStart e
      s.startTo e (min r.upTo 10)
    | _, _ => s)

/-! Orderly power-down (R460) -/

/-- The running job of a device stops with no record. -/
def State.stopForDown (s : State) (n : Nat) : State :=
  ((s.stopCores n).cancelStreams n).modVd n (fun v => { v with running := none, incoming := none })

/-- Merge entries are sent and dirty blocks written back (R247, R460). -/
def State.downDrain (s : State) : State :=
  s.dies.foldl (fun (s : State) (e : Nat × Die) =>
    (e.2.merge.foldl (fun s m => s.sendEntry e.1 m.id) s).leaveDie e.1 (fun b => decide (b.st = .m))) s

/-- A request for orderly power-down (R460). -/
def State.powerDown (s : State) : State :=
  if ¬ s.portServes ∨ s.clock.downBusy ∨ s.clock.offReady then s
  else
    let s : State := { s with clock := { s.clock with downBusy := true } }
    (s.vds.filter (fun (e : Nat × VDev) => e.2.running.isSome)).foldl (fun (s : State) (e : Nat × VDev) => s.stopForDown e.1) s

/-- POWER_DOWN (R460). -/
def execPowerDown (s : State) : Out := ok s.powerDown

/-- Whether everything that R460 drains is drained: issued stores, merge entries, dirty blocks and their data on the way home,
accepted writes, staged segments, and the home operations that are queued (R227). -/
def State.downDrained (s : State) : Bool :=
  s.dies.all (fun (e : Nat × Die) => e.2.merge.isEmpty && e.2.owed.isEmpty && e.2.dirty.all (fun x => x.2.isEmpty)
    && e.2.acc.all (fun a => !a.store) && e.2.blocks.all (fun b => !b.dirty))
  && s.msgs.all (fun m => decide (m.kind ≠ .dataM) && decide (m.kind ≠ .putM))
  && s.fab.reqs.all (fun r => decide (r.kind ≠ .write))
  && s.slices.all (fun (e : Nat × Slice) => !e.2.reqs.any (fun r => r.accepted) && e.2.opsIn.isEmpty
    && e.2.lines.all (fun l => l.2.ops.isEmpty))
  && s.fab.ops.isEmpty && s.nacked.isEmpty
  && s.net.staging.isEmpty

/-- OFF_READY (R460): where the drain is over, the clocks of the dies are gated; else it goes on. -/
def execOffReady (s : State) : Out :=
  ok (if ¬ s.clock.downBusy then s
  else if s.downDrained then { s with clock := { s.clock with downBusy := false, offReady := true, gated := true } }
  else s.downDrain)

/-! Clock failures (R450, R462) -/

/-- CRYSTAL_FAILURE (R450, R462): recovery mode before step 4 has ended, module-fatal after. -/
def execCrystalFailure (s : State) : Out :=
  ok (if ¬ s.monitors then s
  else
    let s : State := { s with clock := { s.clock with xtalOk := false } }
    if s.clock.mode = .recovery then s
    else if s.clock.step < 4 then s.enter .recovery
    else s.fatal (ErrRec.mk0 2 0x0B 8 0))

/-- PLL_LOCK_LOSS (R450): module-fatal after step 4. -/
def execPllLockLoss (s : State) : Out :=
  ok (if ¬ s.monitors then s
  else
    let s : State := { s with clock := { s.clock with pllLock := false } }
    if s.clock.step < 4 ∨ s.clock.mode = .recovery then s else s.fatal (ErrRec.mk0 2 0x0B 9 0))

end Sys2Proof.Machine
end

