-- ==== Sys2Proof/Machine/Firmware.lean ====
section
/-! DEFINITION. Firmware (chapter Firmware manifest, update and fallback): the update exchange, the ends of flash operations,
the trial, attestation and the mailbox of the steward. -/

namespace Sys2Proof.Machine

/-! Who is served (R458, R493, R546) -/

/-- Whether the steward's ROM or firmware serves messages. -/
def State.stewardServes (s : State) : Bool :=
  s.clock.powered && (decide (s.clock.mode = .recovery) || decide (2 ≤ s.clock.step) || s.power.tripped)

/-- Whether messages on a binding reach the steward (R493, R541, R542): in recovery mode the sideband alone. -/
def State.bindingUp (s : State) (b : Binding) : Bool :=
  s.stewardServes &&
  match b with
  | .smbus => s.side.vrefGood && !s.side.i3c
  | .i3c => s.side.vrefGood && s.side.i3c
  | .pcieVdm => s.linkUp && decide (s.clock.mode ≠ .recovery)

/-- The steward sends a message. -/
def State.answer (s : State) (a : FwAnswer) : State := { s with fw := { s.fw with sent := a :: s.fw.sent } }

/-! The boot header (R481, R483, R484) -/

/-- Whether bytes of an image are zero. -/
def zeroBytes (bs : List Byte) (off len : Nat) : Bool := ((bs.drop off).take len).all (fun b => decide (b = 0))

/-- Part `p` of a header: its ID, first block, length in bytes. -/
def hdrPart (h : List Byte) (p : Nat) : Nat × Nat × Nat :=
  let o := 0x40 + 64 * p
  (word32 h o % 256, word32 h (o + 4), word32 h (o + 8))

/-- Blocks of 64 KiB a length takes. -/
def blocksOf (len : Nat) : Nat := (len + 65535) / 65536

/-- Largest sizes of the parts 1 to 7, in MiB (R481). -/
def partMiB : List Nat := [8, 2, 1, 4, 4, 2, 1]

/-- The part table holds every part once, within its size and the set's 512 blocks, without overlap (R481). -/
def partsFit (h : List Byte) : Bool :=
  let ps := (List.range 7).map (hdrPart h)
  let fits (p : Nat × Nat × Nat) : Bool :=
    decide (p.2.1 + blocksOf p.2.2 ≤ 512) && decide (p.2.2 ≤ nth 0 partMiB (p.1 - 1) * 2 ^ 20)
  let apart (i j : Nat) : Bool :=
    let a := hdrPart h i
    let b := hdrPart h j
    decide (a.2.1 + blocksOf a.2.2 ≤ b.2.1) || decide (b.2.1 + blocksOf b.2.2 ≤ a.2.1)
  (List.range 7).all (fun i => ps.any (fun p => decide (p.1 = i + 1))) && ps.all fits
  && (List.range 7).all (fun i => (List.range i).all (fun j => apart i j))

/-- The bytes of an image from an offset. -/
def part (bs : List Byte) (off len : Nat) : List Byte := (bs.drop off).take len

/-- The signed region of a header (R483). -/
def signedRegion (h : List Byte) : List Byte := part h 0 0xBF0

/-- The first check of R484 that a header fails, as its cause. DESIGN CHOICE: the three cryptographic
checks are functions of the header's bytes with no body (log entry 60). -/
def Factory.hdrCause (f : Factory) (h : List Byte) : Option Nat :=
  let w := word32 h 12
  let slot := bitsOf w 24 2
  if h.length ≠ 0x4CE0 ∨ word32 h 0 ≠ 0x4B465748 ∨ word32 h 4 ≠ 0x4CE0 * 65536 + 1
      ∨ ¬ (zeroBytes h 0x10 48 && zeroBytes h 0x200 64 && zeroBytes h 0xBF0 16) then some 0x01
  else if Config.sha384 (part h 0xA40 384 ++ part h 0xBC0 48) ≠ Config.romKeyDigest slot ∨ bitOf f.revoked slot then some 0x02
  else if ¬ Config.rsaVerifies (part h 0xA40 384) (signedRegion h) (part h 0xC00 384) then some 0x03
  else if ¬ Config.slhVerifies (part h 0xBC0 48) (signedRegion h) (part h 0xD80 16224) then some 0x04
  else if w % 256 < f.svnFloor then some 0x05
  else if f.stepMajor * 16 + f.stepMinor < bitsOf w 12 4 * 16 + bitsOf w 16 4 then some 0x06
  else if ¬ partsFit h then some 0x07
  else none

/-- How many bytes of a part lie in block `b`: 0 for a block that holds no part. -/
def blockLen (h : List Byte) (b : Nat) : Nat :=
  sumN ((List.range 7).map (fun p =>
    let (_, first, len) := hdrPart h p
    if first ≤ b ∧ b < first + blocksOf len then min 65536 (len - 65536 * (b - first)) else 0))

/-- The first block from `b` on that holds a part, or 512. -/
def nextBlock (h : List Byte) (b : Nat) : Nat :=
  (((List.range 512).filter (fun i => decide (b ≤ i) && decide (0 < blockLen h i))).head?).getD 512

/-- Whether a block matches its BLOCK_CRC (R483): the part's bytes, filled up with 0xFF; 0 for a block that holds no part. -/
def blockMatches (h : List Byte) (b : Nat) (bytes : List Byte) : Bool :=
  decide ((if blockLen h b = 0 then 0 else crc32c (flashBytes 65536 (bytes.take (blockLen h b)))) = word32 h (0x240 + 4 * b))

/-- The bytes of part `p` of a header in the blocks of a set. -/
def partBytes (h : List Byte) (blocks : SMap (List Byte)) (p : Nat) : List Byte :=
  let (_, first, len) := hdrPart h p
  ((List.range (blocksOf len)).flatMap (fun i => SMap.get (fun _ => ([] : List Byte)) blocks (first + i))).take len

/-- Whether a set verifies (R485): its header, every block, every part. -/
def Factory.setVerifies (f : Factory) (h : List Byte) (blocks : SMap (List Byte)) : Bool :=
  decide (f.hdrCause h = none)
  && (List.range 512).all (fun b => blockMatches h b (SMap.get (fun _ => ([] : List Byte)) blocks b))
  && (List.range 7).all (fun p => decide (Config.sha384 (partBytes h blocks p) = part h (0x50 + 64 * p) 48))

/-! The update exchange (R493 to R497) -/

/-- Whether an agent holds update mode in a phase, on a binding that is up. -/
def State.inPhase (s : State) (agent : Nat) (ps : List FwPhase) : Bool :=
  s.bindingUp s.fw.binding && decide (s.fw.agent = agent) && ps.contains s.fw.phase

/-- Phases in which the target may be partly written. -/
def writingPhases : List FwPhase := [.header, .transfer, .verify, .apply]

/-- Whether a flash operation of the update waits. -/
def State.fwFlash (s : State) : Bool := s.peat.ops.any FlashOp.isFw

/-- The largest chunk the steward asks for (R495). -/
def FwSt.limit (f : FwSt) : Nat :=
  min f.maxXfer (match f.binding with
    | .pcieVdm => 4096
    | .i3c => 1024
    | .smbus => 256)

/-- The chunk the steward asks for next (R493, R495): where it begins in the component, the header followed by the blocks, and its
length. -/
def FwSt.chunk (f : FwSt) : Nat × Nat :=
  (0x4CE0 + 65536 * f.next + f.got.length, min f.limit (blockLen f.header f.next - f.got.length))

/-- RequestFirmwareData (R495) for the next chunk. -/
def State.askChunk (s : State) : State :=
  if 512 ≤ s.fw.next then s
  else ({ s with fw := { s.fw with askedAt := s.time.toNat } }).answer (.request s.fw.chunk.1 s.fw.chunk.2)

/-- FAILED and FWUPD_CAUSE (R495, R501). -/
def State.fwCause (s : State) (cause : Nat) : State :=
  (s.setRegBit Reg.fwupdStatus 24 true).setReg Reg.fwupdCause (BitVec.ofNat 32 cause)

/-- An update fails (R495): the target is EMPTY where an erase has taken place. -/
def State.updateFail (s : State) (cause : Nat) : State :=
  let f := if writingPhases.contains s.fw.phase then s.fw.modSet s.fw.target (fun _ => .empty) else s.fw
  let s : State := { s with
    fw := { f with phase := .idle }
    peat := { s.peat with ops := s.peat.ops.filter (fun o => !o.isFw) } }
  (s.fwCause cause).answer (.failed cause)

/-- The target of an update (R494, R497). -/
def State.updateTarget (s : State) : Nat :=
  if s.clock.mode = .recovery then
    match s.headerOk 0, s.headerOk 1 with
    | true, false => 1
    | false, true => 0
    | true, true => if laterSeq s.fw.setA.actSeq s.fw.setB.actSeq then 1 else 0
    | false, false => 0
  else 1 - s.fw.active

/-- QUERY_DEVICE_IDENTIFIERS (R493). -/
def execQueryDeviceIdentifiers (b : Binding) (s : State) : Out :=
  ok (if s.bindingUp b then s.answer .deviceIdentifiers else s)

/-- GET_FIRMWARE_PARAMETERS (R493). -/
def execGetFirmwareParameters (b : Binding) (s : State) : Out :=
  ok (if s.bindingUp b then
    s.answer (.firmwareParameters (s.fw.fwset s.fw.active).version (s.fw.fwset (1 - s.fw.active)).version)
  else s)

/-- REQUEST_UPDATE (R494). -/
def execRequestUpdate (b : Binding) (agent maxTransfer : Nat) (s : State) : Out :=
  ok (if ¬ s.bindingUp b then s
  else if s.fw.phase ≠ .idle then s.answer .alreadyInUpdateMode
  else if s.fw.trial then (s.fwCause 0x0D).answer .busyTrial
  else
    let s : State := { s with fw := { s.fw with
      phase := .learn, agent := agent, binding := b, maxXfer := maxTransfer, target := s.updateTarget, header := [] } }
    (s.setRegFld Reg.fwupdStatus 0 10 0).answer .accepted)

/-- PASS_COMPONENT_TABLE (R493): a package of one component. -/
def execPassComponentTable (agent components : Nat) (s : State) : Out :=
  ok (if ¬ s.inPhase agent [.learn] then s
  else if components = 1 then ({ s with fw := { s.fw with phase := .ready, askedAt := s.time.toNat } }).answer .accepted
  else s.answer .refused)

/-- UPDATE_COMPONENT (R495 step 1): the header is requested and checked; nothing is erased where it fails. The command has what
came of it, the signed region and the rest. -/
def execUpdateComponent (agent : Nat) (region rest : List Byte) (s : State) : Out :=
  ok (if ¬ s.inPhase agent [.ready] then s
  else
    let header := region ++ rest
    match s.fac.hdrCause header with
    | some c => s.updateFail c
    | none =>
      let s : State := { s with
        fw := { s.fw with phase := .header, header := header, next := nextBlock header 0, got := [], retries := 0 }
        peat := { s.peat with ops := s.peat.ops ++ [.fwErase] } }
      s.answer .accepted)

/-- FIRMWARE_DATA (R495 step 3): a requested chunk arrives; a whole block is checked, erased and programmed, one that does not match
is requested again up to three times. -/
def execFirmwareData (agent off : Nat) (bytes : List Byte) (s : State) : Out :=
  ok (
    let f := s.fw
    let (want, len) := f.chunk
    if ¬ s.inPhase agent [.transfer] ∨ s.fwFlash ∨ 512 ≤ f.next ∨ off ≠ want ∨ bytes.length < len then s
    else
      let got := f.got ++ bytes.take len
      if got.length < blockLen f.header f.next then ({ s with fw := { f with got := got } }).askChunk
      else
        let s : State := { s with fw := { f with got := [] } }
        if blockMatches f.header f.next got then { s with peat := { s.peat with ops := s.peat.ops ++ [.fwBlock f.next got] } }
        else if f.retries < 3 then ({ s with fw := { s.fw with retries := f.retries + 1 } }).askChunk
        else s.updateFail 0x08)

/-- UPDATE_TIMEOUT (R495): a requested chunk has not arrived within 60 s. -/
def execUpdateTimeout (s : State) : Out :=
  ok (if [FwPhase.ready, .transfer].contains s.fw.phase ∧ ¬ s.fwFlash ∧ s.fw.askedAt + 6000000000 ≤ s.time.toNat then
    s.updateFail 0x0C
  else s)

/-- The blocks of a set as the flash returns them, with the bits that come back inverted. -/
def flashCopy (blocks : SMap (List Byte)) (errs : List FlashErr) : SMap (List Byte) :=
  errs.foldl (fun m e =>
    let b := SMap.get (fun _ => ([] : List Byte)) m e.block
    SMap.set (fun _ => ([] : List Byte)) m e.block (b.set e.byte (nth 0 b e.byte ^^^ e.mask))) blocks

/-- TRANSFER_COMPLETE (R495 step 4): the target is verified from what the flash returns, the header as received. -/
def execTransferComplete (agent : Nat) (errs : List FlashErr) (s : State) : Out :=
  ok (if ¬ s.inPhase agent [.transfer] ∨ s.fwFlash ∨ s.fw.next < 512 then s
  else if s.fac.setVerifies s.fw.header (flashCopy (s.fw.fwset s.fw.target).blocks errs) then
    ({ s with fw := { s.fw with phase := .verify } }).answer .transferDone
  else s.updateFail 0x09)

/-- VERIFY_COMPLETE (R495): the exchange is handled, and the programming of step 5 begins. -/
def execVerifyComplete (agent : Nat) (s : State) : Out :=
  ok (if ¬ s.inPhase agent [.verify] then s
  else
    let s : State := { s with
      fw := { s.fw with phase := .apply }
      peat := { s.peat with ops := s.peat.ops ++ [.fwStage] } }
    s.answer .verifyDone)

/-- The header sector as step 5 programs it (R483, R495): header, ACT_SEQ, STAGE_FLAGS and, last, STAGED. -/
def State.stagedSet (s : State) : FwSet :=
  let h := s.fw.header
  let w := word32 h 12
  let rec_ := decide (s.clock.mode = .recovery)
  let before := if rec_ then s.fw.fwset (1 - s.fw.target) else s.fw.fwset s.fw.active
  ⟨true, word32 h 8, w % 256, bitsOf w 24 2, bitOf w 8, (before.actSeq + 1) % 2 ^ 32,
    rec_ || s.regBit Reg.fwupdCtrl 0, true, false, false, false, h, (s.fw.fwset s.fw.target).blocks⟩

/-- The set is staged: DONE sets, and ApplyComplete is sent (R495 step 5). -/
def State.stageSet (s : State) : State :=
  let f := s.stagedSet
  let s : State := { s with
    fw := { s.fw.modSet s.fw.target (fun _ => f) with phase := .activate, askedAt := s.time.toNat }
    peat := { s.peat with ops := s.peat.ops.erase .fwStage, retried := false } }
  (s.setRegBit Reg.fwupdStatus 25 true).answer .applyDone

/-- APPLY_COMPLETE (R495 step 5). -/
def execApplyComplete (agent : Nat) (s : State) : Out :=
  ok (if s.inPhase agent [.apply] ∧ flashNow s.peat.ops = some .fwStage then s.stageSet else s)

/-- ACTIVATE_FIRMWARE (R495 step 6): activation follows the next module reset. -/
def execActivateFirmware (agent : Nat) (s : State) : Out :=
  ok (if s.inPhase agent [.activate] then ({ s with fw := { s.fw with phase := .idle } }).answer .activationPending else s)

/-- GET_STATUS (R493). -/
def execGetStatus (b : Binding) (s : State) : Out := ok (if s.bindingUp b then s.answer (.status s.fw.phase) else s)

/-- CANCEL_UPDATE_COMPONENT (R493, R495): the transfer of the component ends; update mode goes on. -/
def execCancelUpdateComponent (agent : Nat) (s : State) : Out :=
  ok (if s.inPhase agent writingPhases then
    let s := s.updateFail 0x0B
    ({ s with fw := { s.fw with phase := .ready } }).answer .cancelled
  else s)

/-- Update mode ends (R501 CANCEL): an update in progress fails with cause CANCELLED; a staged set stays. -/
def State.cancelUpdate (s : State) : State :=
  if s.fw.phase = .idle then s
  else if s.fw.phase = .activate then { s with fw := { s.fw with phase := .idle } }
  else s.updateFail 0x0B

/-- CANCEL_UPDATE (R493). -/
def execCancelUpdate (agent : Nat) (s : State) : Out :=
  ok (if s.inPhase agent ([.learn, .ready, .activate] ++ writingPhases) then s.cancelUpdate.answer .cancelled else s)

/-- RECOVERY_UPDATE_RESET (R497): one second after ApplyComplete the ROM performs a steward module reset. -/
def execRecoveryUpdateReset (e : StartEnv) (s : State) : Out :=
  ok (if s.clock.mode = .recovery ∧ (s.fw.fwset s.fw.target).state = 1 ∧ s.fw.askedAt + 100000000 ≤ s.time.toNat then (s.stewardReset 4).startup e else s)

/-! Ends of flash operations (R465) -/

/-- A firmware block has been programmed: the next block is requested. -/
def State.blockDone (s : State) (b : Nat) (bytes : List Byte) : State :=
  let next := nextBlock s.fw.header (b + 1)
  let s : State := { s with fw := { s.fw.modSet s.fw.target (fun f => { f with
    blocks := SMap.set (fun _ => ([] : List Byte)) f.blocks b bytes }) with next := next, got := [], retries := 0 } }
  (s.bumpFld Reg.fwupdStatus 0 10 1).askChunk

/-- An operation has passed its verify and takes effect. -/
def State.flashDone (s : State) (o : FlashOp) : State :=
  match o with
  | .fwErase =>
    ({ s with fw := { s.fw.modSet s.fw.target (fun _ => .empty) with phase := .transfer } }).askChunk
  | .fwBlock b bytes => s.blockDone b bytes
  | .fwStage => s.stageSet
  | .trim d code => { s with peat := s.peat.setTrim d code }
  | .record c bs => ({ s with peat := { s.peat with copies := setNth s.peat.copies c bs } }).calibDone 0
  | .cal bs => ({ s with peat := { s.peat with cal := bs } }).calibDone 0
  | .clear => s.clearJournal.calibDone 0

/-- An operation has failed twice (R465): FLASH_ERROR, and a record that names the peat store. What the area of a CALIB
operation holds is as after a cut. -/
def State.flashFailed (s : State) (o : FlashOp) : State :=
  let s := s.record (ErrRec.mk0 1 0x0B 2 0)
  let calib (s : State) : State := if s.peat.cmd.isSome then s.calibDone 7 else s
  let d := s.freeCtr
  match o with
  | .fwErase => s.updateFail 0x0A
  | .fwBlock _ _ => s.updateFail 0x0A
  | .fwStage => s.updateFail 0x0A
  | .trim _ _ => s
  | .record c _ => calib { s with peat := { s.peat with copies := setNth s.peat.copies c [] } }
  | .cal _ => calib { s with freeCtr := d + 2048, peat := { s.peat with
      cal := leBytes 4 0 ++ (List.range 2044).map (fun i => Config.freeByte (d + i)) } }
  | .clear => calib { s with freeCtr := d + 128, peat := s.peat.partClear d }

/-- FLASH_OPERATION_END (R465): the operation in progress, or else the waiting journal entry, ends its verify; one failure
is retried. An entry that fails twice is counted lost. -/
def execFlashOperationEnd (verifyOk : Bool) (s : State) : Out :=
  ok (if ¬ s.clock.powered then s
  else
    match flashNow s.peat.ops with
    | some o =>
      if ¬ verifyOk ∧ ¬ s.peat.retried then { s with peat := { s.peat with retried := true } }
      else
        let s : State := { s with peat := { s.peat with ops := s.peat.ops.erase o, retried := false } }
        if verifyOk then s.flashDone o else s.flashFailed o
    | none =>
      match s.peat.waiting with
      | [] => s
      | _ :: rest =>
        if verifyOk then s.programNext
        else if ¬ s.peat.retried then { s with peat := { s.peat with retried := true } }
        else
          let s : State := { s with peat := { s.peat with waiting := rest, retried := false } }
          (s.bump Reg.calibJournalLost).record (ErrRec.mk0 1 0x0B 2 0))

/-! The trial (R486, R490 to R492) -/

/-- TRIAL_CONFIRMATION (R486, R490): CONFIRMED is programmed, which stops the watchdog; a set with RAISE_SVN raises the
security floor, a run of 64 fuses, to its SVN. -/
def execTrialConfirmation (s : State) : Out :=
  ok (
    let f := s.fw.fwset s.fw.active
    if s.clock.mode = .full ∧ s.fw.trial ∧ (f.auto ∨ s.fw.accepted) then
      { s with
        fw := { s.fw.modSet s.fw.active (fun f => { f with confirmed := true }) with trial := false }
        fac := { s.fac with svnFloor := if f.raiseSvn then max s.fac.svnFloor (min f.svn 64) else s.fac.svnFloor } }
    else s)

/-- TRIAL_WATCHDOG_EXPIRY (R490, R492). -/
def execTrialWatchdogExpiry (e : StartEnv) (s : State) : Out :=
  ok (if s.clock.powered ∧ s.fw.trial ∧ s.fw.armed + 60000000000 ≤ s.time.toNat then (s.endTrial 0x0E 5).startup e else s)

/-- ACCEPT_TRIAL (R491): ignored when no trial runs. -/
def State.acceptTrial (s : State) : State :=
  if s.fw.trial then { s with fw := { s.fw with accepted := true } } else s

/-- UNSTAGE (R501): REJECTED is programmed on a STAGED set. -/
def State.unstage (s : State) : State :=
  let f (x : FwSet) : FwSet := if x.state = 1 then { x with rejected := true } else x
  { s with fw := { s.fw with setA := f s.fw.setA, setB := f s.fw.setB } }

/-- GO of FWUPD_CMD with an operation and a key (R501). -/
def State.fwupdGo (s : State) (op : Nat) (key : Byte) : State :=
  if ¬ s.portServes then s
  else
    let s := s.setRegFld Reg.fwupdCmd 0 4 op
    match op with
    | 0 => s.acceptTrial
    | 1 => if key = 0xF5 ∧ s.fw.trial then s.endTrial 0x10 4 else s
    | 2 => if key = 0xF5 then s.unstage else s
    | 3 => s.cancelUpdate
    | _ => s

/-- ACCEPT_TRIAL (R491): FWUPD_CMD with OP 0, or the message over MCTP. -/
def execAcceptTrial (overMctp : Bool) (s : State) : Out :=
  ok (if overMctp then
    if s.stewardServes ∧ s.clock.mode ≠ .recovery then s.acceptTrial else s
  else s.fwupdGo 0 0)

/-- REJECT_TRIAL (R492, R501). -/
def execRejectTrial (key : Byte) (e : StartEnv) (s : State) : Out :=
  ok (if s.portServes ∧ key = 0xF5 ∧ s.fw.trial then (s.fwupdGo 1 key).startup e else s.fwupdGo 1 key)

/-- UNSTAGE (R501). -/
def execUnstage (key : Byte) (s : State) : Out := ok (s.fwupdGo 2 key)

/-- CANCEL (R501). -/
def execCancel (s : State) : Out := ok (s.fwupdGo 3 0)

/-! Attestation and the mailbox (R498 to R500, R529) -/

/-- IDENT_DEVICE (R26). -/
def State.identDeviceWord (s : State) : W32 := BitVec.ofNat 32 (0x4B96 * 2 ^ 16 + s.fac.stepMajor * 2 ^ 12 + s.fac.stepMinor * 2 ^ 8)

/-- IDENT_GRADE (R26). -/
def State.identGradeWord (s : State) : W32 := BitVec.ofNat 32 (s.fac.gradeCores * 2 ^ 8 + s.fac.grade)

/-- The endorsement (R498): its keys, serial number, slot and signatures are not stated (log entry 6). -/
def endorsement : List Byte :=
  let free (a n : Nat) : List Byte := (List.range n).map (fun i => Config.freeEndorsement (a + i))
  leBytes 4 0x4B454E44 ++ leBytes 4 (0x42B0 * 65536 + 1) ++ free 0x008 20 ++ leBytes 4 0 ++ free 0x020 0x4290

/-- A report over a nonce (R500), taken now. Its signatures are not stated, nor the digest of the set the module was shipped with
(log entries 6 and 60). -/
def State.reportBytes (s : State) (nonce : List Byte) : List Byte :=
  let k := s.freeCtr
  let free (a n : Nat) : List Byte := (List.range n).map (fun i => Config.freeReport k (a + i))
  let w (v : W32) : List Byte := leBytes 4 v.toNat
  let f := s.fw.fwset s.fw.active
  leBytes 4 0x4B415452 ++ leBytes 4 (0x41E0 * 65536 + 1) ++ (nonce ++ List.replicate (32 - nonce.length) 0).take 32
  ++ leBytes 8 s.time.toNat ++ leBytes 4 s.peat.jstart ++ w (s.reg Reg.clocktimeCause)
  ++ w s.identDeviceWord ++ w s.identGradeWord ++ w (s.reg Reg.identStatus) ++ w (s.reg Reg.identUnits)
  ++ (List.range 3).flatMap (fun j => w (s.reg (Reg.identCoreMap j)))
  ++ leBytes 4 (s.fw.active + f.state * 2 ^ 8 + f.svn * 2 ^ 16 + s.fac.svnFloor * 2 ^ 24)
  ++ leBytes 4 f.version ++ leBytes 4 (word32 s.peat.record 8)
  ++ (if f.header.isEmpty then free 0x060 48 else Config.sha384 (signedRegion f.header))
  ++ Config.sha384 s.peat.record ++ leBytes 64 0 ++ free 0x100 0x40E0

/-- The command of the mailbox ends with this RESULT (R529). -/
def mbxResult (code : Nat) (resp : List Byte) : Nat :=
  if code = 2 ∧ resp.isEmpty then 2 else if code = 1 ∨ code = 2 ∨ code = 3 then 0 else 1

/-- Whether a report is in progress, over MCTP or for the mailbox (R499). -/
def State.reporting (s : State) : Bool :=
  s.fw.report.isSome || (match s.fw.mbx with
    | some (2, _) => true
    | _ => false)

/-- A mailbox command starts. -/
def State.mbxStart (s : State) (code : Nat) (resp : List Byte) : State :=
  { s with fw := { s.fw with mbx := some (code, resp) } }

/-- GO of STEWARD_MBX_CMD with a code (R529). -/
def State.mbxGo (s : State) (code : Nat) : State :=
  if ¬ s.portServes then s
  else
    let s := s.setRegFld Reg.stewardMbxCmd 0 8 code
    if s.fw.mbx.isSome then s.setRegBit Reg.stewardMbxStatus 29 true
    else
      match code with
      | 1 => s.mbxStart 1 endorsement
      | 2 =>
        if s.reporting then s.mbxStart 2 []
        else
          let nonce := (s.regList (Reg.stewardMbxBuf 0) 8).flatMap (fun w => leBytes 4 w.toNat)
          ({ s with freeCtr := s.freeCtr + 1 }).mbxStart 2 (s.reportBytes nonce)
      | 3 => s.acceptTrial.mbxStart 3 []
      | c => s.mbxStart c []

/-- GET_ENDORSEMENT (R499, R529). -/
def execGetEndorsement (mailbox : Bool) (s : State) : Out :=
  ok (if mailbox then s.mbxGo 1
  else if s.stewardServes ∧ s.clock.mode ≠ .recovery then s.answer (.endorsement endorsement)
  else s)

/-- GET_REPORT (R499, R500, R529): one at a time; a second request gets BUSY. -/
def execGetReport (mailbox : Bool) (nonce : List Byte) (s : State) : Out :=
  ok (if mailbox then s.mbxGo 2
  else if ¬ s.stewardServes ∨ s.clock.mode = .recovery then s
  else if s.reporting then s.answer .busy
  else { s with freeCtr := s.freeCtr + 1, fw := { s.fw with report := some (s.time.toNat, s.reportBytes nonce) } })

/-- MAILBOX_DONE (R529): the response is in the buffer, DONE sets, PF vector 0 is raised. -/
def execMailboxDone (s : State) : Out :=
  ok (match s.fw.mbx with
    | none => s
    | some (code, resp) =>
      let s : State := { s with fw := { s.fw with mbx := none } }
      let s := s.setRegs (Reg.stewardMbxBuf 0)
        ((List.range (resp.length / 4)).map (fun i => BitVec.ofNat 32 (word32 resp (4 * i))))
      let s := s.setRegFld Reg.stewardMbxStatus 0 8 (mbxResult code resp)
      let s := s.setRegFld Reg.stewardMbxStatus 8 16 resp.length
      (s.setRegBit Reg.stewardMbxStatus 30 true).vecPf 0)

end Sys2Proof.Machine
end

