-- ==== Sys2Proof/Machine/Errors.lean ====
section
/-! DEFINITION. Errors, containment and reporting (the chapter of that name, and the outcomes other chapters give): detected
errors by the structure they hit, the handling of records, the release of a contained device. -/

namespace Sys2Proof.Machine

/-! Outcomes by structure (R504, R505) -/

/-- The owner of flag word `w` of router `b`. -/
def State.flagOwnerOf (s : State) (b w : Nat) : Option Nat :=
  match SMap.get (fun _ => (0 : Nat)) s.pool.flagOwner (4096 * b + w) with
  | 0 => none
  | n + 1 => some n

/-- A line of an instruction buffer or cache of a core is invalidated and will be fetched again; corrected-class record. -/
def State.refetch (s : State) (c cause syn : Nat) (f : Core → Core) : State :=
  (s.modCore c f).record { ErrRec.mk0 0 2 cause c with
    vd := s.coreVd c, lcore := (s.coreLogical c).getD 0x7F, detail := syn }

/-- Lines of a cache without the one with a number. -/
def dropCLine (ls : List CLine) (line : Nat) : List CLine := ls.filter (fun l => !decide (l.line = line))

/-- A causing code that R514 does not give for the structure: free (log entry 6). -/
def State.freeCause (s : State) : Nat × State :=
  let (k, s) := s.draw
  (Config.freeNat k % 256, s)

/-- An MMA that a tile-store read was lost to adds nothing more: its accumulator is not used again (R77). -/
def Core.dropMma (k : Core) : Core :=
  let gone := k.qm.filter (fun e => decide (bitsOf e.word 120 8 = 0x10))
  { k with qm := k.qm.filter (fun e => !decide (bitsOf e.word 120 8 = 0x10))
           board := k.board.filter (fun e => !(gone.filterMap (·.sb_)).contains e.id) }

/-- The staged segment `i` is discarded; its receiver is contained, with the segment's extent suspect. -/
def State.stagingError (s : State) (i syn : Nat) : State :=
  match s.net.staging[i]? with
  | none => s
  | some x =>
    let s' : State := { s with net := { s.net with staging := delNth s.net.staging i } }
    let exts := s.extentsAt x.vd x.addr
    s'.contain x.vd exts exts { ErrRec.mk0 1 8 2 (s.physQp x.vd x.q) with addr := some x.addr, detail := syn }

/-- An uncorrectable unit in the merge read of the oldest write-back that has one (R315): a unit that it reads, a free choice,
keeps the error; the write is discarded, its owner contained. -/
def State.mergeError (s : State) (ch syn : Nat) : State :=
  match (s.chan ch).writes.findIdx? (fun w => !(mergeUnits w.key w.mask).isEmpty) with
  | none => s
  | some i =>
    let w := nth ⟨0, 0, 0, 0, 0, [], 0⟩ (s.chan ch).writes i
    let us := mergeUnits w.key w.mask
    let (d, s) := s.draw
    (s.modChan ch (fun c => c.setFault (nth 0 us (Config.freeNat d % us.length)) .uncorrectable)).mergeDiscard ch i w syn

/-- A unit is read from a wrong row (R299). Where the two rows differ in the fold its check word does not match and the unit is
uncorrectable; where they agree nothing is noticed, and the data is that of the other row. DEDUCED: it stays so until the unit
is next written (log entry 57). -/
def State.wrongRow (s : State) (ch unit row : Nat) : State :=
  let p := unit / 32
  let p' := row * 8 + p % 8
  if foldOf (rawAt p' 0) ≠ foldOf (rawAt p 0) then s.modChan ch (fun c => c.setFault unit .uncorrectable)
  else { s with mem := wrL s.mem (memKey ch p + 128 * (unit % 32)) (rdN s.mem (memKey ch p' + 128 * (unit % 32)) 128) }

/-! Slices and coherence (R234, R268) -/

/-- The data of a fill that waits at its slice is uncorrectable (R234, R315): one of its two units, a free choice, keeps the
error until it is written. -/
def State.fillError (s : State) (i line sec : Nat) : State :=
  let sl := s.slice i
  match sl.fills.findIdx? (fun f => decide (f.line = line) && decide (f.sector = sec)) with
  | none => s
  | some q =>
    let (d, s) := s.draw
    let s := match (s.sliceVd i).bind (fun n => s.lineKey n line) with
      | some (c, k) => (s.bump (Reg.memctlChUe c)).modChan c (fun x =>
          x.setFault (unitOf (k + 256 * sec) + Config.freeNat d % 2) .uncorrectable)
      | none => s
    (s.modSlice i (fun sl => { sl with fills := delNth sl.fills q })).fillFails i line sec

/-- A dead-read filter entry is dropped; corrected-class record (R234). -/
def State.filterError (s : State) (i line : Nat) : State :=
  (s.modSlice i (fun sl => { sl with filter := sl.filter.erase line })).record
    { ErrRec.mk0 0 4 8 i with vd := s.sliceVd i, addr := some (line * 4096) }

/-- A sector goes to I with nothing written back; operations queued on it are discarded without responses (R237), and a line that
waited for them goes on. -/
def State.loseSector (s : State) (i line sec : Nat) (p : SecSt → Bool) : Option State :=
  match (s.slice i).find line with
  | none => none
  | some k =>
    if p (((s.slice i).way k).sec sec).st then
      let s := s.modSlice i (fun sl => sl.modWay k (fun l =>
        { l.dropSec sec with ops := l.ops.filter (fun o => !decide (secIdx o.addr = sec)) }))
      some (if ((s.slice i).way k).held then s.settleLine i k else s.afterLoss i k)
    else none

/-- The home operation at the head of a line's queue, or else the first on its way to the line, is discarded. -/
def State.loseOp (s : State) (i line : Nat) : Option State :=
  let sl := s.slice i
  match sl.find line with
  | some k =>
    match (sl.way k).ops with
    | _ :: rest => some (s.setSlice i (sl.modWay k (fun l => { l with ops := rest })))
    | [] => none
  | none => none

/-- An uncorrectable error in an array of a slice (R234). -/
def State.sliceError (s : State) (i : Nat) (a : SliceArray) (line sec : Nat) : State :=
  match a with
  | .dataArray =>
    match s.loseSector i line sec (fun x => decide (x ≠ .i)) with
    | some t => t.sliceContain i 1 line sec true
    | none => s
  | .maskPool =>
    match s.loseSector i line sec (fun x => decide (x = .p)) with
    | some t => t.sliceContain i 2 line sec true
    | none => s
  | .homeOpQueue =>
    match s.loseOp i line with
    | some t => t.sliceContain i 3 line sec false
    | none => s
  | .writeBackBuffer =>
    if (s.slice i).wbuf.any (fun w => decide (w.line = line)) then
      (s.modSlice i (fun sl => { sl with wbuf := sl.wbuf.filter (fun w => !decide (w.line = line)) })).sliceContain
        i 4 line sec true
    else s
  | .fillData => s.fillError i line sec
  | .tag => s.fatal (ErrRec.mk0 2 4 6 i)
  | .deadFilter => s.filterError i line

/-- The bytes of a block are lost: what it would answer a forward with is undefined (log entry 6), and no access of its die uses
them. -/
def State.spoil (s : State) (d : Nat) (b : Block) : State :=
  let k := s.freeCtr
  ({ s with freeCtr := k + 256 }).modDie d (fun x => x.modBlock b.vd b.sector (fun b => { b with
    bad := true, data := (List.range 256).map (fun i => Config.freeByte (k + i)) }))

/-- The data of a die-cache block is lost (R268): in S or E it is replaced with a corrected-class record; in M it sends PutE
and its owner is contained. -/
def State.blockError (s : State) (d : Nat) (b : Block) : State :=
  let addr := b.sector * 256
  match b.st with
  | .m =>
    let s := ((s.toHome .putE d b.vd b.sector []).modDie d (fun k =>
      { k.modBlock b.vd b.sector (fun x => { x with st := .eiA, leave := false }) with
        dirty := k.dirty.map (fun (x : Nat × List (Nat × Nat)) => (x.1, x.2.erase (b.vd, b.sector))) })).spoil d b
    s.containOwner (some b.vd) (s.extentsAt b.vd addr) { ErrRec.mk0 1 3 2 d with addr := some addr }
  | .s => ((s.putBlock d b.vd b.sector).spoil d b).record { ErrRec.mk0 0 3 1 d with vd := some b.vd, addr := some addr }
  | .e => ((s.putBlock d b.vd b.sector).spoil d b).record { ErrRec.mk0 0 3 1 d with vd := some b.vd, addr := some addr }
  | _ => s

/-- A merge entry is lost: it is discarded, and its owner contained (R268). -/
def State.mergeEntryError (s : State) (d : Nat) (m : MergeEntry) : State :=
  let addr := m.sector * 256
  let exts := s.extentsAt m.vd addr
  (s.modDie d (fun k => { k with merge := k.merge.filter (fun x => !decide (x.id = m.id)) })).containOwner (some m.vd) exts
    { ErrRec.mk0 1 3 3 d with addr := some addr }

/-- An uncorrectable error in a coherence structure (R268): `i` is a block or an entry of die `d`, or the slice of a transaction
table or of directory bits. -/
def State.coherenceError (s : State) (d : Nat) (a : CohArray) (i : Nat) : State :=
  match a with
  | .blockData =>
    match (s.die d).blocks[i]? with
    | some b => s.blockError d b
    | none => s
  | .mergeEntry =>
    match (s.die d).merge[i]? with
    | some m => s.mergeEntryError d m
    | none => s
  | .dieTag => s.fatal (ErrRec.mk0 2 3 4 d)
  | .dieTransactions => s.fatal (ErrRec.mk0 2 3 5 d)
  | .homeTransactions => s.fatal (ErrRec.mk0 2 4 7 (i % 512))
  | .directory => s.fatal (ErrRec.mk0 2 4 6 (i % 512))

/-- An uncorrectable error in a structure of R504 (and R315). -/
def State.uncorrectable (s : State) (u : ErrUnit) (syn : Nat) : State :=
  match u with
  | .tileStore c => (s.containCore c.val 1 syn).modCore c.val Core.dropMma
  | .accFile c => s.containCore c.val 2 syn
  | .scalarRegs c => s.containCore c.val 3 syn
  | .groupRegs c => s.containCore c.val 4 syn
  | .groupSlots c => s.containCore c.val 5 syn
  | .instrBuffer c l => s.refetch c.val 6 syn (fun k => { k with ibuf := dropCLine k.ibuf l })
  | .groupICache c l => s.refetch c.val 7 syn (fun k => { k with gic := dropCLine k.gic l })
  | .roCache c l => s.refetch c.val 8 syn (fun k => { k with roc := dropCLine k.roc l })
  | .elastic c n => s.contain n.val [] [] { ErrRec.mk0 1 2 9 c.val with detail := syn }
  | .landingBuffer (.slice i) n => s.contain n.val [] [] { ErrRec.mk0 1 4 9 i.val with detail := syn }
  | .landingBuffer (.core c) n =>
    let (cause, s) := s.freeCause
    s.contain n.val [] [] { ErrRec.mk0 1 2 cause c.val with detail := syn }
  | .hubBuffer n =>
    let (cause, s) := s.freeCause
    s.contain n.val [] [] { ErrRec.mk0 1 6 cause 0x20 with detail := syn }
  | .flagWord b w => s.containOwner (s.flagOwnerOf b.val w.val) [] { ErrRec.mk0 1 6 6 (0x10 + b.val) with detail := syn }
  | .redEntry b i =>
    match (s.fab.redEntries.filter (fun e => decide (e.bd = b.val)))[i]? with
    | some e => s.contain e.vd [] [] { ErrRec.mk0 1 6 7 (0x10 + b.val) with detail := syn }
    | none => s
  | .frameTable b => s.fatal { ErrRec.mk0 2 6 4 (0x10 + b.val) with detail := syn }
  | .translationTable b => s.fatal { ErrRec.mk0 2 6 4 (0x10 + b.val) with detail := syn }
  | .reedBuffer b => s.fatal { ErrRec.mk0 2 6 5 (0x10 + b.val) with detail := syn }
  | .reedFlit n => s.fatal { ErrRec.mk0 2 6 3 n.val with detail := syn }
  | .schedDevice b n => s.contain n.val [] [] { ErrRec.mk0 1 9 1 b.val with detail := syn }
  | .schedShared b => s.fatal { ErrRec.mk0 2 9 2 b.val with detail := syn }
  | .qpContext n q => s.contain n.val [] [] { ErrRec.mk0 1 8 3 (s.physQp n.val q.val) with detail := syn }
  | .stagingBuffer i => s.stagingError i syn
  | .stewardRam => s.fatal { ErrRec.mk0 2 0x0B 1 0 with detail := syn }
  | .mergeRead ch => s.mergeError ch.val syn
  | .wrongRow ch u row => s.wrongRow ch.val u.val row.val
  | .slice i a line sec => s.sliceError i.val a line sec.val
  | .dieCache d a i => s.coherenceError d.val a i

/-- Whether errors can arise in the dies at all: their clocks run. -/
def State.unitsRun (s : State) : Bool := s.clocksOn

/-- UNCORRECTABLE_ERROR (R504, R315). -/
def execUncorrectableError (u : ErrUnit) (syndrome : BitVec 16) (s : State) : Out :=
  ok (if s.unitsRun ∨ (u = .stewardRam ∧ s.monitors) then s.uncorrectable u syndrome.toNat else s)

/-- Whether a coherence structure stands at the home slices, on a base die. -/
def atHome : CohArray → Bool
  | .homeTransactions => true
  | .directory => true
  | _ => false

/-- Whether data bound for a structure crosses the bonds of a compute die: a structure of its cores, or of the base die
it is bonded to (R503). -/
def onBond (d : Nat) (u : ErrUnit) : Bool :=
  match u with
  | .tileStore c => decide (dieOfCore c.val = d)
  | .accFile c => decide (dieOfCore c.val = d)
  | .scalarRegs c => decide (dieOfCore c.val = d)
  | .groupRegs c => decide (dieOfCore c.val = d)
  | .groupSlots c => decide (dieOfCore c.val = d)
  | .instrBuffer c _ => decide (dieOfCore c.val = d)
  | .groupICache c _ => decide (dieOfCore c.val = d)
  | .roCache c _ => decide (dieOfCore c.val = d)
  | .elastic c _ => decide (dieOfCore c.val = d)
  | .landingBuffer (.core c) _ => decide (dieOfCore c.val = d)
  | .landingBuffer (.slice i) _ => decide (bdOfSlice i.val = d / 3)
  | .flagWord b _ => decide (b.val = d / 3)
  | .redEntry b _ => decide (b.val = d / 3)
  | .reedBuffer b => decide (b.val = d / 3)
  | .schedDevice b _ => decide (b.val = d / 3)
  | .schedShared b => decide (b.val = d / 3)
  | .slice i _ _ _ => decide (bdOfSlice i.val = d / 3)
  | .dieCache c a i => if atHome a then decide (bdOfSlice (i % 512) = d / 3) else decide (c.val = d)
  | _ => false

/-- BOND_FAULT (R21, R503): a fault of a bond in service counts as uncorrectable in the structure the data was bound
for. -/
def execBondFault (cd : Fin 12) (u : ErrUnit) (s : State) : Out :=
  ok (if s.unitsRun ∧ onBond cd.val u then s.uncorrectable u 0 else s)

/-- SLICE_UNCORRECTABLE (R234, R393). -/
def execSliceUncorrectable (i : Fin 512) (a : SliceArray) (line : Nat) (sector : Fin 16) (s : State) : Out :=
  ok (if s.unitsRun then s.sliceError i.val a line sector.val else s)

/-- COHERENCE_UNCORRECTABLE (R268). -/
def execCoherenceUncorrectable (d : Fin 12) (a : CohArray) (i : Nat) (s : State) : Out :=
  ok (if s.unitsRun then s.coherenceError d.val a i else s)

/-- A single error arises in a unit of memory or in its check word (R299, R315): memory keeps it until the unit is next written,
and every read of the unit until then corrects and counts it. A unit that is uncorrectable stays so. -/
def State.unitFault (s : State) (ch unit : Nat) : State :=
  s.modChan ch (fun c => if c.fault unit = .uncorrectable then c else c.setFault unit .corrected)

/-- CORRECTED_ERROR (R503, and R234, R299, R315, R424): counted, and recorded where a rule says so; one in memory when the unit is
read. -/
def execCorrectedError (u : CorrectedUnit) (s : State) : Out :=
  ok (if ¬ s.unitsRun then s
  else
    match u with
    | .deadFilter i line => s.filterError i.val line
    | .dieCacheData _ => s
    | .memoryUnit ch u => s.unitFault ch.val u.val
    | .checkBurst ch u => s.unitFault ch.val u.val
    | .fecCorrected => s.bump Reg.netportFecCorr
    | .fecUncorrectable => s.bump Reg.netportFecUncorr
    | .plainSram => s)

/-! Handling of records (R515 to R518) -/

/-- The waiting record of the highest severity, in arrival order. -/
def State.nextRecord (s : State) : Option ErrRec :=
  match s.err.waiting.find? (fun r => decide (r.sev = 2)) with
  | some r => some r
  | none =>
    match s.err.waiting.find? (fun r => decide (r.sev = 1)) with
    | some r => some r
    | none => s.err.waiting.head?

/-- Head and tail of the PF queue of a severity. -/
def State.qHead (s : State) (k : Nat) : Nat := s.regFld (Reg.errorQHead k) 0 7
def State.qTail (s : State) (k : Nat) : Nat := s.regFld (Reg.errorQTail k) 0 7

/-- The key of the first word of an entry of a PF queue. -/
def qRec (k e : Nat) : Nat := Reg.errorQRec (64 * k + e) 0

/-- The newest unread entry of the corrected queue, where it has the CLASS, UNIT and CAUSE of a record (R516). -/
def State.mergeInto (s : State) (r : ErrRec) : Option Nat :=
  if r.sev ≠ 0 ∨ s.qHead 0 = s.qTail 0 then none
  else
    let e := (s.qTail 0 + 63) % 64
    if s.regFld (qRec 0 e) 0 16 = r.cls * 256 + r.cause ∧ s.regFld (qRec 0 e + 4) 16 16 = r.unit then some e else none

/-- A record goes to its PF queue (R516): it merges, or it is counted lost where the queue is full, or it takes the next
entry. The record with its number is answered. -/
def State.toQueue (s : State) (r : ErrRec) : ErrRec × State :=
  match s.mergeInto r with
  | some e => ({ r with seq := (s.reg (qRec 0 e + 8)).toNat }, s.bumpFld (qRec 0 e + 4) 0 16 1)
  | none =>
    let r := { r with seq := s.err.seq }
    let s := s.nextSeq
    if (s.qTail r.sev + 128 - s.qHead r.sev) % 128 = 64 then (r, s.bump (Reg.errorQLost r.sev))
    else
      let s := s.setRegs (qRec r.sev (s.qTail r.sev % 64)) (r.words none)
      (r, s.setReg (Reg.errorQTail r.sev) (BitVec.ofNat 32 ((s.qTail r.sev + 1) % 128)))

/-- A record goes to the ERRLOG of its device, which raises VF vector 5 (R513, R515, R520); a full ring drops it. -/
def State.toErrlog (s : State) (n : Nat) (r : ErrRec) : State :=
  if (s.vd n).st = .absent then s
  else
    let head := s.regFld (Reg.errlogHead n) 0 5
    let tail := s.regFld (Reg.errlogTail n) 0 5
    if (tail + 32 - head) % 32 = 16 then s.bump (Reg.errlogLost n)
    else
      let l := match r.ext with
        | some e => ((s.extent e).logical).getD 0
        | none => 0
      let s := s.setRegs (Reg.errlogRec n (tail % 16) 0) (r.words (some l))
      (s.setReg (Reg.errlogTail n) (BitVec.ofNat 32 ((tail + 1) % 32))).vecVf n 5

/-- Step 3 of a record (R515 to R517): PF queue and ERRLOG; FAULT records go to the ERRLOG alone. The record with its number is
answered. -/
def State.queueRecord (s : State) (r : ErrRec) : ErrRec × State :=
  let (r, s) := if r.cls = 1 then ({ r with seq := s.err.seq }, s.nextSeq) else s.toQueue r
  (r, match r.vd with
    | some n => s.toErrlog n r
    | none => s)

/-- Step 4 of a record (R517): PF vector 1; VF vector 5 goes with the ERRLOG record. -/
def State.recordVectors (s : State) (r : ErrRec) : State :=
  if r.cls ≠ 1 ∧ (r.sev ≠ 0 ∨ s.regBit Reg.errorCtrl 0) then s.vecPf 1 else s

/-- Step 5 of a record (R515, R517): its journal entry is submitted. -/
def State.journalRecord (s : State) (r : ErrRec) : State :=
  if r.cls = 1 then s else s.journal 0 r.sev r.cls (r.bytes ++ r.note)

/-- The records in handling are these. -/
def State.setHandling (s : State) (l : List (ErrRec × Nat)) : State := { s with err := { s.err with handling := l } }

/-- The handling of a record goes on by one step (R517): `rest` are the preempted ones. -/
def State.handleStep (s : State) (r : ErrRec) (done : Nat) (rest : List (ErrRec × Nat)) : State :=
  if done < 3 then
    let (r, s) := s.queueRecord r
    s.setHandling ((r, 3) :: rest)
  else if done = 3 then (s.recordVectors r).setHandling ((r, 4) :: rest)
  else (s.journalRecord r).setHandling rest

/-- RECORD_HANDLING (R517, R518): one step of the steward. A waiting record of a severity above that at work is captured, which
preempts it; else the record at work goes on. -/
def execRecordHandling (s : State) : Out :=
  ok (match s.nextRecord, s.err.handling with
    | none, [] => s
    | none, (r, k) :: rest => s.handleStep r k rest
    | some w, [] => { s with err := { s.err with waiting := s.err.waiting.erase w, handling := [(w, 1)] } }
    | some w, (r, k) :: rest =>
      if r.sev < w.sev then
        { s with err := { s.err with waiting := s.err.waiting.erase w, handling := (w, 1) :: (r, k) :: rest } }
      else s.handleStep r k rest)

/-! Release (R509, R519) -/

/-- The extents of a device that are suspect. -/
def State.suspectsOf (s : State) (n : Nat) : List Nat :=
  (s.pool.extents.filter (fun (e : Nat × Extent) => decide (e.2.st = .suspect) && decide (e.2.owner = n))).map (·.1)

/-- The choice of ERROR_SCRUB for an extent. -/
def State.scrubBit (s : State) (e : Nat) : Bool := s.regBit (Reg.errorScrub (e / 32)) (e % 32)

/-- A release ends with a result. -/
def State.releaseDone (s : State) (result : Nat) : State :=
  (s.setRegFld Reg.errorContainStatus 0 8 result).setRegFld Reg.errorContainStatus 30 2 1

/-- GO of ERROR_CONTAIN_CMD (R509, R519): SCRUB is sampled; extents that keep their contents are OWNED at once. -/
def State.containGo (s : State) (op n : Nat) : State :=
  if ¬ s.portServes then s
  else
    let s := (s.setRegFld Reg.errorContainCmd 0 8 n).setRegFld Reg.errorContainCmd 8 4 op
    if s.err.release.isSome then s.setRegFld Reg.errorContainStatus 0 8 3
    else if op ≠ 0 then s.releaseDone 2
    else if (s.vd n).st ≠ .contained then s.releaseDone 1
    else
      let susp := s.suspectsOf n
      let scrub := susp.filter (fun e => s.scrubBit e)
      let s := (susp.filter (fun e => !s.scrubBit e)).foldl (fun s e => s.modExtent e (fun x => { x with st := .owned })) s
      ({ s with err := { s.err with release := some ⟨n, scrub⟩ } }).setRegBit Reg.errorContainStatus 31 true

/-- RELEASE (R509). -/
def execRelease (vd : Fin 256) (s : State) : Out := ok (s.containGo 0 vd.val)

/-- RELEASE_END (R509): the chosen extents have been zero filled; with every suspect extent OWNED the device is active. -/
def execReleaseEnd (s : State) : Out :=
  ok (match s.err.release with
    | none => s
    | some r =>
      let s := r.scrub.foldl (fun s e => (s.zeroExtent e).modExtent e (fun x => { x with st := .owned })) s
      let s : State := { s with err := { s.err with release := none } }
      (s.modVd r.vd (fun v => { v with st := .active })).releaseDone 0)

/-- The sticky registers are cleared (R512, R519). -/
def State.clearSticky (s : State) : State :=
  (s.setReg Reg.errorStickyStatus 0).setRegs (Reg.errorStickyRec 0) (List.replicate 24 0)

/-- STICKY_CLEAR (R512). -/
def execStickyClear (s : State) : Out := ok (if s.portServes then s.clearSticky else s)

/-- A write of ERROR_Qs_HEAD (R10, R516, R519): consumes records; beyond TAIL it is ignored and counted. -/
def State.qHeadW (s : State) (k : Nat) (v : W32) : State × Bool :=
  let h := fld v 0 7
  let past := decide ((s.qTail k + 128 - s.qHead k) % 128 < (h + 128 - s.qHead k) % 128)
  if past then (s, true) else (s.setReg (Reg.errorQHead k) (BitVec.ofNat 32 h), setsRsvd (Reg.errorQHead k) v)

/-- A write of ERROR_Qs_HEAD with its count. -/
def State.writeQHead (s : State) (k : Nat) (v : W32) : State := State.counted (s.qHeadW k v) (Reg.errorQHead k)

/-- ERROR_QUEUE_HEAD_WRITE (R516). -/
def execErrorQueueHeadWrite (sev : Fin 3) (head : W32) (s : State) : Out :=
  ok (if s.portServes then s.writeQHead sev.val head else s)

end Sys2Proof.Machine
end

