-- ==== Sys2Proof/Machine/HomeOps.lean ====
section
/-! DEFINITION. Home operations (R221 to R228): their arithmetic, their arrival at a line, their application, the
resending of one that had a Nack. -/

namespace Sys2Proof.Machine

/-- Bytes of an operand type (R221). -/
def HomeType.width : HomeType → Nat
  | .int32 => 4
  | .int64 => 8
  | .fp32 => 4
  | .bf16 => 2
  | .fp64 => 8

/-- The floating-point format of an operand type. -/
def HomeType.fmt : HomeType → Option Fmt
  | .int32 => none
  | .int64 => none
  | .fp32 => some .fp32
  | .bf16 => some .bf16
  | .fp64 => some .fp64

/-- Minimum or maximum of two signed integers of `w` bits, as bit patterns. -/
def pickInt (w : Nat) (isMax : Bool) (a b : Nat) : Nat :=
  if (if isMax then decide (sext a w < sext b w) else decide (sext b w < sext a w)) then b else a

/-- One home operation on bit patterns: old value and operand (R104, R221). Compare-and-swap is apart. -/
def homeValue (fn : HomeFn) (ty : HomeType) (old b : Nat) : Nat :=
  let w := 8 * ty.width
  match fn, ty.fmt with
  | .add, some f => f.addc old b
  | .add, none => (old + b) % 2 ^ w
  | .min, some f => f.minc false old b
  | .min, none => pickInt w false old b
  | .max, some f => f.minc true old b
  | .max, none => pickInt w true old b
  | .and, _ => old &&& b
  | .or, _ => old ||| b
  | .xor, _ => old ^^^ b
  | .swap, _ => b
  | .cas, _ => old

/-- The old values that operands applied one after another meet, and the last value (R137). -/
def homeChain (fn : HomeFn) (ty : HomeType) : Nat → List Nat → List Nat × Nat
  | old, [] => ([], old)
  | old, b :: bs =>
    let r := homeChain fn ty (homeValue fn ty old b) bs
    (old :: r.1, r.2)

/-- A byte list cut into values of `w` bytes, `n` of them. -/
def valuesOf (w : Nat) : Nat → List Byte → List Nat
  | 0, _ => []
  | n + 1, bs => leNat (bs.take w) :: valuesOf w n (bs.drop w)

/-- The new bytes of an operation's target, and its response (R137, R221, R223, R224). -/
def HomeOp.apply (o : HomeOp) (old : List Byte) : List Byte × OpRsp :=
  let w := o.ty.width
  if o.reduce then
    let n := 64 / w
    let r := ((valuesOf w n old).zip (valuesOf w n o.operand)).flatMap
      (fun p => leBytes w (homeValue o.fn o.ty p.1 p.2))
    (r, ⟨o.src, o.lanes, [], true⟩)
  else
    match o.fn with
    | .cas =>
      let hit := decide (leNat old = leNat o.cmp)
      let new := if hit then o.operand.take w else old
      (new, ⟨o.src, o.lanes, old :: List.replicate (o.lanes.length - 1) new, hit⟩)
    | _ =>
      let r := homeChain o.fn o.ty (leNat old) (valuesOf w o.lanes.length o.operand)
      (leBytes w r.2, ⟨o.src, o.lanes, r.1.map (leBytes w), true⟩)

/-- Bytes an operation reads and writes. -/
def HomeOp.len (o : HomeOp) : Nat := if o.reduce then 64 else o.ty.width

/-- Take operation `q` from those that arrive at a slice. -/
def State.takeOp (s : State) (i q : Nat) : State :=
  s.modSlice i (fun sl => { sl with opsIn := delNth sl.opsIn q })

/-- An operation joins the queue of its line (R224); its target is no longer read for the last time (R218, R228). DEDUCED: that
happens as it joins, so that an operation queued before the mark does not undo it (log entry 53). -/
def Line.joinOp (l : Line) (o : HomeOp) : Line :=
  let lo := o.addr % 4096 / 64
  let hi := (o.addr % 4096 + o.len - 1) / 64
  let l := { l with
    ops := l.ops ++ [o]
    dead := (List.range (hi + 1 - lo)).foldl (fun d c => setBits d (lo + c) 1 0) l.dead }
  { l with deadpend := l.deadpend && l.isDead }

/-- An operation that its home cannot queue has Nack (R226); one that nobody waits for any more is on its way again. -/
def State.nackOp (s : State) (i : Nat) (o : HomeOp) : State :=
  match s.srcSite o.src with
  | some site => s.sendReed o.vd (.nack o) (.slice i) site
  | none => s.sendHomeOp o

/-- HOME_OPERATION_ARRIVAL (R224, R226, R228, R233, R261): operation `q` at slice `i` joins its line's queue once no
die cache holds its sector; a full queue or too many busy lines answer it with Nack. It waits for its
line, for a HELD line and for a transaction. -/
def homeOpArrival (i q : Nat) (s : State) : State :=
  let sl := s.slice i
  match sl.opsIn[q]? with
  | none => s
  | some o =>
    if s.refuses o.vd o.src then s else
    match sl.find (lineOf o.addr) with
    | none => s
    | some k =>
      let l := sl.way k
      let sec := secIdx o.addr
      let dir := l.dir sec
      if l.held then s
      else if dir.st = DState.tr then s
      else if dir.vec ≠ 0 then s.openRecall i k sec false []
      else
        let s := s.takeOp i q
        if 32 ≤ l.ops.length ∨ (l.ops.isEmpty ∧ 64 ≤ sl.busyLines) then s.nackOp i o
        else s.modSlice i (fun sl => sl.modWay k (fun l => l.joinOp o))

/-- The response to an operation leaves its home (R224). -/
def State.respond (s : State) (i n : Nat) (r : OpRsp) : State :=
  match s.srcSite r.src with
  | some site => s.sendReed n (.rsp r) (.slice i) site
  | none => s

/-- Whether a request that waits at a slice comes before the operations queued on its line (R209, R225, R279): it touches the
sector, and it is an accepted write, or the line is not HELD against it. -/
def State.beforeOps (s : State) (l : Line) (sec : Nat) (r : HReq) : Bool :=
  !r.refill && decide (lineOf r.addr = l.line) && decide (secIdx r.addr = sec)
  && (r.accepted || (!l.held && !s.refuses r.vd r.src))

/-- HOME_OPERATION_APPLY (R218, R224, R225): the head of a line's queue is applied once its sector is in V or D, no
die cache holds a copy, and the requests of the sector have been served; else what it waits for is asked for. -/
def homeOpApply (i line : Nat) (s : State) : State :=
  let sl := s.slice i
  match sl.find line with
  | none => s
  | some k =>
    let l := sl.way k
    match l.ops with
    | [] => s
    | o :: rest =>
      let sec := secIdx o.addr
      let dir := l.dir sec
      if dir.st = DState.tr then s
      else if dir.vec ≠ 0 then s.openRecall i k sec false []
      else if (l.sec sec).filling then s
      else if ¬ l.full sec then s.startFill i k sec
      else if sl.reqs.any (s.beforeOps l sec) then s
      else
        let r := o.apply (rdN l.data (o.addr % 4096) o.len)
        let bs := (addrBytes (o.addr % 256) r.1)
        let s := s.landBytes i k sec bs l.deadpend
        let s := s.modSlice i (fun sl => sl.modWay k (fun l => { l with ops := rest }))
        let s := s.respond i o.vd r.2
        if l.discarding then s.settleLine i k else s

/-- HOME_OPERATION_ARRIVAL (R224). -/
def execHomeOperationArrival (i : Fin 512) (q : Nat) (s : State) : Out := ok (homeOpArrival i.val q s)

/-- HOME_OPERATION_APPLY (R224). -/
def execHomeOperationApply (i : Fin 512) (line : Nat) (s : State) : Out := ok (homeOpApply i.val line s)

/-- Whether an answer goes to the group in a slot of a core. -/
def ReqSrc.ofGroup (r : ReqSrc) (c g : Nat) : Bool :=
  match r with
  | .load d h _ => decide (d = c) && decide (h = g)
  | .store d h _ => decide (d = c) && decide (h = g)
  | _ => false

/-- HOME_OPERATION_RESEND (R226): the group resends its oldest operation that had a Nack. -/
def execHomeOperationResend (c : Fin 96) (g : Fin 64) (s : State) : Out :=
  ok (match s.nacked.find? (fun o => o.src.ofGroup c.val g.val) with
  | none => s
  | some o => ({ s with nacked := s.nacked.erase o }).sendHomeOp o)

end Sys2Proof.Machine
end

