-- ==== Sys2Proof/Machine/Special.lean ====
section
/-! DEFINITION. Arithmetic of the group engine (R127 to R129) on bit patterns: IEEE 754 operations rounded by ROUND,
special functions within their stated accuracy, conversions between any two format codes. -/

namespace Sys2Proof.Machine

/-! IEEE 754 with a rounding direction (R126 ROUND, R128) -/

/-- Round a value into a format in direction 0 nearest even, 1 toward zero, 2 toward +inf, 3 toward -inf. -/
def Fmt.encDir (f : Fmt) (dir : Nat) (v : FVal) : Nat :=
  let neg : Bool := match v with
    | .fin n _ _ => n
    | _ => false
  let mode : RMode := match dir with
    | 0 => .rne
    | 1 => .rtz
    | 2 => if neg then .rtz else .away
    | _ => if neg then .away else .rtz
  f.enc mode false v

/-- The exact sum with the zero signs of a direction: rounding toward -inf makes an exact zero negative unless
both operands are positive zeros (IEEE 754, R128). -/
def FVal.addDir (dir : Nat) (x y : FVal) : FVal :=
  match x.add y with
  | .fin n 0 e =>
    if dir = 3 then
      match x, y with
      | .fin false 0 _, .fin false 0 _ => .fin false 0 e
      | _, _ => .fin true 0 e
    else .fin n 0 e
  | v => v

/-- VFP32 and VFP64 (R127, R128); none for a reserved FUNCT. -/
def vfpOp (f : Fmt) (funct dir a b c : Nat) : Option Nat :=
  let x := f.dec a
  let y := f.dec b
  let top := 2 ^ (f.eb + f.mb)
  match funct with
  | 0 => some (f.encDir dir (x.addDir dir y))
  | 1 => some (f.encDir dir (x.mul y))
  | 2 => some (f.encDir dir ((x.mul y).addDir dir (f.dec c)))
  | 3 => some (f.minc false a b)
  | 4 => some (f.minc true a b)
  | 5 => some (if x = .nan then f.nanCode else a % top)
  | 6 => some (if x = .nan then f.nanCode else a ^^^ top)
  | _ => none

/-! Special functions (R128)

A result whose accuracy alone is stated is one of the FP32 values within two units in the last place of the
exact one, which of them is free (log entry 6). The exact value is found in fixed point with 2^96 as one. -/

/-- One in fixed point, and its exponent. -/
def fxBits : Nat := 96
def fxOne : Nat := 2 ^ 96

/-- The integer square root by Newton's rule from above. -/
def isqrtFrom : Nat → Nat → Nat → Nat
  | 0, _, r => r
  | k + 1, n, r =>
    let t := (r + n / r) / 2
    if t < r then isqrtFrom k n t else r

/-- floor of the square root. -/
def isqrt (n : Nat) : Nat := if n = 0 then 0 else isqrtFrom (Nat.log2 n + 8) n (2 ^ (Nat.log2 n / 2 + 1))

/-- The square root of m 2^e, exact enough that one rounding of it is right: a sticky bit ends it. -/
def sqrtVal (m : Nat) (e : Int) : FVal :=
  let sh : Nat := 140 + (if (e - 140) % 2 = 0 then 0 else 1)
  let n := m * 2 ^ sh
  let r := isqrt n
  let sticky := if r * r = n then 0 else 1
  .fin false (2 * r + sticky) ((e - sh) / 2 - 1)

/-- The quotient a / b as a value with a sticky bit. -/
def divVal (neg : Bool) (a b : Nat) (e : Int) : FVal :=
  let n := a * 2 ^ 200
  .fin neg (2 * (n / b) + (if n % b = 0 then 0 else 1)) (e - 201)

/-- Fraction bits of log2 of x in [1, 2), `k` of them, by squaring. -/
def log2Frac : Nat → Nat → Nat
  | 0, _ => 0
  | k + 1, x =>
    let y := x * x / fxOne
    if 2 * fxOne ≤ y then 2 ^ k + log2Frac k (y / 2) else log2Frac k y

/-- log2 of m 2^e. -/
def log2Val (m : Nat) (e : Int) : FVal :=
  let l := Nat.log2 m
  let x := if l ≤ fxBits then m * 2 ^ (fxBits - l) else m / 2 ^ (l - fxBits)
  let v : Int := (l + e) * 2 ^ 80 + log2Frac 80 x
  .fin (decide (v < 0)) v.natAbs (-80)

/-- The product of the square roots of two that the bits of a fraction select. -/
def exp2Frac : Nat → Nat → Nat → Nat → Nat
  | 0, _, _, acc => acc
  | k + 1, root, f, acc =>
    let root := isqrt (root * fxOne)
    exp2Frac k root (2 * f % fxOne) (if fxOne ≤ 2 * f then acc * root / fxOne else acc)

/-- 2^x for a value x of magnitude below 2^10; beyond that the result has left the FP32 range. -/
def exp2Val (neg : Bool) (m : Nat) (e : Int) : FVal :=
  if m ≠ 0 ∧ 10 ≤ ilog m e then (if neg then .fin false 1 (-400) else .fin false 1 400)
  else
    let mag : Nat := if 0 ≤ e + fxBits then m * 2 ^ (e + fxBits).toNat else m / 2 ^ (-(e + fxBits)).toNat
    let v : Int := if neg then -(mag : Int) else mag
    let i := v / (fxOne : Int)
    .fin false (exp2Frac 80 (2 * fxOne) (v % (fxOne : Int)).toNat fxOne) (i - fxBits)

/-- pi in fixed point. -/
def fxPi : Nat := 0x3243F6A8885A308D313198A2E

/-- Terms of the sine (odd) or cosine (even) series of an angle in fixed point. -/
def trigSeries (t : Nat) : Nat → Nat → Nat → Int → Bool → Int
  | 0, _, _, acc, _ => acc
  | k + 1, n, term, acc, neg =>
    let acc := if neg then acc - (term : Int) else acc + (term : Int)
    trigSeries t k (n + 2) (term * t / fxOne * t / fxOne / ((n + 1) * (n + 2))) acc (!neg)

/-- sin (pi f) for f in [0, 1/2], in fixed point. -/
def sinPiFx (f : Nat) : Nat :=
  let t := f * fxPi / fxOne
  (trigSeries t 24 1 t 0 false).toNat

/-- cos (pi f) for f in [0, 1/2], in fixed point. -/
def cosPiFx (f : Nat) : Nat :=
  let t := f * fxPi / fxOne
  (trigSeries t 24 0 fxOne 0 false).toNat

/-- sin (pi x): an argument below 2^-30 gives pi x; else it is reduced modulo 2 exactly. -/
def sinPiVal (neg : Bool) (m : Nat) (e : Int) : FVal :=
  if m = 0 then .zero neg
  else if ilog m e < -30 then .fin neg (m * fxPi) (e - fxBits)
  else
    let mag : Nat := if 0 ≤ e + fxBits then m * 2 ^ (e + fxBits).toNat else m / 2 ^ (-(e + fxBits)).toNat
    let r := mag % (2 * fxOne)
    let flip := decide (fxOne ≤ r)
    let r := r % fxOne
    let f := if 2 * r ≤ fxOne then r else fxOne - r
    .fin (neg != flip) (sinPiFx f) (-96)

/-- cos (pi x). -/
def cosPiVal (m : Nat) (e : Int) : FVal :=
  let mag : Nat := if m = 0 then 0
    else if 0 ≤ e + fxBits then m * 2 ^ (e + fxBits).toNat else m / 2 ^ (-(e + fxBits)).toNat
  let r := mag % (2 * fxOne)
  let r := if r ≤ fxOne then r else 2 * fxOne - r
  if 2 * r ≤ fxOne then
    -- near a half the sine of the rest keeps the accuracy
    (if 4 * r ≤ fxOne then .fin false (cosPiFx r) (-96) else .fin false (sinPiFx (fxOne / 2 - r)) (-96))
  else
    let q := fxOne - r
    if 4 * q ≤ fxOne then .fin true (cosPiFx q) (-96) else .fin true (sinPiFx (fxOne / 2 - q)) (-96)

/-- An FP32 code moved by some units in the last place, within the finite codes and infinity. -/
def ulpMove (code : Nat) (d : Int) : Nat :=
  let top := 2 ^ 31
  let v : Int := if code < top then (code : Int) else -((code % top : Nat) : Int)
  let w := max (-(0x7F800000 : Int)) (min 0x7F800000 (v + d))
  if w < 0 ∨ (w = 0 ∧ top ≤ code) then top + w.natAbs else w.toNat

/-- A free FP32 result: any value, a NaN in its canonical encoding (R82). -/
def freeFp32 (funct : Nat) (a : W32) : Nat :=
  let v := (Config.freeVsf funct a).toNat
  if Fmt.fp32.dec v = .nan then Fmt.fp32.nanCode else v

/-- A result within two units in the last place of a value, which one is free (R128): of a value that lies between
two codes, one of the two, the next below or the next above them; of a value that is a code, up to two from it. -/
def nearFp32 (funct : Nat) (a : W32) (v : FVal) : Nat :=
  let code := Fmt.fp32.enc .rtz false v
  let x := (Config.freeVsf funct a).toNat
  let exact : Bool := match v with
    | .fin _ m e => Fmt.fp32.exact m e
    | _ => true
  let d : Int := if exact then ((x % 5 : Nat) : Int) - 2 else ((x % 4 : Nat) : Int) - 1
  ulpMove code (if 2 ^ 31 ≤ code then -d else d)

/-- VSF (R127, R128): none for a reserved FUNCT. The special cases the rule states are given; a NaN gives the
canonical NaN; where the rule states neither a case nor a value to be near, the result is free. -/
def vsfOp (funct dir : Nat) (a : W32) : Option Nat :=
  let x := Fmt.fp32.dec a.toNat
  let inf : Nat := 0x7F800000
  let ninf : Nat := 0xFF800000
  if 6 < funct then none
  else
    match x with
    | .nan => some Fmt.fp32.nanCode
    | .inf neg =>
      match funct with
      | 2 => some (if neg then Fmt.fp32.nanCode else inf)
      | 3 => some (if neg then freeFp32 funct a else inf)
      | 4 => some (if neg then Fmt.fp32.nanCode else freeFp32 funct a)
      | _ => some (freeFp32 funct a)
    | .fin neg m e =>
      match funct with
      | 0 => some (if m = 0 then freeFp32 funct a else nearFp32 funct a (divVal neg 1 m (-e)))
      | 1 =>
        if m = 0 then some (if neg then ninf else freeFp32 funct a)
        else if neg then some (freeFp32 funct a)
        else
          match sqrtVal m e with
          | .fin _ r g => some (nearFp32 funct a (divVal false 1 r (-g)))
          | _ => some (freeFp32 funct a)
      | 2 => some (if m = 0 then a.toNat else if neg then Fmt.fp32.nanCode else Fmt.fp32.encDir dir (sqrtVal m e))
      | 3 => some (if ¬ neg ∧ m ≠ 0 ∧ 7 ≤ ilog m e then inf else nearFp32 funct a (exp2Val neg m e))
      | 4 => some (if m = 0 then ninf else if neg then Fmt.fp32.nanCode else nearFp32 funct a (log2Val m e))
      | 5 => some (nearFp32 funct a (sinPiVal neg m e))
      | _ => some (nearFp32 funct a (cosPiVal m e))

/-! Conversions (R129) -/

/-- VCVT of a source code to a destination code: `bits` are the source's bits, `r` the draw of a stochastic
rounding. Both codes are at most 0xA. -/
def vcvtOp (src dst round : Nat) (sat : Bool) (r bits : Nat) : Nat :=
  let mode : RMode := match round with
    | 1 => .rtz
    | 2 => .sr r
    | _ => .rne
  let bits := bits % 2 ^ codeWidth src
  match Fmt.ofCode src, Fmt.ofCode dst with
  | some f, some g =>
    if src = dst then (if f.dec bits = .nan then f.nanCode else bits)
    else g.enc mode sat (f.dec bits)
  | none, some g => g.enc mode sat (FVal.ofInt (sext bits (codeWidth src)))
  | some f, none =>
    let w := codeWidth dst
    let hi : Int := (2 ^ (w - 1) : Nat) - 1
    let lo : Int := -((2 ^ (w - 1) : Nat) : Int)
    match f.dec bits with
    | .nan => 0
    | .inf neg => wrapN w (if neg then lo else hi)
    | .fin n m e => wrapN w (max lo (min hi (FVal.roundInt mode n m e)))
  | none, none =>
    let v := sext bits (codeWidth src)
    let w := codeWidth dst
    wrapN w (max (-((2 ^ (w - 1) : Nat) : Int)) (min ((2 ^ (w - 1) : Nat) - 1) v))

end Sys2Proof.Machine
end

