-- ==== Sys2Proof/Machine/Groups.lean ====
section
/-! DEFINITION. The group engine (chapter Thread groups) but for device memory: launch, placement, fetch, arithmetic,
branches, the tile store, faults. -/

namespace Sys2Proof.Machine

/-! Launching (R110 to R116) -/

/-- Lanes of a WIDTH code (R110). -/
def widthOf (c : Nat) : Nat := 32 * 2 ^ c

/-- Start and length of the declared tile-store range of a TGL, in granules. -/
def tglBase (w : Nat) : Nat := bitsOf w 73 15
def tglLen (w : Nat) : Nat := bitsOf w 57 16

/-- TGL (R110 to R113, R116): checked at issue; at its start a kernel boundary, then its kernel is in flight. A
count of 0 launches nothing. -/
def execTgl (c : Fin 96) (ph : Phase) (s : State) : Out :=
  ok (match ph with
  | .issue => s.issueOp c.val 0x20 (fun w s' =>
      let k := s'.core c.val
      if k.stalls .group then s
      else
        let r8 := bitsOf w 108 6
        let priv := match s'.coreJob c.val with
          | some (_, j) => j.cur.priv
          | none => false
        let rng := if tglLen w = 0 then [] else [(tglBase w, tglBase w + tglLen w)]
        s'.checked c.val
          [(decide (bitsOf w 88 5 ≠ 0) || decide (bitsOf w 0 32 ≠ 0) || decide (r8 = 0) || decide (32 < r8)
            || decide (32768 < tglBase w + tglLen w) || (bitOf w 117 && !priv), 0x02)]
          (fun s => s.enqueue c.val .group w (k.sreg (bitsOf w 103 5)) (k.sreg (bitsOf w 98 5))
            (k.sreg (bitsOf w 93 5)) 0 0 rng rng))
  | .act => s.actHead c.val .group 0x20 (fun i e s =>
      let w := e.word
      let s := s.modCore c.val Core.boundary
      let count := fld e.sa 0 24
      if count = 0 then s.dropEntry c.val .group i true
      else
        let k : GKernel := ⟨bitsOf w 114 3, widthOf (bitsOf w 118 2), 8 * bitsOf w 108 6, bitOf w 117, e.sc.toNat,
          wrapN 64 ((e.pc : Int) + 16 * sext (bitsOf w 32 25) 25), count, e.sb, 0, 0, e.sb_⟩
        (s.dropEntry c.val .group i false).modCore c.val (fun x => { x with kernels := x.kernels ++ [k] })))

/-- The group slots in use of a core. -/
def Core.groups (k : Core) : List (Nat × Group) :=
  k.gslots.filterMap (fun e => e.2.map (fun g => (e.1, g)))

/-- Registers per thread of the kernel of a tag. -/
def Core.kernelOf (k : Core) (tag : Nat) : Option GKernel := k.kernels.find? (fun g => decide (g.tag = tag))

/-- Registers in use in each lane of half `h` of sub-engine `e` (R119). -/
def Core.regsUsed (k : Core) (e h : Nat) : Nat :=
  sumN (k.groups.map (fun g =>
    let r := ((k.kernelOf g.2.tag).map (·.regs)).getD 0
    if g.1 / 16 ≠ e then 0
    else if g.2.width = 32 then (if g.2.half = h then r else 0)
    else g.2.width / 64 * r))

/-- The free slot of lowest number of a sub-engine. DESIGN CHOICE: the spec does not say which free slot a group takes
(log entry 17). -/
def Core.freeSlot (k : Core) (e : Nat) : Option Nat :=
  ((List.range 16).map (fun i => 16 * e + i)).find? (fun g => !(k.groups.map (·.1)).contains g)

/-- Free registers per lane of a sub-engine for a width, and the half a width-32 group goes to (R119, R120). DEDUCED: the
larger half counts for a width-32 group, the smaller for a wider one (log entry 17). -/
def Core.seFree (k : Core) (e width : Nat) : Nat × Nat :=
  let lo := 1024 - k.regsUsed e 0
  let hi := 1024 - k.regsUsed e 1
  if width = 32 then (if lo < hi then (hi, 1) else (lo, 0)) else (min lo hi, 0)

/-- The sub-engine the next group of a kernel goes to (R120). -/
def Core.placeAt (k : Core) (g : GKernel) : Option Nat :=
  let need := if g.width = 32 then g.regs else g.width / 64 * g.regs
  let cands := (List.range 4).filter (fun e => (k.freeSlot e).isSome && decide (need ≤ (k.seFree e g.width).1))
  let best := (cands.map (fun e => (k.seFree e g.width).1)).foldl max 0
  cands.find? (fun e => decide ((k.seFree e g.width).1 = best))

/-- The registers a thread starts with (R121). -/
def startRegs (g : GKernel) (num lcore : Nat) : SMap W32 :=
  (List.range g.width).foldl (fun m l =>
    [g.arg.toNat, g.arg.toNat / 2 ^ 32, num, l, lcore, g.tag].zipIdx.foldl
      (fun m v => SMap.set (fun _ => (0 : W32)) m (256 * v.2 + l) (BitVec.ofNat 32 v.1)) m) []

/-- GROUP_PLACEMENT (R119 to R121): the next group of the oldest kernel with groups to place takes a slot. -/
def execGroupPlacement (c : Fin 96) (s : State) : Out :=
  ok (
    let k := s.core c.val
    match k.kernels.find? (fun g => decide (g.placed < g.count)) with
    | none => s
    | some g =>
      match k.placeAt g with
      | none => s
      | some e =>
        match k.freeSlot e with
        | none => s
        | some slot =>
          let x : Group := ⟨g.tag, g.placed, g.width, (k.seFree e g.width).2,
            startRegs g g.placed ((s.coreLogical c.val).getD 0), g.entry, 2 ^ g.width - 1, 2 ^ g.width - 1, [], 0, [], 0,
            [], 2 ^ 32 * (k.nextSb + 1), .ready, false⟩
          (s.setGroup c.val slot (some x)).modCore c.val (fun k => { k with
            nextSb := k.nextSb + 1
            kernels := k.kernels.map (fun (y : GKernel) => if y.tag = g.tag then { y with placed := y.placed + 1 } else y) }))

/-- TGWAIT (R114): checked at issue; it completes once no kernel of a tag in TAGMASK is in flight. -/
def execTgwait (c : Fin 96) (ph : Phase) (s : State) : Out :=
  ok (match ph with
  | .issue => s.issueOp c.val 0x21 (fun w s' =>
      if (s'.core c.val).stalls .group then s
      else s'.checked c.val [(decide (bitsOf w 0 112 ≠ 0), 0x02)]
        (fun s => s.enqueue c.val .group w 0 0 0 0 0 [] []))
  | .act => s.actHead c.val .group 0x21 (fun i e s =>
      if (s.core c.val).kernels.any (fun g => bitOf (bitsOf e.word 112 8) g.tag) then s
      else s.finishEntry c.val .group i))

/-- GROUP_KERNEL_END (R113): a kernel whose groups have all ended leaves, with its scoreboard entry. -/
def execGroupKernelEnd (c : Fin 96) (tag : Fin 8) (s : State) : Out :=
  ok (s.modCore c.val (fun k => match k.kernelOf tag.val with
    | some g =>
      if g.count ≤ g.ended then { k with
        kernels := k.kernels.filter (fun x => !decide (x.tag = tag.val))
        board := k.board.filter (fun b => !decide (some b.id = g.sb_)) }
      else k
    | none => k))

/-! Fields of a group instruction (R126) -/

/-- A group instruction. -/
structure GInstr where
  op : Nat
  dst : Nat
  a : Nat
  b : Nat
  c : Nat
  funct : Nat
  round : Nat
  sat : Bool
  immB : Bool
  vol : Bool
  dead : Bool
  ret : Bool
  fmt : Nat
  size : Nat
  resv : Nat
  imm : Nat
deriving DecidableEq, Repr

/-- The fields of a word. -/
def parseG (w : Nat) : GInstr :=
  ⟨bitsOf w 120 8, bitsOf w 112 8, bitsOf w 104 8, bitsOf w 96 8, bitsOf w 88 8, bitsOf w 80 8, bitsOf w 78 2,
   bitOf w 77, bitOf w 76, bitOf w 75, bitOf w 74, bitOf w 73, bitsOf w 69 4, bitsOf w 66 3, bitsOf w 64 2, bitsOf w 0 64⟩

/-- The opcodes of the group engine (R127). -/
def groupOpcodes : List Nat :=
  [0x80, 0x81, 0x84, 0x85, 0x86, 0x88, 0x8A, 0x8B, 0x8C, 0x90, 0x91, 0xA0, 0xA1, 0xA2, 0xA3, 0xA4, 0xA8, 0xA9, 0xAC]

/-! Registers of lanes -/

/-- Register `r` of a lane. -/
def Group.reg (g : Group) (r l : Nat) : W32 := SMap.get (fun _ => (0 : W32)) g.regs (256 * r + l)

/-- Write register `r` of a lane. -/
def Group.setReg (g : Group) (r l : Nat) (v : Nat) : Group :=
  { g with regs := SMap.set (fun _ => (0 : W32)) g.regs (256 * r + l) (BitVec.ofNat 32 v) }

/-- The value of `n` registers from `r` upward, low word first (R119). -/
def Group.val (g : Group) (r l : Nat) : Nat → Nat
  | 0 => 0
  | n + 1 => (g.reg r l).toNat + 2 ^ 32 * g.val (r + 1) l n

/-- Write a value into `n` registers from `r` upward. -/
def Group.setVal (g : Group) (r l : Nat) : Nat → Nat → Group
  | 0, _ => g
  | n + 1, v => (g.setReg r l (v % 2 ^ 32)).setVal (r + 1) l n (v / 2 ^ 32)

/-- The lanes of a mask of the group. -/
def Group.lanes (g : Group) (mask : Nat) : List Nat := setBitsOf g.width mask

/-! Faults (R147) -/

/-- A group fault (R147): the record, the kernel's groups stop with their issued instructions completing, the core stops
issuing, the job ends FAULT. -/
def State.gfault (s : State) (c slot cause : Nat) : State :=
  match s.group c slot with
  | none => s
  | some g =>
    let sb := ((s.core c).kernelOf g.tag).bind (·.sb_)
    let s := s.fault c cause g.pc g.num g.active
    s.modCore c (fun k => { k.stopGroups (fun x => decide (x.tag = g.tag)) with
      kernels := k.kernels.filter (fun x => !decide (x.tag = g.tag))
      board := k.board.filter (fun b => !decide (some b.id = sb)) })

/-! Reconvergence (R131, R139) -/

/-- Lanes parked at any lock level. -/
def Group.parkedLanes (g : Group) : Nat := (g.locks.map (·.parked)).foldl (· ||| ·) 0

/-- One move of the group when its active lanes have met their reconvergence point, have ended, or have released
the lock of the innermost level: none where it goes on as it is. -/
def Group.settle1 (g : Group) : Option Group :=
  let free := g.alive &&& (2 ^ 256 - 1 - g.parkedLanes)
  let lockMove : Option Group :=
    match g.locks with
    | lvl :: rest =>
      if lvl.holding = 0 ∧ ¬ lvl.again ∧ g.stack.length ≤ lvl.depth then
        if lvl.parked &&& g.alive = 0 then some { g with locks := rest, active := lvl.mask &&& g.alive }
        else some { g with
          locks := { lvl with again := true } :: rest
          active := lvl.parked &&& g.alive
          pc := lvl.pc }
      else none
    | [] => none
  match lockMove with
  | some g' => some g'
  | none =>
    match g.stack with
    | [] => none
    | e :: rest =>
      if g.active ≠ 0 ∧ g.pc ≠ e.rpc then none
      else if ¬ e.second then some { g with
          active := e.taken &&& free
          pc := e.target
          stack := { e with second := true } :: rest }
      else some { g with active := e.full &&& free, pc := e.rpc, stack := rest }

/-- All the moves. -/
def Group.settle : Nat → Group → Group
  | 0, g => g
  | n + 1, g =>
    match g.settle1 with
    | some g' => Group.settle n g'
    | none => g

/-- The group goes to an address (R131). -/
def Group.goto (g : Group) (pc : Nat) : Group := Group.settle 128 { g with pc := pc }

/-! What an instruction names and waits for (R123, R126) -/

/-- Registers and bytes of a SIZE code (R126). -/
def sizeBytes (z : Nat) : Nat := 2 ^ z
def sizeRegs (z : Nat) : Nat := if z ≤ 2 then 1 else 2 ^ (z - 2)

/-- The runs named by a two-operand instruction of `n` registers an operand. -/
def GInstr.names2 (n : Nat) (i : GInstr) : List (Nat × Nat) :=
  [(i.dst, n), (i.a, n)] ++ (if i.immB then [] else [(i.b, n)])

/-- The runs a floating-point instruction names: B but for the one-operand functions, C for the fused one. -/
def GInstr.namesF (n : Nat) (i : GInstr) : List (Nat × Nat) :=
  [(i.dst, n), (i.a, n)] ++ (if i.immB || decide (4 < i.funct) then [] else [(i.b, n)])
  ++ (if i.funct = 2 then [(i.c, n)] else [])

/-- Registers of a format code: a pair for FP64. -/
def fmtRegs (f : Nat) : Nat := if f = 9 then 2 else 1

/-- Registers of an operand of VCMP. -/
def cmpRegs (i : GInstr) : Nat := if bitsOf i.funct 4 2 = 3 then 2 else 1

/-- The type FMT and SIZE select. -/
def atomType (i : GInstr) : Option HomeType :=
  match i.fmt with
  | 0 => if i.size = 3 then some .int64 else if i.size = 2 then some .int32 else none
  | 6 => some .bf16
  | 8 => some .fp32
  | 9 => some .fp64
  | 0xA => some .int32
  | _ => none

/-- Bytes and registers of the operand type. -/
def atomBytes (i : GInstr) : Nat := ((atomType i).map HomeType.width).getD 4
def atomRegs (i : GInstr) : Nat := if atomBytes i = 8 then 2 else 1

/-- The registers VATOM writes: with RET the old value, and for compare-and-swap the success flag after it. -/
def atomWrites (i : GInstr) : List (Nat × Nat) :=
  if ¬ i.ret then []
  else [(i.dst, atomRegs i)] ++ (if i.funct = 7 then [(i.dst + atomRegs i, 1)] else [])

/-- The runs VATOM names. -/
def atomNames (i : GInstr) : List (Nat × Nat) :=
  atomWrites i ++ [(i.a, 2)] ++ (if i.immB then [] else [(i.b, atomRegs i)]) ++ (if i.funct = 7 then [(i.c, atomRegs i)] else [])

/-- The registers an instruction names, as (first, count) runs, by its opcode (R126, R127). -/
def GInstr.names (i : GInstr) : List (Nat × Nat) :=
  let b (n : Nat) : List (Nat × Nat) := if i.immB then [] else [(i.b, n)]
  match i.op with
  | 0x80 | 0x8C => i.names2 1
  | 0x81 => i.names2 2
  | 0x84 => i.namesF 1
  | 0x85 => i.namesF 2
  | 0x86 => [(i.dst, 1), (i.a, 1)]
  | 0x88 => [(i.dst, fmtRegs i.fmt), (i.a, fmtRegs i.funct)]
  | 0x8A => [(i.dst, 1), (i.a, cmpRegs i)] ++ b (cmpRegs i)
  | 0x8B => i.names2 1 ++ [(i.c, 1)]
  | 0x90 => if i.funct = 2 then [] else [(i.a, 1)]
  | 0xA0 => [(i.dst, sizeRegs i.size), (i.a, 2)]
  | 0xA1 => [(i.a, 2)] ++ b (sizeRegs i.size)
  | 0xA2 => [(i.dst, sizeRegs i.size), (i.a, 1)]
  | 0xA3 => [(i.a, 1)] ++ b (sizeRegs i.size)
  | 0xA4 => atomNames i
  | 0xA8 => [(i.a, 2)]
  | _ => []

/-- Whether an instruction is one of memory, an atomic, a lock or a fence (R124). -/
def GInstr.ofMemory (i : GInstr) : Bool := decide (0xA0 ≤ i.op)

/-- Whether an outstanding access will write one of the registers named (R123). -/
def Group.hazard (g : Group) (names : List (Nat × Nat)) : Bool :=
  g.out.any (fun o => o.writes.any (fun w => names.any (fun n => decide (n.1 ≤ w) && decide (w < n.1 + n.2))))

/-- The device address of a lane: the pair A plus the signed IMM[31:0]. -/
def GInstr.devAt (i : GInstr) (g : Group) (l : Nat) : Nat :=
  wrapN 64 ((g.val i.a l 2 : Int) + sext (i.imm % 2 ^ 32) 32)

/-- Pieces of an access: a 16 B access is two of 8 B (R133). -/
def pieces (n a : Nat) : List (Nat × Nat) := if n = 16 then [(a, 8), (a + 8, 8)] else [(a, n)]

/-- The region of an address under a job's table, below 2^48. -/
def State.jobRegion (s : State) (n : Nat) (j : Job) (a : Nat) : Option (Nat × Region) :=
  if a < 2 ^ 48 then s.region n j.regions a else none

/-- Whether the memory type of an address is DEVICE, is WINDOW, has EARLY_ACK. -/
def State.isDevice (s : State) (n : Nat) (j : Job) (a : Nat) : Bool :=
  match s.jobRegion n j a with
  | some (_, x) => decide (x.rtype = 1)
  | none => false
def State.isWindowType (s : State) (n : Nat) (j : Job) (a : Nat) : Bool :=
  match s.jobRegion n j a with
  | some (_, x) => decide (x.rtype = 2)
  | none => false
def State.isEarly (s : State) (n : Nat) (j : Job) (a : Nat) : Bool :=
  match s.jobRegion n j a with
  | some (_, x) => x.earlyAck
  | none => false

/-- Whether everything outstanding has performed at core scope (R282). -/
def Group.performed (g : Group) : Bool := g.out.all (fun o => decide (o.left = 0))

/-- Bytes that an access of a group may have under way past the die cache (R145): those of outstanding instructions
that share a byte with the spans, where either goes to the home directly. -/
def Group.meets (g : Group) (direct : Bool) (spans : List (Nat × Nat)) : Bool :=
  g.out.any (fun o => decide (o.left ≠ 0) && (direct || o.direct)
    && o.lanes.any (fun x => spans.any (fun y =>
      decide (x.2 < y.1 + y.2) && decide (y.1 < x.2 + sizeBytes o.size))))

/-- Whether an access of a group may start: the limit of eight, the order of R144 in an ordinary kernel and of one
location in a privileged one (R145), one DEVICE access at a time (R277). -/
def Group.mayAccess (g : Group) (k : GKernel) (isLoad device direct : Bool) (spans : List (Nat × Nat)) : Bool :=
  decide (g.out.length < 8)
  && (if k.priv then !g.meets direct spans
      else if isLoad then g.out.all (fun o => decide (o.kind = .load) || decide (o.left = 0)) else g.performed)
  && (!device || g.out.all (fun o => !o.device || decide (o.left = 0)))

/-- Sectors of a device in which the die of a core has stores that have not reached the home (R273, R284): the
unsent entries among them are sent. None where there is nothing to wait for. -/
def State.flushSectors (s : State) (c n : Nat) (secs : List Nat) : Option State :=
  let d := dieOfCore c
  let es := (s.die d).merge.filter (fun m => decide (m.vd = n) && secs.contains m.sector)
  let pend := (s.die d).acc.any (fun a => a.store && decide (a.core = c) && decide (a.vd = n) && secs.contains (a.addr / 256))
  if es.isEmpty ∧ ¬ pend then none
  else some (es.foldl (fun s m => s.sendEntry d m.id) s)

/-- The pieces of an access of `n` bytes by each active lane (R133). -/
def GInstr.spans (i : GInstr) (g : Group) (n : Nat) : List (Nat × Nat) :=
  (g.lanes g.active).flatMap (fun l => pieces n (i.devAt g l))

/-- Whether a VLD goes to the home past the die cache: VOL, DEAD, or a DEVICE address (R133, R241, R277). -/
def State.goesHome (s : State) (n : Nat) (j : Job) (g : Group) (i : GInstr) : Bool :=
  i.vol || i.dead || (i.spans g (sizeBytes i.size)).any (fun p => s.isDevice n j p.1)

/-- Whether a tile-store access waits for older memory instructions (R144). -/
def Group.tileWaits (g : Group) (k : GKernel) (isLoad : Bool) : Bool :=
  !k.priv && !(if isLoad then g.out.all (fun o => decide (o.kind = .load) || decide (o.left = 0)) else g.performed)

/-- Whether an instruction waits for the accesses of its group, or for stores of its die (R122, R134, R144, R145, R273,
R277, R284). -/
def State.gwaits (s : State) (c n : Nat) (j : Job) (k : GKernel) (g : Group) (i : GInstr) : Bool :=
  let dev (m : Nat) : Bool := (i.spans g m).any (fun p => s.isDevice n j p.1)
  let stores (m : Nat) : Bool := (s.flushSectors c n ((i.spans g m).map (fun p => p.1 / 256))).isSome
  let z := sizeBytes i.size
  match i.op with
  | 0xA0 => !g.mayAccess k true (dev z) (s.goesHome n j g i) (i.spans g z) || (s.goesHome n j g i && stores z)
  | 0xA1 => !g.mayAccess k false (dev z) (dev z) (i.spans g z)
  | 0xA4 => !g.mayAccess k false (dev 1) true (i.spans g (atomBytes i)) || stores 1
  | 0xA8 => !g.performed || decide (8 ≤ g.out.length) || stores 1
  | 0xA9 => !g.performed || decide (8 ≤ g.out.length)
  | 0xAC => !g.performed
  | 0xA2 => g.tileWaits k true
  | 0xA3 => g.tileWaits k false
  | 0x91 => g.out.any OutAcc.unsent
  | _ => false

/-! The scan of a sub-engine (R123 to R125) -/

/-- Whether a group may issue anything: it waits for nothing, lives, and its watchdog has not expired (R123, R141). -/
def Group.runs (g : Group) : Bool :=
  decide (g.wait = .ready) && decide (g.alive ≠ 0) && decide (g.watchdog < 2 ^ 20) && !g.stopped

/-- Whether the group in a slot is ready (R123): its next instruction is in the group instruction cache and waits for
no register and no access. Result latencies and the ACLK that an instruction occupies its halves are timing,
which the model leaves out (log entry 2). -/
def State.gready (s : State) (c slot : Nat) : Bool :=
  match s.group c slot, s.coreJob c with
  | some g, some (n, j) =>
    match (s.core c).kernelOf g.tag with
    | none => false
    | some k =>
      g.runs && j.inCode g.pc && (match cacheWord (s.core c).gic n g.pc with
        | none => false
        | some w => !g.hazard (parseG w).names && !s.gwaits c n j k g (parseG w))
  | _, _ => false

/-- The slots that the scan of a slot's sub-engine meets before it: from the one after the pointer, wrapping round
(R124). -/
def Core.scanBefore (k : Core) (slot : Nat) : List Nat :=
  let e := slot / 16
  ((List.range 16).map (fun i => 16 * e + (nth 0 k.rr e + 1 + i) % 16)).takeWhile (fun x => !decide (x = slot))

/-- Whether a group has width 32 and sits in another half than the one given. -/
def Group.otherHalf (g : Group) (h : Nat) : Bool := decide (g.width = 32) && decide (g.half ≠ h)

/-- Whether an instruction may issue as the second of a pair (R124): the group that issued last in its sub-engine has width
32, this one sits in the other half, and they are not both of memory. -/
def Core.mayPair (k : Core) (slot : Nat) (g : Group) (mem : Bool) : Bool :=
  match nth none k.co (slot / 16) with
  | some (h, m) => g.otherHalf h && !(m && mem)
  | none => false

/-- Whether it is a group's turn to issue (R124): no group that the scan meets before it is ready; or it pairs with the
group that issued last, and no group that could is met before it. -/
def State.inTurn (s : State) (c slot : Nat) (g : Group) (mem : Bool) : Bool :=
  let before := (s.core c).scanBefore slot
  before.all (fun x => !s.gready c x)
  || ((s.core c).mayPair slot g mem && before.all (fun x =>
      !(s.gready c x && (s.group c x).elim false (fun y => y.width = 32 && y.half = g.half))))

/-- A group of a core has issued the instruction at an address (R39, R124): the line of the cache is the most recently used,
the pointer is at the slot, and a group of width 32 that is not the second of a pair may get a partner. -/
def Core.issues (k : Core) (slot n pc : Nat) : Core :=
  let mem := (cacheWord k.gic n pc).elim false (fun w => (parseG w).ofMemory)
  let g := SMap.get (fun _ => (none : Option Group)) k.gslots slot
  { k with
    gic := cacheTouch k.gic n (pc / 256)
    rr := k.rr.set (slot / 16) slot
    co := k.co.set (slot / 16) (match g with
      | some g => if g.width = 32 ∧ ¬ k.mayPair slot g mem then some (g.half, mem) else none
      | none => none) }

/-! Issue (R122, R123, R126) -/

/-- Ask the home for an instruction line of the group engine. -/
def State.startGFetch (s : State) (c n line : Nat) : State :=
  if (s.core c).gicFills.any (fun f => decide (f.line = line) && decide (f.vd = n) && !f.stale) then s
  else (s.modCore c (fun k => { k with gicFills := k.gicFills ++ [⟨line, n, none, false, []⟩] })).request
    ⟨.plain, n, 256 * line, 256, [], false, .gic c line, false, false, false⟩

/-- The group in a slot may issue; its next instruction is in the group instruction cache, or its line is asked for; an
address outside the code region faults with GROUP_FETCH. In its turn (R124) `f` gets the instruction, with the state
in which it has issued. -/
def State.gfetch (s : State) (c slot : Nat) (f : Nat → Job → GKernel → Group → GInstr → State → State) : State :=
  match s.group c slot, s.coreJob c with
  | some g, some (n, j) =>
    match (s.core c).kernelOf g.tag with
    | none => s
    | some k =>
      if ¬ g.runs then s
      else if ¬ j.inCode g.pc then s.gfault c slot 0x17
      else
        match cacheWord (s.core c).gic n g.pc with
        | none => s.startGFetch c n (g.pc / 256)
        | some w =>
          if s.inTurn c slot g (parseG w).ofMemory then f n j k g (parseG w) (s.modCore c (fun x => x.issues slot n g.pc))
          else s
  | _, _ => s

/-- Whether the registers an instruction names, as (first, count) runs, lie below the kernel's count, with an even
first register where more than one is named (R126). -/
def regsOk (r : Nat) (names : List (Nat × Nat)) : Bool :=
  names.all (fun n => decide (n.1 + n.2 ≤ r) && (decide (n.2 ≤ 1) || decide (n.1 % 2 = 0)))

/-- Whether a reserved bit is set, or a reserved FMT or SIZE code stands in an instruction (R126, R127). -/
def GInstr.reservedCode (i : GInstr) : Bool := decide (i.resv ≠ 0) || decide (0xA < i.fmt) || decide (4 < i.size)

/-- An instruction of an opcode issues: it waits for the registers it names (R123); then its causes are tested, lowest
first, a reserved FMT or SIZE code among them whatever the opcode (R127); then it acts. -/
def State.gissue (s : State) (c slot op : Nat) (names : GInstr → List (Nat × Nat))
    (causes : Nat → Job → GKernel → Group → GInstr → List (Bool × Nat))
    (f : Nat → Job → GKernel → Group → GInstr → State → State) : State :=
  s.gfetch c slot (fun n j k g i s' =>
    if i.op ≠ op ∨ g.hazard (names i) then s
    else
      match lowestCause ((i.reservedCode, 0x10) :: causes n j k g i) with
      | some x => s'.gfault c slot x
      | none => f n j k g i s')

/-- Causes of an instruction that touches registers alone: a reserved code, a bad register. -/
def aluCauses (bad : GInstr → Bool) (names : GInstr → List (Nat × Nat)) (_n : Nat) (_j : Job) (k : GKernel) (_g : Group)
    (i : GInstr) : List (Bool × Nat) :=
  [(bad i, 0x10), (!regsOk k.regs (names i), 0x11)]

/-- An arithmetic instruction: `f` gives the value of each active lane, of `n` registers, from the old registers;
`draws` tells whether each lane draws a free value. -/
def State.galu (s : State) (c slot op : Nat) (bad : GInstr → Bool) (names : GInstr → List (Nat × Nat))
    (width : GInstr → Nat) (draws : GInstr → Bool) (f : GInstr → Group → Nat → Nat → Nat) : State :=
  s.gissue c slot op names (aluCauses bad names) (fun _ _ _ g i s =>
    let d := s.freeCtr
    let s := if draws i then { s with freeCtr := d + 256 } else s
    let g' := (g.lanes g.active).foldl (fun x l => x.setVal i.dst l (width i) (f i g l (d + l))) g
    s.setGroup c slot (some (g'.goto (g.pc + 16))))

/-- Operand B of a lane: a register run or the immediate (R126 IMM_B). -/
def GInstr.opB (i : GInstr) (g : Group) (l n : Nat) : Nat := if i.immB then i.imm % 2 ^ (32 * n) else g.val i.b l n

/-! Arithmetic (R127 to R129) -/

/-- VIALU and VIALU64 on `w` bits; none for a reserved FUNCT. -/
def vialuOp (w funct a b : Nat) : Option Nat :=
  let sa := sext a w
  let sb := sext b w
  let sh := b % w
  match funct with
  | 0 => some ((a + b) % 2 ^ w)
  | 1 => some (wrapN w ((a : Int) - b))
  | 2 => some (a * b % 2 ^ w)
  | 3 => some (wrapN w (sa * sb / ((2 ^ w : Nat) : Int)))
  | 4 => some (a &&& b)
  | 5 => some (a ||| b)
  | 6 => some (a ^^^ b)
  | 7 => some (a <<< sh % 2 ^ w)
  | 8 => some (a >>> sh)
  | 9 => some (wrapN w (sa / ((2 ^ sh : Nat) : Int)))
  | 10 => some (if sb < sa then b else a)
  | 11 => some (if sa < sb then b else a)
  | 12 => some (min a b)
  | 13 => some (max a b)
  | _ => none

/-- VIALU (R127). -/
def execVialu (c : Fin 96) (g : Fin 64) (s : State) : Out :=
  ok (s.galu c.val g.val 0x80 (fun i => decide (13 < i.funct)) (GInstr.names2 1) (fun _ => 1) (fun _ => false)
    (fun i g l _ => (vialuOp 32 i.funct (g.val i.a l 1) (i.opB g l 1)).getD 0))

/-- VIALU64 (R127). -/
def execVialu64 (c : Fin 96) (g : Fin 64) (s : State) : Out :=
  ok (s.galu c.val g.val 0x81 (fun i => decide (13 < i.funct)) (GInstr.names2 2) (fun _ => 2) (fun _ => false)
    (fun i g l _ => (vialuOp 64 i.funct (g.val i.a l 2) (i.opB g l 2)).getD 0))

/-- VFP32 (R127, R128). -/
def execVfp32 (c : Fin 96) (g : Fin 64) (s : State) : Out :=
  ok (s.galu c.val g.val 0x84 (fun i => decide (6 < i.funct)) (GInstr.namesF 1) (fun _ => 1) (fun _ => false)
    (fun i g l _ => (vfpOp .fp32 i.funct i.round (g.val i.a l 1) (i.opB g l 1) (g.val i.c l 1)).getD 0))

/-- VFP64 (R127, R128). -/
def execVfp64 (c : Fin 96) (g : Fin 64) (s : State) : Out :=
  ok (s.galu c.val g.val 0x85 (fun i => decide (6 < i.funct)) (GInstr.namesF 2) (fun _ => 2) (fun _ => false)
    (fun i g l _ => (vfpOp .fp64 i.funct i.round (g.val i.a l 2) (i.opB g l 2) (g.val i.c l 2)).getD 0))

/-- VSF (R127, R128). -/
def execVsf (c : Fin 96) (g : Fin 64) (s : State) : Out :=
  ok (s.galu c.val g.val 0x86 (fun i => decide (6 < i.funct)) (fun i => [(i.dst, 1), (i.a, 1)]) (fun _ => 1) (fun _ => false)
    (fun i g l _ => (vsfOp i.funct i.round (g.reg i.a l)).getD 0))

/-- VCVT (R127, R129). -/
def execVcvt (c : Fin 96) (g : Fin 64) (s : State) : Out :=
  ok (s.galu c.val g.val 0x88 (fun i => decide (0xA < i.funct) || decide (0xA < i.fmt) || decide (i.round = 3))
    (fun i => [(i.dst, fmtRegs i.fmt), (i.a, fmtRegs i.funct)]) (fun i => fmtRegs i.fmt) (fun i => decide (i.round = 2))
    (fun i g l d => vcvtOp i.funct i.fmt i.round i.sat (Config.freeRand16 d).toNat (g.val i.a l (fmtRegs i.funct))))

/-- Less and equal of two operands of VCMP. -/
def cmpRel (t a b : Nat) : Bool × Bool :=
  match t with
  | 0 => (decide (sext a 32 < sext b 32), decide (a = b))
  | 1 => (decide (a < b), decide (a = b))
  | t =>
    let f := if t = 2 then Fmt.fp32 else Fmt.fp64
    let x := f.dec a
    let y := f.dec b
    let eq := x.eqv y
    (x.below y && !eq, eq)

/-- The relation of VCMP (R127): a NaN is unordered, so only "not equal" holds of it. -/
def vcmpOp (funct a b : Nat) : Nat :=
  let t := bitsOf funct 4 2
  let nan : Bool := match t with
    | 2 => decide (Fmt.fp32.dec a = .nan) || decide (Fmt.fp32.dec b = .nan)
    | 3 => decide (Fmt.fp64.dec a = .nan) || decide (Fmt.fp64.dec b = .nan)
    | _ => false
  let r := cmpRel t a b
  let lt := r.1 && !nan
  let eq := r.2 && !nan
  b2n (match bitsOf funct 0 4 with
    | 0 => eq
    | 1 => !eq
    | 2 => lt
    | 3 => lt || eq
    | 4 => !nan && !lt && !eq
    | _ => !nan && !lt)

/-- VCMP (R127). -/
def execVcmp (c : Fin 96) (g : Fin 64) (s : State) : Out :=
  ok (s.galu c.val g.val 0x8A (fun i => decide (5 < i.funct % 16) || decide (63 < i.funct))
    (fun i => [(i.dst, 1), (i.a, cmpRegs i)] ++ (if i.immB then [] else [(i.b, cmpRegs i)])) (fun _ => 1) (fun _ => false)
    (fun i g l _ => vcmpOp i.funct (g.val i.a l (cmpRegs i)) (i.opB g l (cmpRegs i))))

/-- VSEL (R127). -/
def execVsel (c : Fin 96) (g : Fin 64) (s : State) : Out :=
  ok (s.galu c.val g.val 0x8B (fun _ => false) (fun i => i.names2 1 ++ [(i.c, 1)]) (fun _ => 1) (fun _ => false)
    (fun i g l _ => if g.reg i.c l ≠ 0 then g.val i.a l 1 else i.opB g l 1))

/-- VSHFL (R127): every lane reads before the instruction writes. -/
def execVshfl (c : Fin 96) (g : Fin 64) (s : State) : Out :=
  ok (s.galu c.val g.val 0x8C (fun _ => false) (GInstr.names2 1) (fun _ => 1) (fun _ => false)
    (fun i g l _ => g.val i.a (i.opB g l 1 % g.width) 1))

/-! Branches and ends (R130, R131, R140, R141) -/

/-- An address displaced by 16-byte units. -/
def displaced (pc off : Nat) : Nat := wrapN 64 ((pc : Int) + 16 * sext off 32)

/-- The active lanes that take a branch (R130). -/
def branchTaken (i : GInstr) (g : Group) : Nat :=
  sumN (((g.lanes g.active).filter (fun l => match i.funct with
    | 0 => decide (g.reg i.a l ≠ 0)
    | 1 => decide (g.reg i.a l = 0)
    | _ => true)).map (fun l => 2 ^ l))

/-- VBR (R130, R131, R141): uniform lanes go to the target or on; split lanes push an entry and the lanes that do
not take the branch run first. A back edge counts in the watchdog. -/
def execVbr (c : Fin 96) (slot : Fin 64) (s : State) : Out :=
  ok (
    let names (i : GInstr) : List (Nat × Nat) := if i.funct = 2 then [] else [(i.a, 1)]
    s.gissue c.val slot.val 0x90 names
      (fun _ _ k g i =>
        let t := branchTaken i g
        [(decide (2 < i.funct), 0x10), (!regsOk k.regs (names i), 0x11),
         (decide (t ≠ 0) && decide (t ≠ g.active) && decide (32 ≤ g.stack.length), 0x18)])
      (fun _ _ _ g i s =>
        let t := branchTaken i g
        let target := displaced g.pc (bitsOf i.imm 32 32)
        let back := decide (t ≠ 0) && decide (target ≤ g.pc)
        let g' := { g with watchdog := if back then g.watchdog + 1 else g.watchdog }
        let g' :=
          if t = 0 then g'.goto (g.pc + 16)
          else if t = g.active then g'.goto target
          else { g' with
            active := g.active - t
            stack := ⟨g.active, t, target, displaced g.pc (bitsOf i.imm 0 32), false⟩ :: g.stack }.goto (g.pc + 16)
        s.setGroup c.val slot.val (some g')))

/-- A group without living lanes has ended: its slot is free and its kernel counts it (R113). -/
def State.endGroup (s : State) (c slot : Nat) : State :=
  match s.group c slot with
  | none => s
  | some g =>
    if g.alive ≠ 0 then s
    else (s.setGroup c slot none).modCore c (fun k => { k with
      kernels := k.kernels.map (fun (y : GKernel) => if y.tag = g.tag then { y with ended := y.ended + 1 } else y) })

/-- VEND (R127, R140): the active lanes end, once the DEVICE parts of the group's instructions have left (R277). -/
def execVend (c : Fin 96) (slot : Fin 64) (s : State) : Out :=
  ok (s.gissue c.val slot.val 0x91 (fun _ => [])
    (fun _ _ _ g _ => [(g.locks.any (fun l => decide (l.holding &&& g.active ≠ 0)), 0x1A)])
    (fun _ _ _ g _ s' =>
      if g.out.any OutAcc.unsent then s
      else
      let g' := Group.settle 128 { g with alive := g.alive - (g.alive &&& g.active), active := 0 }
      (s'.setGroup c.val slot.val (some g')).endGroup c.val slot.val))

/-- GROUP_UNDEFINED (R127, R147). -/
def execGroupUndefined (c : Fin 96) (slot : Fin 64) (s : State) : Out :=
  ok (s.gfetch c.val slot.val (fun _ _ _ _ i s' =>
    if groupOpcodes.contains i.op then s else s'.gfault c.val slot.val 0x10))

/-- SPIN_WATCHDOG (R141): a group whose counter has reached 2^20 faults. DESIGN CHOICE: the branch that brings the counter
there completes, so the record has the address and the active lanes after it (log entry 49). -/
def execSpinWatchdog (c : Fin 96) (slot : Fin 64) (s : State) : Out :=
  ok (match s.group c.val slot.val with
  | some g => if 2 ^ 20 ≤ g.watchdog ∧ ¬ g.stopped then s.gfault c.val slot.val 0x1B else s
  | none => s)

/-- GROUP_INSTRUCTION_CACHE_FILL (R116, R123): the oldest fill whose data is there is installed, unless a kernel
boundary discarded it. -/
def execGroupInstructionCacheFill (c : Fin 96) (s : State) : Out :=
  ok (s.modCore c.val (fun k => match k.gicFills.findIdx? (fun f => f.bytes.isSome) with
    | none => k
    | some i =>
      match k.gicFills[i]? with
      | some f => { k with
          gicFills := delNth k.gicFills i
          gic := if f.stale then k.gic else cacheInstall 32 4 k.gic f.vd f.line (f.bytes.getD []) }
      | none => k))

/-! The tile store (R135) -/

/-- The tile-store address of a lane: A[22:0] plus the signed IMM[31:0] (R127). -/
def GInstr.tileAt (i : GInstr) (g : Group) (l : Nat) : Int :=
  ((fld (g.reg i.a l) 0 23 : Nat) : Int) + sext (i.imm % 2 ^ 32) 32

/-- Causes of a tile-store access. DESIGN CHOICE: a sum below zero, which R135 does not name, faults as one past the
end (log entry 49). -/
def tileGCauses (names : GInstr → List (Nat × Nat)) (_n : Nat) (_j : Job) (k : GKernel) (g : Group) (i : GInstr) :
    List (Bool × Nat) :=
  [(decide (4 < i.size), 0x10), (!regsOk k.regs (names i), 0x11),
   ((g.lanes g.active).any (fun l => decide (i.tileAt g l < 0) || decide (0x800000 < i.tileAt g l + sizeBytes i.size)), 0x13)]

/-- A loaded value of fewer than 4 bytes in a register: the bits above it are free (log entry 6). -/
def widen (bytes v draw : Nat) : Nat :=
  if bytes < 4 then setBits (Config.freeW32 draw).toNat 0 (8 * bytes) v else v

/-- VLDT (R127, R135, R144). -/
def execVldt (c : Fin 96) (slot : Fin 64) (s : State) : Out :=
  ok (
    let names (i : GInstr) : List (Nat × Nat) := [(i.dst, sizeRegs i.size), (i.a, 1)]
    s.gissue c.val slot.val 0xA2 names (tileGCauses names) (fun _ _ k g i s' =>
      if g.tileWaits k true then s
      else
      let n := sizeBytes i.size
      let d := s'.freeCtr
      let s := if n < 4 then { s' with freeCtr := d + 256 } else s'
      let tile := (s.core c.val).tile
      let g' := (g.lanes g.active).foldl (fun x l =>
        x.setVal i.dst l (sizeRegs i.size) (widen n (rdLE tile (i.tileAt g l).toNat n) (d + l))) g
      s.setGroup c.val slot.val (some (g'.goto (g.pc + 16)))))

/-- Operand B of a store of `n` bytes: registers, or IMM (R126); what IMM does not give of 16 bytes is free. -/
def GInstr.storeVal (i : GInstr) (g : Group) (l draw : Nat) : Nat :=
  let n := sizeBytes i.size
  if i.immB then
    (if n ≤ 4 then i.imm % 2 ^ (8 * n)
     else if n = 8 then i.imm else i.imm + 2 ^ 64 * (Config.freeW64 draw).toNat)
  else g.val i.b l (sizeRegs i.size) % 2 ^ (8 * n)

/-- Insert a lane before the first of a larger free key. -/
def freeInsert (draw a : Nat) : List Nat → List Nat
  | [] => [a]
  | b :: bs => if Config.freeNat (draw + a) < Config.freeNat (draw + b) then a :: b :: bs else b :: freeInsert draw a bs

/-- Lanes in a free order: sorted by free keys (log entry 6). -/
def freeOrder (draw : Nat) : List Nat → List Nat
  | [] => []
  | a :: as => freeInsert draw a (freeOrder draw as)

/-- VSTT (R127, R135, R141, R144): where lanes write the same bytes, which of them stays is free. -/
def execVstt (c : Fin 96) (slot : Fin 64) (s : State) : Out :=
  ok (
    let names (i : GInstr) : List (Nat × Nat) := [(i.a, 1)] ++ (if i.immB then [] else [(i.b, sizeRegs i.size)])
    s.gissue c.val slot.val 0xA3 names (tileGCauses names) (fun _ _ k g i s' =>
      if g.tileWaits k false then s
      else
      let d := s'.freeCtr
      let s := { s' with freeCtr := d + 512 }
      let tile := (freeOrder d (g.lanes g.active)).foldl (fun t l =>
        wrLE t (i.tileAt g l).toNat (sizeBytes i.size) (i.storeVal g l (d + 256 + l))) (s.core c.val).tile
      (s.modCore c.val (fun k => { k with tile := tile })).setGroup c.val slot.val
        (some ({ g with watchdog := 0 }.goto (g.pc + 16)))))

end Sys2Proof.Machine
end

