-- ==== Sys2Proof/Machine/GroupMem.lean ====
section
/-! DEFINITION. Device memory from the group engine (chapters Thread groups; Memory ordering): loads, stores, atomics,
locks, fences, and the return of their answers. -/

namespace Sys2Proof.Machine

/-! Addresses and causes (R126, R133) -/

/-- Whether an address lies in a NORMAL region the kernel has declared read-only (R117). -/
def State.declaredRo (s : State) (n : Nat) (j : Job) (k : GKernel) (a : Nat) : Bool :=
  match s.jobRegion n j a with
  | some (r, x) => bitOf k.roMask r && decide (x.rtype = 0)
  | none => false

/-- Causes of a device access of `size` bytes by every active lane (R117, R126, R133). -/
def devCauses (s : State) (size : GInstr → Nat) (bad : GInstr → Bool) (badFmt : GInstr → Bool)
    (names : GInstr → List (Nat × Nat)) (writes : Bool) (n : Nat) (j : Job) (k : GKernel) (g : Group) (i : GInstr) :
    List (Bool × Nat) :=
  let ls := g.lanes g.active
  let z := size i
  let any (p : Nat → Bool) : Bool := ls.any (fun l => (pieces z (i.devAt g l)).any (fun x => p x.1))
  [(bad i, 0x10), (!regsOk k.regs (names i), 0x11),
   (ls.any (fun l => decide (i.devAt g l % (min z 8) ≠ 0)), 0x12),
   (any (fun a => (s.jobRegion n j a).isNone), 0x13),
   (writes && any (fun a => s.declaredRo n j k a), 0x14),
   (badFmt i, 0x15)]

/-! Order within a group (R134, R144, R145, R277) -/

/-- A list without repeats, first ones kept. -/
def dedup {α : Type} [DecidableEq α] : List α → List α
  | [] => []
  | a :: as => a :: (dedup as).filter (fun b => !decide (b = a))

/-- Add an outstanding instruction to a group, which goes on. -/
def State.addOut (s : State) (c slot : Nat) (o : OutAcc) (goOn : Bool) : State :=
  s.modGroup c slot (fun g =>
    let g := { g with out := g.out ++ [o], nextId := g.nextId + 1 }
    if goOn then g.goto (g.pc + 16) else g)

/-! Loads (R67, R133, R241, R284) -/

/-- Registers a load writes. -/
def regRun (r n : Nat) : List Nat := (List.range n).map (· + r)

/-- One piece of a load by its path: the read-only cache or the die cache. -/
def State.sendLoad (s : State) (c slot n : Nat) (j : Job) (k : GKernel) (id : Nat) (p : Nat × Nat) (coherent mark : Bool) : State :=
  if coherent then
    s.request ⟨.coherent, n, p.1, p.2, [], mark, .load c slot (2 * id), false, false, false⟩
  else if s.declaredRo n j k p.1 then
    let line := p.1 / 256
    match cacheFind (s.core c).roc n line with
    | some l => (s.modCore c (fun x => { x with roc := cacheTouch x.roc n line })).accPart c slot (2 * id) p.1
        ((l.bytes.drop (p.1 % 256)).take p.2)
    | none =>
      let w := 64 * (2 * id) + slot
      if (s.core c).rocFills.any (fun f => decide (f.line = line) && decide (f.vd = n) && !f.stale) then
        s.modCore c (fun x => { x with rocFills := x.rocFills.map (fun (f : CFill) =>
          if f.line = line ∧ f.vd = n ∧ ¬ f.stale then { f with waiters := f.waiters ++ [w] } else f) })
      else
        (s.modCore c (fun x => { x with rocFills := x.rocFills ++ [⟨line, n, none, false, [w]⟩] })).request
          ⟨.plain, n, 256 * line, 256, [], false, .roc c line, false, false, false⟩
  else
    s.modDie (dieOfCore c) (fun d => { d with
      acc := d.acc ++ [⟨c, slot, 2 * id, n, p.1, p.2, false, [], false, false, false⟩] })

/-- VLD (R117, R133, R134, R144, R145, R241, R277, R284). -/
def execVld (c : Fin 96) (slot : Fin 64) (s : State) : Out :=
  ok (
    let names (i : GInstr) : List (Nat × Nat) := [(i.dst, sizeRegs i.size), (i.a, 2)]
    s.gissue c.val slot.val 0xA0 names
      (devCauses s (fun i => sizeBytes i.size) (fun i => decide (4 < i.size)) (fun _ => false) names false)
      (fun n j k g i s' =>
        let z := sizeBytes i.size
        let ls := g.lanes g.active
        let all := ls.flatMap (fun l => (pieces z (i.devAt g l)).map (fun p => (l, p)))
        let ps := dedup (ls.flatMap (fun l => pieces z (i.devAt g l)))
        let dev := ps.filter (fun p => s'.isDevice n j p.1)
        let plain := ps.filter (fun p => !s'.isDevice n j p.1)
        let coherent := i.vol || i.dead
        if ¬ g.mayAccess k true (!dev.isEmpty) (s'.goesHome n j g i) (i.spans g z) then s
        else
          match (if s'.goesHome n j g i then s.flushSectors c.val n ((i.spans g z).map (fun p => p.1 / 256)) else none) with
          | some s'' => s''
          | none =>
            let id := g.nextId
            let turns := all.filter (fun p => s'.isDevice n j p.2.1)
            let todo := turns.map (fun p =>
              (⟨.coherent, n, p.2.1, p.2.2, [], i.dead, .load c.val slot.val (2 * id + 1), false, false, false⟩ : HReq))
            let o : OutAcc := ⟨id, .load, i.dst, i.size, ls.map (fun l => (l, i.devAt g l)), [], regRun i.dst (sizeRegs i.size),
              plain.length + todo.length, !dev.isEmpty, s'.goesHome n j g i, todo, [],
              turns.map (fun p => 16 * p.1 + (p.2.1 - i.devAt g p.1))⟩
            let s := s'.addOut c.val slot.val o true
            let s := plain.foldl (fun s p => s.sendLoad c.val slot.val n j k id p coherent i.dead) s
            match todo with
            | r :: _ => s.request r
            | [] => s))

/-- The byte that has arrived under a key. -/
def gotByte (got : List (Nat × Byte)) (a : Nat) : Byte := ((got.find? (fun b => decide (b.1 = a))).map (·.2)).getD 0

/-- What lane `l` gets of an instruction that is done (R136, R137); of a DEVICE read what came for the lane itself
(R277). -/
def OutAcc.result (o : OutAcc) (l a : Nat) : List Byte :=
  let n := sizeBytes o.size
  match o.kind with
  | .load => (List.range n).map (fun b =>
      if o.got.any (fun x => decide (x.1 = 2 ^ 64 + 16 * l + b)) then gotByte o.got (2 ^ 64 + 16 * l + b)
      else gotByte o.got (a + b))
  | _ => (List.range n).map (fun b => gotByte o.got (16 * l + b))

/-- GROUP_LOAD_RETURN (R122, R123): the `i`-th outstanding load or atomic with return of a group is done and writes
its registers. -/
def execGroupLoadReturn (c : Fin 96) (slot : Fin 64) (i : Nat) (s : State) : Out :=
  ok (match s.group c.val slot.val with
  | none => s
  | some g =>
    match g.out[i]? with
    | none => s
    | some o =>
      if o.left ≠ 0 ∨ ¬ (o.kind = .load ∨ o.kind = .atomicRet) then s
      else
        let n := sizeBytes o.size
        let d := s.freeCtr
        let s := if n < 4 then { s with freeCtr := d + 256 } else s
        let flag := o.kind = .atomicRet ∧ sizeRegs o.size < o.writes.length
        let g' := o.lanes.foldl (fun x la =>
          let v := leNat (o.result la.1 la.2)
          let x := x.setVal o.dst la.1 (sizeRegs o.size) (widen n v (d + la.1))
          if flag then x.setReg (o.dst + sizeRegs o.size) la.1 (gotByte o.got (16 * la.1 + 15)).toNat else x) g
        s.setGroup c.val slot.val (some { g' with out := delNth g.out i }))

/-! Stores (R117, R133, R141, R290) -/

/-- The pieces of a store with their bytes: of lanes that write the same piece the highest stays (R290). -/
def storePieces (i : GInstr) (g : Group) (ls : List Nat) (draw : Nat) : List (Nat × List Byte) :=
  let all := ls.flatMap (fun l =>
    let bs := leBytes (sizeBytes i.size) (i.storeVal g l (draw + l))
    (pieces (sizeBytes i.size) (i.devAt g l)).map (fun p => (p.1, (bs.drop (p.1 - i.devAt g l)).take p.2)))
  (dedup (all.map (·.1))).map (fun a => (a, ((all.reverse.find? (fun p => decide (p.1 = a))).map (·.2)).getD []))

/-- One piece of a store goes to the die cache of its core. -/
def State.sendStore (s : State) (c slot n : Nat) (j : Job) (id : Nat) (p : Nat × List Byte) : State :=
  s.modDie (dieOfCore c) (fun d => { d with
    acc := d.acc ++ [⟨c, slot, 2 * id, n, p.1, p.2.length, true, addrBytes p.1 p.2, s.isEarly n j p.1, s.isWindowType n j p.1, false⟩] })

/-- A DEVICE write of a group (R241, R277). -/
def groupDevWrite (c slot n id : Nat) (p : Nat × List Byte) : HReq :=
  ⟨.write, n, p.1, p.2.length, addrBytes p.1 p.2, false, .store c slot (2 * id + 1), false, false, false⟩

/-- Issue the pieces of a store of lanes: cached ones to the die, DEVICE ones in turn. -/
def State.issueStores (s : State) (c slot n : Nat) (j : Job) (id size : Nat) (ls : List (Nat × Nat))
    (ps dev : List (Nat × List Byte)) : State :=
  let todo := dev.map (groupDevWrite c slot n id)
  let o : OutAcc := ⟨id, .store, 0, size, ls, [], [], ps.length + dev.length, !dev.isEmpty, !dev.isEmpty, todo, [], []⟩
  let s := s.addOut c slot o true
  let s := ps.foldl (fun s p => s.sendStore c slot n j id p) s
  match todo with
  | r :: _ => s.request r
  | [] => s

/-- VST (R117, R133, R144, R145, R277, R290). DEVICE lanes write in ascending order. -/
def execVst (c : Fin 96) (slot : Fin 64) (s : State) : Out :=
  ok (
    let names (i : GInstr) : List (Nat × Nat) := [(i.a, 2)] ++ (if i.immB then [] else [(i.b, sizeRegs i.size)])
    s.gissue c.val slot.val 0xA1 names
      (devCauses s (fun i => sizeBytes i.size) (fun i => decide (4 < i.size)) (fun _ => false) names true)
      (fun n j k g i s' =>
        let d := s'.freeCtr
        let ls := g.lanes g.active
        let ps := (storePieces i g ls d).filter (fun p => !s'.isDevice n j p.1)
        let dev := ls.flatMap (fun l => (storePieces i g [l] d).filter (fun p => s'.isDevice n j p.1))
        if ¬ g.mayAccess k false (!dev.isEmpty) (!dev.isEmpty) (i.spans g (sizeBytes i.size)) then s
        else
          let s := if i.immB ∧ i.size = 4 then { s' with freeCtr := d + 256 } else s'
          s.issueStores c.val slot.val n j g.nextId i.size (ls.map (fun l => (l, i.devAt g l))) ps dev))

/-! Atomics (R136, R137) -/

/-- The operation of a FUNCT code. -/
def homeFnOf : Nat → HomeFn
  | 0 => .add
  | 1 => .min
  | 2 => .max
  | 3 => .and
  | 4 => .or
  | 5 => .xor
  | 6 => .swap
  | _ => .cas

/-- Whether the pair of operation and type is allowed (R136). -/
def atomOk (i : GInstr) : Bool :=
  match atomType i with
  | some t => t.fmt.isNone || !(decide (3 ≤ i.funct) && decide (i.funct ≤ 5))
  | none => false

/-- One home operation for each address that active lanes name (R137): the lanes act in ascending order, but for
floating adds, whose order is free outside DEVICE regions. -/
def atomOps (c slot n id : Nat) (i : GInstr) (g : Group) (draw : Nat) (dev : Nat → Bool) : List HomeOp :=
  let ls := g.lanes g.active
  let t := (atomType i).getD .int32
  let w := t.width
  let fn := homeFnOf i.funct
  (dedup (ls.map (fun l => i.devAt g l))).map (fun a =>
    let here := ls.filter (fun l => decide (i.devAt g l = a))
    let here := if fn = .add ∧ t.fmt.isSome ∧ ¬ dev a then freeOrder draw here else here
    let b (l : Nat) : List Byte := leBytes w (i.opB g l (atomRegs i))
    let first := here.headD 0
    let src : ReqSrc := .load c slot (if dev a then 2 * id + 1 else 2 * id)
    if fn = .cas then ⟨n, a, fn, t, false, leBytes w (g.val i.c first (atomRegs i)), b first, src, here⟩
    else ⟨n, a, fn, t, false, here.flatMap b, [], src, here⟩)

/-- Issue home operations of a group: those of DEVICE regions in turn. -/
def State.issueOps (s : State) (c slot : Nat) (o : OutAcc) (ops : List HomeOp) (goOn : Bool) : State :=
  let dev := ops.filter (fun p => match p.src with
    | .load _ _ id => decide (id % 2 = 1)
    | _ => false)
  let plain := ops.filter (fun p => !dev.contains p)
  let s := s.addOut c slot { o with left := ops.length, device := !dev.isEmpty, todoOps := dev } goOn
  let s := plain.foldl State.sendHomeOp s
  match dev with
  | p :: _ => s.sendHomeOp p
  | [] => s

/-- VATOM (R117, R133, R136, R137, R144, R145, R273). -/
def execVatom (c : Fin 96) (slot : Fin 64) (s : State) : Out :=
  ok (s.gissue c.val slot.val 0xA4 atomNames
    (devCauses s atomBytes
      (fun i => decide (7 < i.funct) || decide (0xA < i.fmt) || decide (4 < i.size)) (fun i => !atomOk i) atomNames true)
    (fun n j k g i s' =>
      let dev (a : Nat) : Bool := s'.isDevice n j a
      let ls := g.lanes g.active
      let as := ls.map (fun l => i.devAt g l)
      if ¬ g.mayAccess k false (as.any dev) true (i.spans g (atomBytes i)) then s
      else
        match s.flushSectors c.val n (as.map (· / 256)) with
        | some s'' => s''
        | none =>
          let d := s'.freeCtr
          let ops := atomOps c.val slot.val n g.nextId i g d dev
          let writes := (atomWrites i).flatMap (fun w => regRun w.1 w.2)
          let z := if atomBytes i = 2 then 1 else if atomBytes i = 4 then 2 else 3
          let o : OutAcc := ⟨g.nextId, if i.ret then .atomicRet else .atomic, i.dst, z, ls.map (fun l => (l, i.devAt g l)), [],
            writes, 0, false, true, [], [], []⟩
          { s' with freeCtr := d + 256 }.issueOps c.val slot.val o ops true))

/-! Locks (R138 to R141) -/

/-- The token of a lane (R138). -/
def lockToken (lcore slot lane : Nat) : Nat := 2 ^ 31 + lcore % 128 * 2 ^ 16 + slot % 64 * 256 + lane % 256

/-- Attempt the lock words of the active lanes: the lowest lane of each word performs compare-and-swap from 0 to its
token at the home. -/
def State.lockAttempt (s : State) (c slot n : Nat) (j : Job) (i : GInstr) (cands : Nat) : State :=
  match s.group c slot with
  | none => s
  | some g =>
    let ls := g.lanes cands
    let id := g.nextId
    let lc := (s.coreLogical c).getD 0
    let ops := (dedup (ls.map (fun l => i.devAt g l))).map (fun a =>
      let l := (ls.find? (fun l => decide (i.devAt g l = a))).getD 0
      (⟨n, a, .cas, .int32, false, leBytes 4 (lockToken lc slot l), leBytes 4 0,
        .load c slot (if s.isDevice n j a then 2 * id + 1 else 2 * id), [l]⟩ : HomeOp))
    let o : OutAcc := ⟨id, .lock, 0, 2, ls.map (fun l => (l, i.devAt g l)), [], [], 0, false, true, [], [], []⟩
    (s.modGroup c slot (fun g => { g with got := 0, wait := .lockRsp })).issueOps c slot o ops false

/-- Causes of GLOCK (R133, R138, R140). -/
def lockCauses (s : State) (n : Nat) (j : Job) (k : GKernel) (g : Group) (i : GInstr) : List (Bool × Nat) :=
  let again := match g.locks with
    | l :: _ => l.again
    | [] => false
  devCauses s (fun _ => 4) (fun _ => false) (fun _ => false) (fun i => [(i.a, 2)]) true n j k g i
  ++ [(!again && decide (4 ≤ g.locks.length), 0x19)]

/-- GLOCK (R138 to R140): the active lanes attempt their locks; a level is opened, or run again for the lanes that
were parked at it. -/
def execGlock (c : Fin 96) (slot : Fin 64) (s : State) : Out :=
  ok (s.gissue c.val slot.val 0xA8 (fun i => [(i.a, 2)]) (lockCauses s) (fun n j _ g i s' =>
    let as := (g.lanes g.active).map (fun l => i.devAt g l)
    if ¬ g.performed ∨ 8 ≤ g.out.length then s
    else
      match s.flushSectors c.val n (as.map (· / 256)) with
      | some s'' => s''
      | none =>
        let s := s'.modGroup c.val slot.val (fun g =>
          match g.locks with
          | l :: rest =>
            if l.again then { g with locks := { l with again := false, parked := g.active } :: rest }
            else { g with locks := ⟨g.pc, g.active, g.active, 0, [], g.stack.length, false⟩ :: g.locks }
          | [] => { g with locks := [⟨g.pc, g.active, g.active, 0, [], g.stack.length, false⟩] })
        s.lockAttempt c.val slot.val n j i g.active))

/-- GLOCK_RETRY (R139, R141): the lanes parked where none holds attempt again; the watchdog counts it. -/
def execGlockRetry (c : Fin 96) (slot : Fin 64) (s : State) : Out :=
  ok (match s.group c.val slot.val, s.coreJob c.val with
  | some g, some (n, j) =>
    match g.locks with
    | [] => s
    | l :: _ =>
      if g.wait ≠ .parked ∨ g.stopped ∨ 2 ^ 20 ≤ g.watchdog then s
      else
        match cacheWord (s.core c.val).gic n l.pc with
        | none => s.startGFetch c.val n (l.pc / 256)
        | some w => (s.modGroup c.val slot.val (fun g => { g with watchdog := g.watchdog + 1 })).lockAttempt
            c.val slot.val n j (parseG w) l.parked
  | _, _ => s)

/-- Every answer to a lock attempt has come: the lanes that hold go on, the others stay parked (R139). -/
def Group.lockSettled (g : Group) (o : OutAcc) : Group :=
  match g.locks with
  | [] => g
  | l :: rest =>
    let g := { g with out := g.out.filter (fun x => !decide (x.id = o.id)) }
    if g.got = 0 then { g with wait := .parked }
    else
      ({ g with
        locks := { l with
          holding := g.got
          parked := l.parked - g.got
          words := o.lanes.filter (fun w => bitOf g.got w.1) } :: rest
        active := g.got
        wait := .ready }).goto (l.pc + 16)

/-- HOME_OPERATION_RESPONSE (R137, R139, R224): the next response for a group arrives with its old values. -/
def execHomeOperationResponse (c : Fin 96) (slot : Fin 64) (s : State) : Out :=
  ok (match s.opRsps.find? (fun r => r.src.ofGroup c.val slot.val) with
  | none => s
  | some r =>
    let id := match r.src with
      | .load _ _ id => id
      | _ => 0
    let s := { s with opRsps := s.opRsps.erase r }
    match (s.group c.val slot.val).bind (fun g => g.out.find? (fun o => decide (o.id = id / 2))) with
    | none => s
    | some o =>
      let bytes := (r.lanes.zip r.old).flatMap (fun p =>
        addrBytes (16 * p.1) p.2 ++ [(16 * p.1 + 15, BitVec.ofNat 8 (b2n (r.hit && decide (r.lanes.head? = some p.1))))])
      let s := s.accDone c.val slot.val id bytes
      if o.kind ≠ .lock then s
      else
        s.modGroup c.val slot.val (fun g =>
          let g := if r.hit then { g with got := g.got ||| sumN (r.lanes.map (fun l => 2 ^ l)) } else g
          match g.out.find? (fun x => decide (x.id = o.id)) with
          | some x => if x.left = 0 then g.lockSettled x else g
          | none => g))

/-- Drain as a fence of a group does (R247, R283, R285). -/
def State.drainSet (s : State) (c : Nat) : Drain × State :=
  let keep := (s.core c).drain
  let s := s.startDrain c
  let d := (s.core c).drain.getD ⟨[], []⟩
  (d, s.modCore c (fun k => { k with drain := keep }))

/-- Causes of GUNLOCK (R140). -/
def unlockCauses (_n : Nat) (_j : Job) (_k : GKernel) (g : Group) (_i : GInstr) : List (Bool × Nat) :=
  match g.locks with
  | [] => [(true, 0x1A)]
  | l :: _ => [(decide (g.active &&& l.holding ≠ g.active)
      || (decide (g.stack.length ≤ l.depth) && decide (g.active ≠ l.holding)), 0x1A)]

/-- The release of the active lanes' lock words: a store of 0 to each, and the group goes on, runs its parked
lanes, or leaves the level (R139, R141, R282). -/
def State.releaseLocks (s : State) (c slot n : Nat) (j : Job) : State :=
  match s.group c slot with
  | none => s
  | some g =>
    match g.locks with
    | [] => s
    | l :: rest =>
      let mine := l.words.filter (fun w => bitOf g.active w.1)
      let ps := (dedup (mine.map (·.2))).map (fun a => (a, leBytes 4 0))
      let dev := ps.filter (fun p => s.isDevice n j p.1)
      let plain := ps.filter (fun p => !s.isDevice n j p.1)
      let s := s.modGroup c slot (fun g => { g with
        wait := .ready
        locks := { l with
          holding := l.holding - g.active
          words := l.words.filter (fun w => !bitOf g.active w.1) } :: rest })
      (s.issueStores c slot n j g.nextId 2 mine plain dev).dropStopped c slot

/-- GUNLOCK (R139, R140, R282): it waits for the group's accesses and for the drain of a release at chip scope, then
releases. -/
def execGunlock (c : Fin 96) (slot : Fin 64) (s : State) : Out :=
  ok (match s.group c.val slot.val, s.coreJob c.val with
  | some g, some (n, j) =>
    match g.wait with
    | .unlock dr => if s.drainOver c.val dr 2 then s.releaseLocks c.val slot.val n j else s
    | _ =>
      s.gissue c.val slot.val 0xA9 (fun _ => []) unlockCauses (fun n j _ g _ s' =>
        if ¬ g.performed ∨ 8 ≤ g.out.length then s
        else
          let r := s'.drainSet c.val
          if r.2.drainOver c.val r.1 2 then r.2.releaseLocks c.val slot.val n j
          else r.2.modGroup c.val slot.val (fun g => { g with wait := .unlock r.1 }))
  | _, _ => s)

/-! Fences (R146, R285) -/

/-- The scope of a VFENCE is met: 0 and 1 by performance at core scope, wider ones by the drain too. -/
def State.fenceOver (s : State) (c : Nat) (g : Group) (scope : Nat) (dr : Drain) : Bool :=
  g.performed && (decide (scope < 2) || s.drainOver c dr scope)

/-- VFENCE (R144 to R146, R285): the group's later instructions wait until its scope is met. -/
def execVfence (c : Fin 96) (slot : Fin 64) (s : State) : Out :=
  ok (match s.group c.val slot.val with
  | none => s
  | some g =>
    match g.wait with
    | .fence scope dr =>
      if s.fenceOver c.val g scope dr then s.modGroup c.val slot.val (fun g => { g with wait := .ready }) else s
    | _ =>
      s.gissue c.val slot.val 0xAC (fun _ => [])
        (fun _ _ k _ i => [(decide (4 < i.funct), 0x10), (decide (i.funct = 0) && !k.priv, 0x16)])
        (fun _ _ _ g i s' =>
          if ¬ g.performed then s
          else
            let r := if i.funct < 2 then (⟨[], []⟩, s') else s'.drainSet c.val
            let s := r.2.modGroup c.val slot.val (fun g => g.goto (g.pc + 16))
            if i.funct < 2 ∨ s.drainOver c.val r.1 i.funct then s
            else s.modGroup c.val slot.val (fun g => { g with wait := .fence i.funct r.1 })))

end Sys2Proof.Machine
end

