-- ==== Sys2Proof/Machine/Sideband.lean ====
section
/-! DEFINITION. The sideband (chapter Connectors, signals and ratings): the two-wire bus, VREF_SB, ALERT_N and THERMTRIP_N. -/

namespace Sys2Proof.Machine

/-- Whether the bus is served: the steward runs and VREF_SB is good (R541, R546). -/
def State.busServed (s : State) : Bool := s.stewardServes && s.side.vrefGood

/-- DYNAMIC_ADDRESS_ASSIGNMENT (R542): the module serves I3C from now on. -/
def execDynamicAddressAssignment (addr : BitVec 7) (s : State) : Out :=
  ok (if s.busServed then { s with side := { s.side with i3c := true, dynAddr := addr.toNat } } else s)

/-- DAA_RESET (R542): back to SMBus. -/
def execDaaReset (s : State) : Out :=
  ok (if s.busServed then { s with side := { s.side with i3c := false, dynAddr := 0 } } else s)

/-- BUS_TIMEOUT (R542): both lines are released and the bus interface is reset, which holds no state between messages. -/
def execBusTimeout (s : State) : Out := ok s

/-- VREF_SB_LOSS (R541): the outputs are high-impedance and the bus is not served. -/
def execVrefSbLoss (s : State) : Out := ok { s with side := { s.side with vrefGood := false } }

/-- VREF_SB_RESTORE (R541). -/
def execVrefSbRestore (s : State) : Out := ok { s with side := { s.side with vrefGood := true } }

/-- Whether a cause of ALERT_N holds (R543). -/
def State.alertCause (s : State) : Bool :=
  s.clock.powered && (s.regBit Reg.errorStickyStatus 31 || s.power.floor || decide (s.clock.mode = .mgmtOnly)
    || decide (s.clock.mode = .recovery) || s.power.tripped)

/-- Whether ALERT_N is driven low (R541, R543, R546). -/
def State.alertLow (s : State) : Bool := s.alertCause && s.side.vrefGood

/-- Whether THERMTRIP_N is driven low (R541, R544). -/
def State.thermtripLow (s : State) : Bool := s.power.tripped && s.clock.powered && s.side.vrefGood

end Sys2Proof.Machine
end

