-- ==== Sys2Proof/Machine/Registers.lean ====
section
/-! DEFINITION. Accesses to the registers of PF BAR0 and VF BAR0 (chapters Scope and conventions, R3 to R12; Register index,
R522 to R532; and the field tables of every chapter): what each register reads, and what a write does. -/

namespace Sys2Proof.Machine

/-! Registers that show other state -/

/-- Whether an offset is one of `n` words from `base`. -/
def inWords (off base n : Nat) : Bool := decide (base ≤ off) && decide (off < base + 4 * n)

/-- A word from a natural. -/
def w32 (n : Nat) : W32 := BitVec.ofNat 32 n

/-- A word of IDENT (R26). -/
def State.identWord (s : State) (off : Nat) : W32 :=
  if off = Reg.identDevice then s.identDeviceWord
  else if off = Reg.identGrade then s.identGradeWord
  else if inWords off (Reg.identCoreFuse 0) 3 then w32 (fld s.fac.fuseMap (8 * (off - Reg.identCoreFuse 0)) 32)
  else s.reg off

/-- A word of STEWARD (R529): BUSY while a command runs. -/
def State.stewardWord (s : State) (off : Nat) : W32 :=
  if off = Reg.stewardMbxStatus then w32 (setBits (s.reg off).toNat 31 1 (b2n s.fw.mbx.isSome)) else s.reg off

/-- The code of a binder state (R341). -/
def bindCode : BindState → Nat
  | .idle => 0 | .validating => 1 | .quiescing => 2 | .gaining => 3 | .moving => 4 | .committing => 5 | .resuming => 6

/-- The code of an extent state (R323); 5 where there is no extent. -/
def extCode : ExtState → Nat
  | .free => 0 | .owned => 1 | .scrubbing => 2 | .suspect => 3 | .withdrawn => 4 | .none => 5

/-- The code of a device state (R345). -/
def vdCode : VdState → Nat
  | .absent => 0 | .active => 1 | .rebinding => 2 | .contained => 3

/-- COMPOSE_STATUS (R345). -/
def State.composeStatusWord (s : State) : W32 :=
  let st := match s.binder.running with
    | some o => bindCode o.st
    | none => 0
  w32 (fld (s.reg Reg.composeStatus) 0 26 + b2n s.binder.pending.isSome * 2 ^ 26 + b2n s.binderBusy * 2 ^ 27 + st * 2 ^ 28)

/-- COMPOSE_COREc (R345). -/
def State.composeCoreWord (s : State) (c : Nat) : W32 :=
  let log (l : Option Nat) : Nat := l.getD 0x7F % 128 * 256
  w32 (match s.coreHolder c with
    | .notInService => log none
    | .free => 2 ^ 29 + log none
    | .owned v l => 2 * 2 ^ 29 + log l + v
    | .inSet k l => 3 * 2 ^ 29 + k * 2 ^ 16 + log (some l) + (s.set_ k).switched.getD 0
    | .transit => 4 * 2 ^ 29 + log none)

/-- COMPOSE_EXTENTe (R345). -/
def State.composeExtentWord (s : State) (e : Nat) : W32 :=
  let x := s.extent e
  let held := decide (x.st = .owned) || decide (x.st = .suspect)
  w32 (extCode x.st * 2 ^ 29 + x.cls % 16 * 2 ^ 24
    + (if held then x.logical.getD 0 % 1024 * 2 ^ 8 + x.owner % 256 else 0))

/-- COMPOSE_VDn (R345). -/
def State.composeVdWord (s : State) (n : Nat) : W32 :=
  let v := s.vd n
  let d := v.desc
  w32 (vdCode v.st * 2 ^ 29 + d.sharedSet * 2 ^ 25 + d.ns * 2 ^ 15 + (if d.sharedSet = 0 then d.nc else 0) * 2 ^ 8 + v.gen)

/-- COMPOSE_SETk (R345). -/
def State.composeSetWord (s : State) (k : Nat) : W32 :=
  let x := s.set_ k
  w32 (if x.valid then 2 ^ 31 + x.cores.length * 2 ^ 24 + (s.setUsers k).length * 2 ^ 8 + x.lbdMap % 256 else 0)

/-- Extents of the pool with a property. -/
def State.countExt (s : State) (p : Extent → Bool) : Nat := (s.pool.extents.filter (fun (e : Nat × Extent) => p e.2)).length

/-- COMPOSE_POOL_CLASSk (R345). -/
def State.poolClassWord (s : State) (k : Nat) : W32 :=
  let n (p : Extent → Bool) : Nat := s.countExt (fun x => decide (x.cls = k) && p x)
  w32 (n (fun x => decide (x.st = .scrubbing)) * 2 ^ 20
    + n (fun x => decide (x.st ≠ .withdrawn) && decide (x.st ≠ .none)) * 2 ^ 10
    + n (fun x => decide (x.st = .free)))

/-- COMPOSE_POOL_CORES (R345). -/
def State.poolCoresWord (s : State) : W32 :=
  let n (p : Holder → Bool) : Nat := (s.pool.cores.filter (fun (e : Nat × Holder) => p e.2)).length
  let shared : Holder → Bool
    | .inSet _ _ => true
    | _ => false
  w32 (n shared * 2 ^ 16 + n (fun h => decide (h = .free)))

/-- COMPOSE_POOL_NET (R345): what no device holds. -/
def State.poolNetWord (s : State) : W32 :=
  w32 ((4096 - sumN (s.vds.map (fun (e : Nat × VDev) => e.2.creditsHeld))) * 2 ^ 16 + (16384 - s.pool.qpOwner.length))

/-- COMPOSE_POOL_BDb (R345). -/
def State.poolBdWord (s : State) (b : Nat) : W32 :=
  w32 ((2048 - sumN (s.vds.map (fun (e : Nat × VDev) => nth 0 e.2.redHeld b))) * 2 ^ 16
    + (4096 - (s.pool.flagOwner.filter (fun (e : Nat × Nat) => decide (e.1 / 4096 = b))).length))

/-- A word of COMPOSE (R345). -/
def State.composeWord (s : State) (off : Nat) : W32 :=
  if off = Reg.composeStatus then s.composeStatusWord
  else if off = Reg.composePoolCores then s.poolCoresWord
  else if off = Reg.composePoolSlices then
    w32 (s.pool.slices.filter (fun (e : Nat × Holder) => decide (e.2 = .free))).length
  else if off = Reg.composePoolNet then s.poolNetWord
  else if inWords off (Reg.composePoolBd 0) 4 then s.poolBdWord ((off - Reg.composePoolBd 0) / 4)
  else if inWords off (Reg.composePoolClass 0) 16 then s.poolClassWord ((off - Reg.composePoolClass 0) / 4)
  else if inWords off 0x20080 8 then s.composeSetWord ((off - 0x20080) / 4 + 1)
  else if inWords off (Reg.composeCore 0) 96 then s.composeCoreWord ((off - Reg.composeCore 0) / 4)
  else if inWords off (Reg.composeVd 0) 256 then s.composeVdWord ((off - Reg.composeVd 0) / 4)
  else if inWords off (Reg.composeExtent 0) 640 then s.composeExtentWord ((off - Reg.composeExtent 0) / 4)
  else s.reg off

/-- A word of SCHED (R378): DEFICIT is signed and saturates. -/
def State.schedWord (s : State) (off : Nat) : W32 :=
  if inWords off (Reg.schedVdDeficit 0) 256 then
    let d := (s.vd ((off - Reg.schedVdDeficit 0) / 4)).deficit
    BitVec.ofInt 32 (max (-2147483647) (min 2147483647 d))
  else s.reg off

/-- A word of FABRIC (R196). -/
def State.fabricWord (s : State) (off : Nat) : W32 :=
  if off = Reg.fabricStatus then w32 (setBits (s.reg off).toNat 4 1 (b2n (!s.fab.pending.isEmpty)))
  else if off = Reg.fabricFrame then w32 s.frame
  else if off = Reg.fabricFrame + 4 then w32 (s.frame / 2 ^ 32)
  else s.reg off

/-- CACHE_SLICEi (R235): a line whose sectors are all in I is none (R204). -/
def State.cacheSliceWord (s : State) (i : Nat) : W32 :=
  let ls := (s.slice i).lines.filter (fun (e : Nat × Line) => e.2.valid && !e.2.allI)
  let masks := sumN (ls.map (fun (e : Nat × Line) => (e.2.secs.filter (fun (x : Nat × Sector) => decide (x.2.st = .p))).length))
  w32 (b2n (decide (s.sliceHolder i ≠ .notInService)) * 2 ^ 31 + ls.length * 2 ^ 16 + masks)

/-- A word of CACHE (R235). -/
def State.cacheWord (s : State) (off : Nat) : W32 :=
  if off = Reg.cacheStatus then w32 (setBits (s.reg off).toNat 0 1 (b2n s.maint.isSome))
  else if inWords off (Reg.cacheSlice 0) 512 then s.cacheSliceWord ((off - Reg.cacheSlice 0) / 4)
  else s.reg off

/-- A word of MEMCTL (R316): RETRAINING while a window of the channel is open. -/
def State.memctlWord (s : State) (off : Nat) : W32 :=
  let ch := (off - 0xC0000) / 0x400
  if ch < 80 ∧ off = Reg.memctlChStatus ch then w32 (setBits (s.reg off).toNat 29 1 (b2n (s.inWindow ch))) else s.reg off

/-- The bits of 32 numbers from 32 j for which something holds. -/
def bitWord (p : Nat → Bool) (j : Nat) : W32 :=
  w32 (sumN ((List.range 32).map (fun i => b2n (p (32 * j + i)) * 2 ^ i)))

/-- A word of HOSTPORT (R400). -/
def State.hostWord (s : State) (off : Nat) : W32 :=
  if inWords off (Reg.hostportWin 0) 20 then bitWord s.isWindow ((off - Reg.hostportWin 0) / 4) else s.reg off

/-- The die with the hottest junction (the lowest of equals) and its temperature (R445). -/
def State.hottest (s : State) : Nat × Nat :=
  (List.range 17).foldl (fun b d => if b.2 < (s.pdie d).temp then (d, (s.pdie d).temp) else b) (0, (s.pdie 0).temp)

/-- POWER_STATUS (R445). -/
def State.powerStatusWord (s : State) : W32 :=
  let h := s.hottest
  w32 (b2n (bitOf (s.reg Reg.powerStatus).toNat 27 || s.power.unmet) * 2 ^ 27
    + b2n (s.power.dies.any (fun (e : Nat × DieBudget) => e.2.hot)) * 2 ^ 28 + b2n s.power.throttle * 2 ^ 29
    + b2n s.power.supplyWarn * 2 ^ 30 + b2n s.power.floor * 2 ^ 31 + h.1 * 2 ^ 16 + h.2 % 256)

/-- A word of POWER (R445). -/
def State.powerWord (s : State) (off : Nat) : W32 :=
  let energy := s.power.energy * 4 / 3125
  if off = Reg.powerStatus then s.powerStatusWord
  else if off = Reg.powerSupply then w32 (setBits (s.reg off).toNat 24 8 (s.power.vin * 2 / 5))
  else if off = Reg.powerEnergy then w32 energy
  else if off = Reg.powerEnergy + 4 then w32 (energy / 2 ^ 32)
  else if inWords off (Reg.powerDieGrant 0) 68 ∧ off % 16 = 0 then
    let d := s.pdie ((off - Reg.powerDieGrant 0) / 16)
    w32 (d.power % 65536 * 65536 + d.dieGrant.getD 0 % 65536)
  else if inWords off (Reg.powerDieGrant 0) 68 ∧ off % 16 = 4 then
    let d := s.pdie ((off - Reg.powerDieGrant 0) / 16)
    w32 (d.temp % 256 * 2 ^ 24 + d.trim % 8 * 2 ^ 21 + d.nb % 128 * 2 ^ 8 + d.nt % 128)
  else if inWords off (Reg.powerCore 0) 96 then
    w32 (fld (s.reg off) 0 7 + s.sluiceInForce ((off - Reg.powerCore 0) / 4) % 128 * 2 ^ 16)
  else s.reg off

/-- A word of CLOCKTIME (R461). -/
def State.clockWord (s : State) (off : Nat) : W32 :=
  let c := s.clock
  if off = Reg.clocktimeStatus then
    w32 (b2n c.xtalOk * 2 ^ 31 + b2n c.pllLock * 2 ^ 30 + b2n c.offReady * 2 ^ 29 + b2n c.downBusy * 2 ^ 28
      + (if c.mode = .starting then min (c.step + 1) 10 * 16 else 0))
  else if off = Reg.clocktimeTime then w32 s.time.toNat
  else if off = Reg.clocktimeTime + 4 then w32 (s.time.toNat / 2 ^ 32)
  else s.reg off

/-- A word of ERROR (R519). -/
def State.errorWord (s : State) (off : Nat) : W32 :=
  if off = Reg.errorStatus then
    w32 (min 256 s.err.waiting.length
      + s.err.handling.head?.elim 0 (fun h => 2 ^ 31 + h.1.sev % 4 * 2 ^ 29))
  else if inWords off (Reg.errorSuspect 0) 20 then
    bitWord (fun e => decide ((s.extent e).st = .suspect)) ((off - Reg.errorSuspect 0) / 4)
  else s.reg off

/-- FWUPD_SETx (R501). -/
def fwSetWord (f : FwSet) : W32 :=
  w32 (if f.state = 0 then 0
  else f.state * 2 ^ 29 + b2n f.auto * 2 ^ 28 + f.keySlot % 16 * 2 ^ 24 + f.svn % 256 * 2 ^ 16 + f.actSeq % 65536)

/-- The code of a phase of update mode (R501). -/
def phaseCode : FwPhase → Nat
  | .idle => 0 | .learn => 0 | .ready => 0 | .header => 1 | .transfer => 2 | .verify => 3 | .apply => 4 | .activate => 0

/-- A word of FWUPD (R501). -/
def State.fwupdWord (s : State) (off : Nat) : W32 :=
  let f := s.fw
  let ver (x : FwSet) : W32 := if x.state = 0 then 0 else w32 x.version
  if off = Reg.fwupdStatus then
    w32 (fld (s.reg off) 0 26 + b2n f.trial * 2 ^ 26 + f.active % 2 * 2 ^ 27 + b2n (decide (f.phase ≠ .idle)) * 2 ^ 28
      + phaseCode f.phase * 2 ^ 29)
  else if off = Reg.fwupdSet 0 then fwSetWord f.setA
  else if off = Reg.fwupdSet 1 then fwSetWord f.setB
  else if off = Reg.fwupdVer 0 then ver f.setA
  else if off = Reg.fwupdVer 1 then ver f.setB
  else if off = Reg.fwupdSvn then w32 (s.fac.revoked % 16 * 2 ^ 7 + s.fac.svnFloor % 128)
  else if off = Reg.fwupdTrial then
    w32 (if f.trial then (f.armed + 60000000000 - s.time.toNat) / 100000000 else 0)
  else s.reg off

/-- What a word of PF BAR0 reads, before any capture. -/
def State.pfWord (s : State) (off : Nat) : W32 :=
  if off < 0x10000 then s.identWord off
  else if off < 0x20000 then s.stewardWord off
  else if off < 0x40000 then s.composeWord off
  else if off < 0x60000 then s.schedWord off
  else if off < 0x80000 then s.fabricWord off
  else if off < 0xA0000 then s.cacheWord off
  else if off < 0xC0000 then s.reg off
  else if off < 0x100000 then s.memctlWord off
  else if off < 0x120000 then s.reg off
  else if off < 0x140000 then s.hostWord off
  else if off < 0x160000 then s.powerWord off
  else if off < 0x180000 then s.clockWord off
  else if off < 0x1A0000 then s.errorWord off
  else if off < 0x1C0000 then s.fwupdWord off
  else s.reg off

/-- A word of VDINFO (R346, R347). -/
def State.vdinfoWord (s : State) (n off : Nat) : W32 :=
  let v := s.vd n
  let d := v.desc
  let here (x : Nat) : W32 := if v.st = .absent then 0 else w32 x
  if off = 0 then
    w32 (n + (if v.st = .absent then 0
      else v.gen % 256 * 2 ^ 24 + b2n d.privOk * 2 ^ 9 + b2n (decide (d.sharedSet ≠ 0)) * 2 ^ 8))
  else if off = 4 then
    here (sumN ((d.runs.filter (fun r => r.valid)).map (fun r => r.count)) * 2 ^ 18 + d.ns * 2 ^ 8 + (s.coresOf n).length)
  else if off = 8 then here (if d.sharedSet = 0 then d.coreShape else (s.set_ d.sharedSet).coreShape)
  else if off = 0xC then here d.sliceShape
  else if off = 0x10 then here (sumN d.red * 2 ^ 16 + sumN d.flags)
  else if off = 0x14 then here (d.netWeight * 2 ^ 16 + d.qps)
  else if off = 0x18 then here d.credits
  else if inWords off 0x20 8 then
    match d.runs[(off - 0x20) / 4]? with
    | some r => here (if r.valid then 2 ^ 31 + r.cls * 2 ^ 20 + r.count * 2 ^ 10 + r.first else 0)
    | none => 0
  else if off = 0x40 then here (d.winCount * 2 ^ 10 + d.winFirst)
  else s.reg (vfKey n off)

/-- The STATE of a queue (R375). -/
def State.queueState (s : State) (n q : Nat) : Nat :=
  let runs := match (s.vd n).running with
    | some j => decide (j.queue = q)
    | none => false
  let taken := (s.vd n).incoming.any (fun j => decide (j.queue = q))
  if ¬ s.qOn n q then 0 else if runs then 2 else if taken ∨ s.qReady n q then 3 else 1

/-- A word of QUEUE (R375). -/
def State.queueWord (s : State) (n off : Nat) : W32 :=
  let q := (off - 0x1000) / 64
  if q < 4 ∧ off = 0x1030 + 64 * q then
    w32 (fld (s.reg (vfKey n off)) 1 2 * 2 + b2n (s.qOn n q && s.cqFull n q)
      + b2n ((s.vd n).preemptedIn q).isSome * 2 ^ 29 + s.queueState n q * 2 ^ 30)
  else s.reg (vfKey n off)

/-- A word of REGION (R294): EARLY_ACK reads 0 while TYPE is 1. -/
def State.regionWord (s : State) (n off : Nat) : W32 :=
  let w := s.reg (vfKey n off)
  if off % 32 = 16 ∧ fld w 0 2 = 1 then w &&& 0x80000003#32 else w

/-- The code of a queue pair's state (R425). -/
def qpCode : QpSt → Nat
  | .reset => 0 | .arming => 1 | .armed => 2 | .error => 3

/-- A word of TRANSPORT (R425): pairs at or above QPS read 0. -/
def State.transportWord (s : State) (n off : Nat) : W32 :=
  let q := (off - 0x10000) / 64
  if 64 ≤ q then s.reg (vfKey n off)
  else if (s.vd n).desc.qps ≤ q then 0
  else if off % 64 = 0xC then
    let p := s.qp n q
    w32 (fld (s.reg (vfKey n off)) 16 13 * 2 ^ 16 + p.path % 2 * 2 ^ 29 + qpCode p.st * 2 ^ 30 + s.physQp n q % 2 ^ 14)
  else s.reg (vfKey n off)

/-- What a word of VF BAR0 reads, before any capture; all but VDINFO_ID reads 0 while the device is absent (R347). -/
def State.vfWord (s : State) (n off : Nat) : W32 :=
  if off < 0x1000 then s.vdinfoWord n off
  else if (s.vd n).st = .absent ∧ off < 0xF0000 then 0
  else if off < 0x2000 then s.queueWord n off
  else if off < 0x4000 then s.reg (vfKey n off)
  else if off < 0x5000 then s.regionWord n off
  else if 0x10000 ≤ off ∧ off < 0x20000 then s.transportWord n off
  else s.reg (vfKey n off)

/-- What the word at a key reads. -/
def State.liveWord (s : State) (k : Nat) : W32 :=
  if isVfKey k then s.vfWord (vfOfKey k) (offOfKey k) else s.pfWord k

/-! Reads (R5, R6, R8, R9) -/

/-- The key of an offset of a BAR. -/
def barKey (bar : Bar) (off : Nat) : Nat :=
  match bar with
  | .pf => off
  | .vf n => vfKey n.val off

/-- Whether an access to a BAR gets as far as its registers: the PF block is served (R458), VF Enable is set (R386) and the VF
can be reached (R382). -/
def State.answers (s : State) (bar : Bar) (off : Nat) : Bool :=
  match bar with
  | .pf => s.pfServed off
  | .vf n => s.portServes && s.host.vfEnable && s.vfReached n.val

/-- Whether a key lies in the CXL component registers (R400, R524), whose contents CXL 3.1 gives. -/
def inCxlRegs (k : Nat) : Bool := decide (0x130000 ≤ k) && decide (k ≤ 0x13FFFF)

/-- Captured words `i` and above of a register of `n` words whose word 0 is at `k` (R5, R6). -/
def State.captureFrom (s : State) (k n : Nat) : State :=
  (List.range (n - 1)).foldl (fun s i =>
    { s with captured := SMap.set (fun _ => none) s.captured (k + 4 * (i + 1)) (some (s.liveWord (k + 4 * (i + 1)))) }) s

/-- A full 32-bit read of the word at a key: the captured or live value; word 0 captures the others, and an RC field
is cleared (R5, R6, R7). -/
def State.readWord (s : State) (k : Nat) : W32 × State :=
  let live := s.liveWord k
  match rowOfKey k with
  | none =>
    if inCxlRegs k then
      let (d, s) := s.draw
      (Config.freeW32 d, s)
    else (0, s)
  | some (r, w) =>
    if w = 0 then
      let s := if 1 < r.words then s.captureFrom k r.words else s
      let rc := BitVec.ofNat 32 (wordOf r.rc 0)
      (live, if rc = 0 then s else s.setReg k (s.reg k &&& ~~~rc))
    else
      match SMap.get (fun _ => none) s.captured k with
      | some v => (v, { s with captured := SMap.set (fun _ => none) s.captured k none })
      | none => (live, s)

/-- The live byte at an offset. -/
def State.liveByte (s : State) (bar : Bar) (off : Nat) : Nat :=
  fld (s.liveWord (barKey bar (off / 4 * 4))) (8 * (off % 4)) 8

/-- The data a read returns. -/
def State.returned (s : State) (v : Option W64) : State := { s with readBack := v }

/-- A read of `size` bytes: a word, a pair of words one after the other (R5), or bytes with no capture and no clearing
(R5, R6, R8). A read that nothing answers returns 0 in a served BAR and nothing where the VF is not enabled. -/
def State.busRead (s : State) (bar : Bar) (off size : Nat) : State :=
  if ¬ s.answers bar off then
    s.returned (match bar with
      | .pf => some 0
      | .vf _ => none)
  else if off % 4 = 0 ∧ size = 4 then
    let (v, s) := s.readWord (barKey bar off)
    s.returned (some (BitVec.ofNat 64 v.toNat))
  else if off % 4 = 0 ∧ size = 8 then
    let (lo, s) := s.readWord (barKey bar off)
    let (hi, s) := s.readWord (barKey bar (off + 4))
    s.returned (some (BitVec.ofNat 64 (lo.toNat + 2 ^ 32 * hi.toNat)))
  else if bar = .pf ∧ inCxlRegs off then
    let (d, s) := s.draw
    s.returned (some (BitVec.ofNat 64 (Config.freeNat d % 2 ^ (8 * size))))
  else s.returned (some (BitVec.ofNat 64 (sumN ((List.range size).map (fun i => s.liveByte bar (off + i) * 2 ^ (8 * i))))))

/-! Writes (R4, R6, R7, R9 to R11) -/

/-- The new value of a word under its access codes (R7): RW takes the data, a 1 to W1C clears. -/
def accessWrite (r : RegRow) (w : Nat) (old v : W32) : W32 :=
  let rw := BitVec.ofNat 32 (wordOf r.rw w)
  let w1c := BitVec.ofNat 32 (wordOf r.w1c w)
  ((old &&& ~~~rw) ||| (v &&& rw)) &&& ~~~(v &&& w1c)

/-- A word stored under its access codes. -/
def State.storeWord (s : State) (k : Nat) (r : RegRow) (w : Nat) (v : W32) : State :=
  s.setReg k (accessWrite r w (s.reg k) v)

/-- Bit 31 of a command register: GO or SNAP. -/
def goBit (v : W32) : Bool := fld v 31 1 == 1

/-- A write of CLOCKTIME_RESET (R460, R461): it acts with its KEY alone; POWER_DOWN comes before MODULE_RESET. The start-up
that follows goes on with CONFIGURATION_REQUEST. -/
def State.writeReset (s : State) (v : W32) : State :=
  if fld v 24 8 ≠ 0xA5 then s
  else if fld v 1 1 = 1 then s.powerDown
  else if fld v 0 1 = 1 then s.stewardReset 4
  else s

/-- A write of a word of PF BAR0 that is not part of a wider register; `t` is the state with the word stored. -/
def State.pfHook (s t : State) (off : Nat) (v : W32) : State :=
  if off = Reg.stewardMbxCmd then (if goBit v then t.mbxGo (fld v 0 8) else t)
  else if inWords off (Reg.stewardMbxBuf 0) 5120 then (if s.fw.mbx.isSome then s else t)
  else if off = Reg.composeCmd then (if goBit v then t.composeGo (fld v 0 4) else t)
  else if off = Reg.schedPreempt then (if goBit v then t.schedPreempt (fld v 0 8) else t)
  else if off = Reg.schedAcctSnap then (if goBit v then t.schedSnap (fld v 0 8) (fld v 30 1 == 1) else t)
  else if inWords off (Reg.schedVdShare 0) 256 then (if fld v 0 16 = 0 then s.setReg off 1 else t)
  else if off = Reg.cacheOpCmd then (if ¬ goBit v then t else if s.maint.isSome then s else startMaint (fld v 24 2) t)
  else if off = Reg.cacheProbeSel then probeCapture v s
  else if 0xC0000 ≤ off ∧ off < 0xD4000 ∧ off % 0x400 = 0x100 then
    let ch := (off - 0xC0000) / 0x400
    let t := if goBit v then t.tgStart ch else t
    if fld v 30 1 = 1 then t.tgStop ch else t
  else if off = Reg.netportCtrl then s.writeNetCtrl v
  else if off = Reg.hostportCtrl then (if fld v 2 1 = 1 then t.clearMax else t)
  else if off = Reg.powerCtrl then s.writePowerCtrl (fld v 0 1 == 1)
  else if off = Reg.clocktimeReset then s.writeReset v
  else if off = Reg.errorCtrl then (if fld v 1 1 = 1 then t.clearSticky else t)
  else if off = Reg.errorContainCmd then (if goBit v then t.containGo (fld v 8 4) (fld v 0 8) else t)
  else if off = Reg.fwupdCmd then (if goBit v then t.fwupdGo (fld v 0 4) (BitVec.ofNat 8 (fld v 16 8)) else t)
  else if off = Reg.calibCmd then (if goBit v then t.calibGo (fld v 0 4) (BitVec.ofNat 8 (fld v 16 8)) else t)
  else t

/-- A write of QUEUE_SQq_CFG (R375): LOG2N is ignored while the queue is enabled; PREEMPT and ENABLE follow. -/
def State.writeQueueCfg (s : State) (n q : Nat) (v : W32) : State :=
  let k := Reg.queueSqCfg n q
  let s := if s.qOn n q then s else s.setRegFld k 16 5 (fld v 16 5)
  let s := s.setRegBit k 30 (fld v 30 1 == 1)
  (s.enableQueue n q (fld v 31 1 == 1)).queuePreempt n

/-- A write of a word of TRANSPORT that is not part of a wider register (R411, R415, R425); pairs at or above QPS ignore
writes. -/
def State.transportHook (s t : State) (n off : Nat) (v : W32) : State :=
  let q := (off - 0x10000) / 64
  if 64 ≤ q then t
  else if (s.vd n).desc.qps ≤ q then s
  else if off % 64 = 8 then
    if goBit v then (if fld v 0 1 = 0 then t.armPair n q else t.resetPair n q) else t
  else t

/-- A write of a word of VF BAR0 that is not part of a wider register; `t` is the state with the word stored. -/
def State.vfHook (s t : State) (n off : Nat) (v : W32) : State :=
  if 0x1000 ≤ off ∧ off < 0x1100 ∧ off % 64 = 8 then s.writeQueueCfg n ((off - 0x1000) / 64) v
  else if off = 0x3000 then (if goBit v then s.acctSnap n else s)
  else if 0x10000 ≤ off ∧ off < 0x20000 then s.transportHook t n off v
  else t

/-- Words written of registers whose writes count what they set by rules of their own: the doorbells and ring heads (R349,
R350, R415, R516), with whether the write is counted. -/
def State.ringWrite (s : State) (k : Nat) (v : W32) : Option (State × Bool) :=
  let n := vfOfKey k
  let off := offOfKey k
  if isVfKey k then
    if 0x1000 ≤ off ∧ off < 0x1100 then
      let q := (off - 0x1000) / 64
      if off % 64 = 0xC then some (s.doorbellW n q v)
      else if off % 64 = 0x20 then some (s.cqHeadW n q v)
      else none
    else if 0x10000 ≤ off ∧ off < 0x11000 then
      let q := (off - 0x10000) / 64
      if (s.vd n).desc.qps ≤ q then none
      else if off % 64 = 0x10 then some (s.ringPairW n q v)
      else if off % 64 = 0x18 then some (s.qpHeadW n q false v)
      else if off % 64 = 0x20 then some (s.qpHeadW n q true v)
      else none
    else none
  else if off = Reg.errorQHead 0 then some (s.qHeadW 0 v)
  else if off = Reg.errorQHead 1 then some (s.qHeadW 1 v)
  else if off = Reg.errorQHead 2 then some (s.qHeadW 2 v)
  else none

/-- Whether a write of a wider register is ignored: a queue's bases and save area while it is enabled (R375), a queue
pair at or above QPS (R425). -/
def State.commitIgnored (s : State) (k : Nat) : Bool :=
  let n := vfOfKey k
  let off := offOfKey k
  isVfKey k
  && ((decide (0x1000 ≤ off) && decide (off < 0x1100) && s.qOn n ((off - 0x1000) / 64))
    || (decide (0x10000 ≤ off) && decide (off < 0x11000) && decide ((s.vd n).desc.qps ≤ (off - 0x10000) / 64)))

/-- All words of a wider register commit together, a word that has no held value with its current one (R4, R6); `k` is the key
of word 0, `v` the last word. -/
def State.commitWords (s : State) (k : Nat) (r : RegRow) (v : W32) : State :=
  let last := r.words - 1
  let held (w : Nat) : Option W32 := if w = last then some v else SMap.get (fun _ => none) s.held (k + 4 * w)
  let t := (List.range r.words).foldl (fun (t : State) w =>
    match held w with
    | some x => t.storeWord (k + 4 * w) r w x
    | none => t) s
  { t with held := SMap.clearRange t.held k (k + 4 * r.words) }

/-- Whether a write of a word of COMPOSE_DESC sets a reserved bit of the descriptor (R330, R345). -/
def descRsvdWrite (k : Nat) (v : W32) : Bool :=
  let i := (k - Reg.composeDesc 0) / 4
  inWords k (Reg.composeDesc 0) 320
  && (if 64 ≤ i then decide (v.toNat &&& 0x7E007E00 ≠ 0) else (descResv i).any (fun x => decide (fld v x.1 x.2 ≠ 0)))

/-- Whether a word write is counted (R10): it sets a reserved bit, gives an unassigned offset of a block non-zero data, or
lies outside every block. -/
def rsvdWrite (k : Nat) (v : W32) : Bool :=
  match rowOfKey k with
  | some _ => decide (v.toNat &&& resvBits k ≠ 0) || descRsvdWrite k v
  | none =>
    decide (v ≠ 0) || (if isVfKey k then (vfBlock (offOfKey k)).isNone else (pfBlock k).isNone)

/-- Whether a key lies in the MSI-X structures or the CXL component registers, whose writes nothing counts (R524). -/
def uncounted (k : Nat) : Bool :=
  let off := offOfKey k
  if isVfKey k then
    (decide (0xF0000 ≤ off) && decide (off ≤ 0xF007F)) || (decide (0xF1000 ≤ off) && decide (off ≤ 0xF1007))
  else
    (decide (0x122000 ≤ off) && decide (off ≤ 0x1223FF)) || (decide (0x123000 ≤ off) && decide (off ≤ 0x123007))
    || inCxlRegs off

/-- The effect of a full word write at a key, and whether it is counted. -/
def State.writeWord (s : State) (k : Nat) (v : W32) : State × Bool :=
  match s.ringWrite k v with
  | some p => p
  | none =>
    let count := rsvdWrite k v && !uncounted k
    match rowOfKey k with
    | none => (s, count)
    | some (r, w) =>
      if r.words = 1 then
        let t := s.storeWord k r 0 v
        (if uncounted k then t
          else if isVfKey k then s.vfHook t (vfOfKey k) (offOfKey k) v else s.pfHook t k v, count)
      else if s.commitIgnored k then (s, count)
      else if w + 1 < r.words then
        ({ s with held := SMap.set (fun _ => none) s.held k (some v) }, count)
      else (s.commitWords (k - 4 * w) r v, count)

/-- A sub-word write of the MSI-X structures: PCIe leaves the words it touches undefined, so each takes a free value in
its writable bits (log entry 13). -/
def State.msixNarrow (s : State) (k : Nat) : State :=
  match rowOfKey (k / 4 * 4) with
  | some (r, w) =>
    let (d, s) := s.draw
    s.storeWord (k / 4 * 4) r w (Config.freeW32 d)
  | none => s

/-- Whether a word access reaches a register file that is there: a VF BAR0 ignores writes while its device is absent (R347),
but for the MSI-X structures. -/
def State.takesWrites (s : State) (bar : Bar) (off : Nat) : Bool :=
  s.answers bar off
  && (match bar with
    | .pf => true
    | .vf n => decide ((s.vd n.val).st ≠ .absent) || uncounted (vfKey n.val off))

/-- A write of `size` bytes (R4, R9 to R11): a word, a pair of words one after the other, or, where it is narrower than 32
bits or straddles two registers, nothing but its count. A transaction is counted once. -/
def State.busWrite (s : State) (bar : Bar) (off size : Nat) (data : W64) : State :=
  let k := barKey bar off
  let lo := BitVec.ofNat 32 data.toNat
  let hi := BitVec.ofNat 32 (data.toNat / 2 ^ 32)
  if ¬ s.takesWrites bar off then s
  else if off % 4 = 0 ∧ size = 4 then
    let (t, c) := s.writeWord k lo
    if c then t.bump (rsvdCounter k) else t
  else if off % 4 = 0 ∧ size = 8 then
    let (t, c0) := s.writeWord k lo
    let (t, c1) := t.writeWord (k + 4) hi
    if c0 then t.bump (rsvdCounter k) else if c1 then t.bump (rsvdCounter (k + 4)) else t
  else if uncounted k then (if inCxlRegs k then s else s.msixNarrow k)
  else s.bump (rsvdCounter k)

/-! The commands -/

/-- Whether an access lies inside a BAR (R522, R523). -/
def inBar (bar : Bar) (off size : Nat) : Bool :=
  decide (off + size ≤ (match bar with
    | .pf => 0x4000000
    | .vf _ => 0x100000))

/-- An access, or a fault where it lies beyond its BAR. -/
def access (bar : Bar) (off size : Nat) (t : State) : Out :=
  if inBar bar off size then ok t else .fault .outsideBar

/-- REGISTER_WRITE (R10): a write of a register by the host. -/
def execRegisterWrite (bar : Bar) (off size : Nat) (data : W64) (s : State) : Out :=
  access bar off size (s.busWrite bar off size data)

/-- LOW_WORD_WRITE (R4): held, with no effect of its own. -/
def execLowWordWrite (bar : Bar) (off : Nat) (data : W32) (s : State) : Out :=
  access bar off 4 (s.busWrite bar off 4 (BitVec.ofNat 64 data.toNat))

/-- HIGH_WORD_WRITE (R4): commits with the held low word, or with the current one. -/
def execHighWordWrite (bar : Bar) (off : Nat) (data : W32) (s : State) : Out :=
  access bar off 4 (s.busWrite bar off 4 (BitVec.ofNat 64 data.toNat))

/-- LOW_WORD_READ (R5): captures the high word. -/
def execLowWordRead (bar : Bar) (off : Nat) (s : State) : Out := access bar off 4 (s.busRead bar off 4)

/-- WORD3_WRITE (R6): commits all four words. -/
def execWord3Write (bar : Bar) (off : Nat) (data : W32) (s : State) : Out :=
  access bar off 4 (s.busWrite bar off 4 (BitVec.ofNat 64 data.toNat))

/-- WORD0_READ (R6): captures words 1 to 3. -/
def execWord0Read (bar : Bar) (off : Nat) (s : State) : Out := access bar off 4 (s.busRead bar off 4)

/-- COUNTER_READ (R7, R8): a full read returns the counter and clears it; a narrower one clears nothing. -/
def execCounterRead (bar : Bar) (off size : Nat) (s : State) : Out := access bar off size (s.busRead bar off size)

end Sys2Proof.Machine
end

