-- ==== Sys2Proof/Machine/Dispatch.lean ====
section
/-! DEFINITION. One arm per command: a direct call of its meaning, or its rejection by name. -/

namespace Sys2Proof.Machine

def exec (i : Instr) (s : State) : Host.Outcome State Fault Refusal :=
  match i with
  | .registerWrite bar off size data => Sys2Proof.Machine.execRegisterWrite bar off size data s
  | .lowWordWrite bar off data => Sys2Proof.Machine.execLowWordWrite bar off data s
  | .highWordWrite bar off data => Sys2Proof.Machine.execHighWordWrite bar off data s
  | .lowWordRead bar off => Sys2Proof.Machine.execLowWordRead bar off s
  | .word3Write bar off data => Sys2Proof.Machine.execWord3Write bar off data s
  | .word0Read bar off => Sys2Proof.Machine.execWord0Read bar off s
  | .counterRead bar off size => Sys2Proof.Machine.execCounterRead bar off size s
  | .slotTableCommit => Sys2Proof.Machine.execSlotTableCommit s
  | .bondFault cd u => Sys2Proof.Machine.execBondFault cd u s
  | .salu c => Sys2Proof.Machine.execSalu c s
  | .sli c => Sys2Proof.Machine.execSli c s
  | .sbr c => Sys2Proof.Machine.execSbr c s
  | .sldt c => Sys2Proof.Machine.execSldt c s
  | .sstt c => Sys2Proof.Machine.execSstt c s
  | .endKernel c => Sys2Proof.Machine.execEndKernel c s
  | .coreKernelEnd c => Sys2Proof.Machine.execCoreKernelEnd c s
  | .mma c => Sys2Proof.Machine.execMma c s
  | .queueHeadStart c q => Sys2Proof.Machine.execQueueHeadStart c q s
  | .mmaStep c => Sys2Proof.Machine.execMmaStep c s
  | .scoreboardRelease c q => Sys2Proof.Machine.execScoreboardRelease c q s
  | .accz c ph => Sys2Proof.Machine.execAccz c ph s
  | .accld c ph => Sys2Proof.Machine.execAccld c ph s
  | .accst c ph => Sys2Proof.Machine.execAccst c ph s
  | .instructionBufferFill c => Sys2Proof.Machine.execInstructionBufferFill c s
  | .readOnlyCacheFill c k => Sys2Proof.Machine.execReadOnlyCacheFill c k s
  | .tgl c ph => Sys2Proof.Machine.execTgl c ph s
  | .groupPlacement c => Sys2Proof.Machine.execGroupPlacement c s
  | .tgwait c ph => Sys2Proof.Machine.execTgwait c ph s
  | .groupKernelEnd c tag => Sys2Proof.Machine.execGroupKernelEnd c tag s
  | .vialu c g => Sys2Proof.Machine.execVialu c g s
  | .vialu64 c g => Sys2Proof.Machine.execVialu64 c g s
  | .vfp32 c g => Sys2Proof.Machine.execVfp32 c g s
  | .vfp64 c g => Sys2Proof.Machine.execVfp64 c g s
  | .vsf c g => Sys2Proof.Machine.execVsf c g s
  | .vcvt c g => Sys2Proof.Machine.execVcvt c g s
  | .vcmp c g => Sys2Proof.Machine.execVcmp c g s
  | .vsel c g => Sys2Proof.Machine.execVsel c g s
  | .vshfl c g => Sys2Proof.Machine.execVshfl c g s
  | .vbr c g => Sys2Proof.Machine.execVbr c g s
  | .vend c g => Sys2Proof.Machine.execVend c g s
  | .vld c g => Sys2Proof.Machine.execVld c g s
  | .groupLoadReturn c g k => Sys2Proof.Machine.execGroupLoadReturn c g k s
  | .vst c g => Sys2Proof.Machine.execVst c g s
  | .vldt c g => Sys2Proof.Machine.execVldt c g s
  | .vstt c g => Sys2Proof.Machine.execVstt c g s
  | .vatom c g => Sys2Proof.Machine.execVatom c g s
  | .glock c g => Sys2Proof.Machine.execGlock c g s
  | .glockRetry c g => Sys2Proof.Machine.execGlockRetry c g s
  | .gunlock c g => Sys2Proof.Machine.execGunlock c g s
  | .vfence c g => Sys2Proof.Machine.execVfence c g s
  | .spinWatchdog c g => Sys2Proof.Machine.execSpinWatchdog c g s
  | .homeOperationResponse c g => Sys2Proof.Machine.execHomeOperationResponse c g s
  | .flagsetAdd c ph => Sys2Proof.Machine.execFlagsetAdd c ph s
  | .flagsetWrite c ph => Sys2Proof.Machine.execFlagsetWrite c ph s
  | .flagsetArrive c ph => Sys2Proof.Machine.execFlagsetArrive c ph s
  | .flagsetArm c ph => Sys2Proof.Machine.execFlagsetArm c ph s
  | .flagwait c ph => Sys2Proof.Machine.execFlagwait c ph s
  | .flagwaitWake c => Sys2Proof.Machine.execFlagwaitWake c s
  | .flagTimeout c => Sys2Proof.Machine.execFlagTimeout c s
  | .flagOperation b k => Sys2Proof.Machine.execFlagOperation b k s
  | .fence c ph => Sys2Proof.Machine.execFence c ph s
  | .waitc c ph => Sys2Proof.Machine.execWaitc c ph s
  | .descriptorFetch e => Sys2Proof.Machine.execDescriptorFetch e s
  | .streamChunkSend e k => Sys2Proof.Machine.execStreamChunkSend e k s
  | .chunkLanding p k => Sys2Proof.Machine.execChunkLanding p k s
  | .landingRetry sl => Sys2Proof.Machine.execLandingRetry sl s
  | .streamFlagAdd k => Sys2Proof.Machine.execStreamFlagAdd k s
  | .reductionChunkArrival b k => Sys2Proof.Machine.execReductionChunkArrival b k s
  | .reductionEntryExpiry b k => Sys2Proof.Machine.execReductionEntryExpiry b k s
  | .reedMessageForward out src => Sys2Proof.Machine.execReedMessageForward out src s
  | .causewayCrcMismatch n dirB f => Sys2Proof.Machine.execCausewayCrcMismatch n dirB f s
  | .retryRequest n r => Sys2Proof.Machine.execRetryRequest n r s
  | .homeRead sl k => Sys2Proof.Machine.execHomeRead sl k s
  | .homeWrite sl k => Sys2Proof.Machine.execHomeWrite sl k s
  | .writeCompletion sl k => Sys2Proof.Machine.execWriteCompletion sl k s
  | .fillComplete sl k => Sys2Proof.Machine.execFillComplete sl k s
  | .lineAllocation sl line => Sys2Proof.Machine.execLineAllocation sl line s
  | .writeBack sl => Sys2Proof.Machine.execWriteBack sl s
  | .homeOperationArrival sl k => Sys2Proof.Machine.execHomeOperationArrival sl k s
  | .homeOperationResend c g => Sys2Proof.Machine.execHomeOperationResend c g s
  | .homeOperationApply sl line => Sys2Proof.Machine.execHomeOperationApply sl line s
  | .deadpendDrop sl line => Sys2Proof.Machine.execDeadpendDrop sl line s
  | .cacheOpWriteBack ph => Sys2Proof.Machine.execCacheOpWriteBack ph s
  | .cacheOpFlush ph => Sys2Proof.Machine.execCacheOpFlush ph s
  | .cacheOpDiscard ph => Sys2Proof.Machine.execCacheOpDiscard ph s
  | .cacheOpEnd => Sys2Proof.Machine.execCacheOpEnd s
  | .cacheProbeCapture sel => Sys2Proof.Machine.execCacheProbeCapture sel s
  | .dieCacheLoad d k => Sys2Proof.Machine.execDieCacheLoad d k s
  | .dieCacheStore d k => Sys2Proof.Machine.execDieCacheStore d k s
  | .mergeEntryAgeExpiry d k => Sys2Proof.Machine.execMergeEntryAgeExpiry d k s
  | .writeAcknowledgement d k => Sys2Proof.Machine.execWriteAcknowledgement d k s
  | .gets sl d => Sys2Proof.Machine.execGets sl d s
  | .getm sl d => Sys2Proof.Machine.execGetm sl d s
  | .puts sl d => Sys2Proof.Machine.execPuts sl d s
  | .pute sl d => Sys2Proof.Machine.execPute sl d s
  | .putm sl d => Sys2Proof.Machine.execPutm sl d s
  | .invack sl d => Sys2Proof.Machine.execInvack sl d s
  | .datam toHome sl d => Sys2Proof.Machine.execDatam toHome sl d s
  | .inv sl d => Sys2Proof.Machine.execInv sl d s
  | .fwdgets sl d => Sys2Proof.Machine.execFwdgets sl d s
  | .fwdgetm sl d => Sys2Proof.Machine.execFwdgetm sl d s
  | .data d => Sys2Proof.Machine.execData d s
  | .datae sl d => Sys2Proof.Machine.execDatae sl d s
  | .putack sl d => Sys2Proof.Machine.execPutack sl d s
  | .nack sl d => Sys2Proof.Machine.execNack sl d s
  | .coherenceResend d k => Sys2Proof.Machine.execCoherenceResend d k s
  | .channelRead ch k => Sys2Proof.Machine.execChannelRead ch k s
  | .channelWrite ch k => Sys2Proof.Machine.execChannelWrite ch k s
  | .refpb ch during => Sys2Proof.Machine.execRefpb ch during s
  | .mr4Read ch temp => Sys2Proof.Machine.execMr4Read ch temp s
  | .retrainingWindow ch inRange => Sys2Proof.Machine.execRetrainingWindow ch inRange s
  | .retrainingRetry ch inRange => Sys2Proof.Machine.execRetrainingRetry ch inRange s
  | .trainingTimeout ch => Sys2Proof.Machine.execTrainingTimeout ch s
  | .tgGo ch => Sys2Proof.Machine.execTgGo ch s
  | .tgStop ch => Sys2Proof.Machine.execTgStop ch s
  | .tgRunEnd ch mismatches trainFail => Sys2Proof.Machine.execTgRunEnd ch mismatches trainFail s
  | .create => Sys2Proof.Machine.execCreate s
  | .destroy => Sys2Proof.Machine.execDestroy s
  | .move => Sys2Proof.Machine.execMove s
  | .resize => Sys2Proof.Machine.execResize s
  | .readDesc => Sys2Proof.Machine.execReadDesc s
  | .setCreate => Sys2Proof.Machine.execSetCreate s
  | .setDestroy => Sys2Proof.Machine.execSetDestroy s
  | .composePendingStart => Sys2Proof.Machine.execComposePendingStart s
  | .quiescePoint => Sys2Proof.Machine.execQuiescePoint s
  | .composeTimeout => Sys2Proof.Machine.execComposeTimeout s
  | .gainingEnd => Sys2Proof.Machine.execGainingEnd s
  | .movingEnd => Sys2Proof.Machine.execMovingEnd s
  | .committingEnd => Sys2Proof.Machine.execCommittingEnd s
  | .resumingEnd => Sys2Proof.Machine.execResumingEnd s
  | .scrubEnd e => Sys2Proof.Machine.execScrubEnd e s
  | .sharedSetSwitch k ph => Sys2Proof.Machine.execSharedSetSwitch k ph s
  | .doorbell vd q tail => Sys2Proof.Machine.execDoorbell vd q tail s
  | .cqHeadWrite vd q head => Sys2Proof.Machine.execCqHeadWrite vd q head s
  | .queueEnable vd q en => Sys2Proof.Machine.execQueueEnable vd q en s
  | .jobTake vd => Sys2Proof.Machine.execJobTake vd s
  | .jobEpoch vd => Sys2Proof.Machine.execJobEpoch vd s
  | .jobEnd vd => Sys2Proof.Machine.execJobEnd vd s
  | .runLimit vd => Sys2Proof.Machine.execRunLimit vd s
  | .ckpt c ph => Sys2Proof.Machine.execCkpt c ph s
  | .checkpoint vd => Sys2Proof.Machine.execCheckpoint vd s
  | .checkpointClean vd => Sys2Proof.Machine.execCheckpointClean vd s
  | .preemptionSaveEnd vd => Sys2Proof.Machine.execPreemptionSaveEnd vd s
  | .jobResume vd => Sys2Proof.Machine.execJobResume vd s
  | .fenceRecord vd => Sys2Proof.Machine.execFenceRecord vd s
  | .engineTimeAttribution => Sys2Proof.Machine.execEngineTimeAttribution s
  | .acctSnap vd => Sys2Proof.Machine.execAcctSnap vd s
  | .schedAcctSnap vd clear => Sys2Proof.Machine.execSchedAcctSnap vd clear s
  | .schedPreempt vd => Sys2Proof.Machine.execSchedPreempt vd s
  | .memrd dpa => Sys2Proof.Machine.execMemrd dpa s
  | .memwr dpa bytes => Sys2Proof.Machine.execMemwr dpa bytes s
  | .memwrptl dpa bytes be => Sys2Proof.Machine.execMemwrptl dpa bytes be s
  | .memspecrd dpa => Sys2Proof.Machine.execMemspecrd dpa s
  | .meminv dpa => Sys2Proof.Machine.execMeminv dpa s
  | .unsupportedMessage code => Sys2Proof.Machine.execUnsupportedMessage code s
  | .hostResponse k ticks => Sys2Proof.Machine.execHostResponse k ticks s
  | .hdmDecoderCommit ways sizeGiB memEnable => Sys2Proof.Machine.execHdmDecoderCommit ways sizeGiB memEnable s
  | .maxClear => Sys2Proof.Machine.execMaxClear s
  | .missAddrClear => Sys2Proof.Machine.execMissAddrClear s
  | .hostLinkRetrain width speed flit256 lopt => Sys2Proof.Machine.execHostLinkRetrain width speed flit256 lopt s
  | .linkDown => Sys2Proof.Machine.execLinkDown s
  | .d3hot => Sys2Proof.Machine.execD3hot s
  | .pfFlr => Sys2Proof.Machine.execPfFlr s
  | .vfEnableClear => Sys2Proof.Machine.execVfEnableClear s
  | .vfFlr vd => Sys2Proof.Machine.execVfFlr vd s
  | .write p => Sys2Proof.Machine.execWrite p s
  | .reduce p => Sys2Proof.Machine.execReduce p s
  | .readReq p => Sys2Proof.Machine.execReadReq p s
  | .readResp p => Sys2Proof.Machine.execReadResp p s
  | .ack p => Sys2Proof.Machine.execAck p s
  | .nak p => Sys2Proof.Machine.execNak p s
  | .cnp p => Sys2Proof.Machine.execCnp p s
  | .arpRequest vd => Sys2Proof.Machine.execArpRequest vd s
  | .neighbourSolicitation vd => Sys2Proof.Machine.execNeighbourSolicitation vd s
  | .pfcFrame p quanta => Sys2Proof.Machine.execPfcFrame p quanta s
  | .pauseFrame => Sys2Proof.Machine.execPauseFrame s
  | .segmentDelivery k => Sys2Proof.Machine.execSegmentDelivery k s
  | .networkWriteAck k => Sys2Proof.Machine.execNetworkWriteAck k s
  | .ackSend vd q ticks => Sys2Proof.Machine.execAckSend vd q ticks s
  | .rateIncrease vd q => Sys2Proof.Machine.execRateIncrease vd q s
  | .retransmissionTimeout vd q => Sys2Proof.Machine.execRetransmissionTimeout vd q s
  | .segmentSend vd => Sys2Proof.Machine.execSegmentSend vd s
  | .workRequestFetch vd q => Sys2Proof.Machine.execWorkRequestFetch vd q s
  | .arm vd q => Sys2Proof.Machine.execArm vd q s
  | .reset vd q => Sys2Proof.Machine.execReset vd q s
  | .qpDoorbell vd q tail => Sys2Proof.Machine.execQpDoorbell vd q tail s
  | .qpCqHeadWrite vd q recv head => Sys2Proof.Machine.execQpCqHeadWrite vd q recv head s
  | .netportEnable ctrl => Sys2Proof.Machine.execNetportEnable ctrl s
  | .netportLinkChange up => Sys2Proof.Machine.execNetportLinkChange up s
  | .budgetExchange inputPower eta => Sys2Proof.Machine.execBudgetExchange inputPower eta s
  | .report d r => Sys2Proof.Machine.execReport d r s
  | .grant d err => Sys2Proof.Machine.execGrant d err s
  | .grantTimeout d => Sys2Proof.Machine.execGrantTimeout d s
  | .sluiceLoop d power temp => Sys2Proof.Machine.execSluiceLoop d power temp s
  | .capUnmet => Sys2Proof.Machine.execCapUnmet s
  | .forceFloor on => Sys2Proof.Machine.execForceFloor on s
  | .droop d detector => Sys2Proof.Machine.execDroop d detector s
  | .stretchEnd d => Sys2Proof.Machine.execStretchEnd d s
  | .stretchLimit d => Sys2Proof.Machine.execStretchLimit d s
  | .ageingTrim allowed => Sys2Proof.Machine.execAgeingTrim allowed s
  | .thermalTrip d temp => Sys2Proof.Machine.execThermalTrip d temp s
  | .supplyWarn vin => Sys2Proof.Machine.execSupplyWarn vin s
  | .supplyOk vin => Sys2Proof.Machine.execSupplyOk vin s
  | .supplyReset vin => Sys2Proof.Machine.execSupplyReset vin s
  | .supplyResetEnd e => Sys2Proof.Machine.execSupplyResetEnd e s
  | .throttle => Sys2Proof.Machine.execThrottle s
  | .throttleRelease => Sys2Proof.Machine.execThrottleRelease s
  | .throttleRepeat => Sys2Proof.Machine.execThrottleRepeat s
  | .crystalFailure => Sys2Proof.Machine.execCrystalFailure s
  | .pllLockLoss => Sys2Proof.Machine.execPllLockLoss s
  | .powerOn p e => Sys2Proof.Machine.execPowerOn p e s
  | .powerLoss => Sys2Proof.Machine.execPowerLoss s
  | .perstNAssert => Sys2Proof.Machine.execPerstNAssert s
  | .perstNRelease e => Sys2Proof.Machine.execPerstNRelease e s
  | .perstNGlitch => Sys2Proof.Machine.execPerstNGlitch s
  | .cxlHotReset => Sys2Proof.Machine.execCxlHotReset s
  | .moduleReset e => Sys2Proof.Machine.execModuleReset e s
  | .powerDown => Sys2Proof.Machine.execPowerDown s
  | .offReady => Sys2Proof.Machine.execOffReady s
  | .readRecord => Sys2Proof.Machine.execReadRecord s
  | .writeRecord => Sys2Proof.Machine.execWriteRecord s
  | .readCal => Sys2Proof.Machine.execReadCal s
  | .writeCal key => Sys2Proof.Machine.execWriteCal key s
  | .readJournal => Sys2Proof.Machine.execReadJournal s
  | .readActive => Sys2Proof.Machine.execReadActive s
  | .clearJournal key => Sys2Proof.Machine.execClearJournal key s
  | .flashOperationEnd verifyOk => Sys2Proof.Machine.execFlashOperationEnd verifyOk s
  | .journalEntry => Sys2Proof.Machine.execJournalEntry s
  | .suppressedEntry => Sys2Proof.Machine.execSuppressedEntry s
  | .queryDeviceIdentifiers b => Sys2Proof.Machine.execQueryDeviceIdentifiers b s
  | .getFirmwareParameters b => Sys2Proof.Machine.execGetFirmwareParameters b s
  | .requestUpdate b agent maxTransfer => Sys2Proof.Machine.execRequestUpdate b agent maxTransfer s
  | .passComponentTable agent components => Sys2Proof.Machine.execPassComponentTable agent components s
  | .updateComponent agent region rest => Sys2Proof.Machine.execUpdateComponent agent region rest s
  | .firmwareData agent off bytes => Sys2Proof.Machine.execFirmwareData agent off bytes s
  | .updateTimeout => Sys2Proof.Machine.execUpdateTimeout s
  | .transferComplete agent errs => Sys2Proof.Machine.execTransferComplete agent errs s
  | .verifyComplete agent => Sys2Proof.Machine.execVerifyComplete agent s
  | .applyComplete agent => Sys2Proof.Machine.execApplyComplete agent s
  | .activateFirmware agent => Sys2Proof.Machine.execActivateFirmware agent s
  | .getStatus b => Sys2Proof.Machine.execGetStatus b s
  | .cancelUpdateComponent agent => Sys2Proof.Machine.execCancelUpdateComponent agent s
  | .cancelUpdate agent => Sys2Proof.Machine.execCancelUpdate agent s
  | .recoveryUpdateReset e => Sys2Proof.Machine.execRecoveryUpdateReset e s
  | .trialConfirmation => Sys2Proof.Machine.execTrialConfirmation s
  | .trialWatchdogExpiry e => Sys2Proof.Machine.execTrialWatchdogExpiry e s
  | .firmwareWatchdog e => Sys2Proof.Machine.execFirmwareWatchdog e s
  | .acceptTrial overMctp => Sys2Proof.Machine.execAcceptTrial overMctp s
  | .rejectTrial key e => Sys2Proof.Machine.execRejectTrial key e s
  | .unstage key => Sys2Proof.Machine.execUnstage key s
  | .cancel => Sys2Proof.Machine.execCancel s
  | .getEndorsement mailbox => Sys2Proof.Machine.execGetEndorsement mailbox s
  | .getReport mailbox nonce => Sys2Proof.Machine.execGetReport mailbox nonce s
  | .mailboxDone => Sys2Proof.Machine.execMailboxDone s
  | .correctedError u => Sys2Proof.Machine.execCorrectedError u s
  | .uncorrectableError u syndrome => Sys2Proof.Machine.execUncorrectableError u syndrome s
  | .sliceUncorrectable sl a line sector => Sys2Proof.Machine.execSliceUncorrectable sl a line sector s
  | .coherenceUncorrectable d a k => Sys2Proof.Machine.execCoherenceUncorrectable d a k s
  | .recordHandling => Sys2Proof.Machine.execRecordHandling s
  | .release vd => Sys2Proof.Machine.execRelease vd s
  | .releaseEnd => Sys2Proof.Machine.execReleaseEnd s
  | .stickyClear => Sys2Proof.Machine.execStickyClear s
  | .errorQueueHeadWrite sev head => Sys2Proof.Machine.execErrorQueueHeadWrite sev head s
  | .dynamicAddressAssignment addr => Sys2Proof.Machine.execDynamicAddressAssignment addr s
  | .daaReset => Sys2Proof.Machine.execDaaReset s
  | .busTimeout => Sys2Proof.Machine.execBusTimeout s
  | .vrefSbLoss => Sys2Proof.Machine.execVrefSbLoss s
  | .undefinedOpcode c => Sys2Proof.Machine.execUndefinedOpcode c s
  | .groupUndefined c g => Sys2Proof.Machine.execGroupUndefined c g s
  | .groupInstructionCacheFill c => Sys2Proof.Machine.execGroupInstructionCacheFill c s
  | .nonTuilinFrame => Sys2Proof.Machine.execNonTuilinFrame s
  | .pfcPauseExpiry p => Sys2Proof.Machine.execPfcPauseExpiry p s
  | .linkResetStateExit e => Sys2Proof.Machine.execLinkResetStateExit e s
  | .vfEnableSet => Sys2Proof.Machine.execVfEnableSet s
  | .configurationRequest r => Sys2Proof.Machine.execConfigurationRequest r s
  | .vrefSbRestore => Sys2Proof.Machine.execVrefSbRestore s

end Sys2Proof.Machine
end

