-- ==== Sys2Proof/Safety.lean ====
section
/-! DEFINITION. The terms in which claims are stated: the canonical form of the state's sparse maps, and, by kind of command,
what it means that a command meets its occasion (a core at the issue of an instruction, a queue head that acts, a group that
issues, a packet for a pair, a request in its turn at its home, a message for a die) with the state that follows its common
part. -/

namespace Sys2Proof.Machine

/-- Every memory and register file of the state is in its canonical form, and the fuses are as the factory leaves them (R23). -/
def State.canonical (s : State) : Bool :=
  Memory.wf s.mem && SMap.wf regReset s.regs && s.fac.ok

/-- Word `w` is the next instruction of core `c`: device `n` runs a job there that has not ended, the sequencer issues, and the
instruction buffer holds the line of an address in the job's code region (R39, R41, R353). -/
def State.atIssue (s : State) (c n w : Nat) : Prop :=
  ∃ j, s.coreJob c = some (n, j) ∧ (s.core c).seq = .running ∧ j.ended = none ∧ j.inCode (s.core c).pc = true
    ∧ Machine.cacheWord (s.core c).ibuf n (s.core c).pc = some w

/-- The state in which a core's instruction has been read from its instruction buffer, whose line is the most recently
used (R39). -/
def State.fetched (s : State) (c n : Nat) : State :=
  s.modCore c (fun k => { k with ibuf := cacheTouch k.ibuf n ((s.core c).pc / 256) })

/-- A scalar instruction has written `v` to its register SD and the next one is in turn (R71). -/
def State.scalarDone (s : State) (c n w : Nat) (v : W64) : State :=
  ((s.fetched c n).modCore c (fun k => k.setSreg (sdOf w) v)).nextPc c

/-- The second operand of SALU: IMM, or register SB (R71). -/
def Core.saluX (k : Core) (w : Nat) : W64 := if bitOf w 104 then BitVec.ofNat 64 (immOf w) else k.sreg (sbOf w)

/-- The entry at the head of a queue of a core has started and is the `i`-th. -/
def State.headActs (s : State) (c : Nat) (q : QueueName) (i : Nat) (e : QEntry) : Prop :=
  headIdx ((s.core c).queue q) = some i ∧ ((s.core c).queue q)[i]? = some e ∧ e.started = true

/-- A well-formed packet has come, with the port up, for the armed pair `q` of a device, from its peer (R416). -/
def State.forPair (s : State) (p : Packet) (q : Nat) : Prop :=
  s.net.up = true ∧ p.wellFormed = true ∧ s.netIp p.vd.val ≠ 0 ∧ s.ctlPair p = some q

/-- No condition of R416 keeps a data segment or READ_REQ from being accepted; `op` is 0 for WRITE, 1 REDUCE, 2 READ_REQ. -/
def State.accepts (s : State) (op : Nat) (p : Packet) (q : Nat) : Prop :=
  s.forPair p q ∧ (s.vd p.vd.val).st ≠ .contained ∧ (s.qp p.vd.val q).seen p.psn = false
    ∧ psnSub p.psn (s.qp p.vd.val q).epsn ≤ 1023 ∧ s.accessBad p.vd.val q op p = false
    ∧ s.stageRoom p.prio.val p.length = true

/-- The state in which a segment has been accepted (R406, R417, R419). -/
def State.accepted (s : State) (p : Packet) (q : Nat) : State :=
  ((s.modQp p.vd.val q (fun r => r.accept p.psn)).noteCe p.vd.val q p).noteSeg p.vd.val q p

/-- What core `c` has to wait for at a scope is acknowledged: its stores and its drain are over (R285). -/
def State.drainIsOver (s : State) (c scope : Nat) : Prop :=
  s.storesOut c = false ∧ ∃ dr, (s.core c).drain = some dr ∧ s.drainOver c dr scope = true

/-- The state in which a core's drain has been taken off. -/
def State.drainOff (s : State) (c : Nat) : State := s.modCore c (fun k => { k with drain := none })

/-- Word `w` is the next instruction of the group `g` in a slot of core `c`: device `n` runs job `j` there, `k` is the group's
kernel, the group may issue and is in its turn, and the group instruction cache holds its line (R113, R123, R124, R141). -/
def State.groupIssues (s : State) (c slot n : Nat) (j : Job) (k : GKernel) (g : Group) (w : Nat) : Prop :=
  s.group c slot = some g ∧ s.coreJob c = some (n, j) ∧ (s.core c).kernelOf g.tag = some k ∧ g.runs = true
    ∧ j.inCode g.pc = true ∧ Machine.cacheWord (s.core c).gic n g.pc = some w ∧ s.inTurn c slot g (parseG w).ofMemory = true

/-- The state in which a group's instruction has been read from the group instruction cache and its sub-engine has issued it
(R123, R124). -/
def State.gFetched (s : State) (c slot n pc : Nat) : State := s.modCore c (fun x => x.issues slot n pc)

/-- A group whose active lanes have taken `f` of their number in `width` registers from DST on goes to its next
instruction (R126, R127). -/
def Group.computed (g : Group) (i : GInstr) (width : Nat) (f : Nat → Nat) : Group :=
  ((g.lanes g.active).foldl (fun x l => x.setVal i.dst l width (f l)) g).goto (g.pc + 16)

/-- An instruction of a group of core `c` has ended with the group as given. -/
def State.gDone (s : State) (c slot n pc : Nat) (g : Group) : State := (s.gFetched c slot n pc).setGroup c slot (some g)

/-- Request `q` of slice `i` is `r`, nothing older shares a byte with it, and way `k` holds its line, which is not HELD and whose
sector does not fill (R199, R206, R279). -/
def State.homeTurn (s : State) (i q k : Nat) (r : HReq) : Prop :=
  firstOver (s.slice i).reqs q = some r ∧ (s.slice i).find (lineOf r.addr) = some k ∧ ((s.slice i).way k).held = false
    ∧ (((s.slice i).way k).sec (secIdx r.addr)).filling = false

/-- A home takes request `r`, which is no refill of a whole line: its device is not contained, and no older request of the host port
that shares a byte with it is on its way (R233, R392). -/
def State.homeAdmits (s : State) (r : HReq) : Prop :=
  s.refuses r.vd r.src = false ∧ s.hostWaits r = false ∧ r.refill = false

/-- The next message of a kind from die `d` to home `i` is `m`, at place `j` of the messages, and way `k` holds its line (R250,
R260). -/
def State.homeHears (s : State) (kind : CohKind) (i d j k : Nat) (m : CohMsg) : Prop :=
  nextMsg s.msgs (fun m => decide (m.kind = kind) && decide (m.src = .die d) && decide (m.dst = .home i)) = some (j, m)
    ∧ (s.slice i).find (m.sector / 16) = some k

/-- The next message of a kind from home `i` to die `d` is `m`, at place `j`, and `b` is the die's block of its sector (R250,
R259). -/
def State.dieHears (s : State) (kind : CohKind) (i d j : Nat) (m : CohMsg) (b : Block) : Prop :=
  nextMsg s.msgs (fun m => decide (m.kind = kind) && decide (m.src = .home i) && decide (m.dst = .die d)) = some (j, m)
    ∧ (s.die d).block m.vd m.sector = some b

/-- The directory state of a sector at way `k` of slice `i` (R253). -/
def State.dirAt (s : State) (i k sector : Nat) : Dir := ((s.slice i).way k).dir (sector % 16)

end Sys2Proof.Machine
end

