-- ==== Sys2Proof/Certificates/Slice0/Obligations.lean ====
section
/-! DEFINITION. The statements for the provers, by part of the block. -/

open Sys2Proof Sys2Proof.Machine

/-! The step, the queue and the state -/

/-- For every command c and state s, a step of s with c at the front of its queue is exec of c on s with the queue's rest. The
queue is the model's own; derived from the frame of commands (log entries 2, 11). -/
def Obligations.StepRunsTheFrontCommand : Prop :=
  ∀ (c : Instr) (cs : List Instr) (s : State), step { s with pending := c :: cs } = exec c { s with pending := cs }

/-- A step on an empty queue is one TCLK tick (the model's choice, log entry 2): without power nothing happens; with power the
time base counts by one (R451) and the queue and the canonical form stay. While the clocks of the dies are gated (R460), or
while no chunk, stream or demand message is in the fabric and no frame begins, only the time base, the counters of running
jobs, a report under way, the ACLK counts and the flits kept for replay can change. -/
def Obligations.EmptyQueueTicksTheTimeBase : Prop :=
  ∀ s : State,
    (s.pending = [] → step s = .next s.tick)
    ∧ (s.clock.powered = false → s.tick = s)
    ∧ (s.clock.powered = true → s.canonical = true → s.tick.time = s.time + 1 ∧ s.tick.pending = s.pending
      ∧ s.tick.canonical = true)
    ∧ (s.clock.powered = true → s.clock.gated = true →
      s.tick = { s with time := s.time + 1, vds := s.tick.vds, fw := s.tick.fw, power := s.tick.power }
      ∧ s.tick.fw = { s.fw with report := s.tick.fw.report, sent := s.tick.fw.sent }
      ∧ s.tick.power = { s.power with dies := s.tick.power.dies })
    ∧ (s.clock.powered = true → s.clock.gated = false → s.fab.chunks = [] → s.fab.engines = [] → s.fab.dem = [] →
        State.frame { s with time := s.time + 1 } = s.frame →
      s.tick = { s with time := s.time + 1, vds := s.tick.vds, fw := s.tick.fw, power := s.tick.power, fab := s.tick.fab }
      ∧ s.tick.fab = { s.fab with spent := [], sent := s.tick.fab.sent }
      ∧ s.tick.fw = { s.fw with report := s.tick.fw.report, sent := s.tick.fw.sent })

/-- The reset state is in canonical form, its queue is empty, the time base is zero and every register has its reset value (R7,
R454). That the module is without power in it is the model's choice (log entry 11). -/
def Obligations.ResetStateIsCanonical : Prop :=
  State.reset.canonical = true ∧ State.reset.pending = [] ∧ State.reset.time = 0
  ∧ State.reset.clock.powered = false ∧ ∀ k, State.reset.reg k = regReset k

/-- The invariant of the model: from every state whose memory and register file are canonical, a step goes to such a state,
whatever the command. -/
def Obligations.EveryStepKeepsCanonicalForm : Prop :=
  ∀ s t : State, s.canonical = true → step s = .next t → t.canonical = true

/-- exec never changes the queue of waiting commands, and no command but a power-on changes the time base (R451: it counts from
zero at power-good and is never set). -/
def Obligations.CommandsLeaveQueueAndTimeAlone : Prop :=
  ∀ (c : Instr) (s t : State), s.canonical = true → exec c s = .next t →
    t.pending = s.pending ∧ ((∀ p e, c ≠ .powerOn p e) → t.time = s.time)

/-! Registers -/

/-- R4: a write to the low word of a 64-bit register is held and has no effect of its own, a second one replaces it; the next
write to the high word commits both together, with the current low word where none is held. A word is stored under the
access codes of its bits, and a write that R10 counts is counted beside that. -/
def Obligations.LowWordIsHeldUntilTheHighWord : Prop :=
  ∀ (bar : Bar) (off k : Nat) (data : W32) (r : RegRow) (s : State), k = barKey bar off → off % 4 = 0 → inBar bar off 8 = true →
    rowOfKey k = some (r, 0) → rowOfKey (k + 4) = some (r, 1) → r.words = 2 →
    s.takesWrites bar off = true → s.takesWrites bar (off + 4) = true →
    s.ringWrite k data = Option.none → s.ringWrite (k + 4) data = Option.none →
    s.commitIgnored k = false → s.commitIgnored (k + 4) = false →
    (∃ u, exec (.lowWordWrite bar off data) s
        = .next (if rsvdWrite k data && !uncounted k then u.bump (rsvdCounter k) else u)
      ∧ u = { s with held := u.held } ∧ SMap.get (fun _ => Option.none) u.held k = some data
      ∧ ∀ j, j ≠ k → SMap.get (fun _ => Option.none) u.held j = SMap.get (fun _ => Option.none) s.held j)
    ∧ (s.canonical = true → ∃ u, exec (.highWordWrite bar (off + 4) data) s
        = .next (if rsvdWrite (k + 4) data && !uncounted (k + 4) then u.bump (rsvdCounter (k + 4)) else u)
      ∧ u = { s with held := u.held, regs := u.regs } ∧ u.reg (k + 4) = accessWrite r 1 (s.reg (k + 4)) data
      ∧ (∀ v, SMap.get (fun _ => Option.none) s.held k = some v → u.reg k = accessWrite r 0 (s.reg k) v)
      ∧ (SMap.get (fun _ => Option.none) s.held k = Option.none → u.reg k = s.reg k)
      ∧ SMap.get (fun _ => Option.none) u.held k = Option.none
      ∧ ∀ j, j ≠ k → j ≠ k + 4 → u.reg j = s.reg j)

/-- R5: a full read of the low word of a 64-bit register captures the high word at the same instant, and the next full read of
the high word returns it; with no capture pending it returns the live word. A narrower read makes and consumes no capture. A
read of 8 bytes is the low word's followed by the high word's. -/
def Obligations.LowWordReadCapturesTheHighWord : Prop :=
  ∀ (bar : Bar) (off k : Nat) (r : RegRow) (s : State), k = barKey bar off → off % 4 = 0 → inBar bar off 8 = true →
    rowOfKey k = some (r, 0) → rowOfKey (k + 4) = some (r, 1) → r.words = 2 →
    s.answers bar off = true → s.answers bar (off + 4) = true →
    (∃ t, exec (.lowWordRead bar off) s = .next t ∧ t.readBack = some (BitVec.ofNat 64 (s.liveWord k).toNat)
      ∧ SMap.get (fun _ => Option.none) t.captured (k + 4) = some (s.liveWord (k + 4))
      ∧ t = { s with regs := t.regs, captured := t.captured, readBack := t.readBack }
      ∧ (wordOf r.rc 0 = 0 → t.regs = s.regs)
      ∧ ∃ u, exec (.counterRead bar (off + 4) 4) t = .next u
        ∧ u.readBack = some (BitVec.ofNat 64 (s.liveWord (k + 4)).toNat)
        ∧ exec (.counterRead bar off 8) s = .next { u with readBack := some (BitVec.ofNat 64
            ((s.liveWord k).toNat + 2 ^ 32 * (s.liveWord (k + 4)).toNat)) })
    ∧ (SMap.get (fun _ => Option.none) s.captured (k + 4) = Option.none → exec (.counterRead bar (off + 4) 4) s
        = .next { s with readBack := some (BitVec.ofNat 64 (s.liveWord (k + 4)).toNat) })
    ∧ (∀ v, SMap.get (fun _ => Option.none) s.captured (k + 4) = some v → exec (.counterRead bar (off + 4) 4) s
        = .next { s with
            readBack := some (BitVec.ofNat 64 v.toNat)
            captured := SMap.set (fun _ => Option.none) s.captured (k + 4) Option.none })
    ∧ (∀ i size, i < 8 → size < 4 → (bar = .pf → inCxlRegs (off + i) = false) → i + size ≤ 8 → s.answers bar (off + i) = true →
      exec (.counterRead bar (off + i) size) s = .next { s with readBack := some (BitVec.ofNat 64
        (sumN ((List.range size).map (fun b => s.liveByte bar (off + i + b) * 2 ^ (8 * b))))) })

/-- R6: writes to words 0, 1 and 2 of a 128-bit register are held; the next write to word 3 commits all four together, a word
that has no held value with its current one; a read of word 0 captures words 1 to 3, and the next full read of each returns
its captured value. -/
def Obligations.FourWordsCommitTogether : Prop :=
  ∀ (bar : Bar) (off k : Nat) (data : W32) (r : RegRow) (s : State), k = barKey bar off → off % 16 = 0 → inBar bar off 16 = true →
    r.words = 4 → (∀ w, w < 4 → rowOfKey (k + 4 * w) = some (r, w)) →
    (∀ w, w < 4 → s.takesWrites bar (off + 4 * w) = true ∧ s.answers bar (off + 4 * w) = true
      ∧ s.ringWrite (k + 4 * w) data = Option.none ∧ s.commitIgnored (k + 4 * w) = false) →
    (∀ w, w < 3 → ∃ u, exec (.registerWrite bar (off + 4 * w) 4 (data.setWidth 64)) s
        = .next (if rsvdWrite (k + 4 * w) data && !uncounted (k + 4 * w) then u.bump (rsvdCounter (k + 4 * w)) else u)
      ∧ u = { s with held := u.held } ∧ SMap.get (fun _ => Option.none) u.held (k + 4 * w) = some data)
    ∧ (s.canonical = true → ∃ u, exec (.word3Write bar (off + 12) data) s
        = .next (if rsvdWrite (k + 12) data && !uncounted (k + 12) then u.bump (rsvdCounter (k + 12)) else u)
      ∧ u = { s with held := u.held, regs := u.regs } ∧ u.reg (k + 12) = accessWrite r 3 (s.reg (k + 12)) data
      ∧ ∀ w, w < 3 → SMap.get (fun _ => Option.none) u.held (k + 4 * w) = Option.none
        ∧ (∀ v, SMap.get (fun _ => Option.none) s.held (k + 4 * w) = some v →
            u.reg (k + 4 * w) = accessWrite r w (s.reg (k + 4 * w)) v)
        ∧ (SMap.get (fun _ => Option.none) s.held (k + 4 * w) = Option.none → u.reg (k + 4 * w) = s.reg (k + 4 * w)))
    ∧ (wordOf r.rc 0 = 0 → ∃ t, exec (.word0Read bar off) s = .next t
      ∧ t = { s with captured := t.captured, readBack := some (BitVec.ofNat 64 (s.liveWord k).toNat) }
      ∧ ∀ w, 0 < w → w < 4 → SMap.get (fun _ => Option.none) t.captured (k + 4 * w) = some (s.liveWord (k + 4 * w)))
    ∧ (∀ w, 0 < w → w < 4 →
      (SMap.get (fun _ => Option.none) s.captured (k + 4 * w) = Option.none → exec (.counterRead bar (off + 4 * w) 4) s
        = .next { s with readBack := some (BitVec.ofNat 64 (s.liveWord (k + 4 * w)).toNat) })
      ∧ ∀ v, SMap.get (fun _ => Option.none) s.captured (k + 4 * w) = some v → exec (.counterRead bar (off + 4 * w) 4) s
        = .next { s with
            readBack := some (BitVec.ofNat 64 v.toNat)
            captured := SMap.set (fun _ => Option.none) s.captured (k + 4 * w) Option.none })
    ∧ (∀ i size, i < 16 → size < 4 → (bar = .pf → inCxlRegs (off + i) = false) → i + size ≤ 16 → s.answers bar (off + i) = true →
      exec (.counterRead bar (off + i) size) s = .next { s with readBack := some (BitVec.ofNat 64
        (sumN ((List.range size).map (fun b => s.liveByte bar (off + i + b) * 2 ^ (8 * b))))) })

/-- R7, R9, R10: a full read of a 32-bit counter returns it and clears its RC bits; a write of a register without rules of its
own takes the RW bits and clears the W1C bits it writes as 1; a write narrower than 32 bits or to an unassigned offset does
nothing but count itself in the block's RSVD_WRITES, which saturates. -/
def Obligations.RegisterWordsFollowTheirAccessCodes : Prop :=
  ∀ (bar : Bar) (off k size : Nat) (data : W64) (r : RegRow) (s : State), k = barKey bar off → inBar bar off size = true →
    (off % 4 = 0 → size = 4 → s.answers bar off = true → rowOfKey k = some (r, 0) → r.words = 1 →
      exec (.counterRead bar off size) s = .next (State.returned
        (if BitVec.ofNat 32 (wordOf r.rc 0) = 0 then s else s.setReg k (s.reg k &&& ~~~(BitVec.ofNat 32 (wordOf r.rc 0))))
        (some (BitVec.ofNat 64 (s.liveWord k).toNat))))
    ∧ (size < 4 → s.takesWrites bar off = true → uncounted k = false →
      exec (.registerWrite bar off size data) s = .next (s.bump (rsvdCounter k)))
    ∧ (off % 4 = 0 → size = 4 → s.takesWrites bar off = true → s.ringWrite k (data.setWidth 32) = Option.none →
        rowOfKey k = Option.none → uncounted k = false → data.setWidth 32 ≠ 0#32 →
      exec (.registerWrite bar off size data) s = .next (s.bump (rsvdCounter k)))
    ∧ (k = Reg.composeTimeout → size = 4 → bar = .pf → s.pfServed off = true → rowOfKey k = some (r, 0) →
        data.toNat < 2 ^ 24 →
      exec (.registerWrite bar off size data) s = .next (s.setReg k (accessWrite r 0 (s.reg k) (data.setWidth 32))))
    ∧ (∀ o, inBar bar o size = false → exec (.registerWrite bar o size data) s = .fault .outsideBar)
    ∧ ∀ j, s.canonical = true → (s.bump j).reg j = satInc32 (s.reg j) ∧ ∀ i, i ≠ j → (s.bump j).reg i = s.reg i

/-! The cores -/

/-- R71: the scalar instructions. SALU and SLI write SD and go to the next instruction; SBR goes to its target or on; SLDT and
SSTT read and write one aligned word of the tile store, and wait for a TGWAIT (R114); END stops issue. Nothing else changes
but the line of the instruction buffer, which is the most recently used (R39). -/
def Obligations.ScalarInstructionsComplete : Prop :=
  (∀ (c : Fin 96) (n w : Nat) (s : State), s.atIssue c.val n w → scalarResv w = false →
     (opcodeOf w = 0x01 → ∀ v, saluOp (bitsOf w 100 4) ((s.core c.val).sreg (saOf w)) ((s.core c.val).saluX w) = some v →
       exec (.salu c) s = .next (s.scalarDone c.val n w v))
     ∧ (opcodeOf w = 0x02 → exec (.sli c) s = .next (s.scalarDone c.val n w (BitVec.ofNat 64 (immOf w))))
     ∧ (opcodeOf w = 0x03 → ∀ b, sbrCond (sfunct w) ((s.core c.val).sreg (saOf w)) ((s.core c.val).sreg (sbOf w)) = some b →
       exec (.sbr c) s = .next (if b then (s.fetched c.val n).modCore c.val (fun k =>
           { k with pc := wrapN 64 (((s.core c.val).pc : Int) + 16 * sext (immOf w) 64) })
         else (s.fetched c.val n).nextPc c.val))
     ∧ (opcodeOf w = 0x07 → exec (.endKernel c) s = .next ((s.fetched c.val n).modCore c.val (fun k => { k with seq := .ending }))))
  ∧ (∀ (c : Fin 96) (n w : Nat) (s : State), s.atIssue c.val n w → scalarResv w = false →
     (s.core c.val).tgwaits = false →
     (s.core c.val).tileAddr w % 8 = 0 → (s.core c.val).tileAddr w + 8 ≤ 0x800000 →
     (opcodeOf w = 0x05 →
       exec (.sldt c) s = .next (s.scalarDone c.val n w (BitVec.ofNat 64 (rdLE (s.core c.val).tile ((s.core c.val).tileAddr w) 8))))
     ∧ (opcodeOf w = 0x06 →
       exec (.sstt c) s = .next (((s.fetched c.val n).modCore c.val (fun k => { k with
         tile := wrLE (s.core c.val).tile ((s.core c.val).tileAddr w) 8 ((s.core c.val).sreg (sbOf w)).toNat })).nextPc c.val)))
  ∧ (∀ (c : Fin 96) (n w : Nat) (s : State), s.atIssue c.val n w → (s.core c.val).tgwaits = true →
     (opcodeOf w = 0x05 → exec (.sldt c) s = .next s) ∧ (opcodeOf w = 0x06 → exec (.sstt c) s = .next s))

/-- R71: s0 reads as zero and a write to it is ignored; a write to another register changes that register alone. -/
def Obligations.RegisterZeroReadsZero : Prop :=
  ∀ (k : Core) (v : W64) (r : Nat), k.sreg 0 = 0 ∧ k.setSreg 0 v = k
    ∧ (r ≠ 0 → SMap.wf (fun _ => (0 : W64)) k.sregs = true → (k.setSreg r v).sreg r = v)
    ∧ ∀ q, q ≠ r → (k.setSreg r v).sreg q = k.sreg q

/-- R41, R43, R50, R53, R70, R72, R74, R76: an MMA, ACCZ, ACCLD or ACCST that no cause holds back joins its queue with the
accumulators and granules it reads and writes on the scoreboard, and its tags are set; with a cause it faults. -/
def Obligations.MatrixInstructionsIssue : Prop :=
  ∀ (c : Fin 96) (n w : Nat) (s : State), s.atIssue c.val n w →
    (∀ bits u, opcodeOf w = 0x10 → (s.core c.val).stalls .matrix = false →
      lowestCause (mmaCauses (s.core c.val) w) = none → bits = accBits (parseMma w).tag (parseMma w).acc →
      u = (s.fetched c.val n).enqueue c.val .matrix w 0 0 0 bits bits (envelope (parseMma w).reads) [] →
      exec (.mma c) s = .next (if (parseMma w).zero then u.modCore c.val (fun k => k.setTags bits (parseMma w).tag) else u))
    ∧ (∀ x, opcodeOf w = 0x10 → (s.core c.val).stalls .matrix = false → lowestCause (mmaCauses (s.core c.val) w) = some x →
      exec (.mma c) s = .next ((s.fetched c.val n).fault c.val x (s.core c.val).pc 0 0))
    ∧ ((s.core c.val).stalls .matrix = true → opcodeOf w = 0x10 → exec (.mma c) s = .next s)
    ∧ ((s.core c.val).stalls .accumulator = false →
      (opcodeOf w = 0x18 → bitsOf w 0 102 = 0 → bitsOf w 102 2 ≠ 3 →
        (acczTag w = .fp64 → pairedMask (bitsOf w 104 16) = true) → exec (.accz c .issue) s
        = .next (((s.fetched c.val n).enqueue c.val .accumulator w 0 0 0 0 (bitsOf w 104 16) [] []).modCore c.val
            (fun k => k.setTags (bitsOf w 104 16) (acczTag w))))
      ∧ (∀ src len bits, opcodeOf w = 0x19 → bitsOf w 0 97 = 0 → 8 ≤ bitsOf w 116 4 → bitsOf w 116 4 ≤ 0xA →
        (accldTag w = .fp64 → bitsOf w 112 4 % 2 = 0) → src = 256 * bitsOf w 97 15 → len = 1024 * (accldTag w).bytes →
        src + len ≤ 0x800000 → bits = accBits (accldTag w) (bitsOf w 112 4) → exec (.accld c .issue) s
        = .next (((s.fetched c.val n).enqueue c.val .accumulator w 0 0 0 0 bits [granules src (src + len)] []).modCore
            c.val (fun k => k.setTags bits (accldTag w))))
      ∧ (∀ t bits, opcodeOf w = 0x1A → lowestCause (accstCauses (s.core c.val) w) = none →
        t = (s.core c.val).tag (bitsOf w 112 4) → bits = accBits t (bitsOf w 112 4) →
        exec (.accst c .issue) s = .next ((s.fetched c.val n).enqueue c.val .accumulator w 0 0 t.code bits
          (if bitOf w 108 then bits else 0) [] (envelope (((accstDst w : Int), 128 * codeWidth (bitsOf w 116 4)) ::
            (if bitOf w 107 then [((accstScale w : Int), 32)] else []))))))

/-- R42, R43, R44, R56, R72, R74: what the started instruction at the head of a queue does, when a head starts, and when it
leaves the scoreboard. R39, R67, R69, R71, R76, R116: the caches beside a core are filled, an opcode that R69 does not list
faults, and a kernel ends on a core once its queues are empty and its drain is over, with its caches invalidated. -/
def Obligations.QueueHeadsActInTurn : Prop :=
  (∀ (c : Fin 96) (q : QueueName) (i : Nat) (e : QEntry) (s : State),
     (∀ k m, s.headActs c.val .matrix i e → opcodeOf e.word = 0x10 → k = (s.core c.val).atWindow (s.sluiceWindow c.val) →
       m = parseMma e.word →
       (k.winSteps + m.cost ≤ k.sluice → exec (.mmaStep c) s
         = .next ((s.setCore c.val ((k.mmaStep m e.done).takeSluice m.cost)).setEntry c.val .matrix i
             (fun e => { e with done := e.done + 1 })))
       ∧ (k.sluice < k.winSteps + m.cost → m.cost ≤ k.sluice → exec (.mmaStep c) s = .next s))
     ∧ (s.headActs c.val .accumulator i e →
       (opcodeOf e.word = 0x18 → exec (.accz c .act) s
         = .next ((s.modCore c.val (fun k => k.zeroAcc (bitsOf e.word 104 16))).finishEntry c.val .accumulator i))
       ∧ (∀ t, opcodeOf e.word = 0x19 → t = accldTag e.word → exec (.accld c .act) s
         = .next ((s.modCore c.val (fun k => positions.foldl (fun (k' : Core) p => k'.setAccVal t (bitsOf e.word 112 4) p.1 p.2
             (rdLE k.tile (256 * bitsOf e.word 97 15 + t.bytes * (32 * p.1 + p.2)) t.bytes)) k)).finishEntry c.val .accumulator i))
       ∧ (∀ (t : AccTag) (codes : Core → List Nat × List Byte) (image : Core → Nat), opcodeOf e.word = 0x1A → t = tagOfCode e.sc →
         (codes = fun k => k.accstCodes t e.word s.freeCtr) →
         (image = fun k => ((List.range 1024).zip (codes k).1).foldl
           (fun n p => n + p.2 <<< outBit (bitsOf e.word 116 4) (bitsOf e.word 105 2) (p.1 / 32) (p.1 % 32)) 0) →
         exec (.accst c .act) s = .next (({ s with
             freeCtr := if bitsOf e.word 110 2 = 2 then s.freeCtr + 1024 else s.freeCtr }.modCore c.val (fun k =>
           (fun (x : Core) => if bitOf e.word 108 then x.zeroAcc (accBits t (bitsOf e.word 112 4)) else x) { k with
             tile := wrL (wrL k.tile (accstDst e.word) (leBytes (128 * codeWidth (bitsOf e.word 116 4)) (image k)))
               (accstScale e.word) (codes k).2 })).finishEntry c.val .accumulator i)))
     ∧ (headIdx ((s.core c.val).queue q) = some i → ((s.core c.val).queue q)[i]? = some e → e.started = false →
         (s.core c.val).mayStart e = true → (s.core c.val).tglWaits e.word = false → opcodeOf e.word ≠ 0x10 →
       exec (.queueHeadStart c q) s = .next (s.setEntry c.val q i (fun e => { e with started := true })))
     ∧ (headIdx ((s.core c.val).queue q) = some i → ((s.core c.val).queue q)[i]? = some e → (s.core c.val).mayStart e = false →
       exec (.queueHeadStart c q) s = .next s)
     ∧ (∀ l, (s.core c.val).queue q = e :: l → e.over = true → exec (.scoreboardRelease c q) s
       = .next (s.dropEntry c.val q 0 true))
     ∧ (∀ l, (s.core c.val).queue q = e :: l → e.over = false → exec (.scoreboardRelease c q) s = .next s))
  ∧ (∀ (c : Fin 96) (n w i : Nat) (f : CFill) (bs : List Byte) (s : State),
     ((s.core c.val).ibFill = some f → f.bytes = some bs → exec (.instructionBufferFill c) s = .next (s.modCore c.val (fun k => { k with
         ibFill := none
         ibuf := if f.stale then k.ibuf else cacheInstall 32 4 k.ibuf f.vd f.line bs })))
     ∧ ((s.core c.val).rocFills[i]? = some f → f.bytes = some bs → f.waiters = [] → exec (.readOnlyCacheFill c i) s
       = .next (s.modCore c.val (fun k => { k with
         rocFills := delNth k.rocFills i
         roc := if f.stale then k.roc else cacheInstall 128 8 k.roc f.vd f.line bs })))
     ∧ (s.atIssue c.val n w → opcodeOf w ∉ coreOpcodes →
       exec (.undefinedOpcode c) s = .next ((s.fetched c.val n).fault c.val 0x01 (s.core c.val).pc 0 0))
     ∧ ((s.core c.val).seq = .ending → (s.core c.val).board = [] →
         (s.core c.val).qm ++ (s.core c.val).qa ++ (s.core c.val).qg ++ (s.core c.val).qs = [] → s.drainIsOver c.val 2 →
       exec (.coreKernelEnd c) s = .next ((s.drainOff c.val).modCore c.val (fun k => { k.boundary with seq := .ended })))
     ∧ ((s.core c.val).board ≠ [] → exec (.coreKernelEnd c) s = .next s))

/-- R46, R49, R51: a step of an MMA of a 32-bit accumulator type gives every one of the 1,024 positions the result of its dot
product unit, from its row, its column, its scale bytes and its old value (zero at the first step of an MMA with Z), and
changes no other accumulator and no byte of the tile store. -/
def Obligations.MatrixStepUpdatesEveryPosition : Prop :=
  ∀ (k : Core) (m : Mma) (x i j : Nat), SMap.wf (fun _ => (0 : W32)) k.acc = true → m.tag ≠ .fp64 → i < 32 → j < 32 →
    (k.mmaStep m x).accWord m.acc i j
      = dpuStep m (rdN k.tile ((m.aAt x).toNat + i * rowBytes m.fa m.k) (rowBytes m.fa m.k))
          (rdN k.tile ((m.bAt x).toNat + j * rowBytes m.fb m.k) (rowBytes m.fb m.k))
          (if m.mode = 0 then [] else rdN k.tile (m.saAt x) m.scaleSize)
          (if m.mode = 0 then [] else rdN k.tile (m.sbAt x) m.scaleSize) i j
          (if m.zero = true ∧ x = 0 then 0 else k.accWord m.acc i j) % 2 ^ 32
    ∧ (∀ t, t ≠ m.acc → (k.mmaStep m x).accWord t i j = k.accWord t i j)
    ∧ k.mmaStep m x = { k with acc := (k.mmaStep m x).acc }

/-- R180, R182, R195, R286, R362: a sync instruction issues into its queue with its scalar value; all but FLAGSET hold issue.
R180, R181, R182, R183, R285, R286, R362: what a sync instruction does in its turn: FLAGSET sends its message and then waits
for it to leave the send port, FLAGWAIT waits at its router until a wake comes or its time is over, FENCE and WAITC wait
for what their scope asks, CKPT waits at its number. -/
def Obligations.SyncInstructionsIssueAndAct : Prop :=
  (∀ (c : Fin 96) (n w : Nat) (u s : State), s.atIssue c.val n w → (s.core c.val).stalls .sync = false →
     u = (s.fetched c.val n).enqueue c.val .sync w ((s.core c.val).sreg (bitsOf w 112 5)) 0 0 0 0 [] [] →
     (opcodeOf w = 0x30 → bitsOf w 32 64 = 0 → flagNo w < s.flagCount n →
       (flagOp w = 0 → exec (.flagsetAdd c .issue) s = .next u) ∧ (flagOp w = 1 → exec (.flagsetWrite c .issue) s = .next u)
       ∧ (flagOp w = 2 → exec (.flagsetArrive c .issue) s = .next u) ∧ (flagOp w = 3 → exec (.flagsetArm c .issue) s = .next u))
     ∧ (opcodeOf w = 0x30 → flagOp w = 0 → bitsOf w 32 64 = 0 → s.flagCount n ≤ flagNo w →
       exec (.flagsetAdd c .issue) s = .next ((s.fetched c.val n).fault c.val 0x20 (s.core c.val).pc 0 0))
     ∧ (opcodeOf w = 0x31 → flagOp w ≠ 3 → flagOrder w = false → bitsOf w 32 64 = 0 → flagNo w < s.flagCount n →
       exec (.flagwait c .issue) s = .next (u.modCore c.val (fun k => { k with seq := .held })))
     ∧ (opcodeOf w = 0x38 → bitsOf w 118 2 ≠ 0 → bitsOf w 0 118 = 0 →
       exec (.fence c .issue) s = .next (u.modCore c.val (fun k => { k with seq := .held })))
     ∧ (opcodeOf w = 0x39 → bitsOf w 0 120 = 0 →
       exec (.waitc c .issue) s = .next (u.modCore c.val (fun k => { k with seq := .held })))
     ∧ (opcodeOf w = 0x3F → bitsOf w 0 108 = 0 →
       exec (.ckpt c .issue) s = .next (u.modCore c.val (fun k => { k with seq := .held }))))
  ∧ (∀ (c : Fin 96) (i n : Nat) (e : QEntry) (s : State), s.headActs c.val .sync i e → s.coreVd c.val = some n →
     (opcodeOf e.word = 0x30 → flagOrder e.word = false → s.flagsetWaits c.val = false →
       (flagOp e.word = 0 → exec (.flagsetAdd c .act) s = .next (s.sendFlag
           ⟨n, s.flagWord n (flagNo e.word), .add e.flagValue, c.val⟩ (.core c.val)))
       ∧ (flagOp e.word = 1 → exec (.flagsetWrite c .act) s = .next (s.sendFlag
           ⟨n, s.flagWord n (flagNo e.word), .write e.flagValue, c.val⟩ (.core c.val)))
       ∧ (flagOp e.word = 2 → exec (.flagsetArrive c .act) s = .next (s.sendFlag
           ⟨n, s.flagWord n (flagNo e.word), .arrive, c.val⟩ (.core c.val)))
       ∧ (flagOp e.word = 3 → exec (.flagsetArm c .act) s = .next (s.sendFlag
           ⟨n, s.flagWord n (flagNo e.word), .arm e.flagValue, c.val⟩ (.core c.val))))
     ∧ (opcodeOf e.word = 0x30 → flagOrder e.word = true → s.flagsetWaits c.val = false →
       ((s.core c.val).olderDone e false = false → flagOp e.word = 0 → exec (.flagsetAdd c .act) s = .next s)
       ∧ ((s.core c.val).olderDone e false = true → s.drainIsOver c.val 2 →
         (flagOp e.word = 0 → exec (.flagsetAdd c .act) s = .next ((s.drainOff c.val).sendFlag
             ⟨n, s.flagWord n (flagNo e.word), .add e.flagValue, c.val⟩ (.core c.val)))
         ∧ (flagOp e.word = 2 → exec (.flagsetArrive c .act) s = .next ((s.drainOff c.val).sendFlag
             ⟨n, s.flagWord n (flagNo e.word), .arrive, c.val⟩ (.core c.val)))))
     ∧ (opcodeOf e.word = 0x30 → s.flagsetWaits c.val = true → flagOp e.word = 0 → exec (.flagsetAdd c .act) s = .next s)
     ∧ (∀ x, opcodeOf e.word = 0x31 → (s.core c.val).flagWait = none → x = s.flagWord n (flagNo e.word) →
       flagHolds (flagOp e.word) (s.flag x) e.flagValue = true → exec (.flagwait c .act) s
         = .next ((s.modCore c.val (fun k => { k with
             flagWait := some ⟨x, flagOp e.word, e.flagValue, s.frame, e.pc⟩ })).sendWake n x c.val))
     ∧ (∀ x, opcodeOf e.word = 0x31 → (s.core c.val).flagWait = none → x = s.flagWord n (flagNo e.word) →
       flagHolds (flagOp e.word) (s.flag x) e.flagValue = false → exec (.flagwait c .act) s
         = .next (s.modCore c.val (fun k => { k with flagWait := some ⟨x, flagOp e.word, e.flagValue, s.frame, e.pc⟩ })))
     ∧ (opcodeOf e.word = 0x31 → c.val ∈ s.fab.wakes → (s.core c.val).flagWait.isSome = true → exec (.flagwaitWake c) s
       = .next (((s.dropWakes c.val).modCore c.val (fun k => { k with flagWait := none })).syncDone c.val i))
     ∧ (∀ f, opcodeOf e.word = 0x31 → (s.core c.val).flagWait = some f → s.regFld Reg.fabricFlagTimeout 0 24 ≠ 0 →
       s.regFld Reg.fabricFlagTimeout 0 24 < s.frame - f.since →
       (flagHolds f.mode (s.flag f.word) f.value = false → s.wakeOut c.val = false →
         exec (.flagTimeout c) s = .next ((s.dropEntry c.val .sync i true).fault c.val 0x21 f.pc 0 0))
       ∧ (flagHolds f.mode (s.flag f.word) f.value = true → exec (.flagTimeout c) s
         = .next (((s.dropWakes c.val).modCore c.val (fun k => { k with flagWait := none })).syncDone c.val i)))
     ∧ (opcodeOf e.word = 0x38 → (s.core c.val).olderDone e false = true →
       (bitsOf e.word 118 2 = 1 → exec (.fence c .act) s = .next (s.syncDone c.val i))
       ∧ (bitsOf e.word 118 2 ≠ 1 → s.drainIsOver c.val (bitsOf e.word 118 2) →
         exec (.fence c .act) s = .next ((s.drainOff c.val).syncDone c.val i)))
     ∧ (opcodeOf e.word = 0x39 → (s.core c.val).olderDone e false = true → s.drainIsOver c.val 4 →
       exec (.waitc c .act) s = .next ((s.drainOff c.val).syncDone c.val i))
     ∧ (opcodeOf e.word = 0x3F → (s.core c.val).olderDone e true = true → (s.core c.val).kernels = [] → exec (.ckpt c .act) s
       = .next ((s.dropEntry c.val .sync i true).modCore c.val (fun k => { k with seq := .ckpt (bitsOf e.word 108 12) })))
     ∧ (opcodeOf e.word = 0x3F → (s.core c.val).olderDone e true = false → exec (.ckpt c .act) s = .next s))

/-! The group engine -/

/-- R110, R111, R112, R113, R114, R116, R119, R120, R121: kernels of groups: TGL and TGWAIT issue and act, the next group takes
a slot, a kernel whose groups have ended leaves. R113, R116, R123, R127, R141, R147: what stops a group (an opcode that R127
does not list, a watchdog that has reached 2^20) and the fill of the group instruction cache. -/
def Obligations.GroupKernelsLaunchAndEnd : Prop :=
  (∀ (c : Fin 96) (n w i : Nat) (e : QEntry) (s : State),
     (s.atIssue c.val n w → (s.core c.val).stalls .group = false →
       (opcodeOf w = 0x20 → bitsOf w 88 5 = 0 → bitsOf w 0 32 = 0 → bitsOf w 108 6 ≠ 0 → bitsOf w 108 6 ≤ 32 →
         tglBase w + tglLen w ≤ 32768 → bitOf w 117 = false → tglLen w ≠ 0 → exec (.tgl c .issue) s
         = .next ((s.fetched c.val n).enqueue c.val .group w ((s.core c.val).sreg (bitsOf w 103 5))
             ((s.core c.val).sreg (bitsOf w 98 5)) ((s.core c.val).sreg (bitsOf w 93 5)) 0 0
             [(tglBase w, tglBase w + tglLen w)] [(tglBase w, tglBase w + tglLen w)]))
       ∧ (opcodeOf w = 0x21 → bitsOf w 0 112 = 0 → exec (.tgwait c .issue) s
         = .next ((s.fetched c.val n).enqueue c.val .group w 0 0 0 0 0 [] [])))
     ∧ (s.headActs c.val .group i e →
       (opcodeOf e.word = 0x20 → fld e.sa 0 24 = 0 → exec (.tgl c .act) s
         = .next ((s.modCore c.val Core.boundary).dropEntry c.val .group i true))
       ∧ (opcodeOf e.word = 0x20 → fld e.sa 0 24 ≠ 0 → exec (.tgl c .act) s
         = .next (((s.modCore c.val Core.boundary).dropEntry c.val .group i false).modCore c.val (fun x => { x with
             kernels := x.kernels ++ [⟨bitsOf e.word 114 3, widthOf (bitsOf e.word 118 2), 8 * bitsOf e.word 108 6, bitOf e.word 117,
               e.sc.toNat, wrapN 64 ((e.pc : Int) + 16 * sext (bitsOf e.word 32 25) 25), fld e.sa 0 24, e.sb, 0, 0, e.sb_⟩] })))
       ∧ (opcodeOf e.word = 0x21 → (s.core c.val).kernels.any (fun g => bitOf (bitsOf e.word 112 8) g.tag) = false →
         exec (.tgwait c .act) s = .next (s.finishEntry c.val .group i)))
     ∧ (∀ g slot se x, (s.core c.val).kernels.find? (fun g => decide (g.placed < g.count)) = some g →
       (s.core c.val).placeAt g = some se → (s.core c.val).freeSlot se = some slot →
       x = ⟨g.tag, g.placed, g.width, ((s.core c.val).seFree se g.width).2,
         startRegs g g.placed ((s.coreLogical c.val).getD 0), g.entry, 2 ^ g.width - 1, 2 ^ g.width - 1, [], 0, [], 0, [],
         2 ^ 32 * ((s.core c.val).nextSb + 1), .ready, false⟩ →
       exec (.groupPlacement c) s = .next ((s.setGroup c.val slot (some x)).modCore c.val (fun k => { k with
         nextSb := k.nextSb + 1
         kernels := k.kernels.map (fun (y : GKernel) => if y.tag = g.tag then { y with placed := y.placed + 1 } else y) })))
     ∧ (∀ (tag : Fin 8) g, (s.core c.val).kernelOf tag.val = some g → g.count ≤ g.ended →
       exec (.groupKernelEnd c tag) s = .next (s.modCore c.val (fun _ => { s.core c.val with
         kernels := (s.core c.val).kernels.filter (fun x => !decide (x.tag = tag.val))
         board := (s.core c.val).board.filter (fun b => !decide (some b.id = g.sb_)) }))))
  ∧ (∀ (c : Fin 96) (slot : Fin 64) (n w : Nat) (j : Job) (k : GKernel) (g : Group) (s : State),
     (s.groupIssues c.val slot.val n j k g w → (parseG w).op ∉ groupOpcodes →
       exec (.groupUndefined c slot) s = .next ((s.gFetched c.val slot.val n g.pc).gfault c.val slot.val 0x10))
     ∧ (s.groupIssues c.val slot.val n j k g w → (parseG w).op = 0x80 → (parseG w).reservedCode = true →
       g.hazard ((parseG w).names2 1) = false →
       exec (.vialu c slot) s = .next ((s.gFetched c.val slot.val n g.pc).gfault c.val slot.val 0x10))
     ∧ (s.group c.val slot.val = some g → 2 ^ 20 ≤ g.watchdog → g.stopped = false →
       exec (.spinWatchdog c slot) s = .next (s.gfault c.val slot.val 0x1B))
     ∧ (s.group c.val slot.val = some g → g.watchdog < 2 ^ 20 → exec (.spinWatchdog c slot) s = .next s)
     ∧ (∀ f l bs, (s.core c.val).gicFills = f :: l → f.bytes = some bs → f.stale = false →
       exec (.groupInstructionCacheFill c) s = .next (s.modCore c.val (fun _ => { s.core c.val with
         gicFills := l
         gic := cacheInstall 32 4 (s.core c.val).gic f.vd f.line bs }))))

/-- R126, R127, R128, R129: an arithmetic instruction of a group that no cause or hazard holds back gives each active lane its
result from the values its registers had before, and the group goes on. -/
def Obligations.GroupArithmeticCompletes : Prop :=
  ∀ (c : Fin 96) (slot : Fin 64) (n w : Nat) (j : Job) (k : GKernel) (g : Group) (i : GInstr) (f : Nat → Nat) (s : State),
    s.groupIssues c.val slot.val n j k g w → i = parseG w → i.reservedCode = false →
    (i.op = 0x80 → i.funct ≤ 13 → regsOk k.regs (i.names2 1) = true → g.hazard (i.names2 1) = false →
      (∀ l, vialuOp 32 i.funct (g.val i.a l 1) (i.opB g l 1) = some (f l)) →
      exec (.vialu c slot) s = .next (s.gDone c.val slot.val n g.pc (g.computed i 1 f)))
    ∧ (i.op = 0x81 → i.funct ≤ 13 → regsOk k.regs (i.names2 2) = true → g.hazard (i.names2 2) = false →
      (∀ l, vialuOp 64 i.funct (g.val i.a l 2) (i.opB g l 2) = some (f l)) →
      exec (.vialu64 c slot) s = .next (s.gDone c.val slot.val n g.pc (g.computed i 2 f)))
    ∧ (i.op = 0x84 → i.funct ≤ 6 → regsOk k.regs (i.namesF 1) = true → g.hazard (i.namesF 1) = false →
      (∀ l, vfpOp .fp32 i.funct i.round (g.val i.a l 1) (i.opB g l 1) (g.val i.c l 1) = some (f l)) →
      exec (.vfp32 c slot) s = .next (s.gDone c.val slot.val n g.pc (g.computed i 1 f)))
    ∧ (i.op = 0x85 → i.funct ≤ 6 → regsOk k.regs (i.namesF 2) = true → g.hazard (i.namesF 2) = false →
      (∀ l, vfpOp .fp64 i.funct i.round (g.val i.a l 2) (i.opB g l 2) (g.val i.c l 2) = some (f l)) →
      exec (.vfp64 c slot) s = .next (s.gDone c.val slot.val n g.pc (g.computed i 2 f)))
    ∧ (i.op = 0x86 → i.funct ≤ 6 → regsOk k.regs [(i.dst, 1), (i.a, 1)] = true → g.hazard [(i.dst, 1), (i.a, 1)] = false →
      (∀ l, vsfOp i.funct i.round (g.reg i.a l) = some (f l)) →
      exec (.vsf c slot) s = .next (s.gDone c.val slot.val n g.pc (g.computed i 1 f)))
    ∧ (i.op = 0x88 → i.funct ≤ 0xA → i.fmt ≤ 0xA → i.round ≠ 3 →
      regsOk k.regs [(i.dst, fmtRegs i.fmt), (i.a, fmtRegs i.funct)] = true →
      g.hazard [(i.dst, fmtRegs i.fmt), (i.a, fmtRegs i.funct)] = false →
      (∀ l, vcvtOp i.funct i.fmt i.round i.sat (Config.freeRand16 (s.freeCtr + l)).toNat (g.val i.a l (fmtRegs i.funct)) = f l) →
      exec (.vcvt c slot) s = .next ({ s.gFetched c.val slot.val n g.pc with
        freeCtr := if i.round = 2 then s.freeCtr + 256 else s.freeCtr }.setGroup c.val slot.val
          (some (g.computed i (fmtRegs i.fmt) f))))
    ∧ (i.op = 0x8A → i.funct % 16 ≤ 5 → i.funct ≤ 63 →
      regsOk k.regs ([(i.dst, 1), (i.a, cmpRegs i)] ++ (if i.immB then [] else [(i.b, cmpRegs i)])) = true →
      g.hazard ([(i.dst, 1), (i.a, cmpRegs i)] ++ (if i.immB then [] else [(i.b, cmpRegs i)])) = false →
      (∀ l, vcmpOp i.funct (g.val i.a l (cmpRegs i)) (i.opB g l (cmpRegs i)) = f l) →
      exec (.vcmp c slot) s = .next (s.gDone c.val slot.val n g.pc (g.computed i 1 f)))
    ∧ (i.op = 0x8B → regsOk k.regs (i.names2 1 ++ [(i.c, 1)]) = true → g.hazard (i.names2 1 ++ [(i.c, 1)]) = false →
      (∀ l, (if g.reg i.c l ≠ 0 then g.val i.a l 1 else i.opB g l 1) = f l) →
      exec (.vsel c slot) s = .next (s.gDone c.val slot.val n g.pc (g.computed i 1 f)))
    ∧ (i.op = 0x8C → regsOk k.regs (i.names2 1) = true → g.hazard (i.names2 1) = false →
      (∀ l, g.val i.a (i.opB g l 1 % g.width) 1 = f l) →
      exec (.vshfl c slot) s = .next (s.gDone c.val slot.val n g.pc (g.computed i 1 f)))

/-- R119, R127: such an instruction of one result register writes that register of the active lanes and no other, and the
group's next address, lanes and stack follow from the reconvergence rules alone. -/
def Obligations.ArithmeticWritesTheActiveLanesAlone : Prop :=
  ∀ (g : Group) (i : GInstr) (f : Nat → Nat), SMap.wf (fun _ => (0 : W32)) g.regs = true → g.width ≤ 256 →
    (∀ l, l < g.width → bitOf g.active l = true → (g.computed i 1 f).reg i.dst l = BitVec.ofNat 32 (f l))
    ∧ (∀ r l, l < 256 → (r ≠ i.dst ∨ bitOf g.active l = false) → (g.computed i 1 f).reg r l = g.reg r l)
    ∧ (g.stack = [] → g.locks = [] → g.computed i 1 f = { g with regs := (g.computed i 1 f).regs, pc := g.pc + 16 })

/-- R126, R130, R131, R135, R140, R141: branches, ends and tile-store accesses of a group; lanes that part push an entry, and
those that do not take the branch run first; a branch back counts in the watchdog, a store to the tile store clears it.
R122, R137, R138, R139, R140, R146, R224, R282, R285: the answers to a group's accesses, its locks and its fences. -/
def Obligations.GroupControlAndTileAccessesComplete : Prop :=
  (∀ (c : Fin 96) (slot : Fin 64) (n w : Nat) (j : Job) (k : GKernel) (g x : Group) (i : GInstr) (target : Nat) (s : State),
     s.groupIssues c.val slot.val n j k g w → i = parseG w → i.reservedCode = false →
     (i.op = 0x90 → i.funct ≤ 2 → (i.funct ≠ 2 → regsOk k.regs [(i.a, 1)] = true ∧ g.hazard [(i.a, 1)] = false) →
       target = displaced g.pc (bitsOf i.imm 32 32) →
       x = { g with watchdog := if target ≤ g.pc then g.watchdog + 1 else g.watchdog } →
       (branchTaken i g = 0 → exec (.vbr c slot) s = .next (s.gDone c.val slot.val n g.pc (g.goto (g.pc + 16))))
       ∧ (branchTaken i g = g.active → g.active ≠ 0 → exec (.vbr c slot) s
         = .next (s.gDone c.val slot.val n g.pc (x.goto target)))
       ∧ (branchTaken i g ≠ 0 → branchTaken i g ≠ g.active → g.stack.length < 32 → exec (.vbr c slot) s
         = .next (s.gDone c.val slot.val n g.pc (Group.goto { x with
             active := g.active - branchTaken i g
             stack := ⟨g.active, branchTaken i g, target, displaced g.pc (bitsOf i.imm 0 32), false⟩ :: g.stack } (g.pc + 16)))))
     ∧ (i.op = 0x91 → g.locks.any (fun l => decide (l.holding &&& g.active ≠ 0)) = false → g.out.any OutAcc.unsent = false →
       exec (.vend c slot) s = .next ((s.gDone c.val slot.val n g.pc (Group.settle 128
         { g with alive := g.alive - (g.alive &&& g.active), active := 0 })).endGroup c.val slot.val))
     ∧ (i.size ≤ 4 →
       (g.lanes g.active).any (fun l => decide (i.tileAt g l < 0) || decide (0x800000 < i.tileAt g l + sizeBytes i.size)) = false →
       (i.op = 0xA2 → regsOk k.regs [(i.dst, sizeRegs i.size), (i.a, 1)] = true →
         g.hazard [(i.dst, sizeRegs i.size), (i.a, 1)] = false → g.tileWaits k true = false → exec (.vldt c slot) s
         = .next ({ s.gFetched c.val slot.val n g.pc with
             freeCtr := if sizeBytes i.size < 4 then s.freeCtr + 256 else s.freeCtr }.setGroup c.val slot.val
               (some (g.computed i (sizeRegs i.size) (fun l => widen (sizeBytes i.size)
                 (rdLE (s.core c.val).tile (i.tileAt g l).toNat (sizeBytes i.size)) (s.freeCtr + l))))))
       ∧ (∀ (names : List (Nat × Nat)), i.op = 0xA3 → names = [(i.a, 1)] ++ (if i.immB then [] else [(i.b, sizeRegs i.size)]) →
         regsOk k.regs names = true → g.hazard names = false → g.tileWaits k false = false → exec (.vstt c slot) s
         = .next (((({ s.gFetched c.val slot.val n g.pc with freeCtr := s.freeCtr + 512 }).modCore c.val (fun y => { y with
             tile := (freeOrder s.freeCtr (g.lanes g.active)).foldl (fun t l =>
               wrLE t (i.tileAt g l).toNat (sizeBytes i.size) (i.storeVal g l (s.freeCtr + 256 + l)))
               (s.core c.val).tile }))).setGroup c.val slot.val (some (Group.goto { g with watchdog := 0 } (g.pc + 16)))))))
  ∧ (∀ (c : Fin 96) (slot : Fin 64) (n w : Nat) (j : Job) (k : GKernel) (g : Group) (i : GInstr) (s : State),
     (∀ (x : Nat) (o : OutAcc), s.group c.val slot.val = some g → g.out[x]? = some o → o.left = 0 → o.kind = .load →
       exec (.groupLoadReturn c slot x) s = .next ({ s with
         freeCtr := if sizeBytes o.size < 4 then s.freeCtr + 256 else s.freeCtr }.setGroup c.val slot.val
           (some { o.lanes.foldl (fun (y : Group) (la : Nat × Nat) => y.setVal o.dst la.1 (sizeRegs o.size)
             (widen (sizeBytes o.size) (leNat (o.result la.1 la.2)) (s.freeCtr + la.1))) g with out := delNth g.out x })))
     ∧ (∀ (x : Nat) (o : OutAcc), s.group c.val slot.val = some g → g.out[x]? = some o → o.left = 0 → o.kind = .atomicRet → 2 ≤ o.size →
       sizeRegs o.size < o.writes.length → exec (.groupLoadReturn c slot x) s = .next (s.setGroup c.val slot.val
         (some { o.lanes.foldl (fun (y : Group) (la : Nat × Nat) => (y.setVal o.dst la.1 (sizeRegs o.size) (leNat (o.result la.1 la.2))).setReg
           (o.dst + sizeRegs o.size) la.1 (gotByte o.got (16 * la.1 + 15)).toNat) g with out := delNth g.out x })))
     ∧ (∀ r u o a b d, s.opRsps.find? (fun r => r.src.ofGroup c.val slot.val) = some r → r.src = .load a b d →
       u = { s with opRsps := s.opRsps.erase r } → u.group c.val slot.val = some g →
       g.out.find? (fun o => decide (o.id = d / 2)) = some o → o.kind ≠ .lock →
       exec (.homeOperationResponse c slot) s = .next (u.accDone c.val slot.val d ((r.lanes.zip r.old).flatMap (fun p =>
         addrBytes (16 * p.1) p.2 ++ [(16 * p.1 + 15, BitVec.ofNat 8 (b2n (r.hit && decide (r.lanes.head? = some p.1))))]))))
     ∧ (s.groupIssues c.val slot.val n j k g w → i = parseG w → i.reservedCode = false →
       (∀ y, i.op = 0xA8 → lowestCause (lockCauses s n j k g i) = none → g.hazard [(i.a, 2)] = false → g.performed = true →
         g.out.length < 8 →
         (y = ⟨g.pc, g.active, g.active, 0, [], g.stack.length, false⟩ :: g.locks ∧ (∀ l ls, g.locks = l :: ls → l.again = false)
           ∨ ∃ l ls, g.locks = l :: ls ∧ l.again = true ∧ y = { l with again := false, parked := g.active } :: ls) →
         s.flushSectors c.val n ((g.lanes g.active).map (fun l => i.devAt g l / 256)) = none →
         exec (.glock c slot) s = .next (((s.gFetched c.val slot.val n g.pc).setGroup c.val slot.val (some { g with
           locks := y })).lockAttempt c.val slot.val n j i g.active))
       ∧ (i.op = 0xA9 → g.locks = [] → exec (.gunlock c slot) s = .next ((s.gFetched c.val slot.val n g.pc).gfault c.val slot.val 0x1A))
       ∧ (i.op = 0xAC → i.funct ≤ 1 → (i.funct = 0 → k.priv = true) → g.performed = true → exec (.vfence c slot) s
         = .next ((s.gFetched c.val slot.val n g.pc).modGroup c.val slot.val (fun g => g.goto (g.pc + 16))))
       ∧ (i.op = 0xAC → i.funct ≤ 4 → (i.funct = 0 → k.priv = true) → g.performed = false → exec (.vfence c slot) s = .next s)
       ∧ (∀ dr x y, i.op = 0xAC → 2 ≤ i.funct → i.funct ≤ 4 → g.performed = true →
         (s.gFetched c.val slot.val n g.pc).drainSet c.val = (dr, x) → y = x.modGroup c.val slot.val (fun g => g.goto (g.pc + 16)) →
         exec (.vfence c slot) s = .next (if y.drainOver c.val dr i.funct then y
           else y.modGroup c.val slot.val (fun g => { g with wait := .fence i.funct dr }))))
     ∧ (∀ l ls v, s.group c.val slot.val = some g → s.coreJob c.val = some (n, j) → g.locks = l :: ls → g.wait = .parked → g.stopped = false →
       g.watchdog < 2 ^ 20 → Machine.cacheWord (s.core c.val).gic n l.pc = some v → exec (.glockRetry c slot) s
         = .next ((s.modGroup c.val slot.val (fun g => { g with watchdog := g.watchdog + 1 })).lockAttempt
             c.val slot.val n j (parseG v) l.parked))
     ∧ (∀ dr, s.group c.val slot.val = some g → s.coreJob c.val = some (n, j) → g.wait = .unlock dr →
       (s.drainOver c.val dr 2 = true → exec (.gunlock c slot) s = .next (s.releaseLocks c.val slot.val n j))
       ∧ (s.drainOver c.val dr 2 = false → exec (.gunlock c slot) s = .next s))
     ∧ (∀ scope dr, s.group c.val slot.val = some g → g.wait = .fence scope dr → s.fenceOver c.val g scope dr = true →
       exec (.vfence c slot) s = .next (s.modGroup c.val slot.val (fun g => { g with wait := .ready }))))

/-- R117, R122, R133, R134, R136, R137, R144, R145, R277, R284, R290: a load, store or atomic of a group that no cause, hazard
or order holds back sends its pieces to the die cache, or to their homes in turn for DEVICE memory, and the group goes on
with one more access outstanding; one that an order holds back waits. -/
def Obligations.DeviceMemoryAccessesIssue : Prop :=
  ∀ (c : Fin 96) (slot : Fin 64) (n w : Nat) (j : Job) (k : GKernel) (g : Group) (i : GInstr) (s u : State),
    s.groupIssues c.val slot.val n j k g w → i = parseG w → i.reservedCode = false → u = s.gFetched c.val slot.val n g.pc →
    (∀ (ps dev plain : List (Nat × Nat)) (all : List (Nat × Nat × Nat)) (o : OutAcc) (x : State), i.op = 0xA0 →
      lowestCause (devCauses s (fun i => sizeBytes i.size) (fun i => decide (4 < i.size)) (fun _ => false)
        (fun i => [(i.dst, sizeRegs i.size), (i.a, 2)]) false n j k g i) = none →
      g.hazard [(i.dst, sizeRegs i.size), (i.a, 2)] = false →
      ps = dedup (i.spans g (sizeBytes i.size)) → dev = ps.filter (fun p => u.isDevice n j p.1) →
      plain = ps.filter (fun p => !u.isDevice n j p.1) →
      all = ((g.lanes g.active).flatMap (fun l => (pieces (sizeBytes i.size) (i.devAt g l)).map (fun p => (l, p)))).filter
        (fun p => u.isDevice n j p.2.1) →
      (g.mayAccess k true (!dev.isEmpty) (u.goesHome n j g i) (i.spans g (sizeBytes i.size)) = true →
      (u.goesHome n j g i = true → s.flushSectors c.val n ((i.spans g (sizeBytes i.size)).map (fun p => p.1 / 256)) = none) →
      o = ⟨g.nextId, .load, i.dst, i.size, (g.lanes g.active).map (fun l => (l, i.devAt g l)), [],
        regRun i.dst (sizeRegs i.size), plain.length + all.length, !dev.isEmpty, u.goesHome n j g i,
        all.map (fun p => ⟨.coherent, n, p.2.1, p.2.2, [], i.dead, .load c.val slot.val (2 * g.nextId + 1), false, false, false⟩),
        [], all.map (fun p => 16 * p.1 + (p.2.1 - i.devAt g p.1))⟩ →
      x = plain.foldl (fun s p => s.sendLoad c.val slot.val n j k g.nextId p (i.vol || i.dead) i.dead)
          (u.addOut c.val slot.val o true) →
      exec (.vld c slot) s = .next (match o.todo with
        | r :: _ => x.request r
        | [] => x))
      ∧ (g.mayAccess k true (!dev.isEmpty) (u.goesHome n j g i) (i.spans g (sizeBytes i.size)) = false →
        exec (.vld c slot) s = .next s))
    ∧ (∀ (names : GInstr → List (Nat × Nat)) (plain dev : List (Nat × List Byte)), i.op = 0xA1 → names = (fun i => [(i.a, 2)] ++ (if i.immB then [] else [(i.b, sizeRegs i.size)])) →
      lowestCause (devCauses s (fun i => sizeBytes i.size) (fun i => decide (4 < i.size)) (fun _ => false)
        names true n j k g i) = none →
      g.hazard (names i) = false →
      plain = (storePieces i g (g.lanes g.active) u.freeCtr).filter (fun p => !u.isDevice n j p.1) →
      dev = (g.lanes g.active).flatMap (fun l => (storePieces i g [l] u.freeCtr).filter (fun p => u.isDevice n j p.1)) →
      (g.mayAccess k false (!dev.isEmpty) (!dev.isEmpty) (i.spans g (sizeBytes i.size)) = true →
      exec (.vst c slot) s = .next ((if i.immB ∧ i.size = 4 then { u with freeCtr := u.freeCtr + 256 } else u).issueStores
          c.val slot.val n j g.nextId i.size ((g.lanes g.active).map (fun l => (l, i.devAt g l))) plain dev))
      ∧ (g.mayAccess k false (!dev.isEmpty) (!dev.isEmpty) (i.spans g (sizeBytes i.size)) = false →
        exec (.vst c slot) s = .next s))
    ∧ (∀ (as : List Nat), i.op = 0xA4 → as = (g.lanes g.active).map (fun l => i.devAt g l) →
      lowestCause (devCauses s atomBytes (fun i => decide (7 < i.funct) || decide (0xA < i.fmt) || decide (4 < i.size))
        (fun i => !atomOk i) atomNames true n j k g i) = none →
      g.hazard (atomNames i) = false →
      (g.mayAccess k false (as.any (fun a => u.isDevice n j a)) true (i.spans g (atomBytes i)) = true →
      s.flushSectors c.val n (as.map (fun a => a / 256)) = none →
      exec (.vatom c slot) s = .next ({ u with freeCtr := u.freeCtr + 256 }.issueOps c.val slot.val
          ⟨g.nextId, if i.ret then .atomicRet else .atomic, i.dst, if atomBytes i = 2 then 1 else if atomBytes i = 4 then 2 else 3,
            (g.lanes g.active).map (fun l => (l, i.devAt g l)), [], (atomWrites i).flatMap (fun (w : Nat × Nat) => regRun w.1 w.2),
            0, false, true, [], [], []⟩
          (atomOps c.val slot.val n g.nextId i g u.freeCtr (fun a => u.isDevice n j a)) true))
      ∧ (g.mayAccess k false (as.any (fun a => u.isDevice n j a)) true (i.spans g (atomBytes i)) = false →
        exec (.vatom c slot) s = .next s))

/-! The unified cache and coherence -/

/-- R199, R206, R207, R209, R279, R280, R393: a request in its turn at its home: a read of a whole sector is served, a write is
accepted, an accepted write is served and acknowledged, a request without its line waits for it, and a fill is installed.
R211, R213, R228, R229, R230, R231, R232: allocation of a line, write-back, the drop of a dead line, maintenance operations.
R231, R236, R253: a maintenance operation that R231 refuses ends at once with result 3 and works on nothing; a write of
CACHE_PROBE_SEL captures the selected tag entry and its directory bits. -/
def Obligations.HomeRequestsAndMaintenanceComplete : Prop :=
  (∀ (s : State) (i : Fin 512) (q k : Nat) (r : HReq),
     (s.homeTurn i.val q k r → s.homeAdmits r → r.kind = .plain → ((s.slice i.val).way k).full (secIdx r.addr) = true →
       exec (.homeRead i q) s = .next (s.serveRead i.val q k r))
     ∧ (s.homeTurn i.val q k r → s.homeAdmits r → r.kind = .write → r.accepted = false → r.early = false →
       (((s.slice i.val).way k).dir (secIdx r.addr)) = Dir.none →
       ((s.slice i.val).way k).needsMask (secIdx r.addr) (r.bytes.map (fun b => (b.1 % 256, b.2))) = false →
       exec (.homeWrite i q) s = .next (s.setSlice i.val ((s.slice i.val).modReq q (fun r => { r with accepted := true }))))
     ∧ (∀ u, firstOver (s.slice i.val).reqs q = some r → (s.slice i.val).find (lineOf r.addr) = some k →
       (((s.slice i.val).way k).evicting || ((s.slice i.val).way k).dropping || ((s.slice i.val).way k).discarding) = false →
       (((s.slice i.val).way k).sec (secIdx r.addr)).filling = false → r.accepted = true →
       ((s.slice i.val).way k).needsMask (secIdx r.addr) (r.bytes.map (fun b => (b.1 % 256, b.2))) = false →
       u = (s.landBytes i.val k (secIdx r.addr) (r.bytes.map (fun b => (b.1 % 256, b.2)))).modSlice i.val
         (fun sl => { sl.modWay k (fun l => if r.missed then l else { l with rrpv := 0 }) with reqs := delNth sl.reqs q }) →
       (u.slice i.val).masksUsed ≤ 1008 → exec (.writeCompletion i q) s = .next (u.sendAck i.val r.vd r.src r.early))
     ∧ (firstOver (s.slice i.val).reqs q = some r → (s.slice i.val).find (lineOf r.addr) = Option.none → r.missed = false →
       (r.kind ≠ .write → s.homeAdmits r → exec (.homeRead i q) s = .next ((s.deadRead i.val (lineOf r.addr)).modSlice i.val
         (fun sl => sl.modReq q (fun r => { r with missed := true }))))
       ∧ (r.kind = .write → r.accepted = false → s.homeAdmits r → exec (.homeWrite i q) s = .next (s.modSlice i.val
         (fun sl => sl.modReq q (fun r => { r with missed := true })))))
     ∧ (∀ f, (s.slice i.val).fills[q]? = some f → (s.slice i.val).find f.line = some k → f.bad = false →
       (((s.slice i.val).way k).sec f.sector).filling = true → exec (.fillComplete i q) s
         = .next ((State.modSlice (s.setSlice i.val { s.slice i.val with fills := delNth (s.slice i.val).fills q })
             i.val (fun sl => sl.modWay k (fun l => l.install f.sector f.bytes))).settleLine i.val k)))
  ∧ (∀ (s : State) (i : Fin 512) (n line k : Nat) (w : WbLine) (ws : List WbLine),
     (s.sliceVd i.val = some n → (s.slice i.val).find line = Option.none → s.homeSlice n line = some i.val →
       s.lineWanted i.val line = true → s.committing n = false →
       ((setKeys (homeSet (s.slicesOf n).length line)).filter (s.slice i.val).eligible).find?
         (fun k => ((s.slice i.val).way k).allI && ((s.slice i.val).way k).noCopies) = some k →
       exec (.lineAllocation i line) s = .next (s.setSlice i.val ((s.slice i.val).setWay k (Line.fresh line))))
     ∧ (∀ ch key, s.sliceVd i.val = some n → (s.slice i.val).wbuf = w :: ws → s.lineKey n w.line = some (ch, key) →
       (s.chan ch).writes.length + w.secs.length ≤ 32 → exec (.writeBack i) s
         = .next (((s.setSlice i.val { s.slice i.val with wbuf := ws }).modChan ch (fun c => c.addWrites
             (w.secs.map (fun (e : Nat × Sector) => (⟨n, w.line, e.1, key + 256 * e.1,
               if e.2.st = SecSt.d then fullMask else e.2.mask, rdN w.data (256 * e.1) 256, 0⟩ : ChWrite))))).settleSlice i.val))
     ∧ ((s.slice i.val).find line = some k → ((s.slice i.val).way k).deadpend = true → ((s.slice i.val).way k).ops = [] →
       ((s.slice i.val).way k).held = false →
       (s.slice i.val).reqs.any (fun r => decide (r.kind = .write) && decide (lineOf r.addr = line)) = false →
       ((s.slice i.val).way k).isDead = true → exec (.deadpendDrop i line) s
         = .next ((s.modSlice i.val (fun sl => sl.modWay k (fun l => { l with deadpend := false }))).startDrop i.val k))
     ∧ (s.pfServed Reg.cacheOpCmd = true → s.maint = Option.none →
       exec (.cacheOpWriteBack .issue) s = .next (startMaint 0 s) ∧ exec (.cacheOpFlush .issue) s = .next (startMaint 1 s)
       ∧ exec (.cacheOpDiscard .issue) s = .next (startMaint 2 s))
     ∧ (s.pfServed Reg.cacheOpCmd = true → s.maint.isSome = true → exec (.cacheOpFlush .issue) s = .next s)
     ∧ (∀ m, s.maint = some m → m.left = (i.val, line) :: [] → (s.slice i.val).find line = Option.none →
       (m.action = 0 → exec (.cacheOpWriteBack .act) s = .next { s with maint := some { m with left := [], holds := false } })
       ∧ (m.action = 1 → exec (.cacheOpFlush .act) s = .next { s with maint := some { m with left := [], holds := false } })
       ∧ (m.action = 2 → exec (.cacheOpDiscard .act) s = .next { s with maint := some { m with left := [], holds := false } }))
     ∧ (∀ m, s.maint = some m → m.left = [] → exec .cacheOpEnd s
       = .next { (s.setRegBit Reg.cacheOpStatus 31 true).setRegBit Reg.cacheOpCmd 31 false with maint := Option.none }))
  ∧ (∀ (s : State) (a : Nat) (sel : W32), s.canonical = true →
     (a < 4 → s.maint = Option.none → maintRefused (s.setRegFld Reg.cacheOpCmd 24 2 a) a (s.regFld Reg.cacheOpCmd 22 2) = true →
       startMaint a s = { s with regs := (startMaint a s).regs } ∧ (startMaint a s).maint = Option.none
       ∧ (startMaint a s).regFld Reg.cacheOpStatus 30 2 = 3 ∧ (startMaint a s).regBit Reg.cacheOpCmd 31 = false
       ∧ (startMaint a s).regFld Reg.cacheOpStatus 0 24 = 0)
     ∧ (s.pfServed Reg.cacheProbeSel = true → sel.toNat &&& resvBits Reg.cacheProbeSel = 0 → fld sel 20 10 < 512 →
       ∃ t, exec (.cacheProbeCapture sel) s = .next t ∧ t = { s with regs := t.regs } ∧ t.reg Reg.cacheProbeSel = sel
         ∧ (∀ w, w < 6 → t.reg (Reg.cacheProbeTag w) = BitVec.ofNat 32 (bitsOf
             ((s.slice (fld sel 20 10)).way (16 * fld sel 8 6 + fld sel 0 4)).tagBits (32 * w) 32))
         ∧ ∀ w, w < 7 → t.reg (Reg.cohereProbeDir w) = BitVec.ofNat 32 (bitsOf
             ((s.slice (fld sel 20 10)).way (16 * fld sel 8 6 + fld sel 0 4)).dirBits (32 * w) 32)))

/-- R217, R218, R219, R221, R223, R224, R225, R226, R228: a home operation joins the queue of its line or is refused, is applied
at the head of the queue to a whole sector that no die holds, with its response, and is sent again after a Nack. -/
def Obligations.HomeOperationsAreAppliedInOrder : Prop :=
  ∀ (s : State) (i : Fin 512) (q k line : Nat) (o : HomeOp) (c : Fin 96) (g : Fin 64),
    ((s.slice i.val).opsIn[q]? = some o → s.refuses o.vd o.src = false → (s.slice i.val).find (lineOf o.addr) = some k →
      ((s.slice i.val).way k).held = false → ((s.slice i.val).way k).dir (secIdx o.addr) = Dir.none →
      (((s.slice i.val).way k).ops.length < 32 → (((s.slice i.val).way k).ops ≠ [] ∨ (s.slice i.val).busyLines < 64) →
        exec (.homeOperationArrival i q) s = .next ((s.takeOp i.val q).modSlice i.val (fun (sl : Slice) =>
          sl.modWay k (fun l => l.joinOp o))))
      ∧ (32 ≤ ((s.slice i.val).way k).ops.length → exec (.homeOperationArrival i q) s
        = .next ((s.takeOp i.val q).nackOp i.val o)))
    ∧ (∀ rest a, (s.slice i.val).find line = some k → ((s.slice i.val).way k).ops = o :: rest →
      ((s.slice i.val).way k).dir (secIdx o.addr) = Dir.none → (((s.slice i.val).way k).sec (secIdx o.addr)).filling = false →
      ((s.slice i.val).way k).full (secIdx o.addr) = true →
      (s.slice i.val).reqs.any (s.beforeOps ((s.slice i.val).way k) (secIdx o.addr)) = false →
      ((s.slice i.val).way k).discarding = false →
      a = o.apply (rdN ((s.slice i.val).way k).data (o.addr % 4096) o.len) → exec (.homeOperationApply i line) s
        = .next (((s.landBytes i.val k (secIdx o.addr) (addrBytes (o.addr % 256) a.1) ((s.slice i.val).way k).deadpend).modSlice
            i.val (fun sl => sl.modWay k (fun l => { l with ops := rest }))).respond i.val o.vd a.2))
    ∧ (∀ rest, (s.slice i.val).find line = some k → ((s.slice i.val).way k).ops = o :: rest →
      ((s.slice i.val).way k).dir (secIdx o.addr) = Dir.none → (((s.slice i.val).way k).sec (secIdx o.addr)).filling = false →
      ((s.slice i.val).way k).full (secIdx o.addr) = true →
      (s.slice i.val).reqs.any (s.beforeOps ((s.slice i.val).way k) (secIdx o.addr)) = true →
      exec (.homeOperationApply i line) s = .next s)
    ∧ (s.nacked.find? (fun o => o.src.ofGroup c.val g.val) = some o → exec (.homeOperationResend c g) s
      = .next (({ s with nacked := s.nacked.erase o }).sendHomeOp o))
    ∧ (∀ l b old, o.fn = .add → o.ty = .int32 → o.reduce = false → o.lanes = [l] → o.operand = leBytes 4 b → old < 2 ^ 32 →
      o.apply (leBytes 4 old) = (leBytes 4 ((old + b) % 2 ^ 32), ⟨o.src, [l], [leBytes 4 old], true⟩))
    ∧ (∀ l b old, o.fn = .cas → o.ty = .int64 → o.reduce = false → o.lanes = [l] → o.operand = leBytes 8 b → old < 2 ^ 64 →
      o.apply (leBytes 8 old) = (if leNat o.cmp = old then leBytes 8 b else leBytes 8 old,
        ⟨o.src, [l], [leBytes 8 old], decide (leNat o.cmp = old)⟩))

/-- R244, R245, R246, R251, R259, R280: what an access of a core finds in its die cache, and what becomes of merge entries and
refused requests. -/
def Obligations.DieCacheAccessesComplete : Prop :=
  ∀ (s : State) (d : Fin 12) (q : Nat) (a : DAccess) (b : Block),
    (firstAcc (s.die d.val).acc q = some a →
      (a.store = false →
        (s.die d.val).merge.find? (fun m => decide (m.vd = a.vd) && decide (m.sector = a.addr / 256)) = Option.none →
        (s.die d.val).block a.vd (a.addr / 256) = some b →
        (b.st.loadHits = true → b.bad = false → exec (.dieCacheLoad d q) s = .next (((s.touch d.val a.vd (a.addr / 256)).modDie
          d.val (fun k => { k with acc := delNth k.acc q })).loadDone a ((b.data.drop (a.addr % 256)).take a.len)))
        ∧ (b.st.loadHits = false → b.st ≠ .isDI → exec (.dieCacheLoad d q) s = .next (s.modDie d.val (fun k => k.waitAcc q)))
        ∧ (b.st = .isDI → exec (.dieCacheLoad d q) s = .next s))
      ∧ (∀ u, a.store = false →
        (s.die d.val).merge.find? (fun m => decide (m.vd = a.vd) && decide (m.sector = a.addr / 256)) = Option.none →
        (s.die d.val).block a.vd (a.addr / 256) = Option.none → s.takeWay d.val a.vd (a.addr / 256) .isD = some u →
        exec (.dieCacheLoad d q) s = .next ((u.modDie d.val (fun k => k.waitAcc q)).sendGet false d.val a.vd (a.addr / 256)))
      ∧ (a.store = true → (s.die d.val).block a.vd (a.addr / 256) = some b → (b.st = .e ∨ b.st = .m) → b.bad = false →
        exec (.dieCacheStore d q) s = .next ((s.modDie d.val (fun k => { k with acc := delNth k.acc q })).storeInBlock d.val a))
      ∧ (a.store = true → (s.die d.val).block a.vd (a.addr / 256) = some b → b.st = .s → b.bad = false →
        (s.die d.val).room = true → exec (.dieCacheStore d q) s = .next ((s.modDie d.val (fun k =>
          (k.modBlock a.vd (a.addr / 256) (fun b => { b with st := .smD })).waitAcc q)).sendGet true d.val a.vd (a.addr / 256)))
      ∧ (a.store = true → (s.die d.val).block a.vd (a.addr / 256) = Option.none →
        exec (.dieCacheStore d q) s = .next (s.storeInMerge d.val q a)))
    ∧ (∀ m, (s.die d.val).merge[q]? = some m → exec (.mergeEntryAgeExpiry d q) s = .next (s.sendEntry d.val m.id))
    ∧ (∀ id, (s.die d.val).ackIn[q]? = some (id, true) → exec (.writeAcknowledgement d q) s
      = .next ((s.modDie d.val (fun k => { k with ackIn := delNth k.ackIn q })).modDie d.val (fun k => { k with
          owed := k.owed.filter (fun m => !decide (m.id = id)) })))
    ∧ (∀ id m, (s.die d.val).ackIn[q]? = some (id, false) → (s.die d.val).merge.find? (fun m => decide (m.id = id)) = some m →
      exec (.writeAcknowledgement d q) s
        = .next ((s.modDie d.val (fun k => { k with ackIn := delNth k.ackIn q })).modDie d.val (fun k => { k with
            merge := k.merge.filter (fun m => !decide (m.id = id))
            owed := if m.early then k.owed ++ [m] else k.owed })))
    ∧ ((s.die d.val).blocks[q]? = some b → b.nacked = true → b.st = .imD → exec (.coherenceResend d q) s
      = .next ((s.modDie d.val (fun k => k.modBlock b.vd b.sector (fun b => { b with nacked := false }))).sendGet
          true d.val b.vd b.sector))
    ∧ ((s.die d.val).blocks[q]? = some b → b.nacked = false → exec (.coherenceResend d q) s = .next s)

/-- R249, R255, R256, R260: what the home does with GetS, GetM and the Puts, by the directory state of the sector. R249, R251,
R259: what a die does with the grants, forwards and answers of a home, by the state of its block. -/
def Obligations.CoherenceMessagesAreAnswered : Prop :=
  (∀ (s : State) (i : Fin 512) (d : Fin 12) (j k : Nat) (m : CohMsg),
     (s.homeHears .getS i.val d.val j k m →
       (((s.slice i.val).way k).held = true ∨ (s.dirAt i.val k m.sector).st = .tr →
         exec (.gets i d) s = .next (s.nackMsg i.val d.val j m))
       ∧ (((s.slice i.val).way k).held = false → (((s.slice i.val).way k).sec (m.sector % 16)).filling = false →
         (s.slice i.val).acceptedIn m.sector = false → ((s.slice i.val).way k).full (m.sector % 16) = true →
         ((s.dirAt i.val k m.sector).st = .i → exec (.gets i d) s
           = .next ((s.takeMsg j).grant .dataE i.val k d.val m (2 ^ d.val) .em))
         ∧ ((s.dirAt i.val k m.sector).st = .s → exec (.gets i d) s
           = .next ((s.takeMsg j).grant .data i.val k d.val m ((s.dirAt i.val k m.sector).vec ||| 2 ^ d.val) .s))))
     ∧ (s.homeHears .getM i.val d.val j k m → ((s.slice i.val).way k).held = false →
       (((s.slice i.val).way k).sec (m.sector % 16)).filling = false → (s.slice i.val).acceptedIn m.sector = false →
       ((s.slice i.val).way k).full (m.sector % 16) = true → (s.dirAt i.val k m.sector).st = .i ∨ (s.dirAt i.val k m.sector).st = .s →
       setBits (s.dirAt i.val k m.sector).vec d.val 1 0 = 0 → exec (.getm i d) s
         = .next ((s.takeMsg j).grant .dataM i.val k d.val m (2 ^ d.val) .em))
     ∧ (∀ o, s.homeHears .getM i.val d.val j k m → ((s.slice i.val).way k).held = false →
       (((s.slice i.val).way k).sec (m.sector % 16)).filling = false → (s.slice i.val).acceptedIn m.sector = false →
       (s.dirAt i.val k m.sector).st = .em → (vecDies (s.dirAt i.val k m.sector).vec).headD 0 = o → (s.slice i.val).trRoom = true →
       exec (.getm i d) s = .next (((s.takeMsg j).modSlice i.val (fun sl => sl.addTr k
           ⟨((s.slice i.val).way k).line, m.sector % 16, .emmA, some d.val, some o, 0, false, false, false, []⟩)).sendMsg
             (.new .fwdGetM (.home i.val) (.die o) m.vd m.sector (some d.val) [])))
     ∧ (∀ o, s.homeHears .getM i.val d.val j k m → ((s.slice i.val).way k).held = false →
       (((s.slice i.val).way k).sec (m.sector % 16)).filling = false → (s.slice i.val).acceptedIn m.sector = false →
       ((s.slice i.val).way k).full (m.sector % 16) = true → (s.dirAt i.val k m.sector).st = .s →
       setBits (s.dirAt i.val k m.sector).vec d.val 1 0 = o → o ≠ 0 → (s.slice i.val).trRoom = true →
       exec (.getm i d) s = .next (((s.takeMsg j).modSlice i.val (fun sl => (sl.addTr k
           ⟨((s.slice i.val).way k).line, m.sector % 16, .smA, some d.val, Option.none, popcount 12 o, false, false, false, []⟩).modWay k
             (fun l => l.setDir (m.sector % 16) ⟨.tr, o⟩))).sendAll .inv i.val o m.vd m.sector))
     ∧ (s.homeHears .putS i.val d.val j k m → (s.dirAt i.val k m.sector).st = .tr →
       exec (.puts i d) s = .next (s.putAck i.val d.val j m))
     ∧ (s.homeHears .putE i.val d.val j k m → (s.dirAt i.val k m.sector).st = .em → exec (.pute i d) s
       = .next (((s.putAck i.val d.val j m).modSlice i.val (fun sl => sl.modWay k
           (fun l => l.setDir (m.sector % 16) Dir.none))).settleSlice i.val))
     ∧ (s.homeHears .putM i.val d.val j k m → (s.dirAt i.val k m.sector).st = .em → exec (.putm i d) s
       = .next (((((s.putAck i.val d.val j m).writeCarried i.val k m).settleMoved m.vd m.sector).modSlice i.val
           (fun sl => sl.modWay k (fun l => l.setDir (m.sector % 16) Dir.none))).settleSlice i.val))
     ∧ (s.homeHears .invAck i.val d.val j k m → exec (.invack i d) s = .next ((s.takeMsg j).ackTr i.val k m))
     ∧ (∀ t, s.homeHears .dataM i.val d.val j k m → (s.slice i.val).tr ((s.slice i.val).way k).line (m.sector % 16) = some t →
       exec (.datam true i d) s
         = .next (((if t.discard then s.takeMsg j else (s.takeMsg j).writeCarried i.val k m).settleMoved m.vd m.sector).ackTr
             i.val k m)))
  ∧ (∀ (s : State) (i : Fin 512) (d : Fin 12) (j : Nat) (m : CohMsg) (b : Block),
     (s.dieHears .inv i.val d.val j m b → (b.st = .s ∨ b.st = .e) → exec (.inv i d) s
       = .next (((s.takeMsg j).toHome .invAck d.val m.vd m.sector []).modDie d.val (fun k => k.dropBlock m.vd m.sector)))
     ∧ (s.dieHears .inv i.val d.val j m b → b.st = .m → exec (.inv i d) s
       = .next (((((s.takeMsg j).modDie d.val (fun k => k.noteMoved m.vd m.sector)).toHome .dataM d.val m.vd m.sector
           b.data).modDie d.val (fun k => k.dropBlock m.vd m.sector)).pumpLeave d.val))
     ∧ (∀ c, s.dieHears .fwdGetS i.val d.val j m b → b.st = .m → m.r = some c → exec (.fwdgets i d) s
       = .next ((((((s.takeMsg j).modDie d.val (fun k => k.noteMoved m.vd m.sector)).sendMsg (.new .data (.die d.val) (.die c)
           m.vd m.sector Option.none b.data)).toHome .dataM d.val m.vd m.sector b.data).modDie d.val (fun k =>
             (k.offLists m.vd m.sector).modBlock m.vd m.sector (fun b => { b with st := .s, deferred := .none }))).pumpLeave
               d.val))
     ∧ (∀ c, s.dieHears .fwdGetM i.val d.val j m b → b.st = .m → m.r = some c → exec (.fwdgetm i d) s
       = .next ((((((s.takeMsg j).modDie d.val (fun k => k.noteMoved m.vd m.sector)).sendMsg (.new .dataM (.die d.val)
           (.die c) m.vd m.sector Option.none b.data)).toHome .invAck d.val m.vd m.sector []).modDie d.val (fun k =>
             k.dropBlock m.vd m.sector)).pumpLeave d.val))
     ∧ (s.dieHears .dataE i.val d.val j m b → b.st = .isD → exec (.datae i d) s
       = .next (((((s.takeMsg j).modDie d.val (fun k => k.modBlock m.vd m.sector (fun b => { b with
           st := .e, data := m.data, nacked := false }))).touch d.val m.vd m.sector).serveLoads d.val m.vd m.sector).pumpLeave
             d.val))
     ∧ (s.dieHears .putAck i.val d.val j m b → exec (.putack i d) s
       = .next (((s.takeMsg j).modDie d.val (fun k => k.dropBlock m.vd m.sector)).pumpLeave d.val))
     ∧ (s.dieHears .nack i.val d.val j m b → exec (.nack i d) s
       = .next (((s.takeMsg j).bump (Reg.cohereDieNacks d.val)).modDie d.val (fun k =>
           k.modBlock m.vd m.sector (fun b => { b with nacked := true }))))
     ∧ (nextMsg s.msgs (fun m => decide (m.kind = .data) && decide (m.dst = .die d.val)) = some (j, m) →
       (s.die d.val).block m.vd m.sector = some b → b.st = .isD → exec (.data d) s
         = .next ((((((s.takeMsg j).modDie d.val (fun k => k.modBlock m.vd m.sector (fun b => { b with
             data := m.data, nacked := false }))).touch d.val m.vd m.sector).modDie d.val (fun k =>
               k.modBlock m.vd m.sector (fun b => { b with st := .s }))).serveLoads d.val m.vd m.sector).pumpLeave d.val))
     ∧ (nextMsg s.msgs (fun m => decide (m.kind = .dataM) && decide (m.dst = .die d.val)) = some (j, m) →
       exec (.datam false i d) s = .next ((s.takeMsg j).grantM d.val m.vd m.sector m.data)))

/-! The fabric -/

/-- R150, R159, R162, R164, R167, R168, R185, R189, R190: an engine fetches its next descriptor, which ends its list, joins its streams or
ends the job; a stream at its send position sends its next chunk, or misses where its gate is shut, the port is not its
own, the position belongs to another stream, the chunk is not there, or the position has passed. -/
def Obligations.StreamsFetchAndSend : Prop :=
  (∀ (s u : State) (e : Engine) (k : Nat) (j : Job) (d : StreamDesc),
     (s.engineKeys e).find? s.fetches = some k → s.schedJob (s.engine k).vd = some j → (s.engine k).ended = false →
     d = parseStream (s.engine k).nextAddr (s.devRead (s.engine k).vd (s.engine k).nextAddr 64) →
     u = s.devSeen (s.engine k).vd (s.engine k).nextAddr 64 →
     (d.kind = 0 → exec (.descriptorFetch e) s = .next (u.modEngine k (fun x => { x with ended := true })))
     ∧ (d.kind ≠ 0 → u.streamOk (s.engine k).vd (s.engine k).list j.regions d = true → exec (.descriptorFetch e) s
       = .next ((u.modEngine k (fun x => { x with
           nextAddr := x.nextAddr + 64
           streams := x.streams ++ [⟨d, 0, false, false, 0, false, 0⟩] })).prefetch (s.engine k).vd d))
     ∧ (d.kind ≠ 0 → u.streamOk (s.engine k).vd (s.engine k).list j.regions d = false → exec (.descriptorFetch e) s
       = .next (u.fabricFault (s.engine k).vd 0x23 (u.faultUnit k).1 (u.faultUnit k).2 (s.engine k).nextAddr)))
  ∧ (∀ (s : State) (e : Engine) (i k q epoch due : Nat) (x : Stream),
     s.streamAt e i = some (k, q) → s.streamEpoch (s.engine k).vd = some epoch → (s.engine k).streams[q]? = some x →
     due = portTick x.desc.fromMem (x.desc.sendBeat epoch x.next x.late) (s.sendPos (s.engine k).vd x.desc x.next) →
     x.stopped = false → x.next < x.desc.chunks →
     (s.commitDue = true ∨ s.fabTick < due → exec (.streamChunkSend e i) s = .next s)
     ∧ (s.commitDue = false →
       (due < s.fabTick → exec (.streamChunkSend e i) s = .next (s.streamMiss (s.engine k).vd k q x))
       ∧ (s.fabTick = due → x.next = 0 → s.gateOpen (s.engine k).vd x.desc = false →
         exec (.streamChunkSend e i) s = .next (s.streamMiss (s.engine k).vd k q x))
       ∧ (s.fabTick = due → (x.next = 0 → s.gateOpen (s.engine k).vd x.desc = true) →
         (s.losesPosition (s.engine k).vd epoch q (s.engine k).streams x = true →
           exec (.streamChunkSend e i) s = .next (s.streamMiss (s.engine k).vd k q x))
         ∧ (s.losesPosition (s.engine k).vd epoch q (s.engine k).streams x = false → x.desc.fromMem = false →
           (∀ y, s.ownsCorePort (nth 0 (s.coresOf (s.engine k).vd) x.desc.src) (s.engine k).vd = true →
             (s.engine k).elastic.find? (fun y => decide (y.1 = x.desc.addr) && decide (y.2.1 = x.next)) = some y →
             exec (.streamChunkSend e i) s = .next ((s.modEngine k (fun e => { e with elastic := e.elastic.erase y })).sendChunk
               (s.engine k).vd k q epoch x y.2.2))
           ∧ (s.ownsCorePort (nth 0 (s.coresOf (s.engine k).vd) x.desc.src) (s.engine k).vd = false
               ∨ (s.engine k).elastic.find? (fun y => decide (y.1 = x.desc.addr) && decide (y.2.1 = x.next)) = Option.none →
             exec (.streamChunkSend e i) s = .next (s.streamMiss (s.engine k).vd k q x)))
         ∧ (s.losesPosition (s.engine k).vd epoch q (s.engine k).streams x = false → x.desc.fromMem = true →
           (∀ y w a, s.ownsSlicePort (nth 0 (s.slicesOf (s.engine k).vd) x.desc.src) (s.engine k).vd = true →
             s.sourceLine (s.engine k).vd x.desc x.next = some (y, w, a) →
             exec (.streamChunkSend e i) s = .next ((s.takeFromSlice (s.engine k).vd y w a x.desc.dead).2.sendChunk
               (s.engine k).vd k q epoch x (s.takeFromSlice (s.engine k).vd y w a x.desc.dead).1))
           ∧ (s.ownsSlicePort (nth 0 (s.slicesOf (s.engine k).vd) x.desc.src) (s.engine k).vd = false
               ∨ s.sourceLine (s.engine k).vd x.desc x.next = Option.none →
             exec (.streamChunkSend e i) s = .next (s.streamMiss (s.engine k).vd k q x))))))

/-- R157, R168, R184, R551: a chunk lands no earlier than its position and at a port its device owns: in a tile store it is
written and counts for its streams; a slice whose landing buffer is full discards it; the first held chunk that can be served
is; a stream that is written adds to its flag. -/
def Obligations.ChunksLandAndCount : Prop :=
  ∀ (s : State) (p : Port) (i x : Nat) (c : Chunk),
    ((chunkIdx s.fab.chunks (fun c => c.atPort p && !c.held))[i]? = some x → s.fab.chunks[x]? = some c →
      (c.bad = true ∨ s.commitDue = true ∨ s.fabTick < portTick c.dst.toSlice (c.landFrame * 64 + c.landBeat) c.landPos →
        exec (.chunkLanding p i) s = .next s)
      ∧ (c.bad = false → s.commitDue = false → portTick c.dst.toSlice (c.landFrame * 64 + c.landBeat) c.landPos ≤ s.fabTick →
        (s.ownsDst c = false → exec (.chunkLanding p i) s = .next (s.dropChunk x))
        ∧ (∀ k a, s.ownsDst c = true → c.dst = .tile k a → exec (.chunkLanding p i) s
          = .next (c.counts.foldl (fun s y => s.chunkWritten y.1 y.2)
              ((s.dropChunk x).modCore k (fun y => { y with tile := wrL y.tile a c.data }))))
        ∧ (∀ k a, c.dst = .slice k a → exec (.chunkLanding p i) s = .next (s.land x c))))
    ∧ (∀ k a, c.dst = .slice k a → c.red = Option.none →
      128 ≤ (s.fab.chunks.filter (fun o => o.red.isNone && decide (o.id ≠ c.id) && decide (o.arrives ≤ c.arrives)
        && o.dst.atSlice k)).length → s.chunkArrives c
        = ({ s with fab := { s.fab with chunks := s.fab.chunks.filter (fun o => !decide (o.id = c.id)) } }).overrun
            ((s.sliceVd k).getD c.vd) c.eng c.desc)
    ∧ (∀ b : Fin 512, (chunkIdx s.fab.chunks (fun c => c.atPort (.slice b) && c.held)).find? (fun x =>
        decide (((s.fab.chunks[x]?).elim s (s.land x)).fab.chunks.length < s.fab.chunks.length)) = some x →
      s.fab.chunks[x]? = some c → exec (.landingRetry b) s = .next (s.land x c))
    ∧ (∀ k q y, s.flagReady[i]? = some (k, q) → (s.engine k).streams[q]? = some y → exec (.streamFlagAdd i) s
      = .next ((s.modStream k q (fun x => { x with flagged := true })).sendFlag ⟨(s.engine k).vd,
          s.flagWord (s.engine k).vd y.desc.flag, .add (BitVec.ofNat 32 y.desc.flagAdd), 128 + k⟩
            (.bd (s.dstPort (s.engine k).vd y.desc).die)))

/-- R186, R187, R188: a reduction chunk opens an entry within the reservation of its job, joins the entry of its destination, or
completes it; a chunk beyond the reservation and an entry left short end the job with FABRIC_OVERRUN. R31, R176, R177, R194:
reed messages move under credits, a retry request before them; a causeway replays what fails its check, and a frame boundary
writes the pending ownership table entries. -/
def Obligations.ReductionsAndLinksComplete : Prop :=
  (∀ (s : State) (b : Fin 4) (i x y op n : Nat) (c : Chunk) (e : RedEntry) (t : State),
     ((chunkIdx s.fab.chunks (fun c => c.addsAt b.val))[i]? = some x → s.fab.chunks[x]? = some c → c.red = some (op, n, b.val) →
       t = s.dropChunk x →
       (c.bad = true ∨ s.fclk + 16 ≤ c.arrives → exec (.reductionChunkArrival b i) s = .next s)
       ∧ (∀ f, c.bad = false → c.arrives < s.fclk + 16 → t.redPlace c = some y → t.fab.redEntries[y]? = some e →
         f = { e with
           sum := addChunks e.op e.sum c.data, count := e.count + 1, landFrame := c.landFrame, landBeat := c.landBeat
           landPos := c.landPos, from_ := e.from_ ++ [(c.eng, c.desc)] } →
         (e.contrib ≤ e.count + 1 → exec (.reductionChunkArrival b i) s = .next (t.redDone y f))
         ∧ (e.count + 1 < e.contrib → exec (.reductionChunkArrival b i) s
           = .next { t with fab := { t.fab with redEntries := t.fab.redEntries.set y f } }))
       ∧ (∀ used, c.bad = false → c.arrives < s.fclk + 16 → t.redPlace c = Option.none →
         used = (t.fab.redEntries.filter (fun e => decide (e.vd = c.vd) && decide (e.bd = b.val))).length →
         ((t.liveJob c.vd).isSome = true → t.redReserved c.vd b.val ≤ used → exec (.reductionChunkArrival b i) s
           = .next (t.overrun c.vd c.eng c.desc))
         ∧ ((t.liveJob c.vd).isSome = false ∨ used < t.redReserved c.vd b.val → 2 ≤ n → exec (.reductionChunkArrival b i) s
           = .next { t with fab := { t.fab with redEntries := t.fab.redEntries ++ [⟨b.val, c.vd, c.dst, c.data, 1, n, op, c.desc,
               c.eng, c.landFrame, c.landBeat, c.landPos, c.due, [(c.eng, c.desc)]⟩] } })))
     ∧ ((s.redAt b.val)[i]? = some y → s.fab.redEntries[y]? = some e →
       (s.frame < e.due + 2 → exec (.reductionEntryExpiry b i) s = .next s)
       ∧ (e.due + 2 ≤ s.frame → t = { s with fab := { s.fab with redEntries := delNth s.fab.redEntries y } } →
         exec (.reductionEntryExpiry b i) s
           = .next (if (t.liveJob e.vd).isSome then t.overrun e.vd e.openEng e.opener else t))))
  ∧ (∀ (s : State) (n : Fin 8) (dirB : Bool) (f : Flit) (out k : Link) (src : Option Link) (r : Replay) (x : SentFlit) (m : ReedMsg)
     (mem l : Nat),
     (s.fab.replays.find? (fun r => !r.asked && decide (otherWay r.link = linkNo out)) = some r →
       exec (.reedMessageForward out src) s = .next { s with fab := { s.fab with replays := s.fab.replays.map (fun (x : Replay) =>
         if x = r then { x with asked := true } else x) } })
     ∧ (s.fab.replays.find? (fun r => !r.asked && decide (otherWay r.link = linkNo out)) = Option.none →
       ((s.link (linkNo out)).credits = 0 ∨ s.reedHead (linkNo out) = Option.none →
         exec (.reedMessageForward out src) s = .next s)
       ∧ ((s.link (linkNo out)).credits ≠ 0 → s.reedHead (linkNo out) = some (mem, m) →
         (m.hold ≠ src.map linkNo → exec (.reedMessageForward out src) s = .next s)
         ∧ (m.hold = src.map linkNo →
           exec (.reedMessageForward out src) s = .next ((s.setTurn (linkNo out) true mem).forwardReed (linkNo out) m))
         ∧ (m.path.tail ≠ [] → src = some k → m.hold = some (linkNo k) → k ≠ out →
           SMap.wf (fun _ => ReedLink.rest) s.fab.links = true →
           ∃ t, exec (.reedMessageForward out src) s = .next t
             ∧ t.link (linkNo out) = ⟨(s.link (linkNo out)).credits - 1, (s.link (linkNo out)).inFlight + 1⟩
             ∧ t.link (linkNo k) = ⟨(s.link (linkNo k)).credits + 1, (s.link (linkNo k)).inFlight - 1⟩)))
     ∧ (l = causewayLink n.val dirB →
       (s.fab.sent.reverse.find? (fun x => decide (x.link = l) && decide (x.flit = f)) = some x →
         (x.replay = false → s.fab.replays.any (fun r => decide (r.link = l) && decide (r.flit = f)) = false →
           exec (.causewayCrcMismatch n dirB f) s
             = .next (State.markItem { s with fab := { s.fab with replays := s.fab.replays ++ [⟨l, f, x.item, false⟩] } } x.item true))
         ∧ (x.replay = true → f.kind = .reed → exec (.causewayCrcMismatch n dirB f) s
           = .next (s.fatal (ErrRec.mk0 2 6 3 n.val)))
         ∧ (x.replay = true → f.kind ≠ .reed → f.kind ≠ .idle → exec (.causewayCrcMismatch n dirB f) s
           = .next (s.contain f.vd [] [] (ErrRec.mk0 1 6 2 n.val))))
       ∧ (∀ (reed : Bool) (chunk : List Byte) (u : State),
         s.fab.replays.find? (fun r => r.asked && decide (r.link = l) && (decide (r.flit.kind = .reed) == reed)) = some r →
         chunk = (s.fab.sent.find? (fun x => decide (x.link = l) && decide (x.flit = r.flit))).elim [] (fun x => x.chunk) →
         u = { s with fab := { s.fab with
           replays := s.fab.replays.erase r
           spent := if reed then s.fab.spent
             else SMap.set (fun _ => (0 : Nat)) s.fab.spent l (SMap.get (fun _ => (0 : Nat)) s.fab.spent l + 1)
           sent := s.fab.sent ++ [⟨l, r.flit, chunk, r.item, s.time.toNat, true⟩] } } →
         exec (.retryRequest n ⟨dirB, reed⟩) s = .next ((if (s.fab.replays.erase r).any (fun x => decide (x.item = r.item)) then u
           else u.markItem r.item false).bump (Reg.fabricReplay n.val))))
     ∧ (s.commitDue = false → exec .slotTableCommit s = .next s)
     ∧ (∀ frame isSlice unit owner, s.fab.pending = [(frame, .slot isSlice unit owner)] → frame < s.frame →
       exec .slotTableCommit s = .next (State.setSlot { s with fab := { s.fab with pending := [] } } isSlice unit owner)))

/-- R179, R180, R181: a router applies a message to its word as a whole and in the order one sender sent them to the word: an
add is modulo 2^32, a write replaces, an arm sets LIMIT with EPOCH and COUNT zero, an arrive counts and at LIMIT (0 means
1,024) starts the next epoch. A message that leaves the word as it was does nothing else. -/
def Obligations.RoutersApplyFlagMessagesWhole : Prop :=
  (∀ (s : State) (b : Fin 4) (i : Nat) (m : FlagMsg), s.routerMsg b.val i = some m →
    (s.fab.flagMsgs.find? (fun x => decide (x.word = m.word) && decide (x.sender = m.sender)) ≠ some m →
      exec (.flagOperation b i) s = .next s)
    ∧ (s.fab.flagMsgs.find? (fun x => decide (x.word = m.word) && decide (x.sender = m.sender)) = some m →
      flagApply (s.flag m.word) m.op = s.flag m.word → exec (.flagOperation b i) s
        = .next (State.setFlag { s with fab := { s.fab with flagMsgs := s.fab.flagMsgs.erase m } } m.word (s.flag m.word)))
    ∧ (s.fab.flagMsgs.find? (fun x => decide (x.word = m.word) && decide (x.sender = m.sender)) = some m →
      ∃ t, exec (.flagOperation b i) s = .next t
        ∧ t.fab.flags = SMap.set (fun _ => (0 : W32)) s.fab.flags m.word (flagApply (s.flag m.word) m.op)))
  ∧ ∀ w v : W32, flagApply w (.add v) = w + v ∧ flagApply w (.write v) = v
    ∧ fld (flagApply w (.arm v)) 0 10 = fld v 0 10 ∧ fld (flagApply w (.arm v)) 10 22 = 0
    ∧ fld (flagApply w .arrive) 0 10 = fld w 0 10
    ∧ (fld w 10 10 + 1 < (if fld w 0 10 = 0 then 1024 else fld w 0 10) →
        fld (flagApply w .arrive) 10 10 = fld w 10 10 + 1 ∧ fld (flagApply w .arrive) 20 12 = fld w 20 12)
    ∧ ((if fld w 0 10 = 0 then 1024 else fld w 0 10) ≤ fld w 10 10 + 1 →
        fld (flagApply w .arrive) 10 10 = 0 ∧ fld (flagApply w .arrive) 20 12 = (fld w 20 12 + 1) % 4096)

/-! Memory -/

/-- R299, R306, R307, R309, R315, R398: a channel in service answers a queued fill after every older write of its sector and puts the
masked bytes of a queued write into memory, in turns of whole lines; a single error is corrected, an error that cannot be
fails the fill or discards the write; refreshes are postponed up to eight, then issued; MR4 selects the refresh interval from
the next one on. R310, R312, R313: a retraining window is counted, and retried where the drift is beyond range; a second
failure retires the channel; one still in training when its time is over is retired with FAIL_STEP 10. -/
def Obligations.ChannelsServeRefreshAndRetrain : Prop :=
  (∀ (s u : State) (ch : Fin 80) (i temp : Nat) (r : ChRead) (w : ChWrite) (units : List Nat) (bad : Bool),
     ((s.chan ch.val).reads[i]? = some r →
       (s.chServes ch.val = false ∨ s.inWindow ch.val = true ∨ s.fillReady ch.val r = false →
         exec (.channelRead ch i) s = .next s)
       ∧ (s.chServes ch.val = true → s.inWindow ch.val = false → s.fillReady ch.val r = true →
         (s.hostFill r = true ∨ (s.hostFirst ch.val r.vd r.line r.sector = false
           ∧ s.turnOf ch.val false (r.vd, r.line) = true)) →
         units = s.readUnits r →
         bad = units.any (fun x => decide ((s.chan ch.val).fault x = .uncorrectable)) →
         u = (((s.refreshFirst ch.val).correct ch.val units).countBad ch.val units).modChan ch.val (fun c =>
           { c with reads := delNth c.reads i }) → exec (.channelRead ch i) s
           = .next ((u.sendDem r.vd (.fill r.slice ⟨r.line, r.sector, if bad then List.replicate 256 0
               else s.memSector r.vd r.line r.sector, bad⟩) 4 (.bd (bdOfChan ch.val)) (.slice r.slice)).served
                 ch.val false (r.vd, r.line))))
     ∧ ((s.chan ch.val).writes[i]? = some w → s.chServes ch.val = true → s.inWindow ch.val = false →
       s.writeReady ch.val w = true → s.hostFirst ch.val w.vd w.line w.sector = false →
       s.turnOf ch.val true (w.vd, w.line) = true →
       u = (s.refreshFirst ch.val).correct ch.val (mergeUnits w.key w.mask) →
       ((u.chan ch.val).mergeFails w.key w.mask = false → exec (.channelWrite ch i) s
         = .next (((u.modChan ch.val (fun c => { c with writes := delNth c.writes i })).memWrite ch.val w.key w.mask w.data).served
             ch.val true (w.vd, w.line)))
       ∧ ((u.chan ch.val).mergeFails w.key w.mask = true → exec (.channelWrite ch i) s
         = .next ((u.mergeDiscard ch.val i w 0).served ch.val true (w.vd, w.line))))
     ∧ (∀ during wait : Bool, s.chServes ch.val = true → wait = (s.inWindow ch.val || (during && (s.chan ch.val).busy)) →
       u = (if s.inWindow ch.val then s else s.setRegBit (Reg.memctlChStatus ch.val) 15 (s.chan ch.val).hotNext) →
       (wait = true → (s.chan ch.val).postponed < 8 → exec (.refpb ch during) s = .next (u.modChan ch.val (fun c => { c with
         postponed := c.postponed + 1 })))
       ∧ (wait = true → 8 ≤ (s.chan ch.val).postponed → exec (.refpb ch during) s = .next (u.modChan ch.val (fun c => { c with
         pair := (c.pair + 1) % 8 })))
       ∧ (wait = false → exec (.refpb ch during) s = .next (u.modChan ch.val (fun c => { c with
         pair := (c.pair + (c.postponed + 1)) % 8, postponed := 0 }))))
     ∧ (s.canonical = true → s.chState ch.val = 1 → temp < 256 →
       ∃ t, exec (.mr4Read ch temp) s = .next t ∧ t = State.modChan { s with regs := t.regs } ch.val (fun c => { c with
           hotNext := decide (85 < temp) })
         ∧ t.regFld (Reg.memctlChStatus ch.val) 16 8 = temp ∧ t.chState ch.val = 1
         ∧ ∀ k, k ≠ Reg.memctlChStatus ch.val → t.reg k = s.reg k))
  ∧ (∀ (s u : State) (ch : Fin 80) (inRange : Bool), u = s.bump (Reg.memctlChRetrains ch.val) →
     (s.chServes ch.val = true → s.windowFree ch.val = true →
       ((s.chan ch.val).retry = false → s.retrainDue ch.val = true →
         exec (.retrainingWindow ch true) s = .next ((u.modChan ch.val (fun c => { c.refresh with
             windowEnd := s.time.toNat + 60, retry := false, retryAt := s.time.toNat + 100000 })).modChan ch.val (fun c => { c with
               trainTemp := u.regFld (Reg.memctlChStatus ch.val) 16 8, trainedAt := s.time.toNat }))
         ∧ exec (.retrainingWindow ch false) s = .next (u.modChan ch.val (fun c => { c.refresh with
             windowEnd := s.time.toNat + 60, retry := true, retryAt := s.time.toNat + 100000 })))
       ∧ ((s.chan ch.val).retry = true → (s.chan ch.val).retryAt ≤ s.time.toNat →
         exec (.retrainingRetry ch true) s = .next (s.window ch.val false)
         ∧ exec (.retrainingRetry ch false) s = .next (u.retire ch.val 9)))
     ∧ ((s.chan ch.val).retry = true ∨ s.retrainDue ch.val = false ∨ s.windowFree ch.val = false →
       exec (.retrainingWindow ch inRange) s = .next s)
     ∧ ((s.chan ch.val).retry = false ∨ s.time.toNat < (s.chan ch.val).retryAt ∨ s.windowFree ch.val = false →
       exec (.retrainingRetry ch inRange) s = .next s)
     ∧ (s.clock.mode = .starting → s.clock.step = 5 → s.chState ch.val = 0 → exec (.trainingTimeout ch) s
       = .next (((s.setRegFld (Reg.memctlChStatus ch.val) 30 2 2).setRegFld (Reg.memctlChStatus ch.val) 8 4 10).record
           (ErrRec.mk0 1 5 3 ch.val))))

/-- R317: GO of a traffic generator is refused, is ignored while it runs, or starts the run that its registers ask for; STOP and
the end of the run set DONE; a run counts the bursts it finds other than its pattern, and one without a number of passes goes
on until STOP. -/
def Obligations.TrafficGeneratorRuns : Prop :=
  ∀ (s : State) (ch : Fin 80) (bad : List (Nat × BitVec 16)) (fail : Bool), s.canonical = true →
    (s.pfServed (Reg.memctlChTgCtrl ch.val) = true → s.regBit (Reg.memctlChTgStatus ch.val) 29 = false →
      (s.tgRefused ch.val = true → exec (.tgGo ch) s = .next ((s.setRegBit (Reg.memctlChTgStatus ch.val) 30 true).setRegBit
        (Reg.memctlChTgCtrl ch.val) 31 false))
      ∧ (s.tgRefused ch.val = false → ∃ t, exec (.tgGo ch) s = .next t
        ∧ t = State.modChan { s with regs := t.regs, freeCtr := s.freeCtr + 2 } ch.val (fun c => { c with
          tg := some (s.tgRunOf ch.val s.freeCtr) })
        ∧ t.regBit (Reg.memctlChTgStatus ch.val) 29 = true ∧ t.regBit (Reg.memctlChTgStatus ch.val) 31 = false
        ∧ t.reg (Reg.memctlChTgErrAddr ch.val) = 0 ∧ t.reg (Reg.memctlChTgErrBits ch.val) = 0
        ∧ t.regBit (Reg.memctlChTgCtrl ch.val) 31 = true)
      ∧ exec (.tgStop ch) s = .next s)
    ∧ (s.regBit (Reg.memctlChTgStatus ch.val) 29 = true →
      (s.pfServed (Reg.memctlChTgCtrl ch.val) = true → ∃ t, exec (.tgStop ch) s = .next t
        ∧ t.regBit (Reg.memctlChTgStatus ch.val) 29 = false ∧ t.regBit (Reg.memctlChTgStatus ch.val) 31 = true
        ∧ t.regBit (Reg.memctlChTgCtrl ch.val) 31 = false)
      ∧ exec (.tgGo ch) s = .next s)
    ∧ (∀ g n, (s.chan ch.val).tg = some g →
      n = (if fail || g.mode = 0 then 0 else g.passes * (s.tgFinds ch.val g).length + bad.length) →
      (fail = true ∨ g.passes ≠ 0 → ∃ t, exec (.tgRunEnd ch bad fail) s = .next t
        ∧ t = State.modChan { s with regs := t.regs } ch.val (fun c => if fail then { c with tg := Option.none } else c.ranTg false)
        ∧ t.regBit (Reg.memctlChTgStatus ch.val) 29 = false ∧ t.regBit (Reg.memctlChTgStatus ch.val) 31 = true
        ∧ t.regBit (Reg.memctlChTgStatus ch.val) 28 = fail ∧ t.regBit (Reg.memctlChTgCtrl ch.val) 31 = false
        ∧ t.regFld (Reg.memctlChTgErrors ch.val) 0 32
            = satAdd (2 ^ 32 - 1) (s.regFld (Reg.memctlChTgErrors ch.val) 0 32) n)
      ∧ (fail = false → g.passes = 0 → exec (.tgRunEnd ch bad fail) s = .next s))

/-- R299, R307, R324: a channel write changes the bytes of its sector that its mask names and no other byte of memory; a scrub
leaves zeros in its extent and every other byte as it was. -/
def Obligations.ChannelWritesChangeTheirBytesAlone : Prop :=
  ∀ (s u : State) (ch : Fin 80) (i : Nat) (w : ChWrite), s.canonical = true →
    ((s.chan ch.val).writes[i]? = some w → s.chServes ch.val = true → s.inWindow ch.val = false →
      s.writeReady ch.val w = true → s.hostFirst ch.val w.vd w.line w.sector = false →
      s.turnOf ch.val true (w.vd, w.line) = true →
      u = ((s.refreshFirst ch.val).correct ch.val (mergeUnits w.key w.mask)).modChan ch.val (fun c =>
        { c with writes := delNth c.writes i }) →
      (u.chan ch.val).mergeFails w.key w.mask = false → u.mem = s.mem ∧ ∃ t, exec (.channelWrite ch i) s = .next t
      ∧ (∀ a, rd t.mem a = if w.key ≤ a ∧ a < w.key + w.data.length ∧ bitOf w.mask (a - w.key) = true
          then nth 0 w.data (a - w.key) else rd s.mem a)
      ∧ t.canonical = true)
    ∧ ∀ e a : Nat, rd (s.zeroExtent e).mem a = if (s.extent e).covers a = true then 0 else rd s.mem a

/-! The binder and jobs -/

/-- R332, R333, R334, R335, R337, R339, R327, R329, R344: an operation written to COMPOSE_CMD in full service, with none running
and none held, is done on a copy of the staging area, or ends with the code of the first check it fails; while one runs it
is held. R31, R169: a new device is active from the frame boundary at which its translation takes effect. -/
def Obligations.ComposeOperationsComplete : Prop :=
  ∀ (s u : State) (n : Nat) (ws : List W32) (d : Desc),
    s.clock.mode = .full → n = dfld ws 0 0 8 →
    (s.binder.pending = Option.none → s.binderBusy = false → d = parseDesc ws false →
      (u = s.setRegFld Reg.composeCmd 0 4 0 → ws = u.regList (Reg.composeDesc 0) 320 → u.checkDesc 0 ws d = Option.none →
        exec .create s = .next (u.create d)
        ∧ ∃ exts f, (u.create d).fab.pending.getLast? = some (f, .create d.vd exts))
      ∧ (∀ code, u = s.setRegFld Reg.composeCmd 0 4 0 → ws = u.regList (Reg.composeDesc 0) 320 →
        u.checkDesc 0 ws d = some code → exec .create s = .next (u.composeDone n code))
      ∧ (u = s.setRegFld Reg.composeCmd 0 4 1 → ws = u.regList (Reg.composeDesc 0) 320 → descReserved ws = false →
        u.badState opDestroy n = false → exec .destroy s = .next (u.destroyVd n))
      ∧ (u = s.setRegFld Reg.composeCmd 0 4 2 → ws = u.regList (Reg.composeDesc 0) 320 → u.checkDesc 2 ws d = Option.none →
        exec .move s = .next (u.startRebind true d))
      ∧ (u = s.setRegFld Reg.composeCmd 0 4 3 → ws = u.regList (Reg.composeDesc 0) 320 → u.checkDesc 3 ws d = Option.none →
        exec .resize s = .next (u.startRebind false d))
      ∧ (u = s.setRegFld Reg.composeCmd 0 4 4 → ws = u.regList (Reg.composeDesc 0) 320 → descReserved ws = false →
        dfld ws 0 16 4 = 0 → (u.vd n).st ≠ .absent → exec .readDesc s
          = .next ((u.setRegs (Reg.composeDesc 0) (u.vd n).desc.words).composeDone n 0))
      ∧ (u = s.setRegFld Reg.composeCmd 0 4 5 → ws = u.regList (Reg.composeDesc 0) 320 → exec .setCreate s = .next (u.setCreate ws))
      ∧ (u = s.setRegFld Reg.composeCmd 0 4 6 → ws = u.regList (Reg.composeDesc 0) 320 → descReserved ws = false →
        dfld ws 0 16 4 ≠ 0 → (u.set_ (dfld ws 0 16 4)).valid = true → SMap.wf (fun _ => SetSt.absent) u.sets = true → u.setUsers (dfld ws 0 16 4) = [] →
        exec .setDestroy s = .next (u.setDestroy ws) ∧ ((u.setDestroy ws).set_ (dfld ws 0 16 4)).valid = false))
    ∧ (u = s.setRegFld Reg.composeCmd 0 4 0 → ws = u.regList (Reg.composeDesc 0) 320 → s.binderBusy = true →
      (s.binder.pending = Option.none →
        exec .create s = .next { u with binder := { s.binder with pending := some (0, ws) } })
      ∧ (s.binder.pending.isSome = true → exec .create s = .next (u.setRegBit Reg.composeStatus 25 true)))
    ∧ (∀ op, s.binder.pending = some (op, ws) →
      (s.binderBusy = false → exec .composePendingStart s
        = .next (State.composeOp { s with binder := { s.binder with pending := Option.none } } op ws))
      ∧ (s.binderBusy = true → exec .composePendingStart s = .next s))
    ∧ (∀ exts, ((s.createEnds n exts).vd n).st = .active ∧ ((s.createEnds n exts).vd n).desc = (s.vd n).desc)

/-- R31, R324, R337 to R341, R344: a rebind goes from its quiesce point through the gain, the move and the commitment to its
end, or ends by its time limit; a scrubbed extent is zero and free. -/
def Obligations.RebindsStepThrough : Prop :=
  ∀ (s : State) (b : BindOp) (e : Fin 640),
    (s.binder.running = some b →
      (b.st = .quiescing →
        (s.onBoundary = true → s.quiescent b = true → exec .quiescePoint s = .next (s.quiesce b)
          ∧ ∃ c, (s.quiesce b).binder.running = some c ∧ c.st = .gaining)
        ∧ (s.onBoundary = false ∨ s.quiescent b = false → exec .quiescePoint s = .next s)
        ∧ (s.regFld Reg.composeTimeout 0 24 ≠ 0 → b.since + s.regFld Reg.composeTimeout 0 24 ≤ s.frame →
          (s.quiescent b = false → exec .composeTimeout s = .next (s.endRebind b.vd 0x0C))
          ∧ (s.quiescent b = true → s.onBoundary = true → exec .composeTimeout s = .next (s.quiesce b)))
        ∧ ((s.regFld Reg.composeTimeout 0 24 = 0 ∨ s.frame < b.since + s.regFld Reg.composeTimeout 0 24) →
          exec .composeTimeout s = .next s))
      ∧ (∀ w x u v, b.st = .gaining → w = (if s.commitDue then s.commitTables else s) →
        (w.gainPending b = true → exec .gainingEnd s = .next w)
        ∧ (w.gainPending b = false → b.abandoned = false →
          x = (w.gained b false).foldl (fun s k => s.gainUnit b.vd false k) w →
          u = (x.gained b true).foldl (fun s k => s.gainUnit b.vd true k) x →
          v = { b with
            st := .moving
            exts := (u.allot b.vd b.desc false b.isMove).2.1
            flags := (u.allot b.vd b.desc false b.isMove).2.2.1
            qps := (u.allot b.vd b.desc false b.isMove).2.2.2 } →
          exec .gainingEnd s = .next (State.startEmptying
            { (u.allot b.vd b.desc false b.isMove).1 with
              binder := { (u.allot b.vd b.desc false b.isMove).1.binder with running := some v } } v)))
      ∧ (b.st = .moving → s.quietVd b = false → exec .movingEnd s = .next (s.startEmptying b))
      ∧ (b.st = .moving → s.quietVd b = true →
        ((if s.onBoundary then s.frame else s.frame + 1) < b.stopped + s.moveFrames b → exec .movingEnd s = .next s)
        ∧ (b.stopped + s.moveFrames b ≤ (if s.onBoundary then s.frame else s.frame + 1) → b.abandoned = false →
          ∃ t f, exec .movingEnd s = .next t ∧ t.binder.running = some { b with st := .committing }
            ∧ t.fab.pending.getLast? = some (f, .rebind)))
      ∧ (b.st = .committing → (s.commitDue = true → exec .committingEnd s = .next s.commitTables)
        ∧ (s.commitDue = false → exec .committingEnd s = .next s)
        ∧ (b.abandoned = false → ∃ f, (s.applyWrite .rebind).binder.running = some { b with st := .resuming, since := f }))
      ∧ (b.st = .resuming → (s.frame ≤ b.since → exec .resumingEnd s = .next s)
        ∧ (b.since < s.frame → exec .resumingEnd s = .next (s.endRebind b.vd (if b.abandoned then 0x0D else 0))
          ∧ (s.endRebind b.vd 0).binder.running = Option.none)))
    ∧ ((s.extent e.val).st = .scrubbing → exec (.scrubEnd e) s = .next ((s.zeroExtent e.val).modExtent e.val
        (fun x => { x with st := .free, owner := 0, logical := Option.none }))
      ∧ ∀ a, (s.extent e.val).covers a = true → rd (s.zeroExtent e.val).mem a = 0)
    ∧ ((s.extent e.val).st ≠ .scrubbing → exec (.scrubEnd e) s = .next s)

/-- R348, R349, R350, R352, R375: a doorbell makes descriptors available and goes to the scheduler as a reed message, or is refused; CQ_HEAD moves within the written records or
the write is refused; a queue that is enabled starts with its indices at zero. -/
def Obligations.QueueWritesComplete : Prop :=
  ∀ (s : State) (n : Fin 256) (q : Fin 4) (w : W32), s.canonical = true → s.vfHere n.val = true →
    (∀ size old k, size = s.qSize n.val q.val → old = s.sqTail n.val q.val → k = (fld w 0 16 + size - old) % size →
      (s.qOn n.val q.val = false ∨ s.clock.downBusy = true ∨ s.clock.offReady = true ∨ size ≤ fld w 0 16
          ∨ size - 1 < (old + size - s.sqHead n.val q.val) % size + k →
        exec (.doorbell n q w) s = .next (s.setRegBit (Reg.queueStatus n.val q.val) 1 true))
      ∧ (s.qOn n.val q.val = true → s.clock.downBusy = false → s.clock.offReady = false → fld w 0 16 < size →
          (old + size - s.sqHead n.val q.val) % size + k ≤ size - 1 →
        ∃ t m, exec (.doorbell n q w) s = .next t ∧ t.sqTail n.val q.val = fld w 0 16 ∧ t.mem = s.mem
          ∧ t.fab.reed = s.fab.reed ++ [m] ∧ m.body = .bell n.val q.val (fld w 0 16)
          ∧ t.cores = s.cores ∧ t.slices = s.slices ∧ (∀ m, m ≠ n.val → t.vd m = s.vd m)))
    ∧ (∀ size old, size = s.qSize n.val q.val → old = s.cqHead n.val q.val →
      (fld w 0 16 < size → (fld w 0 16 + size - old) % size ≤ (s.cqTail n.val q.val + size - old) % size →
        exec (.cqHeadWrite n q w) s
          = .next ((s.setRegFld (Reg.queueCqHead n.val q.val) 0 16 (fld w 0 16)).countRsvd (Reg.queueCqHead n.val q.val) w))
      ∧ ((size ≤ fld w 0 16 ∨ (s.cqTail n.val q.val + size - old) % size < (fld w 0 16 + size - old) % size) →
        exec (.cqHeadWrite n q w) s = .next (s.setRegBit (Reg.queueStatus n.val q.val) 2 true)))
    ∧ (4 ≤ s.regFld (Reg.queueSqCfg n.val q.val) 16 5 → s.regFld (Reg.queueSqCfg n.val q.val) 16 5 ≤ 16 →
      s.qOn n.val q.val = false → ∃ t, exec (.queueEnable n q true) s = .next t ∧ t.qOn n.val q.val = true
        ∧ t.sqHead n.val q.val = 0 ∧ t.sqTail n.val q.val = 0 ∧ t.cqHead n.val q.val = 0 ∧ t.cqTail n.val q.val = 0
        ∧ t.mem = s.mem ∧ t.cores = s.cores)
    ∧ ((s.regFld (Reg.queueSqCfg n.val q.val) 16 5 < 4 ∨ 16 < s.regFld (Reg.queueSqCfg n.val q.val) 16 5) →
      exec (.queueEnable n q true) s = .next s)
    ∧ exec (.queueEnable n q false) s = .next (s.setRegBit (Reg.queueSqCfg n.val q.val) 31 false)

/-- R351, R355, R356, R357, R358, R359, R360, R361: a device takes the descriptor at the head of its queue, its cores start at
the schedule epoch with the argument and their numbers, and the job ends with its record. -/
def Obligations.JobsAreTakenStartedAndEnded : Prop :=
  ∀ (s : State) (n : Fin 256) (q : Nat) (j : Job),
    (∀ t, s.mayTake n.val = true → s.nextQueue n.val = some q → (s.vd n.val).desc.sharedSet = 0 →
      s.preemptedHead n.val q = false → t = s.take n.val q (s.sqHead n.val q) →
      exec (.jobTake n) s = .next (if (t.vd n.val).busy then t.noteRun n.val else t))
    ∧ (s.mayTake n.val = false → exec (.jobTake n) s = .next s)
    ∧ (s.liveJob n.val = some j → s.epochDue n.val j = false → exec (.jobEpoch n) s = .next s)
    ∧ (s.liveJob n.val = some j → s.epochDue n.val j = true → ∀ u cs, cs = s.coresOf n.val →
      u = ((List.range cs.length).zip cs).foldl (fun s e => s.modCore e.2 (fun k =>
          k.startAt j.cur e.1 cs.length (if j.fellBack then j.lastCkpt else 0))) s →
      (j.started = false → exec (.jobEpoch n) s = .next ((u.modVd n.val (fun v => { v with running := some { j with
        phase := .running, epoch := u.frame, started := true } })).acctAdd n.val 1 1))
      ∧ (j.started = true → exec (.jobEpoch n) s = .next (u.modVd n.val (fun v => { v with running := some { j with
        phase := .running, epoch := u.frame, started := true } }))))
    ∧ (∀ k l nc ck, k = (s.core 0).startAt j.cur l nc ck →
      k.pc = j.cur.codeAddr ∧ k.seq = .running ∧ k.sreg 1 = j.cur.arg ∧ k.sreg 2 = BitVec.ofNat 64 l
      ∧ k.sreg 3 = BitVec.ofNat 64 nc ∧ k.sreg 4 = BitVec.ofNat 64 ck ∧ (∀ r, 5 ≤ r → k.sreg r = 0)
      ∧ k.acc = [] ∧ k.tile = (s.core 0).tile)
    ∧ ((s.vd n.val).running = some j → s.cancelling n.val = false → s.coresStopped n.val = true →
      (j.ended = Option.none → j.phase = .running → s.streamsDone n.val = true →
        (s.coresOf n.val).all (fun c => decide ((s.core c).seq = .ended)) = true →
        ((s.vd n.val).st = .contained ∨ s.coresOver n.val (if j.cur.windowOut then 3 else 2) = true → exec (.jobEnd n) s
          = .next ((((s.attribute n.val).jobGone n.val j.queue).complete n.val j.queue j.regions
              (j.completion ⟨0, 0, 0x7F⟩)).shareChoice n.val))
        ∧ ((s.vd n.val).st ≠ .contained → s.coresOver n.val (if j.cur.windowOut then 3 else 2) = false →
          exec (.jobEnd n) s = .next (s.startDrains n.val)))
      ∧ (∀ e, j.ended = some e →
        ((s.vd n.val).st = .contained ∨ s.coresOver n.val (if j.cur.windowOut then 3 else 2) = true → exec (.jobEnd n) s
          = .next ((((s.attribute n.val).jobGone n.val j.queue).complete n.val j.queue j.regions (j.completion e)).shareChoice
              n.val))))
    ∧ (s.liveJob n.val = some j → j.desc.limit ≠ 0 → j.desc.limit * 1000 < j.runTicks →
      exec (.runLimit n) s = .next (((s.stopCores n.val).cancelStreams n.val).endJob n.val 3 0 0x7F))
    ∧ (s.liveJob n.val = some j → (j.desc.limit = 0 ∨ j.runTicks ≤ j.desc.limit * 1000) → exec (.runLimit n) s = .next s)

/-- R362, R363, R364, R365, R369, R370, R553: checkpoints release the cores, project the deadline, serve a rebind or a
preemption; a preemption saves the contexts and a resumed job goes on with its epoch moved. -/
def Obligations.CheckpointsAndPreemptionComplete : Prop :=
  ∀ (s u : State) (n : Fin 256) (c0 i q : Nat) (cs : List Nat) (j k : Job),
    (s.liveJob n.val = some j → s.coresOf n.val = c0 :: cs → j.phase = .running →
      (∀ c ∈ c0 :: cs, (s.core c).ckptAt.isSome = true) → (s.core c0).ckptAt = some i →
      k = { j with ckptIndex := i, lastCkpt := if j.fellBack then j.lastCkpt else i, stopped := s.frame } →
      u = s.modVd n.val (fun v => { v with running := some k }) →
      (j.overLimit = true → exec (.checkpoint n) s = .next (u.limitJob n.val))
      ∧ (j.overLimit = false → j.desc.deadlineEn = false → u.ckptWanted n.val = false →
        exec (.checkpoint n) s = .next (u.releaseCkpt n.val))
      ∧ (j.overLimit = false → j.desc.deadlineEn = false → u.ckptWanted n.val = true → exec (.checkpoint n) s
        = .next (u.modVd n.val (fun v => { v with running := v.running.map (fun (j : Job) => { j with phase := .ckpt }) })))
      ∧ (j.overLimit = false → j.desc.deadlineEn = true → j.fellBack = false → 1 ≤ i → i ≤ j.desc.nckpt →
        projectsLate ((u.time.toNat : Int) - j.stamp) j.runTicks (u.devLE n.val j.desc.costAddr 4 : Nat)
          (u.devLE n.val (j.desc.costAddr + 4 * i) 4 : Nat) j.desc.deadline j.desc.margin = true →
        j.fallback.isSome = true → exec (.checkpoint n) s = .next (((u.devSeen n.val j.desc.costAddr 4).devSeen n.val
          (j.desc.costAddr + 4 * i) 4).startFallback n.val i k)))
    ∧ (s.liveJob n.val = some j → (s.onBoundary = false ∨ s.frame ≤ j.stopped) → exec (.checkpointClean n) s = .next s)
    ∧ (s.liveJob n.val = some j → j.phase = .ckpt → s.onBoundary = true → j.stopped < s.frame →
      (s.cleanAt n.val j = false → exec (.checkpointClean n) s = .next ((s.modVd n.val (fun v => { v with
        running := v.running.map (fun (j : Job) => { j with phase := .running }) })).releaseCkpt n.val))
      ∧ (∀ b, s.cleanAt n.val j = true → s.binder.running = some b → b.vd = n.val → b.isMove = true → b.st = .quiescing →
        exec (.checkpointClean n) s = .next (s.quiesce b))
      ∧ (s.cleanAt n.val j = true → s.binder.running = Option.none → (s.vd n.val).preemptReq = true →
        exec (.checkpointClean n) s = .next (s.startSave n.val)))
    ∧ (s.liveJob n.val = some j → j.phase = .saving →
      (s.coresOver n.val 2 = false → exec (.preemptionSaveEnd n) s = .next (s.startDrains n.val))
      ∧ (s.coresOver n.val 2 = true → s.frame < j.saved + s.saveFrames n.val j.saveBase true →
        exec (.preemptionSaveEnd n) s = .next s)
      ∧ (∀ w, s.coresOver n.val 2 = true → j.saved + s.saveFrames n.val j.saveBase true ≤ s.frame →
        (s.saveLines n.val j.saveBase).any (s.lineBusy n.val) = false →
        u = ((List.range (s.coresOf n.val).length).zip (s.coresOf n.val)).foldl (fun s e =>
          s.devFill n.val (j.saveBase + e.1 * ctxSize) ctxSize (s.core e.2).ctxByte) s →
        w = (u.saveLines n.val j.saveBase).foldl (fun s l => s.lineOut n.val l) u →
        k = { j with phase := .preempted, preempts := satAdd 255 j.preempts 1 } → exec (.preemptionSaveEnd n) s
          = .next ((((w.attribute n.val).acctAdd n.val 5 1).idleCores n.val).modVd n.val (fun v => { v with
              running := v.incoming, incoming := Option.none, preemptReq := false, preempted := v.preempted ++ [k] }))))
    ∧ (s.mayTake n.val = true → (s.vd n.val).running = Option.none → s.nextQueue n.val = some q →
      (s.vd n.val).desc.sharedSet = 0 → (s.vd n.val).preemptedIn q = some j →
      u = s.modVd n.val (fun v => { v with preempted := v.preempted.filter (fun (x : Job) => !decide (x.queue = q)) }) →
      (u.saveAt n.val q = j.saveBase → u.saveOk n.val j.regions j.saveBase ((u.coresOf n.val).length * ctxSize) = true →
        exec (.jobResume n) s = .next (((u.readContexts n.val j).modVd n.val (fun v => { v with
          running := some { j with phase := .restoring, saved := u.frame } })).noteRun n.val))
      ∧ (u.saveAt n.val q ≠ j.saveBase → exec (.jobResume n) s = .next ((State.complete { u with fab := { u.fab with
          redRes := u.fab.redRes.filter (fun (r : RedRes) => !(decide (r.vd = n.val) && decide (r.queue = q))) } }
            n.val q j.regions (j.completion ⟨4, 0, 0x7F⟩)).shareChoice n.val)))
    ∧ (s.liveJob n.val = some j → j.phase = .restoring → s.onBoundary = true →
      j.saved + s.saveFrames n.val j.saveBase false ≤ s.frame → exec (.jobResume n) s = .next (s.goOn n.val j)
      ∧ ((s.goOn n.val j).vd n.val).running
        = some { j with phase := .running, epoch := j.epoch + (s.frame + 1 - j.stopped), engines := [] })

/-- R328, R361, R366, R367, R368, R373, R374, R395: the switch of a shared set, FENCE records, the attribution of engine time,
accounting captures and the requests for a preemption. -/
def Obligations.SharesFencesAndAccountsComplete : Prop :=
  ∀ (s u : State) (n : Fin 256) (k : Fin 8) (d : Nat) (f : FenceWait) (clear : Bool),
    ((s.set_ (k.val + 1)).valid = true → s.setHeld (k.val + 1) = false →
      ((s.set_ (k.val + 1)).next = some d → (s.vd d).busy = true ∨ (s.setReady (k.val + 1)).contains d = true →
        (s.set_ (k.val + 1)).switched ≠ some d → s.switching (k.val + 1) = false →
        exec (.sharedSetSwitch k .issue) s = .next ((s.set_ (k.val + 1)).cores.foldl (fun s c => s.startDrain c) s))
      ∧ ((s.set_ (k.val + 1)).next = some d →
        (s.switching (k.val + 1) = false → (s.set_ (k.val + 1)).switched ≠ some d →
          (∀ c ∈ (s.set_ (k.val + 1)).cores, ∃ dr, (s.core c).drain = some dr ∧ s.drainOver c dr 2 = true) →
          exec (.sharedSetSwitch k .act) s
            = .next (((s.set_ (k.val + 1)).cores.foldl (fun s c => s.pend (.slot false c (some d))) s).pend
                (.switch (k.val + 1) d)))
        ∧ (s.switching (k.val + 1) = true → exec (.sharedSetSwitch k .act) s
          = .next (if s.commitDue then s.commitTables else s)))
      ∧ ((s.applyWrite (.switch (k.val + 1) d)).set_ (k.val + 1)).switched = some d)
    ∧ ((s.vd n.val).fence = some f →
      (s.windowsDone n.val = true → (s.hostAccepted n.val).any (fun id => f.waits.contains id) = false →
        exec (.fenceRecord n) s = .next (((s.modVd n.val (fun v => { v with fence := Option.none })).complete n.val f.queue
          (s.regionTable n.val) (Completion.none f.tag 0 f.sqIndex f.irq)).shareChoice n.val))
      ∧ (s.windowsDone n.val = false → exec (.fenceRecord n) s = .next s))
    ∧ (∀ v, s.time.toNat % 1000 = 0 → s.vds = [(d, v)] → v.running.isSome = true → v.desc.sharedSet = 0 →
      exec .engineTimeAttribution s = .next (s.attribute d))
    ∧ (s.time.toNat % 1000 ≠ 0 → exec .engineTimeAttribution s = .next s)
    ∧ (s.vfHere n.val = true → exec (.acctSnap n) s = .next (s.capture n.val (Reg.acctCount n.val 0)))
    ∧ (s.pfServed Reg.schedAcctSnap = true → u = (s.setRegFld Reg.schedAcctSnap 0 8 n.val).capture n.val (Reg.schedAcct 0) →
      exec (.schedAcctSnap n clear) s = .next (if clear then
        u.modVd n.val (fun v => { v with acct := [0, 0, 0, 0, 0, 0, 0, 0, 0] }) else u))
    ∧ (∀ j, s.pfServed Reg.schedPreempt = true → (s.vd n.val).running = some j → j.ended = Option.none → u = s.setRegFld Reg.schedPreempt 0 8 n.val →
      u.hasSave n.val j.queue = true → exec (.schedPreempt n) s = .next (u.modVd n.val (fun v => { v with preemptReq := true })))

/-! The host port -/

/-- R28, R390, R391, R392: a CXL.mem read or write of a 64-byte line that hits a window is taken in its order and goes to its home
slice as a request of the host port, a read as a reed message, a write with its data in a demand message; a write enables the
bytes of its mask. R390: a window miss takes 64 bytes of zeros or a Cmp as its response, is counted, and is captured while
VALID is clear; with MISS_EVENT it raises PF vector 3. Nothing else changes. -/
def Obligations.WindowAccessesAreAnswered : Prop :=
  (∀ (s : State) (dpa n a i : Nat) (bytes : List Byte) (be : W64), s.linkUp = true → s.windowHit dpa = some (n, a) →
     s.homeSlice n (lineOf (a / 64 * 64)) = some i →
     (∀ x, x = { s.host with
         reqs := s.host.reqs ++ [⟨s.host.nextId, true, dpa, s.dpaOwner dpa, s.time.toNat, Option.none⟩]
         nextId := s.host.nextId + 1 } → exec (.memrd dpa) s = .next { s with
           host := x
           fab := { s.fab with
             nextId := s.fab.nextId + 1
             reed := s.fab.reed ++ [⟨s.fab.nextId, n, .req i ⟨.coherent, n, a / 64 * 64, 64, [], false, .host s.host.nextId, false,
               false, false⟩, routePath true .iod (.slice i), Option.none, false⟩] } })
     ∧ (∀ x bs, x = { s.host with
         reqs := s.host.reqs ++ [⟨s.host.nextId, false, dpa, s.dpaOwner dpa, s.time.toNat, Option.none⟩]
         nextId := s.host.nextId + 1 } →
       (bs = (List.range 64).map (fun i => (a / 64 * 64 + i, nth 0 bytes i)) → exec (.memwr dpa bytes) s = .next { s with
         host := x
         fab := { s.fab with
           nextId := s.fab.nextId + 2
           dem := s.fab.dem ++ [⟨s.fab.nextId, n, .req i ⟨.write, n, a / 64 * 64, 64, bs, false, .host s.host.nextId, false,
             s.earlyAck n (a / 64 * 64), false⟩, 1, 1, routePath false .iod (.slice i), false, false, false⟩]
           reed := s.fab.reed ++ [⟨s.fab.nextId + 1, n, .part s.fab.nextId, routePath true .iod (.slice i), Option.none, false⟩] } })
       ∧ (be ≠ 0 → bs = ((List.range 64).filter (fun i => fld be i 1 == 1)).map (fun i => (a / 64 * 64 + i, nth 0 bytes i)) →
         exec (.memwrptl dpa bytes be) s = .next { s with
           host := x
           fab := { s.fab with
             nextId := s.fab.nextId + 2
             dem := s.fab.dem ++ [⟨s.fab.nextId, n, .req i ⟨.write, n, a / 64 * 64, 64, bs, false, .host s.host.nextId, false,
               s.earlyAck n (a / 64 * 64), false⟩, 1, 1, routePath false .iod (.slice i), false, false, false⟩]
             reed := s.fab.reed ++ [⟨s.fab.nextId + 1, n, .part s.fab.nextId, routePath true .iod (.slice i), Option.none,
               false⟩] } }))
     ∧ (be = 0 → exec (.memwrptl dpa bytes be) s = .next (s.hostTake false dpa (some []))))
  ∧ (∀ (s : State) (dpa : Nat) (bytes : List Byte) (be : W64), s.canonical = true → s.linkUp = true → s.windowHit dpa = none →
     ∃ t u, exec (.memrd dpa) s = .next t ∧ exec (.memwr dpa bytes) s = .next u ∧ exec (.memwrptl dpa bytes be) s = .next u
     ∧ t = { s.hostTake true dpa (some (List.replicate 64 0)) with regs := t.regs, vectors := t.vectors }
     ∧ u = { s.hostTake false dpa (some []) with regs := t.regs, vectors := t.vectors }
     ∧ t.reg Reg.hostportMiss = satInc32 (s.reg Reg.hostportMiss)
     ∧ (s.regBit (Reg.hostportMissAddr + 4) 31 = true → t.reg64 Reg.hostportMissAddr = s.reg64 Reg.hostportMissAddr)
     ∧ (s.regBit (Reg.hostportMissAddr + 4) 31 = false → t.reg64 Reg.hostportMissAddr = 2 ^ 63 + dpa / 64 * 64 % 2 ^ 40)
     ∧ t.vectors = (if s.regBit Reg.hostportCtrl 1 then (Option.none, 3) :: s.vectors else s.vectors))

/-- R391: a speculative read is dropped, an invalidation is answered with Cmp and changes nothing, an excluded message is
dropped with a RAS error; R399: a response within its bound is sent and measured. R399: a response above its bound is still
sent, and it is counted, recorded and raises PF vector 3. -/
def Obligations.HostMessagesAndResponsesComplete : Prop :=
  (∀ (s : State) (dpa code i ticks : Nat) (r : HostReq) (bs : List Byte), s.linkUp = true → s.time.toNat = r.arrived + ticks →
     exec (.memspecrd dpa) s = .next s
     ∧ exec (.meminv dpa) s = .next { s with host := { s.host with sent := (dpa, []) :: s.host.sent } }
     ∧ exec (.unsupportedMessage code) s = .next { s with host := { s.host with rasLogged := true } }
     ∧ (s.host.reqs[i]? = some r → r.resp = some bs → ticks ≤ (if r.read then 150 else 100) →
       exec (.hostResponse i ticks) s = .next (State.noteMax
         { s with host := { s.host with reqs := delNth s.host.reqs i, sent := (r.dpa, bs) :: s.host.sent } }
         (if r.read then Reg.hostportRdMax else Reg.hostportWrMax) ticks)))
  ∧ (∀ (s : State) (i ticks : Nat) (r : HostReq) (bs : List Byte), s.canonical = true → s.linkUp = true →
     s.host.reqs[i]? = some r → r.resp = some bs → s.time.toNat = r.arrived + ticks → (if r.read then 150 else 100) < ticks →
     s.err.waiting.length < 256 → s.regBit Reg.hostportCtrl 0 = false →
     ∃ t, exec (.hostResponse i ticks) s = .next t
     ∧ t.host = { s.host with reqs := delNth s.host.reqs i, sent := (r.dpa, bs) :: s.host.sent }
     ∧ t = { s with regs := t.regs, host := t.host, err := t.err, vectors := (Option.none, 3) :: s.vectors }
     ∧ t.reg (if r.read then Reg.hostportRdLate else Reg.hostportWrLate)
         = satInc32 (s.reg (if r.read then Reg.hostportRdLate else Reg.hostportWrLate))
     ∧ ∃ e, t.err.waiting = s.err.waiting ++ [e] ∧ e.sev = 0 ∧ e.cls = 7 ∧ e.cause = (if r.read then 1 else 2)
       ∧ e.vd = r.vd ∧ e.ext = r.vd.map (fun _ => bitsOf r.dpa 30 10) ∧ e.addr = some r.dpa ∧ e.detail = min ticks (2 ^ 24 - 1) ∧ e.time = s.time.toNat)

/-- R382, R386, R388, R389, R400, R462: the configuration of the host port: the decoder, the link, VF Enable with the buses that the
host has assigned, power states. A VF on an unassigned bus is not reached.
R381: a link below x16 at 64 GT/s sets IDENT_STATUS.DEGRADED and writes a record. R386, R426, R454: FLR of VFn, by the host
or by clearing VF Enable, puts every queue pair of the device into RESET and ends its running job; composition, the pool and
device memory stay as they are. -/
def Obligations.HostConfigurationAndFunctionResets : Prop :=
  (∀ (s : State) (ways size width speed : Nat) (me f l : Bool),
     (s.host.committed = false → ways = 1 → size ≤ 640 → exec (.hdmDecoderCommit ways size me) s
       = .next { s with host := { s.host with memEnable := me, committed := true, hdmErr := false, sizeGiB := size } })
     ∧ (s.host.committed = false → (ways ≠ 1 ∨ 640 < size) → exec (.hdmDecoderCommit ways size me) s
       = .next { s with host := { s.host with memEnable := me, hdmErr := true } })
     ∧ (s.host.committed = true → exec (.hdmDecoderCommit ways size me) s
       = .next { s with host := { s.host with memEnable := me } })
     ∧ (s.pfServed Reg.hostportCtrl = true → exec .maxClear s
       = .next ((s.setReg Reg.hostportRdMax 0).setReg Reg.hostportWrMax 0))
     ∧ (s.pfServed Reg.hostportMissAddr = true → exec .missAddrClear s
       = .next (s.setRegBit (Reg.hostportMissAddr + 4) 31 false))
     ∧ (s.clock.powered = true → 4 ≤ s.clock.step → 16 ≤ width → 64 ≤ speed →
       exec (.hostLinkRetrain width speed f l) s = .next (s.setReg Reg.hostportLink (BitVec.ofNat 32
         (2 ^ 31 + b2n f * 2 ^ 30 + b2n (f && l) * 2 ^ 29 + width % 256 * 2 ^ 16 + speed % 256))))
     ∧ exec .linkDown s = .next ({ s with host := { s.host with reqs := [] } }.setRegBit Reg.hostportLink 31 false)
     ∧ exec .d3hot s = .next s
     ∧ (s.clock.mode = .full → exec .vfEnableSet s = .next { s with host := { s.host with vfEnable := true } })
     ∧ (s.clock.mode ≠ .full → exec .vfEnableSet s = .next s)
     ∧ (∀ (r : CfgRequest) (e : StartEnv), s.monitors = true → s.clock.phys = some e → s.clock.begun = true → s.clock.mode = .full →
       s.host.crs = false → exec (.configurationRequest r) s
         = .next { s with host := { s.host with pfBus := r.bus.toNat, nextBus := r.nextBus } }))
  ∧ (∀ (s : State) (width speed : Nat) (f l : Bool), s.canonical = true → s.clock.powered = true → 4 ≤ s.clock.step →
     (width < 16 ∨ speed < 64) → s.err.waiting.length < 256 →
     ∃ t, exec (.hostLinkRetrain width speed f l) s = .next t ∧ t.regBit Reg.identStatus 0 = true
       ∧ t.regFld Reg.hostportLink 16 8 = width % 256 ∧ t.regFld Reg.hostportLink 0 8 = speed % 256
       ∧ t = { s with regs := t.regs, err := t.err }
       ∧ ∃ e, t.err = { s.err with waiting := s.err.waiting ++ [e] } ∧ e.cls = 7 ∧ e.cause = 3 ∧ e.vd = Option.none)
  ∧ (∀ (s : State) (n : Fin 256), s.host.vfEnable = true → (s.vd n.val).st ≠ .absent →
     (s.vfReached n.val = false → exec (.vfFlr n) s = .next s)
     ∧ (s.vfReached n.val = true → ∃ t, exec (.vfFlr n) s = .next t ∧ (t.vd n.val).running = Option.none ∧ (∀ q, q < 64 → t.qp n.val q = Qp.rest)
       ∧ t.pool = s.pool ∧ t.mem = s.mem ∧ t.chans = s.chans ∧ t.sets = s.sets ∧ t.host.vfEnable = true)
     ∧ (∃ t, exec .vfEnableClear s = .next t ∧ (t.vd n.val).running = Option.none ∧ (∀ q, q < 64 → t.qp n.val q = Qp.rest)
       ∧ t.pool = s.pool ∧ t.mem = s.mem ∧ t.chans = s.chans ∧ t.sets = s.sets ∧ t.host.vfEnable = false)
     ∧ (∃ t, exec .pfFlr s = .next t ∧ (t.vd n.val).running = Option.none ∧ (∀ q, q < 64 → t.qp n.val q = Qp.rest)
       ∧ t.pool = s.pool ∧ t.mem = s.mem ∧ t.chans = s.chans ∧ t.sets = s.sets ∧ t.host.vfEnable = false
       ∧ t.host.memEnable = false))

/-! The network port -/

/-- R402, R403, R404, R424: frames that are not the transport's: ARP and neighbour solicitations for an address of a device are
answered, PFC pauses a priority whose RX_EN bit is set, everything else is dropped and counted; ENABLE and the link. R406,
R416, R417, R418, R419, R420: a segment or READ_REQ that no condition of R416 turns away is accepted, its PSN noted, and it
goes to the staging buffer, or joins what the pair answers; a READ_RESP lands relative to its read; one that is turned away
is dropped, acknowledged again, or answered with the NAK of the first condition that holds. -/
def Obligations.PortFramesAndSegmentsComplete : Prop :=
  (∀ (s : State) (n : Fin 256) (p : Fin 8) (quanta : Nat) (ctrl : W32),
     (s.net.up = true →
       (s.netIp n.val ≠ 0 → isV4 (s.netIp n.val) = true → exec (.arpRequest n) s = .next (s.queueTx (.arp n.val))
         ∧ exec (.neighbourSolicitation n) s = .next (s.bump Reg.netportDrops))
       ∧ (s.netIp n.val ≠ 0 → isV4 (s.netIp n.val) = false → exec (.neighbourSolicitation n) s = .next (s.queueTx (.ndp n.val))
         ∧ exec (.arpRequest n) s = .next (s.bump Reg.netportDrops))
       ∧ (bitOf (s.regFld Reg.netportPfc 0 8) p.val = true →
         exec (.pfcFrame p quanta) s = .next (s.setPaused p.val (decide (quanta ≠ 0))))
       ∧ (bitOf (s.regFld Reg.netportPfc 0 8) p.val = false → exec (.pfcFrame p quanta) s = .next (s.bump Reg.netportDrops))
       ∧ exec .pauseFrame s = .next (s.bump Reg.netportDrops)
       ∧ exec .nonTuilinFrame s = .next (s.bump Reg.netportDrops))
     ∧ (p.val ∈ s.net.paused → ∃ t, exec (.pfcPauseExpiry p) s = .next t ∧ p.val ∉ t.net.paused
       ∧ t = { s with regs := t.regs, net := { s.net with paused := t.net.paused } })
     ∧ (s.canonical = true → s.pfServed Reg.netportCtrl = true → s.regBit Reg.netportCtrl 31 = false → fld ctrl 31 1 = 1 →
         ctrl.toNat &&& resvBits Reg.netportCtrl = 0 → ∃ t, exec (.netportEnable ctrl) s = .next t
       ∧ t = { s with regs := t.regs, net := { s.net with training := true, mode := fld ctrl 30 1, phy := fld ctrl 28 2 } }
       ∧ t.reg Reg.netportCtrl = ctrl &&& 0xF700FFFF#32)
     ∧ (s.canonical = true → s.net.training = true → s.net.up = false → ∃ t, exec (.netportLinkChange true) s = .next t
       ∧ t = { s with net := { s.net with up := true }, regs := t.regs, vectors := (Option.none, 4) :: s.vectors }
       ∧ t.regBit Reg.netportLink 31 = true)
     ∧ (s.net.up = false → exec (.netportLinkChange false) s = .next s))
  ∧ (∀ (s : State) (p : Packet) (q : Nat),
     (s.accepts 0 p q → p.length ≠ 0 → exec (.write p) s
       = .next ((s.accepted p q).stage p.vd.val q p p.raddr false false))
     ∧ (s.accepts 0 p q → p.length = 0 → exec (.write p) s = .next ((s.accepted p q).segComplete p.vd.val q p.msg))
     ∧ (s.accepts 1 p q → p.length ≠ 0 → exec (.reduce p) s
       = .next ((s.accepted p q).stage p.vd.val q p p.raddr false true))
     ∧ (s.accepts 1 p q → p.length = 0 → exec (.reduce p) s = .next ((s.accepted p q).segComplete p.vd.val q p.msg))
     ∧ (s.accepts 2 p q → p.aux = 0 → exec (.readReq p) s = .next ((s.accepted p q).segComplete p.vd.val q p.msg))
     ∧ (s.accepts 2 p q → p.aux ≠ 0 → exec (.readReq p) s
       = .next (((s.accepted p q).segComplete p.vd.val q p.msg).modQp p.vd.val q
           (fun r => { r with answers := r.answers ++ [⟨p.psn, p.raddr, p.aux, true⟩] })))
     ∧ (s.forPair p q → ∀ x, (s.qp p.vd.val q).readOf p = some x → p.length ≠ 0 → exec (.readResp p) s
       = .next (((s.modQp p.vd.val q (fun r => { r with expiries := 0 })).noteCe p.vd.val q p).stage
           p.vd.val q p (x.laddr + (p.raddr - x.start)) true false))
     ∧ (s.forPair p q → ∀ x, (s.qp p.vd.val q).readOf p = some x → p.length = 0 → exec (.readResp p) s
       = .next ((s.modQp p.vd.val q (fun r => { r with expiries := 0 })).noteCe p.vd.val q p))
     ∧ (s.forPair p q → (s.qp p.vd.val q).readOf p = Option.none → exec (.readResp p) s = .next (s.bump Reg.netportDrops))
     ∧ (s.forPair p q →
       ((s.vd p.vd.val).st = .contained → exec (.write p) s = .next (s.nakPacket p 5))
       ∧ ((s.vd p.vd.val).st ≠ .contained →
         ((s.qp p.vd.val q).seen p.psn = true → exec (.write p) s
           = .next (s.modQp p.vd.val q (fun r => { r with ackPending := true })))
         ∧ ((s.qp p.vd.val q).seen p.psn = false → 1023 < psnSub p.psn (s.qp p.vd.val q).epsn →
           exec (.write p) s = .next (s.nakPacket p 2))
         ∧ ((s.qp p.vd.val q).seen p.psn = false → psnSub p.psn (s.qp p.vd.val q).epsn ≤ 1023 →
           s.accessBad p.vd.val q 0 p = true → exec (.write p) s = .next (s.nakPacket p 3))))
     ∧ (s.net.up = true → p.wellFormed = false → exec (.write p) s = .next (s.bump Reg.netportDrops)))

/-- R417, R418, R427: a staged segment in its turn goes to its home slices, a WRITE as one write for each sector it touches, unless a
rebind of its device pauses its deliveries; a reduce-write that had a Nack is sent again. R418, R419: an answer of a home is
counted for its segment, and the last one frees the staging space and completes the segment or lands the READ_RESP. R421: a
pair's NAK, or else its pending ACK, is sent; one generated above 200 ticks is counted, recorded and raises PF vector 4. -/
def Obligations.DeliveryAndAcknowledgementComplete : Prop :=
  (∀ (s : State) (i : Nat) (x : Staged), s.net.staging[i]? = some x →
     (s.deliveryPaused x.vd = true → exec (.segmentDelivery i) s = .next s)
     ∧ (∀ o, s.deliveryPaused x.vd = false → s.nacked.find? (fun o => decide (o.src = .net x.id)) = some o →
       exec (.segmentDelivery i) s = .next (({ s with nacked := s.nacked.erase o }).sendHomeOp o))
     ∧ (s.deliveryPaused x.vd = false → s.nacked.find? (fun o => decide (o.src = .net x.id)) = Option.none → x.sent < x.parts →
       (s.net.staging.take i).any (fun y => decide (y.vd = x.vd) && decide (y.q = x.q) && decide (y.sent < y.parts)) = false →
         (x.reduce = false → exec (.segmentDelivery i) s = .next (s.deliverWrite x))
         ∧ (x.reduce = true → exec (.segmentDelivery i) s = .next (s.deliverReduce x))))
  ∧ (∀ a len : Nat, sumN ((sectorParts a len).map (fun p => p.2)) = len
     ∧ ∀ p ∈ sectorParts a len, 0 < p.2 ∧ (a + p.1) / 256 = (a + p.1 + p.2 - 1) / 256)
  ∧ (∀ (s u v : State) (i : Nat) (x y : Staged) (notice : Bool), s.net.ackOut[i]? = some (x.id, notice) →
     s.net.staging.find? (fun z => decide (z.id = x.id)) = some x →
     y = (if notice then { x with notices := x.notices + 1 } else { x with acked := x.acked + 1 }) →
     u = (({ s with net := { s.net with ackOut := delNth s.net.ackOut i } }).modStaged x.id (fun _ => y)).flowControl x.pkt.prio.val →
     v = { u with net := { u.net with staging := u.net.staging.filter (fun z => !decide (z.id = x.id)) } } →
     (y.acked < y.parts ∨ y.notices < y.early → exec (.networkWriteAck i) s = .next u)
     ∧ (y.parts ≤ y.acked → y.early ≤ y.notices →
       (x.resp = false → exec (.networkWriteAck i) s = .next (v.segComplete x.vd x.q x.pkt.msg))
       ∧ (x.resp = true → exec (.networkWriteAck i) s = .next (v.readLanded x.vd x.q x.pkt))))
  ∧ (∀ (s u : State) (n : Fin 256) (q : Fin 64) (ticks : Nat),
     ((s.net.naks.find? (fun y => decide (y.1 = n.val) && decide (y.2.1 = q.val)) = Option.none ∧ (s.qp n.val q.val).ackPending = true
         ∧ u = (s.modQp n.val q.val (fun r => { r with ackPending := false })).queueTx
           (.ctl n.val 4 (s.qp n.val q.val).ctx.peerQpn (s.qp n.val q.val).epsn 0 (s.qp n.val q.val).sackMap))
       ∨ (∃ y d psn code, s.net.naks.find? (fun y => decide (y.1 = n.val) && decide (y.2.1 = q.val)) = some y
         ∧ y.2.2 = .ctl n.val 5 d psn code 0
         ∧ u = (if code = 1 then (({ s with net := { s.net with naks := s.net.naks.erase y } }).queueTx y.2.2).bump Reg.netportRnr
             else ({ s with net := { s.net with naks := s.net.naks.erase y } }).queueTx y.2.2))) →
     (ticks ≤ 200 → exec (.ackSend n q ticks) s = .next u)
     ∧ (200 < ticks → exec (.ackSend n q ticks) s
       = .next (((u.bump Reg.netportAckLate).record { ErrRec.mk0 0 8 1 (s.physQp n.val q.val) with vd := some n.val }).vecPf 4)))

/-- R407, R422: a frame of the port itself goes first; then the device whose turn it is under deficit round robin sends, with its
pair after the last one that sent, among those that can send something. R406, R413, R414, R422: what a pair does on the answers of its peer, on its timers, and when it
takes a work request. -/
def Obligations.PairsSendAndFollowTheirPeers : Prop :=
  (∀ (s t u : State) (n : Fin 256), s.net.up = true → s.clock.offReady = false →
     (∀ f, s.net.tx.find? s.ctlFree = some f →
       exec (.segmentSend n) s = .next (({ s with net := { s.net with tx := s.net.tx.erase f } }).emit f))
     ∧ (∀ q d b, s.net.tx.find? s.ctlFree = Option.none → s.net.lineFree < s.lineNow + 2000 → s.drrNext = some (n, d) →
       s.nextSend n = some (q, b, t) → exec (.segmentSend n) s = .next (t.drrSent n (d - b)))
     ∧ (∀ q b, s.net.rrVd = n.val → s.nextSend n = some (q, b, t) → b ≤ s.drrDeficit n.val →
       s.drrNext = some (n, s.drrDeficit n.val))
     ∧ (∀ i q op p fs, (s.vd n.val).desc.netWeight ≠ 0 → i < 64 → q = (SMap.get (fun _ => 0) s.net.turn n.val + 1 + i) % 64 →
       (∀ j, j < i → s.trySend n ((SMap.get (fun _ => 0) s.net.turn n.val + 1 + j) % 64) = Option.none) →
       s.trySend n q = some t → t.net.sent = .data n.val q op p :: fs →
       u = { t with net := { t.net with turn := SMap.set (fun _ => 0) t.net.turn n.val q } } →
       s.nextSend n = some (q, (s.qp n.val q).ctx.frameBytes p.payload.length,
         u.sentFrame n.val q op ((s.qp n.val q).ctx.frameBytes p.payload.length)))
     ∧ (s.net.tx.find? s.ctlFree = Option.none → (∀ q, q < 64 → s.trySend n q = Option.none) → exec (.segmentSend n) s = .next s))
  ∧ (∀ (s : State) (p : Packet) (q : Nat) (n : Fin 256) (k : Fin 64),
     (s.forPair p q →
       exec (.ack p) s = .next ((s.takeAck p.vd.val q p.ackPsn p.sack.toNat).settleTimer p.vd.val q)
       ∧ (∀ x, (s.qp p.vd.val q).segs.find? (fun y => decide (y.psn = p.ackPsn)) = some x →
         (p.nakCode = 1 → exec (.nak p) s = .next (s.modQp p.vd.val q (fun r => { r with
           segs := r.segs.map (fun (y : OutSeg) => if y.psn = p.ackPsn then { y with sacked := false } else y) })))
         ∧ (p.nakCode = 2 → exec (.nak p) s = .next (s.failPair p.vd.val q 2 (some x.wr)))
         ∧ (p.nakCode = 3 → exec (.nak p) s = .next (s.failPair p.vd.val q 1 (some x.wr)))
         ∧ (p.nakCode = 4 → exec (.nak p) s = .next (s.failPair p.vd.val q 2 (some x.wr)))
         ∧ (p.nakCode = 5 → exec (.nak p) s = .next (s.failPair p.vd.val q 3 (some x.wr))))
       ∧ ((s.qp p.vd.val q).lastCut + 1000 ≤ s.time.toNat → exec (.cnp p) s = .next (s.modQp p.vd.val q (fun r =>
           { r with rate := max (r.rate / 2) 1, lastCut := s.time.toNat, rateAt := s.time.toNat })))
       ∧ (s.time.toNat < (s.qp p.vd.val q).lastCut + 1000 → exec (.cnp p) s
         = .next (s.modQp p.vd.val q (fun r => { r with rateAt := s.time.toNat }))))
     ∧ ((s.qp n.val k.val).st = .armed → (s.qp n.val k.val).rateAt + 2000 ≤ s.time.toNat → exec (.rateIncrease n k) s
       = .next (s.modQp n.val k.val (fun r => { r with rate := min (r.rate + 64) 1024, rateAt := s.time.toNat })))
     ∧ (s.timerRuns n.val k.val = true → (∀ at', (s.qp n.val k.val).timer = some at' → at' ≤ s.time.toNat) →
       ((s.qp n.val k.val).expiries < 7 → exec (.retransmissionTimeout n k) s
         = .next (s.modQp n.val k.val (fun r => { r.resend with
             expiries := r.expiries + 1, timer := some (s.time.toNat + s.rtoTicks) })))
       ∧ (7 ≤ (s.qp n.val k.val).expiries → (s.qp n.val k.val).path = 0 → (s.qp n.val k.val).ctx.udpSrc1 ≠ 0 →
         exec (.retransmissionTimeout n k) s = .next (s.modQp n.val k.val (fun r => { r.resend with
             expiries := 0, path := 1, timer := some (s.time.toNat + s.rtoTicks) })))
       ∧ (7 ≤ (s.qp n.val k.val).expiries → (s.qp n.val k.val).ctx.udpSrc1 = 0 →
         exec (.retransmissionTimeout n k) s = .next (s.failPair n.val k.val 4 Option.none)))
     ∧ (∀ w u, (s.qp n.val k.val).st = .armed → s.clock.downBusy = false → s.clock.offReady = false →
       s.qpSqHead n.val k.val ≠ s.qpSqTail n.val k.val → (s.qp n.val k.val).wrs.any (fun w => !w.allCut) = false →
       (s.qp n.val k.val).wrs.length < s.cqRoom n.val k.val → (s.vd n.val).st ≠ .contained →
       w = { parseWork (s.qpSqHead n.val k.val) (s.devRead n.val ((s.qp n.val k.val).ctx.sqBase + 64 * s.qpSqHead n.val k.val) 64)
         with msg := (s.qp n.val k.val).nextMsg } →
       u = ((s.devSeen n.val ((s.qp n.val k.val).ctx.sqBase + 64 * s.qpSqHead n.val k.val) 64).setRegFld
           (Reg.transportQpSqHead n.val k.val) 0 16
           ((s.qpSqHead n.val k.val + 1) % (s.qp n.val k.val).size)).modQp n.val k.val
         (fun r => { r with wrs := r.wrs ++ [w], nextMsg := (r.nextMsg + 1) % 2 ^ 16 }) →
       exec (.workRequestFetch n k) s
         = .next (if u.workBad n.val w then u.failPair n.val k.val 6 (some (s.qpSqHead n.val k.val)) else u.openGates n.val)))

/-- R410, R411, R415: ARM and RESET of a queue pair, its doorbell and its completion heads. -/
def Obligations.PairsArmPostAndReset : Prop :=
  ∀ (s : State) (n : Fin 256) (q : Fin 64) (addr : Nat) (w : W32) (recv : Bool), s.pairHere n.val q.val = true →
    (s.canonical = true → addr = s.reg64 (Reg.transportQpCtx n.val q.val) % 2 ^ 48 / 128 * 128 →
      (s.qp n.val q.val).st = .reset → s.ownsAddr n.val addr = true → s.armRefused n.val (s.devRead n.val addr 128) = false →
      ∃ t, exec (.arm n q) s = .next t
        ∧ t = { s.devSeen n.val addr 128 with regs := t.regs, net := { (s.devSeen n.val addr 128).net with qps := t.net.qps } }
        ∧ (t.qp n.val q.val).st = .armed ∧ (t.qp n.val q.val).ctx = parseCtx (s.devRead n.val addr 128)
        ∧ (t.qp n.val q.val).nextPsn = (parseCtx (s.devRead n.val addr 128)).sendPsn0
        ∧ (t.qp n.val q.val).epsn = (parseCtx (s.devRead n.val addr 128)).recvPsn0 ∧ (t.qp n.val q.val).segs = []
        ∧ t.regFld (Reg.transportQpStatus n.val q.val) 16 8 = 0
        ∧ t.qpSqTail n.val q.val = 0 ∧ t.qpSqHead n.val q.val = 0 ∧ t.qpCqTail n.val q.val = 0 ∧ t.qpCqHead n.val q.val = 0)
    ∧ ((s.qp n.val q.val).st ≠ .reset → exec (.arm n q) s = .next (s.setRegFld (Reg.transportQpCmd n.val q.val) 0 1 0))
    ∧ exec (.reset n q) s = .next (((s.setRegFld (Reg.transportQpCmd n.val q.val) 0 1 1).flushWork n.val q.val
        (fun _ => 5)).modQp n.val q.val (fun _ => Qp.rest))
    ∧ (s.postRefused n.val q.val (fld w 0 16) = true →
      exec (.qpDoorbell n q w) s = .next (s.setRegBit (Reg.transportQpStatus n.val q.val) 27 true))
    ∧ (s.postRefused n.val q.val (fld w 0 16) = false → w.toNat < 2 ^ 16 →
      exec (.qpDoorbell n q w) s = .next (s.setRegFld (Reg.transportQpSqTail n.val q.val) 0 16 w.toNat))
    ∧ ((s.qp n.val q.val).size ≤ fld w 0 16 →
      exec (.qpCqHeadWrite n q recv w) s = .next (s.setRegBit (Reg.transportQpStatus n.val q.val) 26 true))
    ∧ (w.toNat < (s.qp n.val q.val).size → w.toNat < 2 ^ 16 →
      (w.toNat + (s.qp n.val q.val).size - s.qpCqHead n.val q.val) % (s.qp n.val q.val).size
        ≤ (s.qpCqTail n.val q.val + (s.qp n.val q.val).size - s.qpCqHead n.val q.val) % (s.qp n.val q.val).size →
      exec (.qpCqHeadWrite n q false w) s = .next (s.setRegFld (Reg.transportQpCqHead n.val q.val) 0 16 w.toNat))
    ∧ (∀ old tail, w.toNat < (s.qp n.val q.val).size → w.toNat < 2 ^ 16 →
      old = s.regFld (Reg.transportQpRcqHead n.val q.val) 0 16 → tail = s.regFld (Reg.transportQpRcqTail n.val q.val) 0 16 →
      (w.toNat + (s.qp n.val q.val).size - old) % (s.qp n.val q.val).size
        ≤ (tail + (s.qp n.val q.val).size - old) % (s.qp n.val q.val).size →
      exec (.qpCqHeadWrite n q true w) s = .next (s.setRegFld (Reg.transportQpRcqHead n.val q.val) 0 16 w.toNat))

/-! Power -/

/-- R430, R433: a REPORT whose CRC-32C holds is noted for its die, with the grant in force there as its GRANT_ACK; a GRANT whose
CRC-32C holds is in force on its die; a message whose check fails is discarded and counted; a compute die without a valid GRANT
in three exchanges takes the floor grant. R431: the shares of the cap. The five dies without an actuator are granted their
power plus 2 W; what is left goes to the compute dies: the floor grant each where it does not cover them, else the floor grant
and a share of the rest in proportion to what each wants, and never more than it wants. -/
def Obligations.GrantsStayWithinThePool : Prop :=
  (∀ (d : Fin 17) (r : ReportMsg) (s u : State), s.clocksOn = true →
     u = s.modPdie d.val (fun b => { b with nextSeq := (b.nextSeq + 1) % 65536 }) →
     (r.err = ⟨0, 0⟩ → exec (.report d r) s = .next (u.modPdie d.val (fun b => { b with
       power := r.power % 65536, demand := r.demand % 65536, ack := (s.pdie d.val).dieGrant.getD 0 % 65536
       seq := (s.pdie d.val).nextSeq % 65536, rep := .good })))
     ∧ (msgCrc (s.reportBody d.val r ^^^ r.err.body) ≠ msgCrc (s.reportBody d.val r) ^^^ r.err.crc → exec (.report d r) s
       = .next ((u.bump Reg.powerMsgLost).modPdie d.val (fun b => { b with rep := .bad }))))
  ∧ (∀ (d : Fin 17) (m : GrantMsg) (rest : List GrantMsg) (err : LaneErr) (s u v : State), (s.pdie d.val).msgs = m :: rest →
     u = s.modPdie d.val (fun b => { b with msgs := rest }) →
     v = u.modPdie d.val (fun b => { b with
       dieGrant := some (m.grant % 65536), eta := m.eta % 256, got := true, missed := 0, dieFloor := m.floor }) →
     (err = ⟨0, 0⟩ → exec (.grant d err) s = .next (if m.floor = true ∧ d.val < 12 then v.setSluice d.val else v))
     ∧ (msgCrc (m.body d.val ^^^ err.body) ≠ msgCrc (m.body d.val) ^^^ err.crc →
       exec (.grant d err) s = .next (u.bump Reg.powerMsgLost)))
  ∧ (∀ (c : Fin 12) (s : State), s.clocksOn = true → 3 ≤ (s.pdie c.val).missed → exec (.grantTimeout c) s
     = .next (s.modPdie c.val (fun b => { b with dieGrant := some s.floorGrant })))
  ∧ (∀ s : State,
     (s.budgetPool ≤ (12 * s.floorGrant : Nat) → s.budgetGrants = (List.replicate 12 s.floorGrant, true))
     ∧ ((12 * s.floorGrant : Nat) < s.budgetPool → s.budgetGrants.2 = false ∧ s.budgetGrants.1.length = 12
       ∧ ((sumN s.budgetGrants.1 : Nat) : Int) ≤ s.budgetPool
       ∧ ∀ c, c < 12 → s.floorGrant ≤ nth 0 s.budgetGrants.1 c
           ∧ nth 0 s.budgetGrants.1 c ≤ max (s.pdie c).wants s.floorGrant))

/-- R432: in an exchange a lower grant goes out at once; while a lowered grant is not acknowledged no compute die gets a higher
one than it was last sent. -/
def Obligations.RaisedGrantsWaitForLoweredOnes : Prop :=
  ∀ (s : State) (inputPower eta : Nat), s.clocksOn = true →
    ∃ t, exec (.budgetExchange inputPower eta) s = .next t
      ∧ t = { s with regs := t.regs, power := t.power }
      ∧ t.power.energy = s.power.energy + min inputPower 65535
      ∧ t.power.floor = (s.power.floor && s.floorCause)
      ∧ ∀ c x, c < 12 → (s.pdie c).sent = some x →
        ((t.pdie c).sent = some (if nth 0 s.budgetGrants.1 c < x then nth 0 s.budgetGrants.1 c else x)
          ∨ ((t.pdie c).sent = some (nth 0 s.budgetGrants.1 c) ∧ ∀ e ∈ s.power.lowered, s.lowerAcked e = true))

/-- R435: the budget term after a loop, from the measured power referred to the input; and the loop of a compute die below its
temperature limit sets it, the thermal term and the settings of its cores (R434, R441). -/
def Obligations.BudgetTermFollowsTheGrant : Prop :=
  (∀ nb p g : Nat, 1 ≤ nb → nb ≤ 64 →
     (g < p → budgetTerm nb p g = max (nb - max 1 (nb * (p - g) / p)) 1 ∧ (1 < nb → budgetTerm nb p g < nb))
     ∧ (p ≤ g → p ≤ g - g / 64 → budgetTerm nb p g = min (nb + 1) 64)
     ∧ (p ≤ g → g - g / 64 < p → budgetTerm nb p g = nb)
     ∧ 1 ≤ budgetTerm nb p g ∧ budgetTerm nb p g ≤ 64
     ∧ ∀ draw power eta, eta ≠ 0 → inputReferred draw power eta = power * 256 / eta)
  ∧ (∀ (d : Fin 17) (power temp g : Nat) (s u : State), s.clocksOn = true → d.val < 12 → temp ≤ 105 → (s.pdie d.val).hot = false →
     (s.pdie d.val).dieGrant = some g → (s.pdie d.val).eta ≠ 0 →
     u = { s with freeCtr := s.freeCtr + 1 }.modPdie d.val (fun b => { b with temp := temp % 256 }) →
     exec (.sluiceLoop d power temp) s = .next (((u.modPdie d.val (fun b => { b with
         nb := budgetTerm (u.pdie d.val).nb (inputReferred s.freeCtr power (u.pdie d.val).eta) ((u.pdie d.val).dieGrant.getD g)
         nt := thermalTerm (u.pdie d.val).nt temp (u.pdie (12 + d.val / 3)).temp })).setSluice d.val).modPdie d.val
           (fun b => { b with droop := false })))

/-- R434: the setting of a core is the least of the terms, and never 0. -/
def Obligations.SluiceSettingIsTheLeastTerm : Prop :=
  ∀ (s : State) (c : Nat) (b : DieBudget), 1 ≤ b.nb → 1 ≤ b.nt → b.nb ≤ 64 →
    1 ≤ s.sluiceN c b ∧ s.sluiceN c b ≤ 64 ∧ s.sluiceN c b ≤ b.nb ∧ s.sluiceN c b ≤ b.nt
    ∧ s.sluiceN c b ≤ clampN (s.regFld (Reg.powerCore c) 0 7)
    ∧ (b.dieFloor = true → s.sluiceN c b ≤ clampN (s.regFld Reg.powerFloor 0 7))
    ∧ (b.droop = true → s.sluiceN c b ≤ 16)
    ∧ (b.dieFloor = false → b.droop = false →
      s.sluiceN c b = min (min b.nb b.nt) (clampN (s.regFld (Reg.powerCore c) 0 7)))

/-- R436, R438, R439, R440: what the dies report at any time. R436, R437: CAP_UNMET sets and PF vector 2 is raised where
for 1 ms every compute die in service is at 1 and the module draws more than its cap; a cause of the floor power state that goes leaves it
standing until the next exchange. R442, R443: the supply warning and THROTTLE_N, with their counters and PF vector 2, where
no VF is enabled. R441, R442, R454: a thermal trip switches the rails off for good; a supply reset runs start-up from step 3
once it ends. -/
def Obligations.PowerEventsComplete : Prop :=
  (∀ (d : Fin 12) (k : Fin 8) (allowed : List Nat) (s : State),
     (s.clocksOn = true → (s.pdie d.val).stretched = false → exec (.droop d k) s
       = .next (((s.bump (Reg.powerDieStretch d.val)).modPdie d.val (fun b => { b with stretched := true, droop := true })).setSluice
           d.val))
     ∧ (s.clocksOn = true → (s.pdie d.val).stretched = true → exec (.droop d k) s
       = .next ((s.modPdie d.val (fun b => { b with stretched := true, droop := true })).setSluice d.val))
     ∧ exec (.stretchEnd d) s = .next (s.modPdie d.val (fun b => { b with stretched := false }))
     ∧ ((s.pdie d.val).stretched = true → exec (.stretchLimit d) s = .next (s.fatal (ErrRec.mk0 2 0x0A 3 d.val)))
     ∧ (s.clocksOn = true → s.power.trimAt + 360000000000 ≤ s.time.toNat → exec (.ageingTrim allowed) s
       = .next ((List.range 17).foldl (fun s e => s.lowerTrim e (nth 7 allowed e))
           { s with power := { s.power with trimAt := s.time.toNat } })))
  ∧ (∀ s : State,
     ((∀ d, d < 12 → s.cdInService d = true → (s.pdie d).nb = 1) → s.capWatts * 8 < s.regFld Reg.powerInput 0 16 →
       s.overCap = some (s.power.capOver.getD (s.time.toNat, false)))
     ∧ (∀ since, s.clocksOn = true → s.power.capOver = some (since, false) → since + 100000 ≤ s.time.toNat →
       exec .capUnmet s = .next ((State.setRegBit { s with power := { s.power with capOver := some (since, true) } }
         Reg.powerStatus 27 true).vecPf 2))
     ∧ (s.portServes = true → exec (.forceFloor true) s = .next ((s.setRegBit Reg.powerCtrl 0 true).floorEnter))
     ∧ (s.canonical = true → s.portServes = true → s.clocksOn = true → s.power.floor = false →
       ∃ t, exec (.forceFloor true) s = .next t ∧ t.power.floor = true ∧ t.regBit Reg.powerCtrl 0 = true
         ∧ t = { s with regs := t.regs, power := t.power })
     ∧ (s.portServes = true → s.power.floor = true →
       exec (.forceFloor false) s = .next (s.setRegBit Reg.powerCtrl 0 false)))
  ∧ (∀ (s : State) (vin : Nat), s.monitors = true → s.host.vfEnable = false →
     (s.power.supplyWarn = false → vin < s.warnLevel → exec (.supplyWarn vin) s
       = .next (((({ s with power := { s.power with supplyWarn := true, vin := vin } }).bump Reg.powerWarnCount).floorEnter).vecPf 2))
     ∧ (s.power.supplyWarn = true → s.warnLevel + 10 ≤ vin → exec (.supplyOk vin) s
       = .next { s with power := { s.power with supplyWarn := false, vin := vin } })
     ∧ (s.side.vrefGood = true → s.power.throttle = false → s.clock.mode ≠ .recovery → exec .throttle s
       = .next (((({ s with power := { s.power with throttle := true, throttleAt := s.time.toNat, throttleEvent := s.time.toNat } }).bump Reg.powerThrottleCount).floorEnter).vecPf 2))
     ∧ (s.power.throttle = true → s.power.throttleAt + 5000 ≤ s.time.toNat → exec .throttleRelease s
       = .next { s with power := { s.power with throttle := false } })
     ∧ (s.power.throttle = true → s.power.throttleEvent + 100000000 ≤ s.time.toNat → exec .throttleRepeat s
       = .next (({ s with power := { s.power with throttleEvent := s.power.throttleEvent + 100000000 } }).vecPf 2)))
  ∧ (∀ (s : State) (d : Fin 17) (temp vin : Nat), s.monitors = true →
     (115 ≤ temp → ∃ t, exec (.thermalTrip d temp) s = .next t ∧ t.power.tripped = true ∧ t.clock.mode = .off
       ∧ t.clock.gated = true ∧ t.regBit Reg.errorStickyStatus 31 = true ∧ t.cores = [] ∧ t.vds = [] ∧ t.mem = [] ∧ t.monitors = false)
     ∧ (vin < 400 → s.power.supplyReset = false → s.clock.mode ≠ .recovery →
       ∃ t, exec (.supplyReset vin) s = .next t ∧ t.power.supplyReset = true ∧ t.power.vin = vin ∧ t.clock.mode = .starting
         ∧ t.clock.step = min s.clock.step 2 ∧ t.vds = [] ∧ t.cores = [] ∧ t.slices = [] ∧ t.regFld Reg.clocktimeCause 28 4 = 1))

/-! Clocks, resets and start-up -/

/-- R451, R454: power-good after a power loss starts the time base at zero, clears the registers and runs start-up from step 1;
a power loss leaves the peat store's copies, calibration set and journal, and the factory facts. R456: a step of start-up
runs only when start-up runs and the step before it has ended; step 3 waits for PERST_N, the CXL link and the supply to
leave their reset states. -/
def Obligations.PowerOnAndStartRunInOrder : Prop :=
  (∀ (s : State) (high above41 : Bool) (e : StartEnv),
     (s.clock.powered = false → ∃ t, exec (.powerOn ⟨high, above41⟩ e) s = .next t ∧ t.time = 0 ∧ t.clock.powered = true
       ∧ t.clock.xtalOk = true ∧ t.fac = s.fac
       ∧ (e.lastStep = 0 → t.clock.mode = .starting ∧ t.clock.step = 0 ∧ t.clock.held = !high ∧ t.power.supplyReset = !above41 ∧ t.regs = [] ∧ t.vds = []
           ∧ t.cores = [] ∧ t.mem = [] ∧ t.err.waiting = [] ∧ t.err.seq = 0))
     ∧ (s.clock.powered = true → flashNow s.peat.ops = Option.none → ∃ t, exec .powerLoss s = .next t ∧ t.clock = .rest
       ∧ t.power = .rest ∧ t.fac = s.fac ∧ t.regs = [] ∧ t.vds = [] ∧ t.peat.ring = s.peat.ring ∧ t.peat.fatal = s.peat.fatal))
  ∧ (∀ (s : State) (e : StartEnv) (k : Nat),
     (s.clock.mode ≠ .starting → s.startStep e k = s)
     ∧ (s.clock.step + 1 ≠ k → s.startStep e k = s)
     ∧ (s.clock.held = true ∨ s.clock.linkReset = true ∨ s.power.supplyReset = true → s.startStep e 3 = s)
     ∧ (s.clock.mode = .starting → s.clock.step = 9 → (s.startStep e 10).clock.mode = .full
         ∧ (s.startStep e 10).clock.step = 10 ∧ (s.startStep e 10).clock.resets5 = 0)
     ∧ (s.clock.mode = .starting → s.clock.step = 0 → e.selfTestOk = false → (s.startStep e 1).clock.mode = .recovery)
     ∧ (s.clock.mode = .starting → s.clock.step = 3 → e.pllOk = false → (s.startStep e 4).clock.mode = .recovery))

/-- R454, R455: what a PERST_N assertion, a CXL hot reset and a requested steward module reset do, and where start-up is taken
up again. R454, R461: a module-wide reset ends every device and set, empties every cache, queue and queue pair, keeps the
journal, the firmware sets and the factory facts, and leaves its kind and the count of resets in CLOCKTIME_CAUSE. -/
def Obligations.ResetsDiscardEverythingVolatile : Prop :=
  (∀ (s : State) (e : StartEnv), s.monitors = true →
     (s.clock.held = false → s.clock.mode ≠ .recovery → exec .perstNAssert s
       = .next { s.moduleReset 2 keepsReset 3 with clock := { (s.moduleReset 2 keepsReset 3).clock with held := true } })
     ∧ (s.clock.held = true → exec (.perstNRelease e) s
       = .next (({ s with clock := { s.clock with held := false } }).startup e))
     ∧ exec .perstNGlitch s = .next (s.bump Reg.clocktimePerstGlitch)
     ∧ (s.linkUp = true → s.clock.linkReset = false → exec .cxlHotReset s
       = .next { s.moduleReset 3 keepsReset 3 with clock := { (s.moduleReset 3 keepsReset 3).clock with linkReset := true } })
     ∧ (s.clock.linkReset = true → exec (.linkResetStateExit e) s
       = .next (({ s with clock := { s.clock with linkReset := false } }).startup e))
     ∧ (s.power.supplyReset = true → exec (.supplyResetEnd e) s
       = .next (({ s with power := { s.power with supplyReset := false } }).startup e))
     ∧ (s.portServes = true → exec (.moduleReset e) s = .next ((s.stewardReset 4).startup e))
     ∧ (2 ≤ s.clock.step → exec (.firmwareWatchdog e) s = .next (({ s.stewardReset 5 with clock :=
         { (s.stewardReset 5).clock with resets5 := (s.stewardReset 5).clock.resets5 + 1 } }).startup e))
     ∧ (s.clock.begun = true → ∀ k bus next, s.clock.phys = some e → k ≤ 10 → exec (.configurationRequest ⟨k, bus, next⟩) s
       = .next (State.startTo (if s.host.crs then s else { s with host := { s.host with pfBus := bus.toNat, nextBus := next } }) e k)))
  ∧ (∀ (s : State) (kind k : Nat), kind < 8 →
     (s.moduleReset kind keepsReset k).cores = [] ∧ (s.moduleReset kind keepsReset k).slices = []
     ∧ (s.moduleReset kind keepsReset k).dies = [] ∧ (s.moduleReset kind keepsReset k).msgs = []
     ∧ (s.moduleReset kind keepsReset k).vds = [] ∧ (s.moduleReset kind keepsReset k).sets = []
     ∧ (s.moduleReset kind keepsReset k).net = .rest ∧ (s.moduleReset kind keepsReset k).mem = []
     ∧ (s.moduleReset kind keepsReset k).time = s.time ∧ (s.moduleReset kind keepsReset k).fac = s.fac
     ∧ (s.moduleReset kind keepsReset k).peat.ring = s.peat.ring ∧ (s.moduleReset kind keepsReset k).peat.copies = s.peat.copies
     ∧ (s.moduleReset kind keepsReset k).fw.setA = s.fw.setA ∧ (s.moduleReset kind keepsReset k).fw.setB = s.fw.setB
     ∧ (s.moduleReset kind keepsReset k).clock.mode = .starting
     ∧ (s.moduleReset kind keepsReset k).clock.step = min s.clock.step (k - 1)
     ∧ (s.moduleReset kind keepsReset k).reg Reg.clocktimeCause
         = BitVec.ofNat 32 (kind * 2 ^ 28 + satAdd 0xFFFF (s.regFld Reg.clocktimeCause 0 16) 1))

/-- R460: a request for orderly power-down sets DOWN_BUSY and stops every running job; once everything accepted is drained the
clocks are gated and OFF_READY sets. -/
def Obligations.PowerDownDrainsThenGates : Prop :=
  ∀ s : State,
    (s.portServes = true → s.clock.downBusy = false → s.clock.offReady = false →
      ∃ t, exec .powerDown s = .next t ∧ t.clock = { s.clock with downBusy := true } ∧ t.mem = s.mem ∧ t.regs = s.regs)
    ∧ (s.clock.downBusy = true → s.downDrained = true → exec .offReady s
      = .next { s with clock := { s.clock with downBusy := false, offReady := true, gated := true } })
    ∧ (s.clock.downBusy = true → s.downDrained = false → exec .offReady s = .next s.downDrain)

/-- R450, R462: a crystal failure before step 4 has ended means recovery mode; after it, and a loss of PLL lock after it, is
module-fatal. R511, R512: a module-fatal error leaves its record in the sticky registers where they hold none, and the
steward performs a steward module reset with cause 6. -/
def Obligations.FatalErrorsEndInAStewardReset : Prop :=
  (∀ s : State, s.monitors = true → s.clock.mode ≠ .recovery →
     (s.clock.step < 4 → exec .crystalFailure s = .next { s with clock := { s.clock with xtalOk := false, mode := .recovery } })
     ∧ (4 ≤ s.clock.step → exec .crystalFailure s
       = .next (State.fatal { s with clock := { s.clock with xtalOk := false } } (ErrRec.mk0 2 0x0B 8 0)))
     ∧ (s.clock.step < 4 → exec .pllLockLoss s = .next { s with clock := { s.clock with pllLock := false } })
     ∧ (4 ≤ s.clock.step → exec .pllLockLoss s
       = .next (State.fatal { s with clock := { s.clock with pllLock := false } } (ErrRec.mk0 2 0x0B 9 0))))
  ∧ (∀ (s : State) (r : ErrRec), s.canonical = true →
     (s.fatal r).clock.mode = .starting ∧ (s.fatal r).clock.step = 0 ∧ (s.fatal r).regFld Reg.clocktimeCause 28 4 = 6
     ∧ (s.fatal r).regBit Reg.errorStickyStatus 31 = true ∧ (s.fatal r).peat.carried = s.peat.waiting.length
     ∧ (s.fatal r).vds = [] ∧ (s.fatal r).cores = []
     ∧ (s.regBit Reg.errorStickyStatus 31 = true →
         (∀ i, i < 24 → (s.fatal r).reg (Reg.errorStickyRec i) = s.reg (Reg.errorStickyRec i))
         ∧ (s.fatal r).regFld Reg.errorStickyStatus 0 16 = satAdd 0xFFFF (s.regFld Reg.errorStickyStatus 0 16) 1))

/-! Errors, containment and reporting -/

/-- R21, R234, R268, R299, R315, R424, R503, R504: what a detected error does, by the structure it hits: the owner is contained,
a refetchable line is dropped, a structure shared by devices stops the module, and a corrected error is counted. R509, R510,
R512, R516, R519: release of a contained device, the sticky registers and the queue heads. -/
def Obligations.DetectedErrorsActByStructure : Prop :=
  (∀ (s : State) (c : Fin 96) (cd : Fin 12) (b : Fin 4) (ch : Fin 80) (i : Fin 512) (n : Fin 256) (l line : Nat) (x : Fin 16)
     (syn : BitVec 16) (y : Fin 67108864), s.clocksOn = true →
     exec (.uncorrectableError (.tileStore c) syn) s = .next ((s.containCore c.val 1 syn.toNat).modCore c.val Core.dropMma)
     ∧ exec (.uncorrectableError (.instrBuffer c l) syn) s
       = .next (s.refetch c.val 6 syn.toNat (fun k => { k with ibuf := dropCLine k.ibuf l }))
     ∧ exec (.uncorrectableError (.landingBuffer (.slice i) n) syn) s
       = .next (s.contain n.val [] [] { ErrRec.mk0 1 4 9 i.val with detail := syn.toNat })
     ∧ exec (.uncorrectableError (.schedShared b) syn) s = .next (s.fatal { ErrRec.mk0 2 9 2 b.val with detail := syn.toNat })
     ∧ (∀ u, onBond cd.val u = true → exec (.bondFault cd u) s = exec (.uncorrectableError u 0) s)
     ∧ (∀ t, s.loseSector i.val line x.val (fun y => decide (y ≠ .i)) = some t →
       exec (.sliceUncorrectable i .dataArray line x) s = .next (t.sliceContain i.val 1 line x.val true))
     ∧ exec (.sliceUncorrectable i .tag line x) s = .next (s.fatal (ErrRec.mk0 2 4 6 i.val))
     ∧ (∀ m, (s.die cd.val).merge[l]? = some m →
       exec (.coherenceUncorrectable cd .mergeEntry l) s = .next (s.mergeEntryError cd.val m))
     ∧ exec (.coherenceUncorrectable cd .directory i.val) s = .next (s.fatal (ErrRec.mk0 2 4 6 i.val))
     ∧ ((s.chan ch.val).fault y.val ≠ .uncorrectable → exec (.correctedError (.memoryUnit ch y)) s
       = .next (s.modChan ch.val (fun k => k.setFault y.val .corrected)))
     ∧ ((s.chan ch.val).fault y.val = .uncorrectable → exec (.correctedError (.checkBurst ch y)) s
       = .next (s.modChan ch.val (fun k => k)))
     ∧ exec (.correctedError .fecCorrected) s = .next (s.bump Reg.netportFecCorr))
  ∧ (∀ (s : State) (n : Fin 256) (sev : Fin 3) (h : W32), s.canonical = true → s.portServes = true →
     ((s.vd n.val).st ≠ .contained → s.err.release = Option.none → ∃ t, exec (.release n) s = .next t
       ∧ t.regFld Reg.errorContainStatus 0 8 = 1 ∧ t = { s with regs := t.regs })
     ∧ ((s.vd n.val).st = .contained → s.err.release = Option.none → s.suspectsOf n.val = [] → ∃ t, exec (.release n) s = .next t
       ∧ t.err.release = some ⟨n.val, []⟩ ∧ t.regBit Reg.errorContainStatus 31 = true
       ∧ t = { s with regs := t.regs, err := { s.err with release := t.err.release } })
     ∧ (∀ r, s.err.release = some r → r.scrub = [] → ∃ t, exec .releaseEnd s = .next t ∧ t.err.release = Option.none
       ∧ (t.vd r.vd).st = .active ∧ t.regFld Reg.errorContainStatus 30 2 = 1 ∧ t.regFld Reg.errorContainStatus 0 8 = 0
       ∧ t = { s with regs := t.regs, vds := t.vds, err := t.err })
     ∧ (∃ t, exec .stickyClear s = .next t ∧ t = { s with regs := t.regs } ∧ t.reg Reg.errorStickyStatus = 0
       ∧ (∀ i, i < 24 → t.reg (Reg.errorStickyRec i) = 0)
       ∧ ∀ k, k < Reg.errorStickyStatus → t.reg k = s.reg k)
     ∧ (h.toNat < 128 → (h.toNat + 128 - s.qHead sev.val) % 128 ≤ (s.qTail sev.val + 128 - s.qHead sev.val) % 128 →
       exec (.errorQueueHeadWrite sev h) s = .next (s.setReg (Reg.errorQHead sev.val) h))
     ∧ ((s.qTail sev.val + 128 - s.qHead sev.val) % 128 < (fld h 0 7 + 128 - s.qHead sev.val) % 128 →
       exec (.errorQueueHeadWrite sev h) s = .next (s.bump Reg.errorRsvdWrites)))

/-- R505, R506, R507, R510: containment leaves its device contained, writes a contained record for it, withholds the named
extents as suspect, and changes no other device's state. -/
def Obligations.ContainmentFencesItsDevice : Prop :=
  ∀ (s : State) (n : Nat) (r : ErrRec), (s.vd n).st = .active → s.err.waiting.length < 256 →
    ((s.contain n [] [] r).vd n).st = .contained
    ∧ (∀ m, m ≠ n → ((s.contain n [] [] r).vd m).st = (s.vd m).st)
    ∧ (s.contain n [] [] r).pool = s.pool ∧ (s.contain n [] [] r).mem = s.mem
    ∧ (∃ e, (s.contain n [] [] r).err.waiting = s.err.waiting ++ [e] ∧ e.sev = 1 ∧ e.vd = some n ∧ e.cls = r.cls
      ∧ e.unit = r.unit ∧ e.cause = r.cause ∧ e.time = s.time.toNat)
    ∧ ∀ d e : Nat, (s.extent e).st = .owned → (s.contain n [e] [] r).mem = s.mem
      ∧ ((s.contain n [e] [] r).extent e).st = .suspect ∧ (d ≠ e → (s.contain n [e] [] r).extent d = s.extent d)

/-- R515, R517, R518: a waiting record is captured, also while one of a lower severity is handled; the record at work goes to its
PF queue and the ERRLOG of its device, a FAULT record to the ERRLOG alone, raises PF vector 1, and is submitted to the journal,
one step after the other. R516: the queue of a severity. A corrected record merges into the newest unread entry of its CLASS, UNIT and CAUSE, whose
COUNT alone changes, and takes no number; another record takes the entry at TAIL, and where 64 are unread it is counted
lost. -/
def Obligations.RecordsGoToTheQueueOfTheirSeverity : Prop :=
  ∀ (s : State) (r : ErrRec), s.canonical = true → r.sev < 3 →
    (s.nextRecord = some r → s.err.handling = [] → exec .recordHandling s
      = .next { s with err := { s.err with waiting := s.err.waiting.erase r, handling := [(r, 1)] } })
    ∧ (∀ x k rest, s.nextRecord = some r → s.err.handling = (x, k) :: rest → x.sev < r.sev → exec .recordHandling s
      = .next { s with err := { s.err with waiting := s.err.waiting.erase r, handling := (r, 1) :: (x, k) :: rest } })
    ∧ (∀ k rest, s.err.handling = (r, k) :: rest → (∀ w, s.nextRecord = some w → w.sev ≤ r.sev) →
      (k < 3 → r.cls ≠ 1 → r.vd = Option.none → exec .recordHandling s
        = .next ((s.toQueue r).2.setHandling (((s.toQueue r).1, 3) :: rest)))
      ∧ (∀ n, k < 3 → r.cls ≠ 1 → r.vd = some n → exec .recordHandling s
        = .next (((s.toQueue r).2.toErrlog n (s.toQueue r).1).setHandling (((s.toQueue r).1, 3) :: rest)))
      ∧ (∀ n, k < 3 → r.cls = 1 → r.vd = some n → exec .recordHandling s
        = .next ((s.nextSeq.toErrlog n { r with seq := s.err.seq }).setHandling (({ r with seq := s.err.seq }, 3) :: rest)))
      ∧ (k = 3 → r.cls ≠ 1 → r.sev ≠ 0 → exec .recordHandling s = .next ((s.vecPf 1).setHandling ((r, 4) :: rest)))
      ∧ (3 < k → r.cls ≠ 1 → exec .recordHandling s
        = .next ((s.journal 0 r.sev r.cls (r.bytes ++ r.note)).setHandling rest)))
    ∧ (∀ e, s.mergeInto r = some e → (s.toQueue r).2 = s.bumpFld (qRec 0 e + 4) 0 16 1
      ∧ r.sev = 0 ∧ e = (s.qTail 0 + 63) % 64 ∧ s.regFld (qRec 0 e) 0 16 = r.cls * 256 + r.cause
      ∧ s.regFld (qRec 0 e + 4) 16 16 = r.unit ∧ s.qHead 0 ≠ s.qTail 0)
    ∧ (s.mergeInto r = Option.none → (s.qTail r.sev + 128 - s.qHead r.sev) % 128 = 64 →
      (s.toQueue r).2 = s.nextSeq.bump (Reg.errorQLost r.sev))
    ∧ (s.mergeInto r = Option.none → (s.qTail r.sev + 128 - s.qHead r.sev) % 128 ≠ 64 →
      (s.toQueue r).1 = { r with seq := s.err.seq }
      ∧ (s.toQueue r).2.err = s.nextSeq.err
      ∧ (s.toQueue r).2.qTail r.sev = (s.qTail r.sev + 1) % 128
      ∧ (∀ i, i < 24 → (s.toQueue r).2.reg (qRec r.sev (s.qTail r.sev % 64) + 4 * i)
          = nth 0 (ErrRec.words { r with seq := s.err.seq } Option.none) i)
      ∧ ∀ q j i, q < 3 → j < 64 → i < 24 → (q ≠ r.sev ∨ j ≠ s.qTail r.sev % 64) →
          (s.toQueue r).2.reg (qRec q j + 4 * i) = s.reg (qRec q j + 4 * i))

/-! The peat store, firmware and sideband -/

/-- R468, R472, R474, R478, R479: an operation of CALIB_CMD that only reads fills CALIB_BUF and ends at once with its result; GO
while BUSY only sets OVERRUN. R465, R469, R473, R474, R475, R477, R478: the operations that write the peat store. A checked
image or a key begins a flash operation and sets BUSY, a wrong image or key ends at once; a journal entry is programmed once
no operation waits. R465: the operation of the flash in progress passes its verify and takes effect, is retried once, or
fails with FLASH_ERROR; with no operation in progress the waiting journal entry is programmed. R490, R491, R492, R497, R501:
how a trial is accepted and ends, UNSTAGE and CANCEL. -/
def Obligations.PeatStoreAndTrialsComplete : Prop :=
  (∀ (s : State), s.portServes = true →
     (s.peat.cmd = Option.none →
       (∀ c, laterCopy s.peat.copies = some c → exec .readRecord s
         = .next (((s.setRegFld Reg.calibCmd 0 4 0).fillCalibBuf (flashBytes 512 (nth [] s.peat.copies c))).calibDone 0))
       ∧ (calValid s.peat.cal = true → exec .readCal s
         = .next (((s.setRegFld Reg.calibCmd 0 4 2).fillCalibBuf (flashBytes 2048 s.peat.cal)).calibDone 0))
       ∧ exec .readActive s = .next (((s.setRegFld Reg.calibCmd 0 4 5).fillCalibBuf s.peat.record).calibDone 0)
       ∧ (∀ e, s.canonical = true →
           s.peat.entries.find? (fun x => decide (x.seq = (s.reg Reg.calibJournalSel).toNat)) = some e → exec .readJournal s
         = .next (((s.setRegFld Reg.calibCmd 0 4 4).fillCalibBuf e.bytes).calibDone 0)))
     ∧ (s.peat.cmd.isSome = true →
       exec .readRecord s = .next ((s.setRegFld Reg.calibCmd 0 4 0).setRegBit Reg.calibStatus 29 true)
       ∧ exec .readJournal s = .next ((s.setRegFld Reg.calibCmd 0 4 4).setRegBit Reg.calibStatus 29 true)
       ∧ ∀ key, exec (.writeCal key) s = .next ((s.setRegFld Reg.calibCmd 0 4 3).setRegBit Reg.calibStatus 29 true)))
  ∧ (∀ (s : State) (key : Byte), (s.portServes = true → s.peat.cmd = Option.none → s.canonical = true →
       (recordValid (s.calibImage 512) = false → exec .writeRecord s = .next ((s.setRegFld Reg.calibCmd 0 4 1).calibDone 2))
       ∧ (∀ c bs, recordValid (s.calibImage 512) = true → (confFields (s.calibImage 512) s.fac.mac).any (·.bad) = false →
           confStray (s.calibImage 512) = [] → laterCopy s.peat.copies = some c →
           bs = putBytes (s.calibImage 512) 8 (leBytes 4 ((word32 (nth [] s.peat.copies c) 8 + 1) % 2 ^ 32)) →
           exec .writeRecord s = .next ((s.setRegFld Reg.calibCmd 0 4 1).calibStart 1
             (.record (1 - c) (putBytes bs 0x1FC (leBytes 4 (crc32c (bs.take 0x1FC)))))))
       ∧ (key ≠ 0xC5 → exec (.writeCal key) s = .next ((s.setRegFld Reg.calibCmd 0 4 3).calibDone 4))
       ∧ (calValid (s.calibImage 2048) = true → exec (.writeCal 0xC5) s = .next ((s.setRegFld Reg.calibCmd 0 4 3).calibStart 3
           (.cal (calStored s.peat.cal (s.calibImage 2048)))))
       ∧ (key ≠ 0xC5 → exec (.clearJournal key) s = .next ((s.setRegFld Reg.calibCmd 0 4 6).calibDone 4))
       ∧ exec (.clearJournal 0xC5) s = .next ((s.setRegFld Reg.calibCmd 0 4 6).calibStart 6 .clear))
     ∧ (∀ e rest, s.clock.powered = true → s.peat.ops = [] → s.peat.waiting = e :: rest → exec .journalEntry s
       = .next (State.program { s with peat := { s.peat with waiting := rest, retried := false } } e))
     ∧ (s.clock.powered = true → s.peat.withheld ≠ [] → s.peat.windowAt + 100000000 ≤ s.time.toNat →
       ∃ e : JEntry, e.kind = 2 ∧ e.body = s.peat.withheld.flatMap (fun w => leBytes 1 0 ++ leBytes 3 w.1 ++ leBytes 4 w.2)
       ∧ exec .suppressedEntry s = .next { s with peat := { s.peat with
           waiting := s.peat.waiting ++ [e], withheld := [], windowCount := 0 } }))
  ∧ (∀ (o : FlashOp) (s : State), s.clock.powered = true →
     (flashNow s.peat.ops = some o →
       exec (.flashOperationEnd true) s
         = .next (State.flashDone { s with peat := { s.peat with ops := s.peat.ops.erase o, retried := false } } o)
       ∧ (s.peat.retried = false → exec (.flashOperationEnd false) s
         = .next { s with peat := { s.peat with retried := true } })
       ∧ (s.peat.retried = true → exec (.flashOperationEnd false) s
         = .next (State.flashFailed { s with peat := { s.peat with ops := s.peat.ops.erase o, retried := false } } o)))
     ∧ (∀ e rest, s.peat.ops = [] → s.peat.waiting = e :: rest → exec (.flashOperationEnd true) s
       = .next (State.program { s with peat := { s.peat with waiting := rest, retried := false } } e)))
  ∧ (∀ (s : State) (e : StartEnv) (key : Byte),
     (s.stewardServes = true → s.clock.mode ≠ .recovery →
       (s.fw.trial = true → exec (.acceptTrial true) s = .next { s with fw := { s.fw with accepted := true } })
       ∧ (s.fw.trial = false → exec (.acceptTrial true) s = .next s))
     ∧ (s.portServes = true →
       (s.fw.trial = true → exec (.acceptTrial false) s = .next (State.setRegFld
           { s with fw := { s.fw with accepted := true } } Reg.fwupdCmd 0 4 0))
       ∧ (s.fw.trial = false → exec (.acceptTrial false) s = .next (s.setRegFld Reg.fwupdCmd 0 4 0))
       ∧ (s.fw.trial = true → exec (.rejectTrial 0xF5 e) s
           = .next (((s.setRegFld Reg.fwupdCmd 0 4 1).endTrial 0x10 4).startup e))
       ∧ (key ≠ 0xF5 → exec (.rejectTrial key e) s = .next (s.setRegFld Reg.fwupdCmd 0 4 1)
           ∧ exec (.unstage key) s = .next (s.setRegFld Reg.fwupdCmd 0 4 2))
       ∧ exec (.unstage 0xF5) s = .next (s.setRegFld Reg.fwupdCmd 0 4 2).unstage
       ∧ exec .cancel s = .next (s.setRegFld Reg.fwupdCmd 0 4 3).cancelUpdate)
     ∧ (s.clock.powered = true → s.fw.trial = true → s.fw.armed + 60000000000 ≤ s.time.toNat →
       exec (.trialWatchdogExpiry e) s = .next ((s.endTrial 0x0E 5).startup e))
     ∧ (s.clock.mode = .recovery → (s.fw.fwset s.fw.target).state = 1 → s.fw.askedAt + 100000000 ≤ s.time.toNat →
       exec (.recoveryUpdateReset e) s = .next ((s.stewardReset 4).startup e)))

/-- R493, R494, R495: what opens and closes the update exchange. R483, R484, R485, R495, R497: the transfer, from the header's
checks, chunk by chunk, to the verified and staged set. -/
def Obligations.UpdatesTransferAndStage : Prop :=
  (∀ (b : Binding) (agent n : Nat) (s : State),
     (s.bindingUp b = true →
       exec (.queryDeviceIdentifiers b) s = .next (s.answer .deviceIdentifiers)
       ∧ exec (.getFirmwareParameters b) s = .next (s.answer
           (.firmwareParameters (s.fw.fwset s.fw.active).version (s.fw.fwset (1 - s.fw.active)).version))
       ∧ exec (.getStatus b) s = .next (s.answer (.status s.fw.phase))
       ∧ (s.fw.phase = .idle → s.fw.trial = false → exec (.requestUpdate b agent n) s
           = .next (State.answer (State.setRegFld { s with
               fw := { s.fw with phase := .learn, agent := agent, binding := b, maxXfer := n, target := s.updateTarget, header := [] }
             } Reg.fwupdStatus 0 10 0) .accepted))
       ∧ (s.fw.phase = .idle → s.fw.trial = true → exec (.requestUpdate b agent n) s
           = .next ((s.fwCause 0x0D).answer .busyTrial))
       ∧ (s.fw.phase ≠ .idle → exec (.requestUpdate b agent n) s = .next (s.answer .alreadyInUpdateMode)))
     ∧ (s.bindingUp s.fw.binding = true → s.fw.agent = agent →
       (s.fw.phase = .learn → exec (.passComponentTable agent 1) s
         = .next (State.answer { s with fw := { s.fw with phase := .ready, askedAt := s.time.toNat } } .accepted))
       ∧ (s.fw.phase = .activate → exec (.activateFirmware agent) s
         = .next (State.answer { s with fw := { s.fw with phase := .idle } } .activationPending))
       ∧ (s.fw.phase = .activate → exec (.cancelUpdate agent) s
         = .next (State.answer { s with fw := { s.fw with phase := .idle } } .cancelled))
       ∧ (s.fw.phase = .learn → exec (.cancelUpdate agent) s = .next ((s.updateFail 0x0B).answer .cancelled))
       ∧ (s.fw.phase = .header → exec (.cancelUpdateComponent agent) s
         = .next (State.answer { s.updateFail 0x0B with fw := { (s.updateFail 0x0B).fw with phase := .ready } } .cancelled))))
  ∧ (∀ (agent : Nat) (h reg rest bytes got : List Byte) (errs : List FlashErr) (s : State), h = reg ++ rest → s.bindingUp s.fw.binding = true → s.fw.agent = agent →
     (s.fw.phase = .ready → exec (.updateComponent agent reg rest) s = .next ((s.fac.hdrCause h).elim
         (State.answer { s with
           fw := { s.fw with phase := .header, header := h, next := nextBlock h 0, got := [], retries := 0 }
           peat := { s.peat with ops := s.peat.ops ++ [.fwErase] } } .accepted)
         (fun c => s.updateFail c))
       ∧ (s.fac.hdrCause h = Option.none ↔ (h.length = 0x4CE0 ∧ word32 h 0 = 0x4B465748 ∧ word32 h 4 = 0x4CE0 * 65536 + 1
         ∧ zeroBytes h 0x10 48 = true ∧ zeroBytes h 0x200 64 = true ∧ zeroBytes h 0xBF0 16 = true
         ∧ Config.sha384 (part h 0xA40 384 ++ part h 0xBC0 48) = Config.romKeyDigest (bitsOf (word32 h 12) 24 2)
         ∧ bitOf s.fac.revoked (bitsOf (word32 h 12) 24 2) = false
         ∧ Config.rsaVerifies (part h 0xA40 384) (signedRegion h) (part h 0xC00 384) = true
         ∧ Config.slhVerifies (part h 0xBC0 48) (signedRegion h) (part h 0xD80 16224) = true
         ∧ s.fac.svnFloor ≤ word32 h 12 % 256
         ∧ bitsOf (word32 h 12) 12 4 * 16 + bitsOf (word32 h 12) 16 4 ≤ s.fac.stepMajor * 16 + s.fac.stepMinor
         ∧ partsFit h = true))
       ∧ (h.length ≠ 0x4CE0 → exec (.updateComponent agent reg rest) s = .next (s.updateFail 0x01)))
     ∧ (s.fw.phase = .transfer → s.fwFlash = false → s.fw.next < 512 →
       min s.fw.limit (blockLen s.fw.header s.fw.next - s.fw.got.length) ≤ bytes.length →
       got = s.fw.got ++ bytes.take (min s.fw.limit (blockLen s.fw.header s.fw.next - s.fw.got.length)) →
       (got.length < blockLen s.fw.header s.fw.next →
         exec (.firmwareData agent (0x4CE0 + 65536 * s.fw.next + s.fw.got.length) bytes) s
           = .next (State.askChunk { s with fw := { s.fw with got := got } }))
       ∧ (blockLen s.fw.header s.fw.next ≤ got.length →
         (blockMatches s.fw.header s.fw.next got = true →
           exec (.firmwareData agent (0x4CE0 + 65536 * s.fw.next + s.fw.got.length) bytes) s = .next { s with
             fw := { s.fw with got := [] }, peat := { s.peat with ops := s.peat.ops ++ [.fwBlock s.fw.next got] } })
         ∧ (blockMatches s.fw.header s.fw.next got = false → s.fw.retries < 3 →
           exec (.firmwareData agent (0x4CE0 + 65536 * s.fw.next + s.fw.got.length) bytes) s
             = .next (State.askChunk { s with fw := { s.fw with got := [], retries := s.fw.retries + 1 } }))
         ∧ (blockMatches s.fw.header s.fw.next got = false → 3 ≤ s.fw.retries →
           exec (.firmwareData agent (0x4CE0 + 65536 * s.fw.next + s.fw.got.length) bytes) s
             = .next (State.updateFail { s with fw := { s.fw with got := [] } } 0x08))))
     ∧ (s.fw.phase = .ready ∨ s.fw.phase = .transfer → s.fwFlash = false → s.fw.askedAt + 6000000000 ≤ s.time.toNat →
       exec .updateTimeout s = .next (s.updateFail 0x0C))
     ∧ (s.fw.phase = .transfer → s.fwFlash = false → 512 ≤ s.fw.next → exec (.transferComplete agent errs) s
       = .next (if s.fac.setVerifies s.fw.header (flashCopy (s.fw.fwset s.fw.target).blocks errs) = true then
           State.answer { s with fw := { s.fw with phase := .verify } } .transferDone
         else s.updateFail 0x09))
     ∧ (s.fw.phase = .verify → exec (.verifyComplete agent) s = .next (State.answer { s with
         fw := { s.fw with phase := .apply }
         peat := { s.peat with ops := s.peat.ops ++ [.fwStage] } } .verifyDone))
     ∧ (s.fw.phase = .apply → flashNow s.peat.ops = some .fwStage → exec (.applyComplete agent) s = .next s.stageSet))

/-- R486: no command lowers the fused security floor, a run of 64 fuses; when a set with RAISE_SVN = 1 becomes CONFIRMED the
floor rises to that set's SVN; a set whose SVN is below the floor is never selected. -/
def Obligations.SecurityFloorIsNeverLowered : Prop :=
  (∀ (c : Instr) (s t : State), s.canonical = true → exec c s = .next t →
      s.fac.svnFloor ≤ t.fac.svnFloor ∧ (s.fac.svnFloor ≤ 64 → t.fac.svnFloor ≤ 64))
  ∧ (∀ s : State, s.clock.mode = .full → s.fw.trial = true →
      ((s.fw.fwset s.fw.active).auto = true ∨ s.fw.accepted = true) →
      ∃ t, exec .trialConfirmation s = .next t ∧ (t.fw.fwset s.fw.active).confirmed = true ∧ t.fw.trial = false
        ∧ t = { s with fw := t.fw, fac := { s.fac with svnFloor := t.fac.svnFloor } }
        ∧ ((s.fw.fwset s.fw.active).raiseSvn = false → t.fac.svnFloor = s.fac.svnFloor)
        ∧ ((s.fw.fwset s.fw.active).raiseSvn = true → s.fac.svnFloor ≤ (s.fw.fwset s.fw.active).svn →
            (s.fw.fwset s.fw.active).svn ≤ 64 → t.fac.svnFloor = (s.fw.fwset s.fw.active).svn))
  ∧ ∀ (s t : State) (e : StartEnv) (k : Nat), s.selectSet e = (t, some k) → s.fac.svnFloor ≤ (s.fw.fwset k).svn

/-- R543: ALERT_N is asserted while ERROR_STICKY_STATUS.VALID or the floor power state holds, or the module is in management-
only or recovery mode, and is released when none of these holds. R499, R500, R529: attestation over MCTP and the mailbox of
the steward; one report at a time. R541, R542, R546: the two-wire bus follows dynamic address assignment while the steward
serves it; a loss of VREF_SB takes the outputs and the bus away and leaves the rest. -/
def Obligations.AlertAndSidebandFollowTheirCauses : Prop :=
  (∀ s : State, s.clock.powered = true → s.side.vrefGood = true → s.power.tripped = false →
     (s.alertLow = true ↔ (s.regBit Reg.errorStickyStatus 31 = true ∨ s.power.floor = true ∨ s.clock.mode = .mgmtOnly
       ∨ s.clock.mode = .recovery)))
  ∧ (∀ (s : State) (nonce resp : List Byte) (code : Nat),
     (s.stewardServes = true → s.clock.mode ≠ .recovery →
       exec (.getEndorsement false) s = .next (s.answer (.endorsement endorsement))
       ∧ (s.reporting = false → exec (.getReport false nonce) s = .next { s with
           freeCtr := s.freeCtr + 1, fw := { s.fw with report := some (s.time.toNat, s.reportBytes nonce) } })
       ∧ (s.reporting = true → exec (.getReport false nonce) s = .next (s.answer .busy)))
     ∧ (s.portServes = true → s.fw.mbx = Option.none →
       exec (.getEndorsement true) s = .next ((s.setRegFld Reg.stewardMbxCmd 0 8 1).mbxStart 1 endorsement)
       ∧ (s.fw.report.isSome = true → exec (.getReport true nonce) s
           = .next ((s.setRegFld Reg.stewardMbxCmd 0 8 2).mbxStart 2 [])))
     ∧ (s.portServes = true → s.fw.mbx.isSome = true → exec (.getEndorsement true) s
       = .next ((s.setRegFld Reg.stewardMbxCmd 0 8 1).setRegBit Reg.stewardMbxStatus 29 true))
     ∧ (s.canonical = true → s.fw.mbx = some (code, resp) → resp.length ≤ 20480 → ∃ t, exec .mailboxDone s = .next t
       ∧ t = { s with fw := { s.fw with mbx := Option.none }, regs := t.regs, vectors := (Option.none, 0) :: s.vectors }
       ∧ t.regBit Reg.stewardMbxStatus 30 = true ∧ t.regFld Reg.stewardMbxStatus 0 8 = mbxResult code resp
       ∧ t.regFld Reg.stewardMbxStatus 8 16 = resp.length
       ∧ ∀ i, i < resp.length / 4 → i < 5120 → t.reg (Reg.stewardMbxBuf i) = BitVec.ofNat 32 (word32 resp (4 * i))))
  ∧ (∀ (s : State) (addr : BitVec 7),
     (s.stewardServes = true → s.side.vrefGood = true →
       exec (.dynamicAddressAssignment addr) s
         = .next { s with side := { s.side with i3c := true, dynAddr := addr.toNat } }
       ∧ exec .daaReset s = .next { s with side := { s.side with i3c := false, dynAddr := 0 } }
       ∧ s.bindingUp (if s.side.i3c then .i3c else .smbus) = true
       ∧ s.bindingUp (if s.side.i3c then .smbus else .i3c) = false)
     ∧ exec .busTimeout s = .next s
     ∧ exec .vrefSbRestore s = .next { s with side := { s.side with vrefGood := true } }
     ∧ ∃ t, exec .vrefSbLoss s = .next t ∧ t = { s with side := { s.side with vrefGood := false } }
       ∧ t.alertLow = false ∧ t.thermtripLow = false ∧ t.bindingUp .smbus = false ∧ t.bindingUp .i3c = false)
end

