-- ==== Sys2Proof/Laws/SMap.lean ====
section
/-! SUPPORT. Laws of sparse maps: what is read after a write, and that every operation keeps the canonical
form. -/

namespace Sys2Proof.Machine

variable {α : Type}

@[simp] theorem SMap.get_nil (d : Nat → α) (k : Nat) : SMap.get d [] k = d k := rfl

theorem SMap.get_cons (d : Nat → α) (j : Nat) (v : α) (m : SMap α) (k : Nat) :
    SMap.get d ((j, v) :: m) k = if j = k then v else SMap.get d m k := rfl

theorem SMap.get_ins (d : Nat → α) (m : SMap α) (k : Nat) (a : α) (i : Nat) :
    SMap.get d (SMap.ins m k a) i = if i = k then a else SMap.get d m i := by
  induction m with
  | nil => simp only [SMap.ins, SMap.get]; grind
  | cons e m ih =>
    obtain ⟨j, v⟩ := e
    simp only [SMap.ins]
    split
    · subst_vars; simp only [SMap.get]; grind
    · split
      · simp only [SMap.get]; grind
      · simp only [SMap.get, ih]; grind

section canonical
variable [DecidableEq α]

theorem SMap.wfFrom_mono (d : Nat → α) (m : SMap α) {lo hi : Nat} (h : SMap.wfFrom d hi m = true) (hl : lo ≤ hi) :
    SMap.wfFrom d lo m = true := by
  cases m with
  | nil => rfl
  | cons e m =>
    obtain ⟨j, v⟩ := e
    simp only [SMap.wfFrom, Bool.and_eq_true, decide_eq_true_eq] at h ⊢
    exact ⟨⟨le_trans hl h.1.1, h.1.2⟩, h.2⟩

/-- A key below every listed key reads as its default. -/
theorem SMap.get_below (d : Nat → α) (m : SMap α) {lo k : Nat} (h : SMap.wfFrom d lo m = true) (hk : k < lo) :
    SMap.get d m k = d k := by
  induction m generalizing lo with
  | nil => rfl
  | cons e m ih =>
    obtain ⟨j, v⟩ := e
    simp only [SMap.wfFrom, Bool.and_eq_true, decide_eq_true_eq] at h
    rw [SMap.get_cons, if_neg (by omega)]
    exact ih h.2 (by omega)

theorem SMap.wfFrom_del (d : Nat → α) (m : SMap α) (k : Nat) {lo : Nat} (h : SMap.wfFrom d lo m = true) :
    SMap.wfFrom d lo (SMap.del m k) = true := by
  induction m generalizing lo with
  | nil => rfl
  | cons e m ih =>
    obtain ⟨j, v⟩ := e
    simp only [SMap.del]
    simp only [SMap.wfFrom, Bool.and_eq_true, decide_eq_true_eq] at h
    split
    · exact SMap.wfFrom_mono d m h.2 (by omega)
    · simp only [SMap.wfFrom, Bool.and_eq_true, decide_eq_true_eq]
      exact ⟨h.1, ih h.2⟩

theorem SMap.wfFrom_ins (d : Nat → α) (m : SMap α) (k : Nat) (a : α) {lo : Nat} (h : SMap.wfFrom d lo m = true)
    (hk : lo ≤ k) (ha : a ≠ d k) : SMap.wfFrom d lo (SMap.ins m k a) = true := by
  induction m generalizing lo with
  | nil => simp only [SMap.ins, SMap.wfFrom, Bool.and_eq_true, decide_eq_true_eq]; exact ⟨⟨hk, ha⟩, trivial⟩
  | cons e m ih =>
    obtain ⟨j, v⟩ := e
    simp only [SMap.wfFrom, Bool.and_eq_true, decide_eq_true_eq] at h
    simp only [SMap.ins]
    split
    · subst_vars
      simp only [SMap.wfFrom, Bool.and_eq_true, decide_eq_true_eq]
      exact ⟨⟨h.1.1, ha⟩, h.2⟩
    · split
      · simp only [SMap.wfFrom, Bool.and_eq_true, decide_eq_true_eq]
        exact ⟨⟨hk, ha⟩, ⟨by omega, h.1.2⟩, h.2⟩
      · simp only [SMap.wfFrom, Bool.and_eq_true, decide_eq_true_eq]
        exact ⟨h.1, ih h.2 (by omega)⟩

theorem SMap.wfFrom_filter (d : Nat → α) (m : SMap α) (p : Nat × α → Bool) {lo : Nat}
    (h : SMap.wfFrom d lo m = true) : SMap.wfFrom d lo (m.filter p) = true := by
  induction m generalizing lo with
  | nil => rfl
  | cons e m ih =>
    obtain ⟨j, v⟩ := e
    simp only [SMap.wfFrom, Bool.and_eq_true, decide_eq_true_eq] at h
    rw [List.filter_cons]
    split
    · simp only [SMap.wfFrom, Bool.and_eq_true, decide_eq_true_eq]
      exact ⟨h.1, ih h.2⟩
    · exact SMap.wfFrom_mono d _ (ih h.2) (by omega)

/-- Removing an entry of a canonical map leaves its key at the default and every other key alone. -/
theorem SMap.get_del (d : Nat → α) (m : SMap α) (k : Nat) {lo : Nat} (h : SMap.wfFrom d lo m = true) (i : Nat) :
    SMap.get d (SMap.del m k) i = if i = k then d k else SMap.get d m i := by
  induction m generalizing lo with
  | nil => simp only [SMap.del, SMap.get]; grind
  | cons e m ih =>
    obtain ⟨j, v⟩ := e
    simp only [SMap.wfFrom, Bool.and_eq_true, decide_eq_true_eq] at h
    simp only [SMap.del]
    split
    · rename_i hj
      subst hj
      by_cases hi : i = j
      · subst hi; rw [if_pos rfl]; exact SMap.get_below d m h.2 (by omega)
      · rw [if_neg hi, SMap.get_cons, if_neg (fun e => hi e.symm)]
    · rw [SMap.get_cons, SMap.get_cons, ih h.2]
      grind

theorem SMap.wf_set (d : Nat → α) (m : SMap α) (k : Nat) (a : α) (h : SMap.wf d m = true) :
    SMap.wf d (SMap.set d m k a) = true := by
  unfold SMap.set
  split
  · exact SMap.wfFrom_del d m k h
  · exact SMap.wfFrom_ins d m k a h (Nat.zero_le k) ‹_›

theorem SMap.wf_filter (d : Nat → α) (m : SMap α) (p : Nat × α → Bool) (h : SMap.wf d m = true) :
    SMap.wf d (m.filter p) = true := SMap.wfFrom_filter d m p h

theorem SMap.wf_clearRange (d : Nat → α) (m : SMap α) (lo hi : Nat) (h : SMap.wf d m = true) :
    SMap.wf d (SMap.clearRange m lo hi) = true := SMap.wfFrom_filter d m _ h

/-- Read after write: the key written reads the value, every other key reads as before. -/
theorem SMap.get_set (d : Nat → α) (m : SMap α) (k : Nat) (a : α) (h : SMap.wf d m = true) (i : Nat) :
    SMap.get d (SMap.set d m k a) i = if i = k then a else SMap.get d m i := by
  unfold SMap.set
  split
  · rename_i ha
    rw [SMap.get_del d m k h, ha]
  · exact SMap.get_ins d m k a i

/-- A key other than the one written reads as before, whatever the form. -/
theorem SMap.get_set_ne (d : Nat → α) (m : SMap α) (k : Nat) (a : α) (i : Nat) (hi : i ≠ k) :
    SMap.get d (SMap.set d m k a) i = SMap.get d m i := by
  unfold SMap.set
  split
  · rename_i ha
    clear ha
    induction m with
    | nil => rfl
    | cons e m ih =>
      obtain ⟨j, v⟩ := e
      simp only [SMap.del]
      split
      · rename_i hj; rw [SMap.get_cons, if_neg (by omega)]
      · rw [SMap.get_cons, SMap.get_cons, ih]
  · rw [SMap.get_ins, if_neg hi]

/-- Two canonical maps that read alike are the same data. -/
theorem SMap.ext_of_get (d : Nat → α) {lo : Nat} (m n : SMap α) (hm : SMap.wfFrom d lo m = true)
    (hn : SMap.wfFrom d lo n = true) (h : ∀ k, SMap.get d m k = SMap.get d n k) : m = n := by
  induction m generalizing lo n with
  | nil =>
    cases n with
    | nil => rfl
    | cons e n =>
      obtain ⟨j, v⟩ := e
      simp only [SMap.wfFrom, Bool.and_eq_true, decide_eq_true_eq] at hn
      have := h j
      rw [SMap.get_nil, SMap.get_cons, if_pos rfl] at this
      exact absurd this.symm hn.1.2
  | cons e m ih =>
    obtain ⟨j, v⟩ := e
    have hm' := hm
    simp only [SMap.wfFrom, Bool.and_eq_true, decide_eq_true_eq] at hm
    cases n with
    | nil =>
      have := h j
      rw [SMap.get_nil, SMap.get_cons, if_pos rfl] at this
      exact absurd this hm.1.2
    | cons e' n =>
      obtain ⟨j', v'⟩ := e'
      have hn' := hn
      simp only [SMap.wfFrom, Bool.and_eq_true, decide_eq_true_eq] at hn
      have hj : j = j' := by
        rcases Nat.lt_trichotomy j j' with hlt | heq | hgt
        · have := h j
          rw [SMap.get_cons, if_pos rfl, SMap.get_cons, if_neg (by omega),
            SMap.get_below d n hn.2 (by omega)] at this
          exact absurd this hm.1.2
        · exact heq
        · have := h j'
          rw [SMap.get_cons, if_neg (by omega), SMap.get_below d m hm.2 (by omega), SMap.get_cons,
            if_pos rfl] at this
          exact absurd this.symm hn.1.2
      subst hj
      have hv : v = v' := by simpa [SMap.get_cons] using h j
      subst hv
      congr 1
      refine ih n hm.2 hn.2 (fun k => ?_)
      by_cases hk : j = k
      · subst hk
        rw [SMap.get_below d m hm.2 (by omega), SMap.get_below d n hn.2 (by omega)]
      · have := h k
        rwa [SMap.get_cons, SMap.get_cons, if_neg hk, if_neg hk] at this

end canonical

/-! Memories -/

theorem Memory.wf_wr (m : SMap Byte) (a : Nat) (b : Byte) (h : Memory.wf m = true) : Memory.wf (wr m a b) = true :=
  SMap.wf_set byte0 m a b h

theorem Memory.wf_wrL (bs : List Byte) (m : SMap Byte) (a : Nat) (h : Memory.wf m = true) :
    Memory.wf (wrL m a bs) = true := by
  induction bs generalizing m a with
  | nil => exact h
  | cons b bs ih => exact ih _ _ (Memory.wf_wr m a b h)

theorem Memory.wf_wrLE (m : SMap Byte) (a n v : Nat) (h : Memory.wf m = true) : Memory.wf (wrLE m a n v) = true :=
  Memory.wf_wrL _ m a h

theorem rd_wr (m : SMap Byte) (a : Nat) (b : Byte) (h : Memory.wf m = true) (i : Nat) :
    rd (wr m a b) i = if i = a then b else rd m i := SMap.get_set byte0 m a b h i

theorem rd_wr_ne (m : SMap Byte) (a : Nat) (b : Byte) (i : Nat) (hi : i ≠ a) : rd (wr m a b) i = rd m i :=
  SMap.get_set_ne byte0 m a b i hi

/-- Bytes outside the stored range read as before. -/
theorem rd_wrL_outside (bs : List Byte) (m : SMap Byte) (a i : Nat) (hi : i < a ∨ a + bs.length ≤ i) :
    rd (wrL m a bs) i = rd m i := by
  induction bs generalizing m a with
  | nil => rfl
  | cons b bs ih =>
    rw [List.length_cons] at hi
    rw [wrL, ih _ _ (by omega), rd_wr_ne _ _ _ _ (by omega)]

end Sys2Proof.Machine
end

