-- ==== Sys2Proof/Laws/Ops.lean ====
section
/-! SUPPORT. What reading gives after an update, for each kind of unit: the unit that was updated gives the new value, every
other unit the old one. Registers need the canonical form where the value written may be the reset value. -/

namespace Sys2Proof.Machine

variable {s : State}

/-- A value that is not the default is read back whatever the form of the map. -/
theorem SMap.get_set_of_ne {α : Type} [DecidableEq α] (d : Nat → α) (m : SMap α) (k : Nat) (a : α) (h : a ≠ d k) :
    SMap.get d (SMap.set d m k a) k = a := by
  rw [SMap.set, if_neg h, SMap.get_ins]; simp

theorem State.canonical_regs (h : s.canonical = true) : SMap.wf regReset s.regs = true := by
  unfold State.canonical at h
  simp only [Bool.and_eq_true] at h
  exact h.1.2

theorem State.canonical_mem (h : s.canonical = true) : Memory.wf s.mem = true := by
  unfold State.canonical at h
  simp only [Bool.and_eq_true] at h
  exact h.1.1

theorem State.canonical_setReg {k : Nat} {v : W32} (h : s.canonical = true) : (s.setReg k v).canonical = true := by
  unfold State.canonical at *
  simp only [Bool.and_eq_true] at *
  exact ⟨⟨h.1.1, SMap.wf_set _ _ _ _ h.1.2⟩, h.2⟩

/-- The register that was written, and every other one. -/
theorem State.reg_setReg (h : s.canonical = true) (k i : Nat) (v : W32) :
    (s.setReg k v).reg i = if i = k then v else s.reg i :=
  SMap.get_set _ _ _ _ (State.canonical_regs h) _

theorem State.reg_setReg_ne {k i : Nat} {v : W32} (hi : i ≠ k) : (s.setReg k v).reg i = s.reg i :=
  SMap.get_set_ne _ _ _ _ _ hi

/-- A saturating counter after a count. -/
theorem State.reg_bump (h : s.canonical = true) (k i : Nat) :
    (s.bump k).reg i = if i = k then satInc32 (s.reg k) else s.reg i := State.reg_setReg h _ _ _

theorem State.reg_bump_ne {k i : Nat} (hi : i ≠ k) : (s.bump k).reg i = s.reg i := State.reg_setReg_ne hi

theorem State.reg_setRegFld_ne {k lo len v i : Nat} (hi : i ≠ k) : (s.setRegFld k lo len v).reg i = s.reg i :=
  State.reg_setReg_ne hi

theorem State.reg_setRegBit_ne {k j i : Nat} {b : Bool} (hi : i ≠ k) : (s.setRegBit k j b).reg i = s.reg i :=
  State.reg_setReg_ne hi

/-- Every unit but the one that was updated. -/
theorem State.core_modCore_ne {c d : Nat} {f : Core → Core} (h : d ≠ c) : (s.modCore c f).core d = s.core d :=
  SMap.get_set_ne _ _ _ _ _ h

theorem State.slice_modSlice_ne {c d : Nat} {f : Slice → Slice} (h : d ≠ c) : (s.modSlice c f).slice d = s.slice d :=
  SMap.get_set_ne _ _ _ _ _ h

theorem State.die_modDie_ne {c d : Nat} {f : Die → Die} (h : d ≠ c) : (s.modDie c f).die d = s.die d :=
  SMap.get_set_ne _ _ _ _ _ h

theorem State.chan_modChan_ne {c d : Nat} {f : Channel → Channel} (h : d ≠ c) : (s.modChan c f).chan d = s.chan d :=
  SMap.get_set_ne _ _ _ _ _ h

theorem State.vd_modVd_ne {c d : Nat} {f : VDev → VDev} (h : d ≠ c) : (s.modVd c f).vd d = s.vd d :=
  SMap.get_set_ne _ _ _ _ _ h

theorem State.extent_modExtent_ne {c d : Nat} {f : Extent → Extent} (h : d ≠ c) :
    (s.modExtent c f).extent d = s.extent d := SMap.get_set_ne _ _ _ _ _ h

theorem State.engine_modEngine_ne {c d : Nat} {f : EngineSt → EngineSt} (h : d ≠ c) :
    (s.modEngine c f).engine d = s.engine d := SMap.get_set_ne _ _ _ _ _ h

theorem State.pdie_modPdie_ne {c d : Nat} {f : DieBudget → DieBudget} (h : d ≠ c) :
    (s.modPdie c f).pdie d = s.pdie d := SMap.get_set_ne _ _ _ _ _ h

theorem State.qp_modQp_ne {n q m r : Nat} {f : Qp → Qp} (h : 64 * m + r ≠ 64 * n + q) :
    (s.modQp n q f).qp m r = s.qp m r := SMap.get_set_ne _ _ _ _ _ h

/-- The unit that was updated, where its new value is not that of a unit at rest. -/
theorem State.core_modCore {c : Nat} {f : Core → Core} (h : f (s.core c) ≠ Core.rest) :
    (s.modCore c f).core c = f (s.core c) := SMap.get_set_of_ne _ _ _ _ h

theorem State.slice_modSlice {c : Nat} {f : Slice → Slice} (h : f (s.slice c) ≠ Slice.empty) :
    (s.modSlice c f).slice c = f (s.slice c) := SMap.get_set_of_ne _ _ _ _ h

theorem State.die_modDie {c : Nat} {f : Die → Die} (h : f (s.die c) ≠ Die.empty) :
    (s.modDie c f).die c = f (s.die c) := SMap.get_set_of_ne _ _ _ _ h

theorem State.chan_modChan {c : Nat} {f : Channel → Channel} (h : f (s.chan c) ≠ Channel.rest) :
    (s.modChan c f).chan c = f (s.chan c) := SMap.get_set_of_ne _ _ _ _ h

theorem State.vd_modVd {c : Nat} {f : VDev → VDev} (h : f (s.vd c) ≠ VDev.absent) :
    (s.modVd c f).vd c = f (s.vd c) := SMap.get_set_of_ne _ _ _ _ h

theorem State.extent_modExtent {c : Nat} {f : Extent → Extent} (h : f (s.extent c) ≠ Extent.absent) :
    (s.modExtent c f).extent c = f (s.extent c) := SMap.get_set_of_ne _ _ _ _ h

theorem State.qp_modQp {n q : Nat} {f : Qp → Qp} (h : f (s.qp n q) ≠ Qp.rest) :
    (s.modQp n q f).qp n q = f (s.qp n q) := SMap.get_set_of_ne _ _ _ _ h

/-- Memory after a masked write: the bytes of the mask, and every other byte. -/
theorem rd_wrMask (bs : List Byte) (m : SMap Byte) (k mask i a : Nat) (h : Memory.wf m = true) :
    rd (wrMask m k mask bs i) a
      = if k + i ≤ a ∧ a < k + i + bs.length ∧ bitOf mask (a - k) = true then nth 0 bs (a - k - i) else rd m a := by
  induction bs generalizing m i with
  | nil => simp [wrMask]; omega
  | cons b bs ih =>
    unfold wrMask
    have hw : Memory.wf (if bitOf mask i then wr m (k + i) b else m) = true := by
      split
      · exact Memory.wf_wr _ _ _ h
      · exact h
    rw [ih _ _ hw]
    by_cases ha : a = k + i
    · subst ha
      rw [if_neg (by omega)]
      by_cases hb : bitOf mask i = true
      · simp [hb, rd_wr _ _ _ h, nth]
      · simp [hb]
    · have hr : rd (if bitOf mask i then wr m (k + i) b else m) a = rd m a := by
        split
        · exact rd_wr_ne _ _ _ _ ha
        · rfl
      rw [hr]
      by_cases hc : k + (i + 1) ≤ a ∧ a < k + (i + 1) + bs.length ∧ bitOf mask (a - k) = true
      · rw [if_pos hc, if_pos ⟨by omega, by simp; omega, hc.2.2⟩]
        have : a - k - i = (a - k - (i + 1)) + 1 := by omega
        rw [this]; simp [nth]
      · rw [if_neg hc, if_neg]
        rintro ⟨h1, h2, h3⟩
        simp at h2
        exact hc ⟨by omega, by omega, h3⟩

end Sys2Proof.Machine
end

