-- ==== Sys2Proof/Laws/Issue.lean ====
section
/-! SUPPORT. What the shared operations of the cores do: issue of an instruction, action of a queue head, a drain, issue of a
group's instruction. Each either meets its occasion (the lemmas _eq) or changes nothing of what it guards (the lemmas
_cases). -/

namespace Sys2Proof.Machine

section
variable {s : State} {c n w : Nat}

/-- At the issue of word `w` the sequencer goes on with it (R39). -/
theorem State.fetch_eq (h : s.atIssue c n w) (f : Nat → State → State) : s.fetch c f = f w (s.fetched c n) := by
  obtain ⟨j, h1, h2, h3, h4, h5⟩ := h
  simp [State.fetch, h1, h2, h3, h4, h5, State.fetched, State.modCore]

/-- An instruction of opcode `op` at issue does what its meaning says (R69). -/
theorem State.issueOp_eq (h : s.atIssue c n w) {op} (ho : opcodeOf w = op) (f : Nat → State → State) : s.issueOp c op f = f w (s.fetched c n) := by
  rw [State.issueOp, State.fetch_eq h, if_pos ho]

/-- Reading an instruction changes the order of the instruction buffer alone. -/
theorem State.fetched_core (h : s.atIssue c n w) : (s.fetched c n).core c = { s.core c with ibuf := cacheTouch (s.core c).ibuf n ((s.core c).pc / 256) } := by
  unfold State.core State.fetched State.modCore State.setCore
  dsimp only
  apply SMap.get_set_of_ne
  obtain ⟨j, h1, h2, h3, h4, h5⟩ := h
  intro e
  have := congrArg Core.seq e
  simp [Core.rest] at this
  rw [this] at h2; cases h2

/-- The started entry at the head of a queue acts (R42). -/
theorem State.actHead_eq {q i e} (h : s.headActs c q i e) {op} (ho : opcodeOf e.word = op) (f : Nat → QEntry → State → State) : s.actHead c q op f = f i e s := by
  obtain ⟨h1, h2, h3⟩ := h
  simp [State.actHead, h1, h2, h3, ho]

/-- A drain that is over is taken off (R285). -/
theorem State.drained_eq {c scope} (h : s.drainIsOver c scope) (f : State → State) : s.drained c scope f = f (s.drainOff c) := by
  obtain ⟨h1, dr, h2, h3⟩ := h
  simp [State.drained, h1, h2, h3, State.drainOff]

/-- Everything the fetch of an instruction can do (R39, R41). -/
theorem State.fetch_cases (s : State) (c : Nat) (f : Nat → State → State) :
    s.fetch c f = s
    ∨ s.fetch c f = s.fault c 0x08 (s.core c).pc 0 0
    ∨ (∃ n, s.fetch c f = s.startFetch c n ((s.core c).pc / 256))
    ∨ ∃ n w, s.atIssue c n w ∧ s.fetch c f = f w (s.fetched c n) := by
  unfold State.fetch
  dsimp only
  split
  · exact .inl rfl
  · rename_i n j hj
    split
    · exact .inl rfl
    · rename_i h1
      push Not at h1
      split
      · exact .inr (.inl rfl)
      · rename_i h2
        split
        · exact .inr (.inr (.inl ⟨n, rfl⟩))
        · rename_i w hw
          refine .inr (.inr (.inr ⟨n, w, ⟨j, hj, h1.1, ?_, by simpa using h2, hw⟩, rfl⟩))
          simpa using h1.2

/-- Everything the action of a queue head can do (R42). -/
theorem State.actHead_cases (s : State) (c : Nat) (q : QueueName) (op : Nat) (f : Nat → QEntry → State → State) :
    s.actHead c q op f = s
    ∨ ∃ i e, s.headActs c q i e ∧ opcodeOf e.word = op ∧ s.actHead c q op f = f i e s := by
  unfold State.actHead
  dsimp only
  split
  · exact .inl rfl
  · rename_i i hi
    split
    · exact .inl rfl
    · rename_i e he
      split
      · rename_i h
        exact .inr ⟨i, e, ⟨hi, he, h.1⟩, h.2, rfl⟩
      · exact .inl rfl

end

section
variable {s : State} {c slot n w : Nat} {j : Job} {k : GKernel} {g : Group} {i : GInstr}

/-- A group instruction that no cause and no hazard holds back acts (R123). -/
theorem State.gissue_eq (h : s.groupIssues c slot n j k g w) (hi : i = parseG w) {op} (ho : i.op = op)
    {names causes} (hc : lowestCause ((i.reservedCode, 0x10) :: causes n j k g i) = none) (hz : g.hazard (names i) = false)
    (f) : s.gissue c slot op names causes f = f n j k g i (s.gFetched c slot n g.pc) := by
  obtain ⟨h1, h2, h3, h4, h5, h6, h7⟩ := h
  subst hi
  simp [State.gissue, State.gfetch, h1, h2, h3, h4, h5, h6, h7, ho, hz, hc, State.gFetched]

/-- An arithmetic group instruction gives each active lane its value (R126). -/
theorem State.galu_eq (h : s.groupIssues c slot n j k g w) (hi : i = parseG w) (hr : i.reservedCode = false) {op} (ho : i.op = op)
    {bad names width draws f} (hb : bad i = false) (hn : regsOk k.regs (names i) = true) (hz : g.hazard (names i) = false)
    (hd : draws i = false) (F : Nat → Nat) (hF : ∀ l d, f i g l d = F l) :
    s.galu c slot op bad names width draws f = s.gDone c slot n g.pc (g.computed i (width i) F) := by
  unfold State.galu
  rw [State.gissue_eq h hi ho (by simp [lowestCause, aluCauses, hr, hb, hn]) hz]
  simp [hd, State.gDone, Group.computed, hF]

/-- The issue of an instruction leaves the group slots and the tile store (R124). -/
@[simp] theorem Core.issues_gslots (k : Core) (slot n pc : Nat) : (k.issues slot n pc).gslots = k.gslots := rfl
@[simp] theorem Core.issues_tile (k : Core) (slot n pc : Nat) : (k.issues slot n pc).tile = k.tile := rfl

/-- Reading a group's instruction changes the core as its issue does, and nothing else of it. -/
theorem State.gFetched_core (h : s.groupIssues c slot n j k g w) :
    (s.gFetched c slot n g.pc).core c = (s.core c).issues slot n g.pc := by
  unfold State.core State.gFetched State.modCore State.setCore
  dsimp only
  apply SMap.get_set_of_ne
  intro e
  have e := congrArg Core.gslots e
  have h1 := h.1
  simp only [Core.issues_gslots] at e
  unfold State.group at h1
  rw [e] at h1; simp [Core.rest, SMap.get] at h1

/-- It leaves the tile store. -/
theorem State.gFetched_tile (h : s.groupIssues c slot n j k g w) : ((s.gFetched c slot n g.pc).core c).tile = (s.core c).tile := by
  rw [State.gFetched_core h, Core.issues_tile]

/-- It leaves the group. -/
theorem State.gFetched_group (h : s.groupIssues c slot n j k g w) : (s.gFetched c slot n g.pc).group c slot = some g := by
  unfold State.group; rw [State.gFetched_core h, Core.issues_gslots]; exact h.1

end

end Sys2Proof.Machine
end

