-- ==== Sys2Proof/Laws/Keeps.lean ====
section
/-! SUPPORT. What every operation on the state keeps: the canonical form of memory and register file, the queue of
waiting commands and the time base, the factory facts (the security floor can only rise). The operations that write memory, registers or
facts are dealt with here; the files KeepsA, KeepsB, ... go through all the others. -/

namespace Sys2Proof.Machine

/-- The queue of waiting commands and the time base. -/
def State.fixed (s : State) : List Instr × W64 := (s.pending, s.time)

/-- Against a queue, a time and factory facts: the maps are canonical, queue and time are those, the facts are those facts
but for a security floor at least as high, which is no more than 64 where theirs is. -/
def State.Keeps (q : List Instr × W64) (f : Factory) (s : State) : Prop :=
  s.canonical = true ∧ s.fixed = q
    ∧ (f.svnFloor ≤ s.fac.svnFloor ∧ (f.svnFloor ≤ 64 → s.fac.svnFloor ≤ 64)) ∧ { s.fac with svnFloor := f.svnFloor } = f

/-- The same of the state an outcome goes on in. -/
def Out.Keeps (q : List Instr × W64) (f : Factory) : Out → Prop
  | .next t => t.Keeps q f
  | _ => True

/-- The same of an optional state. -/
def OptKeeps (q : List Instr × W64) (f : Factory) (o : Option State) : Prop := ∀ t, o = some t → t.Keeps q f

/-- The same of a state that comes with a value. -/
def SndKeeps {α : Type} (q : List Instr × W64) (f : Factory) (p : α × State) : Prop := p.2.Keeps q f
def FstKeeps {α : Type} (q : List Instr × W64) (f : Factory) (p : State × α) : Prop := p.1.Keeps q f

/-- The same of an optional state that comes with a value. -/
def OptFstKeeps {α : Type} (q : List Instr × W64) (f : Factory) (o : Option (State × α)) : Prop :=
  ∀ t a, o = some (t, a) → t.Keeps q f

section
variable {q : List Instr × W64} {f : Factory} {s : State}

theorem State.Keeps.self (h : s.canonical = true) : s.Keeps s.fixed s.fac := ⟨h, rfl, ⟨le_refl _, id⟩, rfl⟩

theorem State.Keeps.memWf (h : s.Keeps q f) : Memory.wf s.mem = true := by
  have := h.1
  unfold State.canonical at this
  simp only [Bool.and_eq_true] at this
  exact this.1.1

theorem State.Keeps.regsWf (h : s.Keeps q f) : SMap.wf regReset s.regs = true := by
  have := h.1
  unfold State.canonical at this
  simp only [Bool.and_eq_true] at this
  exact this.1.2

/-- A state that agrees in memory, registers, queue and facts. -/
theorem State.Keeps.same {t : State} (h : s.Keeps q f) (hm : t.mem = s.mem) (hr : t.regs = s.regs)
    (hp : t.fixed = s.fixed) (hf : t.fac = s.fac) : t.Keeps q f := by
  unfold State.Keeps State.canonical at *
  rw [hm, hr, hp, hf]; exact h

/-- A state that agrees but for its memory. -/
theorem State.Keeps.withMem {t : State} (h : s.Keeps q f) (hm : Memory.wf s.mem = true → Memory.wf t.mem = true)
    (hr : t.regs = s.regs) (hp : t.fixed = s.fixed) (hf : t.fac = s.fac) : t.Keeps q f := by
  unfold State.Keeps State.canonical at *
  rw [hr, hp, hf]
  simp only [Bool.and_eq_true] at h ⊢
  exact ⟨⟨⟨hm h.1.1.1, h.1.1.2⟩, h.1.2⟩, h.2⟩

/-- A state that agrees but for its registers. -/
theorem State.Keeps.withRegs {t : State} (h : s.Keeps q f) (hm : t.mem = s.mem)
    (hr : SMap.wf regReset s.regs = true → SMap.wf regReset t.regs = true) (hp : t.fixed = s.fixed)
    (hf : t.fac = s.fac) : t.Keeps q f := by
  unfold State.Keeps State.canonical at *
  rw [hm, hp, hf]
  simp only [Bool.and_eq_true] at h ⊢
  exact ⟨⟨⟨h.1.1.1, hr h.1.1.2⟩, h.1.2⟩, h.2⟩

section
variable {held : SMap (Option W32)} {captured : SMap (Option W32)} {readBack : Option W64} {cores : SMap Core} {fab : Fabric}
  {slices : SMap Slice} {dies : SMap Die} {msgs : List CohMsg} {nacked : List HomeOp} {opRsps : List OpRsp} {maint :
  Option MaintOp} {chans : SMap Channel} {pool : Pool} {vds : SMap VDev} {sets : SMap SetSt} {binder : Binder} {host :
  HostSt} {net : NetSt} {power : PowerSt} {clock : ClockSt} {peat : PeatSt} {fw : FwSt} {err : ErrSt} {side : SideSt}
  {vectors : List (Option Nat × Nat)} {freeCtr : Nat}

/-- A state written out field by field with memory, registers, queue, time and facts of `s`. -/
theorem State.Keeps.fields (h : s.Keeps q f) : State.Keeps q f
    { pending := s.pending, time := s.time, regs := s.regs, held := held, captured := captured, readBack := readBack, fac
      := s.fac, cores := cores, fab := fab, slices := slices, dies := dies, msgs := msgs, nacked := nacked, opRsps :=
      opRsps, maint := maint, mem := s.mem, chans := chans, pool := pool, vds := vds, sets := sets, binder := binder, host
      := host, net := net, power := power, clock := clock, peat := peat, fw := fw, err := err, side := side, vectors :=
      vectors, freeCtr := freeCtr } :=
  h.same rfl rfl rfl rfl

/-- The same with another memory. -/
theorem State.Keeps.fieldsMem {mem : SMap Byte} (h : s.Keeps q f) (hm : Memory.wf s.mem = true → Memory.wf mem = true) :
    State.Keeps q f
    { pending := s.pending, time := s.time, regs := s.regs, held := held, captured := captured, readBack := readBack, fac
      := s.fac, cores := cores, fab := fab, slices := slices, dies := dies, msgs := msgs, nacked := nacked, opRsps :=
      opRsps, maint := maint, mem := mem, chans := chans, pool := pool, vds := vds, sets := sets, binder := binder, host :=
      host, net := net, power := power, clock := clock, peat := peat, fw := fw, err := err, side := side, vectors :=
      vectors, freeCtr := freeCtr } :=
  h.withMem hm rfl rfl rfl

/-- The same with another register file. -/
theorem State.Keeps.fieldsRegs {regs : SMap W32} (h : s.Keeps q f)
    (hr : SMap.wf regReset s.regs = true → SMap.wf regReset regs = true) : State.Keeps q f
    { pending := s.pending, time := s.time, regs := regs, held := held, captured := captured, readBack := readBack, fac :=
      s.fac, cores := cores, fab := fab, slices := slices, dies := dies, msgs := msgs, nacked := nacked, opRsps := opRsps,
      maint := maint, mem := s.mem, chans := chans, pool := pool, vds := vds, sets := sets, binder := binder, host := host,
      net := net, power := power, clock := clock, peat := peat, fw := fw, err := err, side := side, vectors := vectors,
      freeCtr := freeCtr } :=
  h.withRegs rfl hr rfl rfl

end

theorem ite_keeps {c : Prop} [Decidable c] {a b : State} (ha : a.Keeps q f) (hb : b.Keeps q f) :
    (if c then a else b).Keeps q f := by split <;> assumption

theorem out_ite_keeps {c : Prop} [Decidable c] {a b : Out} (ha : Out.Keeps q f a) (hb : Out.Keeps q f b) :
    Out.Keeps q f (if c then a else b) := by split <;> assumption

theorem opt_ite_keeps {c : Prop} [Decidable c] {a b : Option State} (ha : OptKeeps q f a) (hb : OptKeeps q f b) :
    OptKeeps q f (if c then a else b) := by split <;> assumption

theorem some_keeps (h : s.Keeps q f) : OptKeeps q f (some s) := fun _ e => (Option.some.inj e) ▸ h

theorem none_keeps : OptKeeps q f none := fun _ e => nomatch e

theorem some_fst_keeps {α : Type} {a : α} (h : s.Keeps q f) : OptFstKeeps q f (some (s, a)) := fun _ _ e => by
  cases e; exact h

theorem some_pair_keeps {α : Type} {p : State × α} (h : FstKeeps q f p) : OptFstKeeps q f (some p) := fun _ _ e => by
  cases e; exact h

theorem pair_keeps {α : Type} {p : State × α} {o : Option (State × α)} (e : o = some p) (h : OptFstKeeps q f o) :
    FstKeeps q f p := h p.1 p.2 e

theorem none_fst_keeps {α : Type} : OptFstKeeps (α := α) q f none := fun _ _ e => nomatch e

theorem optfst_ite_keeps {α : Type} {c : Prop} [Decidable c] {a b : Option (State × α)} (ha : OptFstKeeps q f a)
    (hb : OptFstKeeps q f b) : OptFstKeeps q f (if c then a else b) := by split <;> assumption

theorem snd_keeps {α : Type} {p : α × State} (h : SndKeeps q f p) : p.2.Keeps q f := h

theorem fst_keeps {α : Type} {p : State × α} (h : FstKeeps q f p) : p.1.Keeps q f := h

theorem mk_snd_keeps {α : Type} {a : α} (h : s.Keeps q f) : SndKeeps q f (a, s) := h

theorem mk_fst_keeps {α : Type} {a : α} (h : s.Keeps q f) : FstKeeps q f (s, a) := h

theorem snd_of_eq {α : Type} {p : α × State} {a : α} (e : p = (a, s)) (h : SndKeeps q f p) : s.Keeps q f := by
  subst e; exact h

theorem fst_of_eq {α : Type} {p : State × α} {a : α} (e : p = (s, a)) (h : FstKeeps q f p) : s.Keeps q f := by
  subst e; exact h

theorem snd_ite_keeps {α : Type} {c : Prop} [Decidable c] {a b : α × State} (ha : SndKeeps q f a)
    (hb : SndKeeps q f b) : SndKeeps q f (if c then a else b) := by split <;> assumption

theorem fst_ite_keeps {α : Type} {c : Prop} [Decidable c] {a b : State × α} (ha : FstKeeps q f a)
    (hb : FstKeeps q f b) : FstKeeps q f (if c then a else b) := by split <;> assumption

theorem getD_keeps {o : Option State} (h : OptKeeps q f o) (hs : s.Keeps q f) : (o.getD s).Keeps q f := by
  cases o with
  | none => exact hs
  | some t => exact h t rfl

theorem ok_keeps (h : s.Keeps q f) : Out.Keeps q f (ok s) := h

theorem foldl_keeps {α : Type} {g : State → α → State} {l : List α} (hg : ∀ t x, t.Keeps q f → (g t x).Keeps q f)
    (h : s.Keeps q f) : (l.foldl g s).Keeps q f := by
  induction l generalizing s with
  | nil => exact h
  | cons x l ih => exact ih (hg s x h)

theorem State.setReg_keeps {k : Nat} {v : W32} (h : s.Keeps q f) : (s.setReg k v).Keeps q f :=
  h.withRegs rfl (SMap.wf_set _ _ _ _) rfl rfl

theorem State.clearRegs_keeps {lo hi : Nat} (h : s.Keeps q f) : (s.clearRegs lo hi).Keeps q f :=
  h.withRegs rfl (SMap.wf_clearRange _ _ _ _) rfl rfl

theorem State.setRegs_keeps {k : Nat} {ws : List W32} (h : s.Keeps q f) : (s.setRegs k ws).Keeps q f := by
  induction ws generalizing s k with
  | nil => exact h
  | cons w ws ih => exact ih (State.setReg_keeps h)

end

theorem wf_wrMask (bs : List Byte) (m : SMap Byte) (k mask i : Nat) (h : Memory.wf m = true) :
    Memory.wf (wrMask m k mask bs i) = true := by
  induction bs generalizing m i with
  | nil => exact h
  | cons b bs ih =>
    unfold wrMask
    apply ih
    split
    · exact Memory.wf_wr _ _ _ h
    · exact h

theorem wf_foldl_mem {α : Type} (g : SMap Byte → α → SMap Byte) (l : List α) (m : SMap Byte)
    (hg : ∀ m x, Memory.wf m = true → Memory.wf (g m x) = true) (h : Memory.wf m = true) :
    Memory.wf (l.foldl g m) = true := by
  induction l generalizing m with
  | nil => exact h
  | cons x l ih => exact ih _ (hg m x h)

end Sys2Proof.Machine
end

