-- ==== Sys2Proof/Laws/KeepsOps.lean ====
section
/-! SUPPORT. Every operation of Ops.lean keeps what State.Keeps says. -/

set_option maxRecDepth 20000

namespace Sys2Proof.Machine

theorem State.setRegFld_keeps {q F s x1 x2 x3 x4} (h : State.Keeps q F s) : State.Keeps q F (State.setRegFld s x1 x2 x3 x4) := by
  unfold State.setRegFld
  apply State.setReg_keeps
  exact h

theorem State.setRegBit_keeps {q F s x1 x2 x3} (h : State.Keeps q F s) : State.Keeps q F (State.setRegBit s x1 x2 x3) := by
  unfold State.setRegBit
  apply State.setRegFld_keeps
  exact h

theorem State.setReg64_keeps {q F s x1 x2} (h : State.Keeps q F s) : State.Keeps q F (State.setReg64 s x1 x2) := by
  unfold State.setReg64
  apply State.setReg_keeps
  apply State.setReg_keeps
  exact h

theorem State.bump_keeps {q F s x1} (h : State.Keeps q F s) : State.Keeps q F (State.bump s x1) := by
  unfold State.bump
  apply State.setReg_keeps
  exact h

theorem State.bumpFld_keeps {q F s x1 x2 x3 x4} (h : State.Keeps q F s) : State.Keeps q F (State.bumpFld s x1 x2 x3 x4) := by
  unfold State.bumpFld
  apply State.setRegFld_keeps
  exact h

theorem State.countRsvd_keeps {q F s x1 x2} (h : State.Keeps q F s) : State.Keeps q F (State.countRsvd s x1 x2) := by
  unfold State.countRsvd
  refine ite_keeps ?_ ?_
  · apply State.bump_keeps
    exact h
  · exact h

theorem State.counted_keeps {q F x0 x1} (hx0 : FstKeeps q F x0) : State.Keeps q F (State.counted x0 x1) := by
  unfold State.counted
  refine ite_keeps ?_ ?_
  · apply State.bump_keeps
    refine fst_keeps ?_
    exact hx0
  · refine fst_keeps ?_
    exact hx0

theorem State.setCore_keeps {q F s x1 x2} (h : State.Keeps q F s) : State.Keeps q F (State.setCore s x1 x2) := by
  unfold State.setCore
  refine State.Keeps.fields (s := s) ?_
  exact h

theorem State.modCore_keeps {q F s x1 x2} (h : State.Keeps q F s) : State.Keeps q F (State.modCore s x1 x2) := by
  unfold State.modCore
  apply State.setCore_keeps
  exact h

theorem State.setSlice_keeps {q F s x1 x2} (h : State.Keeps q F s) : State.Keeps q F (State.setSlice s x1 x2) := by
  unfold State.setSlice
  refine State.Keeps.fields (s := s) ?_
  exact h

theorem State.modSlice_keeps {q F s x1 x2} (h : State.Keeps q F s) : State.Keeps q F (State.modSlice s x1 x2) := by
  unfold State.modSlice
  apply State.setSlice_keeps
  exact h

theorem State.setDie_keeps {q F s x1 x2} (h : State.Keeps q F s) : State.Keeps q F (State.setDie s x1 x2) := by
  unfold State.setDie
  refine State.Keeps.fields (s := s) ?_
  exact h

theorem State.modDie_keeps {q F s x1 x2} (h : State.Keeps q F s) : State.Keeps q F (State.modDie s x1 x2) := by
  unfold State.modDie
  apply State.setDie_keeps
  exact h

theorem State.modChan_keeps {q F s x1 x2} (h : State.Keeps q F s) : State.Keeps q F (State.modChan s x1 x2) := by
  unfold State.modChan
  refine State.Keeps.fields (s := s) ?_
  exact h

theorem State.setVd_keeps {q F s x1 x2} (h : State.Keeps q F s) : State.Keeps q F (State.setVd s x1 x2) := by
  unfold State.setVd
  refine State.Keeps.fields (s := s) ?_
  exact h

theorem State.modVd_keeps {q F s x1 x2} (h : State.Keeps q F s) : State.Keeps q F (State.modVd s x1 x2) := by
  unfold State.modVd
  apply State.setVd_keeps
  exact h

theorem State.modSet_keeps {q F s x1 x2} (h : State.Keeps q F s) : State.Keeps q F (State.modSet s x1 x2) := by
  unfold State.modSet
  refine State.Keeps.fields (s := s) ?_
  exact h

theorem State.setCoreHolder_keeps {q F s x1 x2} (h : State.Keeps q F s) : State.Keeps q F (State.setCoreHolder s x1 x2) := by
  unfold State.setCoreHolder
  refine State.Keeps.fields (s := s) ?_
  exact h

theorem State.setSliceHolder_keeps {q F s x1 x2} (h : State.Keeps q F s) : State.Keeps q F (State.setSliceHolder s x1 x2) := by
  unfold State.setSliceHolder
  refine State.Keeps.fields (s := s) ?_
  exact h

theorem State.modExtent_keeps {q F s x1 x2} (h : State.Keeps q F s) : State.Keeps q F (State.modExtent s x1 x2) := by
  unfold State.modExtent
  refine State.Keeps.fields (s := s) ?_
  exact h

theorem State.modEngine_keeps {q F s x1 x2} (h : State.Keeps q F s) : State.Keeps q F (State.modEngine s x1 x2) := by
  unfold State.modEngine
  refine State.Keeps.fields (s := s) ?_
  exact h

theorem State.setFlag_keeps {q F s x1 x2} (h : State.Keeps q F s) : State.Keeps q F (State.setFlag s x1 x2) := by
  unfold State.setFlag
  refine State.Keeps.fields (s := s) ?_
  exact h

theorem State.modLink_keeps {q F s x1 x2} (h : State.Keeps q F s) : State.Keeps q F (State.modLink s x1 x2) := by
  unfold State.modLink
  refine State.Keeps.fields (s := s) ?_
  exact h

theorem State.modQp_keeps {q F s x1 x2 x3} (h : State.Keeps q F s) : State.Keeps q F (State.modQp s x1 x2 x3) := by
  unfold State.modQp
  refine State.Keeps.fields (s := s) ?_
  exact h

theorem State.modPdie_keeps {q F s x1 x2} (h : State.Keeps q F s) : State.Keeps q F (State.modPdie s x1 x2) := by
  unfold State.modPdie
  refine State.Keeps.fields (s := s) ?_
  exact h

theorem State.draw_keeps {q F s} (h : State.Keeps q F s) : SndKeeps q F (State.draw s) := by
  unfold State.draw
  refine mk_snd_keeps ?_
  refine State.Keeps.fields (s := s) ?_
  exact h

theorem State.vecPf_keeps {q F s x1} (h : State.Keeps q F s) : State.Keeps q F (State.vecPf s x1) := by
  unfold State.vecPf
  refine State.Keeps.fields (s := s) ?_
  exact h

theorem State.vecVf_keeps {q F s x1 x2} (h : State.Keeps q F s) : State.Keeps q F (State.vecVf s x1 x2) := by
  unfold State.vecVf
  refine ite_keeps ?_ ?_
  · exact h
  · refine State.Keeps.fields (s := s) ?_
    exact h

theorem State.event_keeps {q F s x1 x2 x3} (h : State.Keeps q F s) : State.Keeps q F (State.event s x1 x2 x3) := by
  unfold State.event
  refine ite_keeps ?_ ?_
  · exact h
  · extract_lets y101 y102 y103 y104 y105 y106 y107 y108
    clear_value y101
    clear_value y102
    clear_value y103
    have h109 : State.Keeps q F y104 := by
      apply State.setReg_keeps
      exact h
    clear_value y104
    have h110 : State.Keeps q F y105 := by
      apply State.setReg_keeps
      exact h109
    clear_value y105
    have h111 : State.Keeps q F y106 := by
      apply State.setReg64_keeps
      exact h110
    clear_value y106
    have h112 : State.Keeps q F y107 := by
      apply State.setReg64_keeps
      exact h111
    clear_value y107
    have h113 : State.Keeps q F y108 := by
      apply State.setReg64_keeps
      exact h112
    clear_value y108
    refine ite_keeps ?_ ?_
    · apply State.bump_keeps
      exact h
    · apply State.vecVf_keeps
      apply State.setRegFld_keeps
      exact h113

theorem State.nextSeq_keeps {q F s} (h : State.Keeps q F s) : State.Keeps q F (State.nextSeq s) := by
  unfold State.nextSeq
  refine State.Keeps.fields (s := s) ?_
  exact h

theorem State.record_keeps {q F s x1} (h : State.Keeps q F s) : State.Keeps q F (State.record s x1) := by
  unfold State.record
  extract_lets y101 y102 y103
  clear_value y101
  have h104 : State.Keeps q F y102 := by
    apply State.bump_keeps
    exact h
  clear_value y102
  clear_value y103
  refine ite_keeps ?_ ?_
  · refine State.Keeps.fields (s := y102) ?_
    exact h104
  · apply State.nextSeq_keeps
    apply State.bump_keeps
    exact h104

end Sys2Proof.Machine
end

