-- ==== Sys2Proof/Laws/KeepsMem.lean ====
section
/-! SUPPORT. Every operation of Mem.lean keeps what State.Keeps says. -/

set_option maxRecDepth 20000

namespace Sys2Proof.Machine

theorem State.memWrite_keeps {q F s x1 x2 x3 x4} (h : State.Keeps q F s) : State.Keeps q F (State.memWrite s x1 x2 x3 x4) := by
  unfold State.memWrite
  refine ite_keeps ?_ ?_
  · exact h
  · extract_lets y101
    have h102 : State.Keeps q F y101 := by
      apply State.modChan_keeps
      exact h
    clear_value y101
    refine State.Keeps.fieldsMem (s := y101) ?_ (fun w103 => ?_)
    · exact h102
    · exact wf_wrMask _ _ _ _ _ h.memWf

theorem State.performWrites_keeps {q F s x1 x2} (h : State.Keeps q F s) : State.Keeps q F (State.performWrites s x1 x2) := by
  unfold State.performWrites
  extract_lets y101 y102
  clear_value y101
  have h103 : State.Keeps q F y102 := by
    apply State.modChan_keeps
    exact h
  clear_value y102
  refine ite_keeps ?_ ?_
  · refine foldl_keeps (fun t104 x105 h106 => ?_) ?_
    · apply State.memWrite_keeps
      exact h106
    · exact h103
  · exact h

end Sys2Proof.Machine
end

