-- ==== Sys2Proof/Laws/KeepsLinks.lean ====
section
/-! SUPPORT. Every operation of Links.lean keeps what State.Keeps says. -/

set_option maxRecDepth 20000

namespace Sys2Proof.Machine

theorem State.sendFlit_keeps {q F s x1 x2 x3 x4 x5 x6} (h : State.Keeps q F s) : State.Keeps q F (State.sendFlit s x1 x2 x3 x4 x5 x6) := by
  unfold State.sendFlit
  extract_lets y101 y102
  clear_value y101
  clear_value y102
  refine State.Keeps.fields (s := s) ?_
  exact h

theorem State.sendReed_keeps {q F s x1 x2 x3 x4} (h : State.Keeps q F s) : State.Keeps q F (State.sendReed s x1 x2 x3 x4) := by
  unfold State.sendReed
  refine State.Keeps.fields (s := s) ?_
  exact h

theorem State.sendDem_keeps {q F s x1 x2 x3 x4 x5 x6 x7} (h : State.Keeps q F s) : State.Keeps q F (State.sendDem s x1 x2 x3 x4 x5 x6 x7) := by
  unfold State.sendDem
  refine State.Keeps.fields (s := s) ?_
  exact h

theorem State.diePort_keeps {q F s x1 x2} (h : State.Keeps q F s) : SndKeeps q F (State.diePort s x1 x2) := by
  unfold State.diePort
  split
  next z101 z102 =>
    refine mk_snd_keeps ?_
    exact h
  next z103 =>
    extract_lets y104
    clear_value y104
    refine mk_snd_keeps ?_
    apply State.modDie_keeps
    exact h

theorem State.joinReqs_keeps {q F s x1 x2} (h : State.Keeps q F s) : State.Keeps q F (State.joinReqs s x1 x2) := by
  unfold State.joinReqs
  apply State.modSlice_keeps
  exact h

theorem State.request_keeps {q F s x1 x2} (h : State.Keeps q F s) : State.Keeps q F (State.request s x1 x2) := by
  unfold State.request
  split
  next z101 z102 =>
    exact h
  next z103 z104 z105 =>
    split
    next z106 z107 =>
      apply State.joinReqs_keeps
      exact h
    next z108 z109 z110 =>
      extract_lets y111
      clear_value y111
      refine ite_keeps ?_ ?_
      · apply State.sendDem_keeps
        exact h
      · refine ite_keeps ?_ ?_
        · apply State.sendReed_keeps
          apply State.sendDem_keeps
          exact h
        · apply State.sendReed_keeps
          exact h

theorem State.sendHomeOp_keeps {q F s x1} (h : State.Keeps q F s) : State.Keeps q F (State.sendHomeOp s x1) := by
  unfold State.sendHomeOp
  split
  next z101 z102 =>
    exact h
  next z103 z104 z105 =>
    split
    next z106 z107 =>
      apply State.modSlice_keeps
      exact h
    next z108 z109 z110 =>
      apply State.sendDem_keeps
      exact h

theorem State.sendMsg_keeps {q F s x1 x2} (h : State.Keeps q F s) : State.Keeps q F (State.sendMsg s x1 x2) := by
  unfold State.sendMsg
  extract_lets y101 y102 y103 y104 y105 y106
  have h107 : SndKeeps q F y101 := by
    unfold y101
    split
    next z108 z109 z110 =>
      refine mk_snd_keeps ?_
      exact h
    next z111 z112 z113 =>
      refine mk_snd_keeps ?_
      refine snd_keeps ?_
      apply State.diePort_keeps
      exact h
  clear_value y101
  have h114 : State.Keeps q F y102 := by
    refine snd_keeps ?_
    exact h107
  clear_value y102
  clear_value y103
  clear_value y104
  have h115 : State.Keeps q F y105 := by
    refine State.Keeps.fields (s := y102) ?_
    exact h114
  clear_value y105
  have h116 : State.Keeps q F y106 := by
    apply State.sendReed_keeps
    exact h115
  clear_value y106
  refine ite_keeps ?_ ?_
  · exact h116
  · apply State.sendDem_keeps
    exact h116

theorem State.joinFlags_keeps {q F s x1} (h : State.Keeps q F s) : State.Keeps q F (State.joinFlags s x1) := by
  unfold State.joinFlags
  refine State.Keeps.fields (s := s) ?_
  exact h

theorem State.sendFlag_keeps {q F s x1 x2} (h : State.Keeps q F s) : State.Keeps q F (State.sendFlag s x1 x2) := by
  unfold State.sendFlag
  refine ite_keeps ?_ ?_
  · apply State.joinFlags_keeps
    exact h
  · apply State.sendReed_keeps
    exact h

end Sys2Proof.Machine
end

