-- ==== Sys2Proof/Laws/KeepsHome.lean ====
section
/-! SUPPORT. Every operation of Home.lean keeps what State.Keeps says. -/

set_option maxRecDepth 20000

namespace Sys2Proof.Machine

theorem State.setGroup_keeps {q F s x1 x2 x3} (h : State.Keeps q F s) : State.Keeps q F (State.setGroup s x1 x2 x3) := by
  unfold State.setGroup
  apply State.modCore_keeps
  exact h

theorem State.modGroup_keeps {q F s x1 x2 x3} (h : State.Keeps q F s) : State.Keeps q F (State.modGroup s x1 x2 x3) := by
  unfold State.modGroup
  split
  next z101 z102 z103 =>
    apply State.setGroup_keeps
    exact h
  next z104 z105 =>
    exact h

theorem State.dropStopped_keeps {q F s x1 x2} (h : State.Keeps q F s) : State.Keeps q F (State.dropStopped s x1 x2) := by
  unfold State.dropStopped
  split
  next z101 z102 z103 =>
    refine ite_keeps ?_ ?_
    · apply State.setGroup_keeps
      exact h
    · exact h
  next z104 z105 =>
    exact h

theorem State.accDone_keeps {q F s x1 x2 x3 x4} (h : State.Keeps q F s) : State.Keeps q F (State.accDone s x1 x2 x3 x4) := by
  unfold State.accDone
  split
  next z101 z102 =>
    exact h
  next z103 z104 z105 =>
    split
    next z106 z107 =>
      exact h
    next z108 z109 z110 =>
      extract_lets y111 y112
      clear_value y111
      have h113 : State.Keeps q F y112 := by
        apply State.modGroup_keeps
        exact h
      clear_value y112
      apply State.dropStopped_keeps
      split
      next z114 z115 z116 z117 z118 z119 z120 =>
        apply State.request_keeps
        exact h113
      next z121 z122 z123 z124 z125 z126 z127 z128 =>
        apply State.sendHomeOp_keeps
        exact h113
      next z129 z130 z131 z132 z133 =>
        exact h113

theorem State.accPart_keeps {q F s x1 x2 x3 x4 x5} (h : State.Keeps q F s) : State.Keeps q F (State.accPart s x1 x2 x3 x4 x5) := by
  unfold State.accPart
  apply State.accDone_keeps
  exact h

theorem State.windowMiss_keeps {q F s x1} (h : State.Keeps q F s) : State.Keeps q F (State.windowMiss s x1) := by
  unfold State.windowMiss
  extract_lets y101 y102
  have h103 : State.Keeps q F y101 := by
    apply State.bump_keeps
    exact h
  clear_value y101
  have h104 : State.Keeps q F y102 := by
    refine ite_keeps ?_ ?_
    · exact h103
    · apply State.setReg64_keeps
      exact h103
  clear_value y102
  refine ite_keeps ?_ ?_
  · apply State.vecPf_keeps
    exact h104
  · exact h104

theorem State.hostAnswer_keeps {q F s x1 x2} (h : State.Keeps q F s) : State.Keeps q F (State.hostAnswer s x1 x2) := by
  unfold State.hostAnswer
  refine State.Keeps.fields (s := s) ?_
  exact h

theorem State.hostGone_keeps {q F s x1} (h : State.Keeps q F s) : State.Keeps q F (State.hostGone s x1) := by
  unfold State.hostGone
  split
  next z101 z102 z103 =>
    refine ite_keeps ?_ ?_
    · apply State.hostAnswer_keeps
      exact h
    · extract_lets y104
      have h105 : State.Keeps q F y104 := by
        apply State.windowMiss_keeps
        exact h
      clear_value y104
      apply State.hostAnswer_keeps
      exact h105
  next z106 z107 =>
    exact h

theorem State.mapReqs_keeps {q F s x1} (h : State.Keeps q F s) : State.Keeps q F (State.mapReqs s x1) := by
  unfold State.mapReqs
  refine State.Keeps.fields (s := s) ?_
  exact h

theorem State.settleHost_keeps {q F s x1} (h : State.Keeps q F s) : State.Keeps q F (State.settleHost s x1) := by
  unfold State.settleHost
  extract_lets y101
  clear_value y101
  refine foldl_keeps (fun t102 x103 h104 => ?_) ?_
  · apply State.hostGone_keeps
    exact h104
  · apply State.mapReqs_keeps
    exact h

theorem State.deliver_keeps {q F s x1 x2 x3} (h : State.Keeps q F s) : State.Keeps q F (State.deliver s x1 x2 x3) := by
  unfold State.deliver
  split
  next z101 z102 z103 z104 =>
    apply State.accPart_keeps
    exact h
  next z105 z106 z107 z108 =>
    apply State.accPart_keeps
    exact h
  next z109 z110 z111 =>
    apply State.modCore_keeps
    exact h
  next z112 z113 z114 =>
    apply State.modCore_keeps
    exact h
  next z115 z116 z117 =>
    apply State.modCore_keeps
    exact h
  next z118 z119 =>
    apply State.hostAnswer_keeps
    exact h
  next z120 z121 z122 =>
    exact h
  next z123 z124 =>
    exact h
  next z125 =>
    exact h

theorem State.ackWrite_keeps {q F s x1 x2} (h : State.Keeps q F s) : State.Keeps q F (State.ackWrite s x1 x2) := by
  unfold State.ackWrite
  split
  next z101 z102 z103 =>
    apply State.modDie_keeps
    exact h
  next z104 z105 z106 z107 =>
    refine ite_keeps ?_ ?_
    · exact h
    · apply State.accPart_keeps
      exact h
  next z108 z109 =>
    refine ite_keeps ?_ ?_
    · exact h
    · apply State.hostAnswer_keeps
      exact h
  next z110 z111 =>
    refine State.Keeps.fields (s := s) ?_
    exact h
  next z112 z113 z114 z115 z116 =>
    exact h

theorem State.sendData_keeps {q F s x1 x2 x3 x4 x5} (h : State.Keeps q F s) : State.Keeps q F (State.sendData s x1 x2 x3 x4 x5) := by
  unfold State.sendData
  split
  next z101 z102 z103 =>
    apply State.sendDem_keeps
    exact h
  next z104 z105 =>
    exact h

theorem State.sendAck_keeps {q F s x1 x2 x3 x4} (h : State.Keeps q F s) : State.Keeps q F (State.sendAck s x1 x2 x3 x4) := by
  unfold State.sendAck
  split
  next z101 z102 z103 =>
    apply State.sendReed_keeps
    exact h
  next z104 z105 =>
    exact h

theorem State.chunkWritten_keeps {q F s x1 x2} (h : State.Keeps q F s) : State.Keeps q F (State.chunkWritten s x1 x2) := by
  unfold State.chunkWritten
  apply State.modEngine_keeps
  exact h

theorem State.sendAll_keeps {q F s x1 x2 x3 x4 x5} (h : State.Keeps q F s) : State.Keeps q F (State.sendAll s x1 x2 x3 x4 x5) := by
  unfold State.sendAll
  refine foldl_keeps (fun t101 x102 h103 => ?_) ?_
  · apply State.sendMsg_keeps
    exact h103
  · exact h

theorem State.openRecall_keeps {q F s x1 x2 x3 x4 x5 x6} (h : State.Keeps q F s) : State.Keeps q F (State.openRecall s x1 x2 x3 x4 x5 x6) := by
  unfold State.openRecall
  extract_lets y101 y102 y103 y104
  clear_value y101
  clear_value y102
  clear_value y103
  have h105 : State.Keeps q F y104 := by
    apply State.setSlice_keeps
    exact h
  clear_value y104
  split
  next z106 z107 =>
    exact h
  next z108 z109 z110 =>
    refine ite_keeps ?_ ?_
    · exact h
    · apply State.sendAll_keeps
      exact h105

theorem State.recallLine_keeps {q F s x1 x2 x3} (h : State.Keeps q F s) : State.Keeps q F (State.recallLine s x1 x2 x3) := by
  unfold State.recallLine
  refine foldl_keeps (fun t101 x102 h103 => ?_) ?_
  · apply State.openRecall_keeps
    exact h103
  · exact h

theorem State.finishDrop_keeps {q F s x1 x2} (h : State.Keeps q F s) : State.Keeps q F (State.finishDrop s x1 x2) := by
  unfold State.finishDrop
  extract_lets y101 y102 y103 y104
  clear_value y101
  clear_value y102
  clear_value y103
  have h105 : State.Keeps q F y104 := by
    apply State.setSlice_keeps
    exact h
  clear_value y104
  split
  next z106 z107 z108 =>
    apply State.bump_keeps
    exact h105
  next z109 z110 =>
    exact h105

theorem State.startDrop_keeps {q F s x1 x2} (h : State.Keeps q F s) : State.Keeps q F (State.startDrop s x1 x2) := by
  unfold State.startDrop
  extract_lets y101 y102
  clear_value y101
  clear_value y102
  refine ite_keeps ?_ ?_
  · exact h
  · refine ite_keeps ?_ ?_
    · apply State.setSlice_keeps
      exact h
    · refine ite_keeps ?_ ?_
      · apply State.finishDrop_keeps
        exact h
      · apply State.recallLine_keeps
        apply State.setSlice_keeps
        exact h

theorem State.settleLine_keeps {q F s x1 x2} (h : State.Keeps q F s) : State.Keeps q F (State.settleLine s x1 x2) := by
  unfold State.settleLine
  extract_lets y101
  clear_value y101
  refine ite_keeps ?_ ?_
  · exact h
  · refine ite_keeps ?_ ?_
    · apply State.recallLine_keeps
      exact h
    · refine ite_keeps ?_ ?_
      · refine ite_keeps ?_ ?_
        · apply State.modSlice_keeps
          exact h
        · exact h
      · refine ite_keeps ?_ ?_
        · apply State.finishDrop_keeps
          exact h
        · refine ite_keeps ?_ ?_
          · apply State.setSlice_keeps
            exact h
          · exact h

theorem State.openOwed_keeps {q F s x1 x2} (h : State.Keeps q F s) : State.Keeps q F (State.openOwed s x1 x2) := by
  unfold State.openOwed
  extract_lets y101 y102
  have h103 : State.Keeps q F y101 := by
    apply State.modSlice_keeps
    exact h
  clear_value y101
  have h104 : State.Keeps q F y102 := by
    refine foldl_keeps (fun t105 x106 h107 => ?_) ?_
    · apply State.chunkWritten_keeps
      exact h107
    · exact h103
  clear_value y102
  split
  next z108 z109 =>
    exact h104
  next z110 z111 z112 =>
    extract_lets y113
    clear_value y113
    refine ite_keeps ?_ ?_
    · apply State.modSlice_keeps
      exact h103
    · refine ite_keeps ?_ ?_
      · exact h104
      · refine ite_keeps ?_ ?_
        · apply State.openRecall_keeps
          exact h103
        · exact h

theorem State.settleSlice_keeps {q F s x1} (h : State.Keeps q F s) : State.Keeps q F (State.settleSlice s x1) := by
  unfold State.settleSlice
  extract_lets y101
  have h102 : State.Keeps q F y101 := by
    refine foldl_keeps (fun t103 x104 h105 => ?_) ?_
    · apply State.openOwed_keeps
      exact h105
    · exact h
  clear_value y101
  refine foldl_keeps (fun t106 x107 h108 => ?_) ?_
  · apply State.settleLine_keeps
    exact h108
  · exact h102

theorem State.endTr_keeps {q F s x1 x2 x3 x4} (h : State.Keeps q F s) : State.Keeps q F (State.endTr s x1 x2 x3 x4) := by
  unfold State.endTr
  extract_lets y101 y102 y103 y104 y105
  clear_value y101
  clear_value y102
  have h106 : State.Keeps q F y103 := by
    apply State.setSlice_keeps
    exact h
  clear_value y103
  clear_value y104
  have h107 : State.Keeps q F y105 := by
    apply State.setSlice_keeps
    exact h
  clear_value y105
  split
  next z108 z109 =>
    exact h
  next z110 z111 z112 =>
    refine ite_keeps ?_ ?_
    · split
      next z113 z114 z115 =>
        apply State.sendAll_keeps
        exact h106
      next z116 z117 =>
        exact h106
    · extract_lets y118
      have h119 : State.Keeps q F y118 := by
        refine foldl_keeps (fun t120 x121 h122 => ?_) ?_
        · apply State.chunkWritten_keeps
          exact h122
        · exact h107
      clear_value y118
      apply State.settleSlice_keeps
      exact h119

theorem State.startFill_keeps {q F s x1 x2 x3 x4} (h : State.Keeps q F s) : State.Keeps q F (State.startFill s x1 x2 x3 x4) := by
  unfold State.startFill
  extract_lets y101 y102
  clear_value y101
  clear_value y102
  split
  next z103 z104 =>
    exact h
  next z105 z106 z107 =>
    split
    next z108 z109 =>
      exact h
    next z110 z111 z112 z113 =>
      refine ite_keeps ?_ ?_
      · exact h
      · apply State.modChan_keeps
        apply State.setSlice_keeps
        exact h

theorem State.deadRead_keeps {q F s x1 x2} (h : State.Keeps q F s) : State.Keeps q F (State.deadRead s x1 x2) := by
  unfold State.deadRead
  split
  next z101 z102 =>
    exact h
  next z103 z104 z105 =>
    refine ite_keeps ?_ ?_
    · extract_lets y106
      have h107 : State.Keeps q F y106 := by
        apply State.bump_keeps
        exact h
      clear_value y106
      refine ite_keeps ?_ ?_
      · apply State.event_keeps
        exact h107
      · exact h107
    · exact h

theorem State.afterLoss_keeps {q F s x1 x2} (h : State.Keeps q F s) : State.Keeps q F (State.afterLoss s x1 x2) := by
  unfold State.afterLoss
  extract_lets y101
  clear_value y101
  refine ite_keeps ?_ ?_
  · exact h
  · refine ite_keeps ?_ ?_
    · apply State.modSlice_keeps
      exact h
    · refine ite_keeps ?_ ?_
      · apply State.startDrop_keeps
        exact h
      · exact h

theorem State.evictMask_keeps {q F s x1} (h : State.Keeps q F s) : State.Keeps q F (State.evictMask s x1) := by
  unfold State.evictMask
  extract_lets y101 y102 y103
  clear_value y101
  clear_value y102
  clear_value y103
  split
  next z104 z105 =>
    exact h
  next z106 z107 z108 =>
    split
    next z109 z110 =>
      exact h
    next z111 z112 z113 z114 z115 =>
      extract_lets y116
      clear_value y116
      split
      next z117 z118 =>
        exact h
      next z119 z120 z121 z122 =>
        refine ite_keeps ?_ ?_
        · exact h
        · extract_lets y123
          clear_value y123
          apply State.afterLoss_keeps
          apply State.bump_keeps
          apply State.setSlice_keeps
          apply State.modChan_keeps
          exact h

theorem State.landBytes_keeps {q F s x1 x2 x3 x4 x5} (h : State.Keeps q F s) : State.Keeps q F (State.landBytes s x1 x2 x3 x4 x5) := by
  unfold State.landBytes
  extract_lets y101 y102 y103
  clear_value y101
  clear_value y102
  clear_value y103
  apply State.setSlice_keeps
  exact h

theorem State.toHome_keeps {q F s x1 x2 x3 x4 x5 x6} (h : State.Keeps q F s) : State.Keeps q F (State.toHome s x1 x2 x3 x4 x5 x6) := by
  unfold State.toHome
  split
  next z101 z102 z103 =>
    apply State.sendMsg_keeps
    exact h
  next z104 z105 =>
    exact h

theorem State.putBlock_keeps {q F s x1 x2 x3 x4} (h : State.Keeps q F s) : State.Keeps q F (State.putBlock s x1 x2 x3 x4) := by
  unfold State.putBlock
  split
  next z101 z102 =>
    exact h
  next z103 z104 z105 =>
    extract_lets y106
    have h107 : ∀ a0 a1, State.Keeps q F a1 → State.Keeps q F (y106 a0 a1) := by
      intro x108
      intro x109
      intro h110
      unfold y106
      apply State.modDie_keeps
      exact h110
    clear_value y106
    split
    next z111 z112 =>
      apply h107
      apply State.toHome_keeps
      exact h
    next z113 z114 =>
      apply h107
      apply State.toHome_keeps
      exact h
    next z115 z116 =>
      apply h107
      apply State.toHome_keeps
      apply State.bump_keeps
      exact h
    next z117 z118 z119 z120 =>
      exact h

theorem State.pumpLeave_keeps {q F s x1} (h : State.Keeps q F s) : State.Keeps q F (State.pumpLeave s x1) := by
  unfold State.pumpLeave
  refine foldl_keeps (fun t101 x102 h103 => ?_) ?_
  · refine ite_keeps ?_ ?_
    · apply State.putBlock_keeps
      exact h103
    · exact h103
  · exact h

theorem State.leaveDie_keeps {q F s x1 x2} (h : State.Keeps q F s) : State.Keeps q F (State.leaveDie s x1 x2) := by
  unfold State.leaveDie
  apply State.pumpLeave_keeps
  apply State.modDie_keeps
  exact h

theorem State.allocate_keeps {q F s x1 x2 x3} (h : State.Keeps q F s) : State.Keeps q F (State.allocate s x1 x2 x3) := by
  unfold State.allocate
  extract_lets y101 y102 y103 y104 y105 y106 y107
  clear_value y101
  clear_value y102
  clear_value y103
  clear_value y104
  clear_value y105
  clear_value y106
  clear_value y107
  split
  next z108 z109 z110 =>
    apply State.setSlice_keeps
    exact h
  next z111 z112 =>
    refine ite_keeps ?_ ?_
    · exact h
    · split
      next z113 =>
        exact h
      next z114 z115 =>
        refine ite_keeps ?_ ?_
        · apply State.recallLine_keeps
          apply State.setSlice_keeps
          apply State.setSlice_keeps
          exact h
        · refine ite_keeps ?_ ?_
          · exact h
          · apply State.setSlice_keeps
            exact h

theorem State.yieldAll_keeps {q F s x1 x2 x3 x4} (h : State.Keeps q F s) : OptFstKeeps q F (State.yieldAll s x1 x2 x3 x4) := by
  unfold State.yieldAll
  refine List.foldlRecOn (motive := fun r => OptFstKeeps q F r) _ _ (some_fst_keeps h) (fun r hr d _ => ?_)
  intro t a e
  obtain ⟨⟨s', data⟩, rfl, e2⟩ := Option.bind_eq_some_iff.mp e
  have h' := hr _ _ rfl
  dsimp only at e2
  split at e2
  · exact nomatch e2
  · obtain ⟨b', _, e3⟩ := Option.map_eq_some_iff.mp e2
    cases e3
    exact State.modDie_keeps h'

theorem State.pullCopies_keeps {q F s x1 x2 x3 x4 x5} (h : State.Keeps q F s) : State.Keeps q F (State.pullCopies s x1 x2 x3 x4 x5) := by
  unfold State.pullCopies
  extract_lets y101
  clear_value y101
  refine ite_keeps ?_ ?_
  · exact h
  · split
    next z102 z103 =>
      exact h
    next z104 z105 z106 z107 =>
      extract_lets y108 y109
      have h110 : State.Keeps q F y108 := by
        unfold y108
        split
        next z111 z112 =>
          apply State.landBytes_keeps
          refine (?_ : OptFstKeeps _ _ _) _ _ z107
          apply State.yieldAll_keeps
          exact h
        next z113 =>
          refine (?_ : OptFstKeeps _ _ _) _ _ z107
          apply State.yieldAll_keeps
          exact h
      clear_value y108
      clear_value y109
      apply State.modSlice_keeps
      exact h110

theorem State.bringLine_keeps {q F s x1 x2 x3} (h : State.Keeps q F s) : State.Keeps q F (State.bringLine s x1 x2 x3) := by
  unfold State.bringLine
  split
  next z101 z102 z103 =>
    exact h
  next z104 z105 =>
    apply State.allocate_keeps
    exact h

theorem State.settleWrites_keeps {q F s x1 x2 x3} (h : State.Keeps q F s) : State.Keeps q F (State.settleWrites s x1 x2 x3) := by
  unfold State.settleWrites
  extract_lets y101
  clear_value y101
  refine foldl_keeps (fun t102 x103 h104 => ?_) ?_
  · apply State.sendAck_keeps
    apply State.modSlice_keeps
    apply State.landBytes_keeps
    exact h104
  · exact h

theorem State.seenSec_keeps {q F s x1 x2} (h : State.Keeps q F s) : State.Keeps q F (State.seenSec s x1 x2) := by
  unfold State.seenSec
  extract_lets y101
  clear_value y101
  split
  next z102 z103 =>
    exact h
  next z104 z105 z106 =>
    extract_lets y107 y108 y109
    clear_value y107
    have h110 : State.Keeps q F y108 := by
      refine ite_keeps ?_ ?_
      · exact h
      · apply State.deadRead_keeps
        exact h
    clear_value y108
    have h111 : State.Keeps q F y109 := by
      apply State.bringLine_keeps
      exact h110
    clear_value y109
    split
    next z112 z113 =>
      exact h111
    next z114 z115 z116 =>
      extract_lets y117 y118 y119
      have h120 : State.Keeps q F y117 := by
        apply State.pullCopies_keeps
        exact h111
      clear_value y117
      clear_value y118
      clear_value y119
      apply State.modSlice_keeps
      exact h120

theorem State.devSeen_keeps {q F s x1 x2 x3} (h : State.Keeps q F s) : State.Keeps q F (State.devSeen s x1 x2 x3) := by
  unfold State.devSeen
  refine foldl_keeps (fun t101 x102 h103 => ?_) ?_
  · apply State.seenSec_keeps
    exact h103
  · exact h

theorem State.writeBehind_keeps {q F s x1 x2 x3} (h : State.Keeps q F s) : State.Keeps q F (State.writeBehind s x1 x2 x3) := by
  unfold State.writeBehind
  extract_lets y101 y102
  clear_value y101
  have h103 : ∀ a0, State.Keeps q F a0 → State.Keeps q F (y102 a0) := by
    intro x104
    intro h105
    unfold y102
    split
    next z106 z107 z108 z109 =>
      extract_lets y110
      have h111 : State.Keeps q F y110 := by
        apply State.performWrites_keeps
        exact h105
      clear_value y110
      apply State.memWrite_keeps
      exact h111
    next z112 z113 =>
      exact h105
  clear_value y102
  split
  next z114 z115 =>
    apply h103
    exact h
  next z116 z117 z118 =>
    refine ite_keeps ?_ ?_
    · apply h103
      exact h
    · apply State.modSlice_keeps
      exact h

theorem State.devWriteSec_keeps {q F s x1 x2 x3} (h : State.Keeps q F s) : State.Keeps q F (State.devWriteSec s x1 x2 x3) := by
  unfold State.devWriteSec
  extract_lets y101 y102
  clear_value y101
  have h103 : ∀ a0, State.Keeps q F a0 → State.Keeps q F (y102 a0) := by
    intro x104
    intro h105
    unfold y102
    refine State.Keeps.fields (s := x104) ?_
    exact h105
  clear_value y102
  split
  next z106 z107 =>
    apply State.writeBehind_keeps
    exact h
  next z108 z109 z110 =>
    extract_lets y111
    have h112 : State.Keeps q F y111 := by
      apply State.bringLine_keeps
      exact h
    clear_value y111
    split
    next z113 z114 =>
      apply State.writeBehind_keeps
      apply h103
      exact h112
    next z115 z116 z117 =>
      extract_lets y118 y119 y120 y121
      have h122 : State.Keeps q F y118 := by
        apply h103
        apply State.settleWrites_keeps
        apply State.pullCopies_keeps
        exact h112
      clear_value y118
      clear_value y119
      have h123 : State.Keeps q F y120 := by
        refine ite_keeps ?_ ?_
        · apply State.modSlice_keeps
          exact h122
        · exact h122
      clear_value y120
      have h124 : State.Keeps q F y121 := by
        refine ite_keeps ?_ ?_
        · apply State.evictMask_keeps
          exact h123
        · exact h123
      clear_value y121
      apply State.landBytes_keeps
      exact h124

theorem State.devWrite_keeps {q F s x1 x2 x3} (h : State.Keeps q F s) : State.Keeps q F (State.devWrite s x1 x2 x3) := by
  unfold State.devWrite
  extract_lets y101 y102
  clear_value y101
  clear_value y102
  refine foldl_keeps (fun t103 x104 h105 => ?_) ?_
  · apply State.devWriteSec_keeps
    exact h105
  · exact h

theorem State.lineToMem_keeps {q F s x1 x2} (h : State.Keeps q F s) : State.Keeps q F (State.lineToMem s x1 x2) := by
  unfold State.lineToMem
  split
  next z101 z102 =>
    exact h
  next z103 z104 z105 z106 =>
    extract_lets y107
    have h108 : State.Keeps q F y107 := by
      apply State.performWrites_keeps
      exact h
    clear_value y107
    refine foldl_keeps (fun t109 x110 h111 => ?_) ?_
    · refine ite_keeps ?_ ?_
      · apply State.memWrite_keeps
        exact h111
      · refine ite_keeps ?_ ?_
        · apply State.memWrite_keeps
          exact h111
        · exact h111
    · exact h108

theorem State.purgeBlocks_keeps {q F s x1 x2} (h : State.Keeps q F s) : State.Keeps q F (State.purgeBlocks s x1 x2) := by
  unfold State.purgeBlocks
  extract_lets y101 y102
  clear_value y101
  have h103 : State.Keeps q F y102 := by
    refine State.Keeps.fields (s := s) ?_
    exact h
  clear_value y102
  refine ite_keeps ?_ ?_
  · refine foldl_keeps (fun t104 x105 h106 => ?_) ?_
    · apply State.devWriteSec_keeps
      exact h106
    · exact h103
  · exact h103

theorem State.flushSlice_keeps {q F s x1} (h : State.Keeps q F s) : State.Keeps q F (State.flushSlice s x1) := by
  unfold State.flushSlice
  split
  next z101 z102 =>
    apply State.setSlice_keeps
    exact h
  next z103 z104 z105 =>
    extract_lets y106 y107 y108 y109
    clear_value y106
    clear_value y107
    have h110 : State.Keeps q F y108 := by
      refine foldl_keeps (fun t111 x112 h113 => ?_) ?_
      · apply State.lineToMem_keeps
        exact h113
      · exact h
    clear_value y108
    have h114 : State.Keeps q F y109 := by
      refine foldl_keeps (fun t115 x116 h117 => ?_) ?_
      · apply State.lineToMem_keeps
        exact h117
      · exact h110
    clear_value y109
    apply State.setSlice_keeps
    exact h114

theorem State.discardLines_keeps {q F s x1 x2} (h : State.Keeps q F s) : State.Keeps q F (State.discardLines s x1 x2) := by
  unfold State.discardLines
  extract_lets y101 y102 y103
  have h104 : State.Keeps q F y101 := by
    apply State.purgeBlocks_keeps
    exact h
  clear_value y101
  have h105 : State.Keeps q F y102 := by
    apply State.settleHost_keeps
    exact h104
  clear_value y102
  have h106 : State.Keeps q F y103 := by
    apply State.mapReqs_keeps
    exact h105
  clear_value y103
  refine foldl_keeps (fun t107 x108 h109 => ?_) ?_
  · apply State.modSlice_keeps
    exact h109
  · exact h106

theorem State.discardSuspect_keeps {q F s x1 x2} (h : State.Keeps q F s) : State.Keeps q F (State.discardSuspect s x1 x2) := by
  unfold State.discardSuspect
  extract_lets y101 y102
  have h103 : State.Keeps q F y101 := by
    apply State.settleHost_keeps
    exact h
  clear_value y101
  have h104 : State.Keeps q F y102 := by
    apply State.mapReqs_keeps
    exact h103
  clear_value y102
  refine foldl_keeps (fun t105 x106 h107 => ?_) ?_
  · refine foldl_keeps (fun t108 x109 h110 => ?_) ?_
    · apply State.settleLine_keeps
      apply State.modSlice_keeps
      exact h110
    · exact h107
  · exact h104

end Sys2Proof.Machine
end

