-- ==== Sys2Proof/Laws/KeepsContain.lean ====
section
/-! SUPPORT. Every operation of Contain.lean keeps what State.Keeps says. -/

set_option maxRecDepth 20000

namespace Sys2Proof.Machine

theorem State.journal_keeps {q F s x1 x2 x3 x4} (h : State.Keeps q F s) : State.Keeps q F (State.journal s x1 x2 x3 x4) := by
  unfold State.journal
  extract_lets y101 y102 y103 y104 y105
  clear_value y101
  clear_value y102
  clear_value y103
  clear_value y104
  clear_value y105
  refine ite_keeps ?_ ?_
  · refine ite_keeps ?_ ?_
    · refine State.Keeps.fields (s := s) ?_
      exact h
    · refine ite_keeps ?_ ?_
      · refine State.Keeps.fields (s := s) ?_
        exact h
      · refine State.Keeps.fields (s := s) ?_
        exact h
  · refine State.Keeps.fields (s := s) ?_
    exact h

theorem State.program_keeps {q F s x1} (h : State.Keeps q F s) : State.Keeps q F (State.program s x1) := by
  unfold State.program
  extract_lets y101 y102 y103 y104 y105 y106 y107 y108 y109 y110 y111
  clear_value y103
  clear_value y104
  clear_value y105
  clear_value y106
  clear_value y107
  have h112 : State.Keeps q F y108 := by
    refine State.Keeps.fields (s := s) ?_
    exact h
  clear_value y108
  have h113 : State.Keeps q F y109 := by
    apply State.bumpFld_keeps
    exact h112
  clear_value y109
  have h114 : State.Keeps q F y110 := by
    apply State.setReg_keeps
    exact h113
  clear_value y110
  have h115 : State.Keeps q F y111 := by
    apply State.setReg_keeps
    exact h114
  clear_value y111
  apply State.setReg_keeps
  exact h115

theorem State.orphan_keeps {q F s x1} (h : State.Keeps q F s) : State.Keeps q F (State.orphan s x1) := by
  unfold State.orphan
  extract_lets y101 y102 y103 y104 y105 y106 y107 y108 y109
  clear_value y101
  clear_value y102
  clear_value y103
  clear_value y104
  clear_value y105
  have h110 : State.Keeps q F y106 := by
    refine State.Keeps.fields (s := s) ?_
    exact h
  clear_value y106
  have h111 : State.Keeps q F y107 := by
    refine foldl_keeps (fun t112 x113 h114 => ?_) ?_
    · apply State.sendHomeOp_keeps
      exact h114
    · exact h110
  clear_value y107
  have h115 : State.Keeps q F y108 := by
    apply State.mapReqs_keeps
    exact h111
  clear_value y108
  have h116 : State.Keeps q F y109 := by
    refine State.Keeps.fields (s := y108) ?_
    exact h115
  clear_value y109
  apply State.modDie_keeps
  exact h116

theorem State.dropWakes_keeps {q F s x1} (h : State.Keeps q F s) : State.Keeps q F (State.dropWakes s x1) := by
  unfold State.dropWakes
  refine State.Keeps.fields (s := s) ?_
  exact h

theorem State.stopCore_keeps {q F s x1} (h : State.Keeps q F s) : State.Keeps q F (State.stopCore s x1) := by
  unfold State.stopCore
  apply State.dropWakes_keeps
  apply State.orphan_keeps
  apply State.modCore_keeps
  exact h

theorem State.discardCore_keeps {q F s x1} (h : State.Keeps q F s) : State.Keeps q F (State.discardCore s x1) := by
  unfold State.discardCore
  apply State.dropWakes_keeps
  apply State.orphan_keeps
  apply State.modCore_keeps
  exact h

theorem State.discardCores_keeps {q F s x1} (h : State.Keeps q F s) : State.Keeps q F (State.discardCores s x1) := by
  unfold State.discardCores
  refine foldl_keeps (fun t101 x102 h103 => ?_) ?_
  · apply State.discardCore_keeps
    exact h103
  · exact h

theorem State.stopCores_keeps {q F s x1} (h : State.Keeps q F s) : State.Keeps q F (State.stopCores s x1) := by
  unfold State.stopCores
  refine foldl_keeps (fun t101 x102 h103 => ?_) ?_
  · apply State.stopCore_keeps
    exact h103
  · exact h

theorem State.cancelNow_keeps {q F s x1 x2} (h : State.Keeps q F s) : State.Keeps q F (State.cancelNow s x1 x2) := by
  unfold State.cancelNow
  refine State.Keeps.fields (s := s) ?_
  exact h

theorem State.cancelStreams_keeps {q F s x1 x2} (h : State.Keeps q F s) : State.Keeps q F (State.cancelStreams s x1 x2) := by
  unfold State.cancelStreams
  refine ite_keeps ?_ ?_
  · apply State.cancelNow_keeps
    exact h
  · refine State.Keeps.fields (s := s) ?_
    exact h

theorem State.endJob_keeps {q F s x1 x2 x3 x4} (h : State.Keeps q F s) : State.Keeps q F (State.endJob s x1 x2 x3 x4) := by
  unfold State.endJob
  apply State.modVd_keeps
  exact h

theorem State.fault_keeps {q F s x1 x2 x3 x4 x5} (h : State.Keeps q F s) : State.Keeps q F (State.fault s x1 x2 x3 x4 x5) := by
  unfold State.fault
  split
  next z101 z102 =>
    apply State.modCore_keeps
    exact h
  next z103 z104 z105 =>
    extract_lets y106 y107 y108 y109 y110 y111
    clear_value y106
    clear_value y107
    have h112 : State.Keeps q F y108 := by
      apply State.record_keeps
      exact h
    clear_value y108
    have h113 : State.Keeps q F y109 := by
      refine foldl_keeps (fun t114 x115 h116 => ?_) ?_
      · apply State.stopCore_keeps
        exact h116
      · exact h112
    clear_value y109
    have h117 : State.Keeps q F y110 := by
      apply State.dropWakes_keeps
      apply State.modCore_keeps
      exact h113
    clear_value y110
    have h118 : State.Keeps q F y111 := by
      apply State.modDie_keeps
      exact h117
    clear_value y111
    apply State.endJob_keeps
    apply State.cancelStreams_keeps
    exact h118

theorem State.fabricFault_keeps {q F s x1 x2 x3 x4 x5} (h : State.Keeps q F s) : State.Keeps q F (State.fabricFault s x1 x2 x3 x4 x5) := by
  unfold State.fabricFault
  extract_lets y101 y102
  clear_value y101
  have h103 : State.Keeps q F y102 := by
    apply State.record_keeps
    exact h
  clear_value y102
  apply State.endJob_keeps
  apply State.cancelStreams_keeps
  apply State.stopCores_keeps
  exact h103

theorem State.composeDone_keeps {q F s x1 x2} (h : State.Keeps q F s) : State.Keeps q F (State.composeDone s x1 x2) := by
  unfold State.composeDone
  apply State.setRegBit_keeps
  apply State.setRegFld_keeps
  apply State.setRegFld_keeps
  exact h

theorem State.abandon_keeps {q F s x1} (h : State.Keeps q F s) : State.Keeps q F (State.abandon s x1) := by
  unfold State.abandon
  split
  next z101 z102 =>
    exact h
  next z103 z104 z105 =>
    refine ite_keeps ?_ ?_
    · exact h
    · refine ite_keeps ?_ ?_
      · apply State.composeDone_keeps
        apply State.modVd_keeps
        refine State.Keeps.fields (s := s) ?_
        exact h
      · refine State.Keeps.fields (s := s) ?_
        exact h

theorem State.suspect_keeps {q F s x1 x2} (h : State.Keeps q F s) : State.Keeps q F (State.suspect s x1 x2) := by
  unfold State.suspect
  extract_lets y101 y102
  clear_value y101
  have h103 : State.Keeps q F y102 := by
    refine ite_keeps ?_ ?_
    · exact h
    · apply State.discardSuspect_keeps
      exact h
  clear_value y102
  refine foldl_keeps (fun t104 x105 h106 => ?_) ?_
  · apply State.modExtent_keeps
    exact h106
  · exact h103

theorem State.abortRelease_keeps {q F s x1} (h : State.Keeps q F s) : State.Keeps q F (State.abortRelease s x1) := by
  unfold State.abortRelease
  split
  next z101 z102 z103 =>
    refine ite_keeps ?_ ?_
    · apply State.setRegFld_keeps
      apply State.setRegFld_keeps
      refine State.Keeps.fields (s := s) ?_
      exact h
    · exact h
  next z104 z105 =>
    exact h

theorem State.fence_keeps {q F s x1} (h : State.Keeps q F s) : State.Keeps q F (State.fence s x1) := by
  unfold State.fence
  extract_lets y101 y102 y103 y104
  have h105 : State.Keeps q F y101 := by
    apply State.modVd_keeps
    apply State.abandon_keeps
    exact h
  clear_value y101
  have h106 : State.Keeps q F y102 := by
    apply State.cancelStreams_keeps
    apply State.discardCores_keeps
    exact h105
  clear_value y102
  have h107 : State.Keeps q F y103 := by
    apply State.endJob_keeps
    exact h106
  clear_value y103
  clear_value y104
  refine State.Keeps.fields (s := y103) ?_
  exact h107

theorem State.contain_keeps {q F s x1 x2 x3 x4} (h : State.Keeps q F s) : State.Keeps q F (State.contain s x1 x2 x3 x4) := by
  unfold State.contain
  extract_lets y101
  have h102 : ∀ a0, State.Keeps q F a0 → State.Keeps q F (y101 a0) := by
    intro x103
    intro h104
    unfold y101
    refine foldl_keeps (fun t105 x106 h107 => ?_) ?_
    · apply State.record_keeps
      exact h107
    · exact h104
  clear_value y101
  split
  next z108 z109 =>
    apply State.record_keeps
    exact h
  next z110 z111 =>
    apply h102
    apply State.abortRelease_keeps
    apply State.suspect_keeps
    exact h
  next z112 z113 z114 =>
    apply h102
    apply State.fence_keeps
    apply State.suspect_keeps
    exact h

theorem State.containCore_keeps {q F s x1 x2 x3} (h : State.Keeps q F s) : State.Keeps q F (State.containCore s x1 x2 x3) := by
  unfold State.containCore
  extract_lets y101 y102
  clear_value y101
  clear_value y102
  split
  next z103 z104 z105 =>
    apply State.contain_keeps
    exact h
  next z106 z107 =>
    apply State.record_keeps
    exact h

theorem State.clearVf_keeps {q F s x1} (h : State.Keeps q F s) : State.Keeps q F (State.clearVf s x1) := by
  unfold State.clearVf
  apply State.clearRegs_keeps
  exact h

theorem State.flrHomes_keeps {q F s x1} (h : State.Keeps q F s) : State.Keeps q F (State.flrHomes s x1) := by
  unfold State.flrHomes
  extract_lets y101 y102 y103 y104
  have h105 : State.Keeps q F y101 := by
    apply State.settleHost_keeps
    exact h
  clear_value y101
  have h106 : State.Keeps q F y102 := by
    apply State.mapReqs_keeps
    exact h105
  clear_value y102
  have h107 : State.Keeps q F y103 := by
    refine foldl_keeps (fun t108 x109 h110 => ?_) ?_
    · apply State.modSlice_keeps
      exact h110
    · exact h106
  clear_value y103
  have h111 : State.Keeps q F y104 := by
    refine State.Keeps.fields (s := y103) ?_
    exact h107
  clear_value y104
  apply State.setReg_keeps
  apply State.setReg_keeps
  apply State.setReg_keeps
  exact h111

theorem State.flrDies_keeps {q F s x1} (h : State.Keeps q F s) : State.Keeps q F (State.flrDies s x1) := by
  unfold State.flrDies
  extract_lets y101
  have h102 : State.Keeps q F y101 := by
    refine State.Keeps.fields (s := s) ?_
    exact h
  clear_value y101
  refine foldl_keeps (fun t103 x104 h105 => ?_) ?_
  · apply State.leaveDie_keeps
    exact h105
  · exact h102

theorem State.flrVf_keeps {q F s x1} (h : State.Keeps q F s) : State.Keeps q F (State.flrVf s x1) := by
  unfold State.flrVf
  extract_lets y101 y102 y103 y104 y105 y106 y107 y108 y109 y110 y111
  have h112 : State.Keeps q F y101 := by
    apply State.discardCores_keeps
    apply State.abandon_keeps
    exact h
  clear_value y101
  have h113 : State.Keeps q F y102 := by
    refine foldl_keeps (fun t114 x115 h116 => ?_) ?_
    · apply State.modCore_keeps
      exact h116
    · exact h112
  clear_value y102
  have h117 : State.Keeps q F y103 := by
    apply State.cancelStreams_keeps
    exact h113
  clear_value y103
  clear_value y104
  clear_value y105
  have h118 : State.Keeps q F y106 := by
    refine State.Keeps.fields (s := y103) ?_
    exact h117
  clear_value y106
  have h119 : State.Keeps q F y107 := by
    apply State.flrDies_keeps
    apply State.flrHomes_keeps
    exact h118
  clear_value y107
  have h120 : State.Keeps q F y108 := by
    apply State.modVd_keeps
    exact h119
  clear_value y108
  clear_value y109
  have h121 : State.Keeps q F y110 := by
    refine State.Keeps.fields (s := y108) ?_
    exact h120
  clear_value y110
  have h122 : State.Keeps q F y111 := by
    refine State.Keeps.fieldsRegs (s := y110) ?_ (fun w123 => ?_)
    · exact h121
    · exact SMap.wf_filter _ _ _ w123
  clear_value y111
  apply State.clearVf_keeps
  exact h122

theorem State.flashCut_keeps {q F s} (h : State.Keeps q F s) : State.Keeps q F (State.flashCut s) := by
  unfold State.flashCut
  extract_lets y101 y102 y103 y104
  clear_value y101
  clear_value y102
  clear_value y103
  clear_value y104
  refine State.Keeps.fields (s := s) ?_
  exact h

theorem State.stewardRestart_keeps {q F s} (h : State.Keeps q F s) : State.Keeps q F (State.stewardRestart s) := by
  unfold State.stewardRestart
  extract_lets y101 y102 y103 y104 y105
  clear_value y101
  have h106 : State.Keeps q F y102 := by
    refine foldl_keeps (fun t107 x108 h109 => ?_) ?_
    · apply State.nextSeq_keeps
      apply State.bump_keeps
      exact h109
    · exact h
  clear_value y102
  have h110 : State.Keeps q F y103 := by
    apply State.flashCut_keeps
    exact h106
  clear_value y103
  clear_value y104
  clear_value y105
  refine State.Keeps.fields (s := y103) ?_
  exact h110

theorem State.discard_keeps {q F s x1 x2} (h : State.Keeps q F s) : State.Keeps q F (State.discard s x1 x2) := by
  obtain ⟨hc, hq, hf⟩ := h
  unfold State.Keeps State.canonical at *
  simp only [Bool.and_eq_true] at hc ⊢
  exact ⟨⟨⟨rfl, SMap.wf_filter _ _ _ hc.1.2⟩, hc.2⟩, hq, hf⟩

theorem State.moduleReset_keeps {q F s x1 x2 x3} (h : State.Keeps q F s) : State.Keeps q F (State.moduleReset s x1 x2 x3) := by
  unfold State.moduleReset
  extract_lets y101 y102 y103
  clear_value y101
  have h104 : State.Keeps q F y102 := by
    apply State.discard_keeps
    exact h
  clear_value y102
  have h105 : State.Keeps q F y103 := by
    refine State.Keeps.fields (s := y102) ?_
    exact h104
  clear_value y103
  apply State.setReg_keeps
  exact h105

theorem State.sticky_keeps {q F s x1} (h : State.Keeps q F s) : State.Keeps q F (State.sticky s x1) := by
  unfold State.sticky
  refine ite_keeps ?_ ?_
  · apply State.bumpFld_keeps
    exact h
  · apply State.setRegs_keeps
    apply State.setReg_keeps
    apply State.setRegBit_keeps
    exact h

theorem State.fatalRecord_keeps {q F s x1} (h : State.Keeps q F s) : State.Keeps q F (State.fatalRecord s x1) := by
  unfold State.fatalRecord
  extract_lets y101 y102 y103 y104 y105 y106 y107 y108 y109
  clear_value y101
  have h110 : State.Keeps q F y102 := by
    apply State.bump_keeps
    exact h
  clear_value y102
  have h111 : State.Keeps q F y103 := by
    apply State.nextSeq_keeps
    exact h110
  clear_value y103
  clear_value y104
  clear_value y105
  have h112 : State.Keeps q F y106 := by
    refine State.Keeps.fields (s := y103) ?_
    exact h111
  clear_value y106
  have h113 : State.Keeps q F y107 := by
    apply State.sticky_keeps
    exact h112
  clear_value y107
  have h114 : State.Keeps q F y108 := by
    refine ite_keeps ?_ ?_
    · apply State.vecPf_keeps
      exact h113
    · exact h113
  clear_value y108
  clear_value y109
  apply State.program_keeps
  exact h114

theorem State.fatal_keeps {q F s x1} (h : State.Keeps q F s) : State.Keeps q F (State.fatal s x1) := by
  unfold State.fatal
  extract_lets y101 y102 y103
  clear_value y101
  have h104 : State.Keeps q F y102 := by
    apply State.stewardRestart_keeps
    apply State.fatalRecord_keeps
    exact h
  clear_value y102
  clear_value y103
  apply State.moduleReset_keeps
  refine State.Keeps.fields (s := y102) ?_
  exact h104

end Sys2Proof.Machine
end

