-- ==== Sys2Proof/Laws/KeepsUnified.lean ====
section
/-! SUPPORT. Every operation of Unified.lean keeps what State.Keeps says. -/

set_option maxRecDepth 20000

namespace Sys2Proof.Machine

theorem State.serveRead_keeps {q F s x1 x2 x3 x4} (h : State.Keeps q F s) : State.Keeps q F (State.serveRead s x1 x2 x3 x4) := by
  unfold State.serveRead
  extract_lets y101 y102 y103 y104 y105 y106 y107
  clear_value y101
  clear_value y102
  clear_value y103
  clear_value y104
  clear_value y105
  have h108 : State.Keeps q F y106 := by
    apply State.setSlice_keeps
    exact h
  clear_value y106
  have h109 : State.Keeps q F y107 := by
    apply State.sendData_keeps
    exact h108
  clear_value y107
  refine ite_keeps ?_ ?_
  · apply State.startDrop_keeps
    exact h109
  · exact h109

theorem State.missReq_keeps {q F s x1 x2 x3 x4} (h : State.Keeps q F s) : State.Keeps q F (State.missReq s x1 x2 x3 x4) := by
  unfold State.missReq
  refine ite_keeps ?_ ?_
  · exact h
  · extract_lets y101
    have h102 : State.Keeps q F y101 := by
      refine ite_keeps ?_ ?_
      · apply State.deadRead_keeps
        exact h
      · exact h
    clear_value y101
    apply State.modSlice_keeps
    exact h102

theorem State.refillLine_keeps {q F s x1 x2 x3} (h : State.Keeps q F s) : State.Keeps q F (State.refillLine s x1 x2 x3) := by
  unfold State.refillLine
  extract_lets y101 y102
  have h103 : State.Keeps q F y101 := by
    refine foldl_keeps (fun t104 x105 h106 => ?_) ?_
    · refine ite_keeps ?_ ?_
      · exact h106
      · apply State.startFill_keeps
        exact h106
    · exact h
  clear_value y101
  clear_value y102
  refine ite_keeps ?_ ?_
  · apply State.modSlice_keeps
    exact h103
  · exact h103

theorem homeRead_keeps {q F x0 x1 s} (h : State.Keeps q F s) : State.Keeps q F (homeRead x0 x1 s) := by
  unfold homeRead
  extract_lets y101
  clear_value y101
  split
  next z102 z103 =>
    exact h
  next z104 z105 z106 =>
    refine ite_keeps ?_ ?_
    · exact h
    · split
      next z107 z108 =>
        apply State.missReq_keeps
        exact h
      next z109 z110 z111 =>
        extract_lets y112 y113 y114 y115
        clear_value y112
        clear_value y113
        clear_value y114
        clear_value y115
        refine ite_keeps ?_ ?_
        · exact h
        · refine ite_keeps ?_ ?_
          · apply State.refillLine_keeps
            apply State.missReq_keeps
            exact h
          · refine ite_keeps ?_ ?_
            · apply State.startFill_keeps
              apply State.missReq_keeps
              exact h
            · split
              next z116 z117 z118 z119 =>
                exact h
              next z120 z121 z122 z123 =>
                refine ite_keeps ?_ ?_
                · apply State.sendMsg_keeps
                  apply State.setSlice_keeps
                  exact h
                · exact h
              next z124 z125 z126 z127 =>
                apply State.serveRead_keeps
                exact h

theorem homeWrite_keeps {q F x0 x1 s} (h : State.Keeps q F s) : State.Keeps q F (homeWrite x0 x1 s) := by
  unfold homeWrite
  extract_lets y101 y102
  clear_value y101
  have h103 : State.Keeps q F y102 := by
    apply State.setSlice_keeps
    exact h
  clear_value y102
  split
  next z104 z105 =>
    exact h
  next z106 z107 z108 =>
    refine ite_keeps ?_ ?_
    · exact h
    · split
      next z109 z110 =>
        apply State.missReq_keeps
        exact h
      next z111 z112 z113 =>
        extract_lets y114 y115 y116 y117
        clear_value y114
        clear_value y115
        have h118 : State.Keeps q F y116 := by
          refine ite_keeps ?_ ?_
          · apply State.sendAck_keeps
            exact h103
          · exact h103
        clear_value y116
        clear_value y117
        refine ite_keeps ?_ ?_
        · exact h
        · refine ite_keeps ?_ ?_
          · exact h
          · refine ite_keeps ?_ ?_
            · apply State.openRecall_keeps
              exact h
            · refine ite_keeps ?_ ?_
              · apply State.evictMask_keeps
                exact h118
              · exact h118

theorem writeCompletion_keeps {q F x0 x1 s} (h : State.Keeps q F s) : State.Keeps q F (writeCompletion x0 x1 s) := by
  unfold writeCompletion
  extract_lets y101
  clear_value y101
  split
  next z102 z103 =>
    exact h
  next z104 z105 z106 =>
    refine ite_keeps ?_ ?_
    · exact h
    · split
      next z107 z108 =>
        exact h
      next z109 z110 z111 =>
        extract_lets y112 y113 y114 y115 y116 y117
        clear_value y112
        clear_value y113
        clear_value y114
        have h118 : State.Keeps q F y115 := by
          apply State.landBytes_keeps
          exact h
        clear_value y115
        have h119 : State.Keeps q F y116 := by
          apply State.modSlice_keeps
          exact h118
        clear_value y116
        have h120 : State.Keeps q F y117 := by
          refine ite_keeps ?_ ?_
          · apply State.evictMask_keeps
            exact h119
          · exact h119
        clear_value y117
        refine ite_keeps ?_ ?_
        · exact h
        · refine ite_keeps ?_ ?_
          · apply State.evictMask_keeps
            exact h
          · apply State.sendAck_keeps
            exact h120

theorem State.containOwner_keeps {q F s x1 x2 x3} (h : State.Keeps q F s) : State.Keeps q F (State.containOwner s x1 x2 x3) := by
  unfold State.containOwner
  split
  next z101 z102 =>
    apply State.contain_keeps
    exact h
  next z103 =>
    apply State.record_keeps
    exact h

theorem State.sliceContain_keeps {q F s x1 x2 x3 x4 x5} (h : State.Keeps q F s) : State.Keeps q F (State.sliceContain s x1 x2 x3 x4 x5) := by
  unfold State.sliceContain
  extract_lets y101 y102 y103
  clear_value y101
  clear_value y102
  clear_value y103
  split
  next z104 z105 z106 =>
    apply State.containOwner_keeps
    exact h
  next z107 z108 =>
    apply State.containOwner_keeps
    exact h

theorem State.failFill_keeps {q F s x1 x2 x3} (h : State.Keeps q F s) : State.Keeps q F (State.failFill s x1 x2 x3) := by
  unfold State.failFill
  extract_lets y101 y102 y103 y104 y105 y106
  clear_value y101
  have h107 : State.Keeps q F y102 := by
    unfold y102
    split
    next z108 z109 z110 =>
      apply State.setSlice_keeps
      exact h
    next z111 z112 =>
      exact h
  clear_value y102
  clear_value y103
  clear_value y104
  have h113 : State.Keeps q F y105 := by
    apply State.modSlice_keeps
    exact h107
  clear_value y105
  have h114 : State.Keeps q F y106 := by
    refine foldl_keeps (fun t115 x116 h117 => ?_) ?_
    · apply State.sendData_keeps
      exact h117
    · exact h113
  clear_value y106
  split
  next z118 z119 z120 =>
    apply State.settleLine_keeps
    exact h114
  next z121 z122 =>
    exact h114

theorem State.fillFails_keeps {q F s x1 x2 x3} (h : State.Keeps q F s) : State.Keeps q F (State.fillFails s x1 x2 x3) := by
  unfold State.fillFails
  extract_lets y101 y102
  clear_value y101
  clear_value y102
  apply State.sliceContain_keeps
  apply State.failFill_keeps
  exact h

theorem fillComplete_keeps {q F x0 x1 s} (h : State.Keeps q F s) : State.Keeps q F (fillComplete x0 x1 s) := by
  unfold fillComplete
  extract_lets y101 y102
  clear_value y101
  have h103 : State.Keeps q F y102 := by
    apply State.setSlice_keeps
    exact h
  clear_value y102
  split
  next z104 z105 =>
    exact h
  next z106 z107 z108 =>
    refine ite_keeps ?_ ?_
    · apply State.fillFails_keeps
      exact h103
    · split
      next z109 z110 =>
        exact h103
      next z111 z112 z113 =>
        refine ite_keeps ?_ ?_
        · exact h103
        · apply State.settleLine_keeps
          apply State.modSlice_keeps
          exact h103

theorem lineAllocation_keeps {q F x0 x1 s} (h : State.Keeps q F s) : State.Keeps q F (lineAllocation x0 x1 s) := by
  unfold lineAllocation
  split
  next z101 z102 =>
    exact h
  next z103 z104 z105 =>
    refine ite_keeps ?_ ?_
    · exact h
    · apply State.allocate_keeps
      exact h

theorem writeBack_keeps {q F x0 s} (h : State.Keeps q F s) : State.Keeps q F (writeBack x0 s) := by
  unfold writeBack
  extract_lets y101
  clear_value y101
  split
  next z102 z103 z104 z105 z106 z107 z108 =>
    split
    next z109 z110 =>
      apply State.settleSlice_keeps
      apply State.setSlice_keeps
      exact h
    next z111 z112 z113 z114 =>
      refine ite_keeps ?_ ?_
      · exact h
      · extract_lets y115
        clear_value y115
        apply State.settleSlice_keeps
        apply State.modChan_keeps
        apply State.setSlice_keeps
        exact h
  next z116 z117 z118 =>
    exact h

theorem deadpendDrop_keeps {q F x0 x1 s} (h : State.Keeps q F s) : State.Keeps q F (deadpendDrop x0 x1 s) := by
  unfold deadpendDrop
  split
  next z101 z102 =>
    exact h
  next z103 z104 z105 =>
    extract_lets y106
    clear_value y106
    refine ite_keeps ?_ ?_
    · exact h
    · refine ite_keeps ?_ ?_
      · apply State.startDrop_keeps
        apply State.modSlice_keeps
        exact h
      · exact h

theorem startMaint_keeps {q F x0 s} (h : State.Keeps q F s) : State.Keeps q F (startMaint x0 s) := by
  unfold startMaint
  refine ite_keeps ?_ ?_
  · exact h
  · extract_lets y101 y102 y103 y104 y105 y106
    clear_value y101
    have h107 : State.Keeps q F y102 := by
      apply State.setRegFld_keeps
      exact h
    clear_value y102
    clear_value y103
    clear_value y104
    have h108 : State.Keeps q F y105 := by
      refine foldl_keeps (fun t109 x110 h111 => ?_) ?_
      · apply State.modSlice_keeps
        exact h111
      · exact h107
    clear_value y105
    have h112 : State.Keeps q F y106 := by
      apply State.setRegBit_keeps
      apply State.setRegFld_keeps
      apply State.setRegFld_keeps
      exact h108
    clear_value y106
    refine ite_keeps ?_ ?_
    · apply State.setRegBit_keeps
      apply State.setRegFld_keeps
      apply State.setRegFld_keeps
      exact h107
    · refine State.Keeps.fields (s := y106) ?_
      exact h112

theorem State.maintWrite_keeps {q F s x1 x2 x3} (h : State.Keeps q F s) : OptKeeps q F (State.maintWrite s x1 x2 x3) := by
  unfold State.maintWrite
  extract_lets y101
  clear_value y101
  refine opt_ite_keeps ?_ ?_
  · refine some_keeps ?_
    exact h
  · refine opt_ite_keeps ?_ ?_
    · exact none_keeps
    · split
      next z102 z103 =>
        refine some_keeps ?_
        exact h
      next z104 z105 z106 z107 =>
        refine opt_ite_keeps ?_ ?_
        · exact none_keeps
        · extract_lets y108
          clear_value y108
          refine some_keeps ?_
          apply State.bumpFld_keeps
          apply State.modChan_keeps
          exact h

theorem State.releaseLine_keeps {q F s x1 x2} (h : State.Keeps q F s) : State.Keeps q F (State.releaseLine s x1 x2) := by
  unfold State.releaseLine
  extract_lets y101
  have h102 : State.Keeps q F y101 := by
    apply State.modSlice_keeps
    exact h
  clear_value y101
  refine ite_keeps ?_ ?_
  · apply State.settleLine_keeps
    exact h102
  · apply State.afterLoss_keeps
    exact h102

theorem maintStep_keeps {q F x0 s} (h : State.Keeps q F s) : State.Keeps q F (maintStep x0 s) := by
  unfold maintStep
  split
  next z101 z102 =>
    exact h
  next z103 z104 z105 =>
    refine ite_keeps ?_ ?_
    · exact h
    · split
      next z106 z107 =>
        exact h
      next z108 z109 z110 z111 z112 =>
        extract_lets y113
        have h114 : ∀ a0, State.Keeps q F a0 → State.Keeps q F (y113 a0) := by
          intro x115
          intro h116
          unfold y113
          refine State.Keeps.fields (s := x115) ?_
          exact h116
        clear_value y113
        split
        next z117 z118 z119 z120 z121 z122 =>
          refine ite_keeps ?_ ?_
          · exact h
          · extract_lets y123 y124 y125 y126
            have h127 : State.Keeps q F y123 := by
              apply State.modSlice_keeps
              exact h
            clear_value y123
            have h128 : State.Keeps q F y124 := by
              refine State.Keeps.fields (s := y123) ?_
              exact h127
            clear_value y124
            clear_value y125
            clear_value y126
            refine ite_keeps ?_ ?_
            · exact h128
            · split
              next z129 =>
                split
                next z130 z131 z132 z133 =>
                  extract_lets y134
                  clear_value y134
                  refine ite_keeps ?_ ?_
                  · apply State.sendMsg_keeps
                    apply State.setSlice_keeps
                    exact h128
                  · exact h128
                next z135 z136 =>
                  split
                  next z137 z138 =>
                    exact h128
                  next z139 z140 z141 =>
                    apply State.releaseLine_keeps
                    apply h114
                    refine (?_ : OptKeeps _ _ _) _ z141
                    apply State.maintWrite_keeps
                    exact h128
              next z142 =>
                refine ite_keeps ?_ ?_
                · apply State.recallLine_keeps
                  exact h128
                · split
                  next z143 z144 =>
                    exact h128
                  next z145 z146 z147 =>
                    apply h114
                    apply State.modSlice_keeps
                    refine (?_ : OptKeeps _ _ _) _ z147
                    apply State.maintWrite_keeps
                    exact h128
              next z148 z149 z150 =>
                refine ite_keeps ?_ ?_
                · apply State.recallLine_keeps
                  exact h128
                · apply h114
                  apply State.modSlice_keeps
                  exact h128
        next z151 z152 z153 =>
          apply h114
          exact h

theorem probeCapture_keeps {q F x0 s} (h : State.Keeps q F s) : State.Keeps q F (probeCapture x0 s) := by
  unfold probeCapture
  extract_lets y101 y102 y103 y104 y105 y106
  clear_value y101
  clear_value y102
  clear_value y103
  clear_value y104
  have h107 : State.Keeps q F y105 := by
    apply State.setReg_keeps
    exact h
  clear_value y105
  have h108 : State.Keeps q F y106 := by
    apply State.setRegs_keeps
    exact h107
  clear_value y106
  apply State.setRegs_keeps
  exact h108

theorem maintGo_keeps {q F x0 s} (h : State.Keeps q F s) : State.Keeps q F (maintGo x0 s) := by
  unfold maintGo
  refine ite_keeps ?_ ?_
  · apply startMaint_keeps
    exact h
  · exact h

theorem execHomeRead_keeps {q F x0 x1 s} (h : State.Keeps q F s) : Out.Keeps q F (execHomeRead x0 x1 s) := by
  unfold execHomeRead
  refine ok_keeps ?_
  apply homeRead_keeps
  exact h

theorem execHomeWrite_keeps {q F x0 x1 s} (h : State.Keeps q F s) : Out.Keeps q F (execHomeWrite x0 x1 s) := by
  unfold execHomeWrite
  refine ok_keeps ?_
  apply homeWrite_keeps
  exact h

theorem execWriteCompletion_keeps {q F x0 x1 s} (h : State.Keeps q F s) : Out.Keeps q F (execWriteCompletion x0 x1 s) := by
  unfold execWriteCompletion
  refine ok_keeps ?_
  apply writeCompletion_keeps
  exact h

theorem execFillComplete_keeps {q F x0 x1 s} (h : State.Keeps q F s) : Out.Keeps q F (execFillComplete x0 x1 s) := by
  unfold execFillComplete
  refine ok_keeps ?_
  apply fillComplete_keeps
  exact h

theorem execLineAllocation_keeps {q F x0 x1 s} (h : State.Keeps q F s) : Out.Keeps q F (execLineAllocation x0 x1 s) := by
  unfold execLineAllocation
  refine ok_keeps ?_
  apply lineAllocation_keeps
  exact h

theorem execWriteBack_keeps {q F x0 s} (h : State.Keeps q F s) : Out.Keeps q F (execWriteBack x0 s) := by
  unfold execWriteBack
  refine ok_keeps ?_
  apply writeBack_keeps
  exact h

theorem execDeadpendDrop_keeps {q F x0 x1 s} (h : State.Keeps q F s) : Out.Keeps q F (execDeadpendDrop x0 x1 s) := by
  unfold execDeadpendDrop
  refine ok_keeps ?_
  apply deadpendDrop_keeps
  exact h

theorem execCacheOpWriteBack_keeps {q F x0 s} (h : State.Keeps q F s) : Out.Keeps q F (execCacheOpWriteBack x0 s) := by
  unfold execCacheOpWriteBack
  refine ok_keeps ?_
  split
  next z101 =>
    apply maintGo_keeps
    exact h
  next z102 =>
    apply maintStep_keeps
    exact h

theorem execCacheOpFlush_keeps {q F x0 s} (h : State.Keeps q F s) : Out.Keeps q F (execCacheOpFlush x0 s) := by
  unfold execCacheOpFlush
  refine ok_keeps ?_
  split
  next z101 =>
    apply maintGo_keeps
    exact h
  next z102 =>
    apply maintStep_keeps
    exact h

theorem execCacheOpDiscard_keeps {q F x0 s} (h : State.Keeps q F s) : Out.Keeps q F (execCacheOpDiscard x0 s) := by
  unfold execCacheOpDiscard
  refine ok_keeps ?_
  split
  next z101 =>
    apply maintGo_keeps
    exact h
  next z102 =>
    apply maintStep_keeps
    exact h

theorem execCacheOpEnd_keeps {q F s} (h : State.Keeps q F s) : Out.Keeps q F (execCacheOpEnd s) := by
  unfold execCacheOpEnd
  refine ok_keeps ?_
  split
  next z101 z102 z103 =>
    refine ite_keeps ?_ ?_
    · extract_lets y104
      have h105 : State.Keeps q F y104 := by
        apply State.setRegBit_keeps
        apply State.setRegBit_keeps
        exact h
      clear_value y104
      refine State.Keeps.fields (s := y104) ?_
      exact h105
    · exact h
  next z106 z107 =>
    exact h

theorem execCacheProbeCapture_keeps {q F x0 s} (h : State.Keeps q F s) : Out.Keeps q F (execCacheProbeCapture x0 s) := by
  unfold execCacheProbeCapture
  refine ok_keeps ?_
  refine ite_keeps ?_ ?_
  · apply State.countRsvd_keeps
    apply probeCapture_keeps
    exact h
  · exact h

end Sys2Proof.Machine
end

