-- ==== Sys2Proof/Laws/KeepsChannels.lean ====
section
/-! SUPPORT. Every operation of Channels.lean keeps what State.Keeps says. -/

set_option maxRecDepth 20000

namespace Sys2Proof.Machine

theorem State.refreshFirst_keeps {q F s x1} (h : State.Keeps q F s) : State.Keeps q F (State.refreshFirst s x1) := by
  unfold State.refreshFirst
  refine ite_keeps ?_ ?_
  · apply State.modChan_keeps
    exact h
  · exact h

theorem State.served_keeps {q F s x1 x2 x3} (h : State.Keeps q F s) : State.Keeps q F (State.served s x1 x2 x3) := by
  unfold State.served
  extract_lets y101
  have h102 : State.Keeps q F y101 := by
    apply State.modChan_keeps
    exact h
  clear_value y101
  refine ite_keeps ?_ ?_
  · apply State.modChan_keeps
    exact h102
  · exact h102

theorem State.correct_keeps {q F s x1 x2} (h : State.Keeps q F s) : State.Keeps q F (State.correct s x1 x2) := by
  unfold State.correct
  refine foldl_keeps (fun t101 x102 h103 => ?_) ?_
  · apply State.record_keeps
    apply State.bump_keeps
    exact h103
  · exact h

theorem State.countBad_keeps {q F s x1 x2} (h : State.Keeps q F s) : State.Keeps q F (State.countBad s x1 x2) := by
  unfold State.countBad
  refine foldl_keeps (fun t101 x102 h103 => ?_) ?_
  · apply State.bump_keeps
    exact h103
  · exact h

theorem execChannelRead_keeps {q F x0 x1 s} (h : State.Keeps q F s) : Out.Keeps q F (execChannelRead x0 x1 s) := by
  unfold execChannelRead
  refine ok_keeps ?_
  split
  next z101 z102 =>
    exact h
  next z103 z104 z105 =>
    refine ite_keeps ?_ ?_
    · exact h
    · refine ite_keeps ?_ ?_
      · exact h
      · extract_lets y106 y107 y108 y109 y110
        clear_value y106
        clear_value y107
        clear_value y108
        have h111 : State.Keeps q F y109 := by
          apply State.countBad_keeps
          apply State.correct_keeps
          apply State.refreshFirst_keeps
          exact h
        clear_value y109
        have h112 : State.Keeps q F y110 := by
          apply State.modChan_keeps
          exact h111
        clear_value y110
        apply State.served_keeps
        apply State.sendDem_keeps
        exact h112

theorem State.mergeDiscard_keeps {q F s x1 x2 x3 x4} (h : State.Keeps q F s) : State.Keeps q F (State.mergeDiscard s x1 x2 x3 x4) := by
  unfold State.mergeDiscard
  extract_lets y101 y102 y103
  clear_value y101
  clear_value y102
  clear_value y103
  apply State.contain_keeps
  apply State.modChan_keeps
  apply State.countBad_keeps
  exact h

theorem execChannelWrite_keeps {q F x0 x1 s} (h : State.Keeps q F s) : Out.Keeps q F (execChannelWrite x0 x1 s) := by
  unfold execChannelWrite
  refine ok_keeps ?_
  split
  next z101 z102 =>
    exact h
  next z103 z104 z105 =>
    refine ite_keeps ?_ ?_
    · exact h
    · extract_lets y106 y107
      have h108 : State.Keeps q F y106 := by
        apply State.correct_keeps
        apply State.refreshFirst_keeps
        exact h
      clear_value y106
      have h109 : State.Keeps q F y107 := by
        refine ite_keeps ?_ ?_
        · apply State.mergeDiscard_keeps
          exact h108
        · apply State.memWrite_keeps
          apply State.modChan_keeps
          exact h108
      clear_value y107
      apply State.served_keeps
      exact h109

theorem execRefpb_keeps {q F x0 x1 s} (h : State.Keeps q F s) : Out.Keeps q F (execRefpb x0 x1 s) := by
  unfold execRefpb
  refine ok_keeps ?_
  refine ite_keeps ?_ ?_
  · exact h
  · extract_lets y101 y102
    clear_value y101
    have h103 : State.Keeps q F y102 := by
      refine ite_keeps ?_ ?_
      · exact h
      · apply State.setRegBit_keeps
        exact h
    clear_value y102
    apply State.modChan_keeps
    exact h103

theorem execMr4Read_keeps {q F x0 x1 s} (h : State.Keeps q F s) : Out.Keeps q F (execMr4Read x0 x1 s) := by
  unfold execMr4Read
  refine ok_keeps ?_
  refine ite_keeps ?_ ?_
  · exact h
  · apply State.modChan_keeps
    apply State.setRegFld_keeps
    exact h

theorem State.window_keeps {q F s x1 x2} (h : State.Keeps q F s) : State.Keeps q F (State.window s x1 x2) := by
  unfold State.window
  extract_lets y101
  have h102 : State.Keeps q F y101 := by
    apply State.modChan_keeps
    apply State.bump_keeps
    exact h
  clear_value y101
  refine ite_keeps ?_ ?_
  · exact h102
  · apply State.modChan_keeps
    exact h102

theorem execRetrainingWindow_keeps {q F x0 x1 s} (h : State.Keeps q F s) : Out.Keeps q F (execRetrainingWindow x0 x1 s) := by
  unfold execRetrainingWindow
  refine ok_keeps ?_
  refine ite_keeps ?_ ?_
  · exact h
  · apply State.window_keeps
    exact h

theorem State.retire_keeps {q F s x1 x2} (h : State.Keeps q F s) : State.Keeps q F (State.retire s x1 x2) := by
  unfold State.retire
  extract_lets y101 y102 y103 y104 y105 y106 y107 y108 y109 y110 y111
  have h112 : State.Keeps q F y101 := by
    apply State.setRegFld_keeps
    apply State.setRegFld_keeps
    exact h
  clear_value y101
  clear_value y102
  have h113 : State.Keeps q F y103 := by
    apply State.modChan_keeps
    exact h112
  clear_value y103
  have h114 : State.Keeps q F y104 := by
    refine foldl_keeps (fun t115 x116 h117 => ?_) ?_
    · apply State.sendDem_keeps
      exact h117
    · exact h113
  clear_value y104
  clear_value y105
  clear_value y106
  clear_value y107
  have h118 : State.Keeps q F y108 := by
    refine foldl_keeps (fun t119 x120 h121 => ?_) ?_
    · apply State.modExtent_keeps
      exact h121
    · exact h114
  clear_value y108
  clear_value y109
  have h122 : State.Keeps q F y110 := by
    apply State.setRegFld_keeps
    apply State.setRegFld_keeps
    exact h118
  clear_value y110
  clear_value y111
  refine ite_keeps ?_ ?_
  · apply State.record_keeps
    exact h122
  · refine foldl_keeps (fun t123 x124 h125 => ?_) ?_
    · apply State.contain_keeps
      exact h125
    · exact h122

theorem execRetrainingRetry_keeps {q F x0 x1 s} (h : State.Keeps q F s) : Out.Keeps q F (execRetrainingRetry x0 x1 s) := by
  unfold execRetrainingRetry
  refine ok_keeps ?_
  refine ite_keeps ?_ ?_
  · exact h
  · refine ite_keeps ?_ ?_
    · apply State.window_keeps
      exact h
    · apply State.retire_keeps
      apply State.bump_keeps
      exact h

theorem execTrainingTimeout_keeps {q F x0 s} (h : State.Keeps q F s) : Out.Keeps q F (execTrainingTimeout x0 s) := by
  unfold execTrainingTimeout
  refine ok_keeps ?_
  refine ite_keeps ?_ ?_
  · apply State.record_keeps
    apply State.setRegFld_keeps
    apply State.setRegFld_keeps
    exact h
  · exact h

theorem State.tgStart_keeps {q F s x1} (h : State.Keeps q F s) : State.Keeps q F (State.tgStart s x1) := by
  unfold State.tgStart
  extract_lets y101 y102 y103 y104 y105
  clear_value y101
  clear_value y102
  clear_value y103
  have h106 : State.Keeps q F y104 := by
    apply State.setRegBit_keeps
    apply State.setReg_keeps
    apply State.setReg_keeps
    exact h
  clear_value y104
  have h107 : State.Keeps q F y105 := by
    apply State.setRegBit_keeps
    apply State.setRegBit_keeps
    apply State.setRegBit_keeps
    apply State.setRegBit_keeps
    exact h106
  clear_value y105
  refine ite_keeps ?_ ?_
  · exact h
  · refine ite_keeps ?_ ?_
    · apply State.setRegBit_keeps
      apply State.setRegBit_keeps
      exact h
    · apply State.modChan_keeps
      refine State.Keeps.fields (s := y105) ?_
      exact h107

theorem State.tgEnd_keeps {q F s x1 x2 x3} (h : State.Keeps q F s) : State.Keeps q F (State.tgEnd s x1 x2 x3) := by
  unfold State.tgEnd
  extract_lets y101 y102 y103 y104 y105
  clear_value y101
  have h106 : State.Keeps q F y102 := by
    apply State.bumpFld_keeps
    exact h
  clear_value y102
  have h107 : State.Keeps q F y103 := by
    unfold y103
    split
    next z108 =>
      exact h106
    next z109 z110 z111 =>
      refine ite_keeps ?_ ?_
      · exact h106
      · apply State.setReg_keeps
        exact h106
  clear_value y103
  clear_value y104
  have h112 : State.Keeps q F y105 := by
    apply State.setRegFld_keeps
    exact h107
  clear_value y105
  apply State.setRegBit_keeps
  apply State.setRegBit_keeps
  apply State.setRegBit_keeps
  apply State.setRegBit_keeps
  exact h112

theorem execTgGo_keeps {q F x0 s} (h : State.Keeps q F s) : Out.Keeps q F (execTgGo x0 s) := by
  unfold execTgGo
  refine ok_keeps ?_
  refine ite_keeps ?_ ?_
  · apply State.tgStart_keeps
    exact h
  · exact h

theorem State.tgStop_keeps {q F s x1} (h : State.Keeps q F s) : State.Keeps q F (State.tgStop s x1) := by
  unfold State.tgStop
  refine ite_keeps ?_ ?_
  · exact h
  · extract_lets y101 y102 y103 y104
    have h105 : State.Keeps q F y103 := by
      apply State.modChan_keeps
      refine State.Keeps.fields (s := s) ?_
      exact h
    clear_value y103
    refine ite_keeps ?_ ?_
    · apply State.tgEnd_keeps
      exact h105
    · apply State.tgEnd_keeps
      apply State.bumpFld_keeps
      exact h105

theorem execTgStop_keeps {q F x0 s} (h : State.Keeps q F s) : Out.Keeps q F (execTgStop x0 s) := by
  unfold execTgStop
  refine ok_keeps ?_
  refine ite_keeps ?_ ?_
  · apply State.tgStop_keeps
    exact h
  · exact h

theorem execTgRunEnd_keeps {q F x0 x1 x2 s} (h : State.Keeps q F s) : Out.Keeps q F (execTgRunEnd x0 x1 x2 s) := by
  unfold execTgRunEnd
  refine ok_keeps ?_
  split
  next z101 z102 =>
    exact h
  next z103 z104 z105 =>
    refine ite_keeps ?_ ?_
    · apply State.tgEnd_keeps
      apply State.modChan_keeps
      exact h
    · refine ite_keeps ?_ ?_
      · exact h
      · extract_lets y106 y107
        clear_value y106
        clear_value y107
        apply State.tgEnd_keeps
        apply State.modChan_keeps
        exact h

end Sys2Proof.Machine
end

