-- ==== Sys2Proof/Laws/KeepsQueues.lean ====
section
/-! SUPPORT. Every operation of Queues.lean keeps what State.Keeps says. -/

set_option maxRecDepth 20000

namespace Sys2Proof.Machine

theorem State.requestPreempt_keeps {q F s x1} (h : State.Keeps q F s) : State.Keeps q F (State.requestPreempt s x1) := by
  unfold State.requestPreempt
  split
  next z101 z102 z103 =>
    refine ite_keeps ?_ ?_
    · apply State.modVd_keeps
      exact h
    · exact h
  next z104 z105 =>
    exact h

theorem State.queuePreempt_keeps {q F s x1} (h : State.Keeps q F s) : State.Keeps q F (State.queuePreempt s x1) := by
  unfold State.queuePreempt
  split
  next z101 z102 z103 =>
    refine ite_keeps ?_ ?_
    · apply State.requestPreempt_keeps
      exact h
    · exact h
  next z104 z105 =>
    exact h

theorem State.bellArrives_keeps {q F s x1 x2 x3} (h : State.Keeps q F s) : State.Keeps q F (State.bellArrives s x1 x2 x3) := by
  unfold State.bellArrives
  apply State.queuePreempt_keeps
  apply State.modVd_keeps
  exact h

end Sys2Proof.Machine
end

