-- ==== Sys2Proof/Laws/KeepsTransit.lean ====
section
/-! SUPPORT. Every operation of Transit.lean keeps what State.Keeps says. -/

set_option maxRecDepth 20000

namespace Sys2Proof.Machine

theorem State.reqArrives_keeps {q F s x1 x2} (h : State.Keeps q F s) : State.Keeps q F (State.reqArrives s x1 x2) := by
  unfold State.reqArrives
  refine ite_keeps ?_ ?_
  · apply State.hostGone_keeps
    exact h
  · refine ite_keeps ?_ ?_
    · apply State.request_keeps
      exact h
    · extract_lets y101
      have h102 : State.Keeps q F y101 := by
        refine ite_keeps ?_ ?_
        · apply State.modSlice_keeps
          exact h
        · exact h
      clear_value y101
      apply State.joinReqs_keeps
      exact h102

theorem State.opArrives_keeps {q F s x1 x2} (h : State.Keeps q F s) : State.Keeps q F (State.opArrives s x1 x2) := by
  unfold State.opArrives
  refine ite_keeps ?_ ?_
  · exact h
  · refine ite_keeps ?_ ?_
    · apply State.sendHomeOp_keeps
      exact h
    · apply State.modSlice_keeps
      exact h

theorem State.demArrives_keeps {q F s x1} (h : State.Keeps q F s) : State.Keeps q F (State.demArrives s x1) := by
  unfold State.demArrives
  split
  next z101 z102 z103 =>
    apply State.reqArrives_keeps
    exact h
  next z104 z105 z106 =>
    apply State.opArrives_keeps
    exact h
  next z107 z108 =>
    refine State.Keeps.fields (s := s) ?_
    exact h
  next z109 z110 z111 z112 =>
    apply State.deliver_keeps
    exact h
  next z113 z114 z115 =>
    apply State.modSlice_keeps
    exact h

theorem State.partArrives_keeps {q F s x1} (h : State.Keeps q F s) : State.Keeps q F (State.partArrives s x1) := by
  unfold State.partArrives
  split
  next z101 z102 =>
    exact h
  next z103 z104 z105 =>
    refine ite_keeps ?_ ?_
    · apply State.demArrives_keeps
      refine State.Keeps.fields (s := s) ?_
      exact h
    · refine State.Keeps.fields (s := s) ?_
      exact h

theorem State.rspArrives_keeps {q F s x1} (h : State.Keeps q F s) : State.Keeps q F (State.rspArrives s x1) := by
  unfold State.rspArrives
  split
  next z101 z102 z103 =>
    refine State.Keeps.fields (s := s) ?_
    exact h
  next z104 z105 =>
    refine State.Keeps.fields (s := s) ?_
    exact h

theorem State.reedArrives_keeps {q F s x1} (h : State.Keeps q F s) : State.Keeps q F (State.reedArrives s x1) := by
  unfold State.reedArrives
  split
  next z101 z102 =>
    refine State.Keeps.fields (s := s) ?_
    exact h
  next z103 z104 =>
    apply State.joinFlags_keeps
    exact h
  next z105 z106 =>
    refine State.Keeps.fields (s := s) ?_
    exact h
  next z107 z108 z109 z110 =>
    apply State.bellArrives_keeps
    exact h
  next z111 z112 z113 =>
    apply State.reqArrives_keeps
    exact h
  next z114 z115 =>
    apply State.partArrives_keeps
    exact h
  next z116 z117 z118 =>
    apply State.ackWrite_keeps
    exact h
  next z119 z120 =>
    apply State.rspArrives_keeps
    exact h
  next z121 z122 =>
    refine ite_keeps ?_ ?_
    · apply State.sendHomeOp_keeps
      exact h
    · refine State.Keeps.fields (s := s) ?_
      exact h

theorem State.setTurn_keeps {q F s x1 x2 x3} (h : State.Keeps q F s) : State.Keeps q F (State.setTurn s x1 x2 x3) := by
  unfold State.setTurn
  refine State.Keeps.fields (s := s) ?_
  exact h

theorem State.leavesPort_keeps {q F s x1 x2} (h : State.Keeps q F s) : State.Keeps q F (State.leavesPort s x1 x2) := by
  unfold State.leavesPort
  split
  next z101 z102 =>
    refine ite_keeps ?_ ?_
    · apply State.modCore_keeps
      exact h
    · exact h
  next z103 z104 =>
    exact h

theorem State.forwardReed_keeps {q F s x1 x2} (h : State.Keeps q F s) : State.Keeps q F (State.forwardReed s x1 x2) := by
  unfold State.forwardReed
  extract_lets y101 y102 y103 y104 y105 y106 y107
  have h108 : State.Keeps q F y101 := by
    unfold y101
    split
    next z109 z110 z111 =>
      apply State.modLink_keeps
      exact h
    next z112 z113 =>
      exact h
  clear_value y101
  have h114 : State.Keeps q F y102 := by
    refine ite_keeps ?_ ?_
    · apply State.sendFlit_keeps
      exact h108
    · exact h108
  clear_value y102
  have h115 : State.Keeps q F y103 := by
    refine ite_keeps ?_ ?_
    · apply State.leavesPort_keeps
      exact h114
    · exact h114
  clear_value y103
  clear_value y104
  have h116 : State.Keeps q F y105 := by
    refine State.Keeps.fields (s := y103) ?_
    exact h115
  clear_value y105
  have h117 : State.Keeps q F y106 := by
    apply State.modLink_keeps
    exact h116
  clear_value y106
  clear_value y107
  split
  next z118 z119 =>
    apply State.reedArrives_keeps
    exact h116
  next z120 z121 =>
    refine State.Keeps.fields (s := y106) ?_
    exact h117

theorem execReedMessageForward_keeps {q F x0 x1 s} (h : State.Keeps q F s) : Out.Keeps q F (execReedMessageForward x0 x1 s) := by
  unfold execReedMessageForward
  refine ok_keeps ?_
  extract_lets y101 y102
  clear_value y101
  clear_value y102
  split
  next z103 z104 z105 =>
    refine State.Keeps.fields (s := s) ?_
    exact h
  next z106 z107 =>
    refine ite_keeps ?_ ?_
    · exact h
    · split
      next z108 z109 =>
        exact h
      next z110 z111 z112 z113 =>
        refine ite_keeps ?_ ?_
        · apply State.forwardReed_keeps
          apply State.setTurn_keeps
          exact h
        · exact h

theorem State.forwardChunk_keeps {q F s x1 x2} (h : State.Keeps q F s) : State.Keeps q F (State.forwardChunk s x1 x2) := by
  unfold State.forwardChunk
  extract_lets y101 y102 y103 y104 y105
  have h106 : State.Keeps q F y101 := by
    refine ite_keeps ?_ ?_
    · apply State.sendFlit_keeps
      exact h
    · exact h
  clear_value y101
  clear_value y102
  have h107 : State.Keeps q F y103 := by
    refine State.Keeps.fields (s := y101) ?_
    exact h106
  clear_value y103
  clear_value y104
  clear_value y105
  refine ite_keeps ?_ ?_
  · refine State.Keeps.fields (s := y101) ?_
    exact h106
  · refine ite_keeps ?_ ?_
    · apply State.demArrives_keeps
      exact h107
    · refine State.Keeps.fields (s := y103) ?_
      exact h107

theorem State.demandPos_keeps {q F s x1} (h : State.Keeps q F s) : State.Keeps q F (State.demandPos s x1) := by
  unfold State.demandPos
  split
  next z101 z102 =>
    exact h
  next z103 z104 z105 z106 =>
    extract_lets y107 y108 y109
    have h110 : State.Keeps q F y107 := by
      apply State.setTurn_keeps
      exact h
    clear_value y107
    clear_value y108
    have h111 : State.Keeps q F y109 := by
      refine ite_keeps ?_ ?_
      · refine State.Keeps.fields (s := y107) ?_
        exact h110
      · exact h110
    clear_value y109
    apply State.forwardChunk_keeps
    exact h111

theorem State.demandRun_keeps {q F s x1 x2} (h : State.Keeps q F s) : State.Keeps q F (State.demandRun s x1 x2) := by
  induction x2 generalizing s with
  | zero => exact h
  | succ n ih =>
    unfold State.demandRun
    exact ih (State.demandPos_keeps h)

theorem State.tickDemand_keeps {q F s} (h : State.Keeps q F s) : State.Keeps q F (State.tickDemand s) := by
  unfold State.tickDemand
  extract_lets y101 y102
  have h103 : State.Keeps q F y101 := by
    refine foldl_keeps (fun t104 x105 h106 => ?_) ?_
    · apply State.demandRun_keeps
      exact h106
    · exact h
  clear_value y101
  clear_value y102
  refine State.Keeps.fields (s := y101) ?_
  exact h103

theorem State.markItem_keeps {q F s x1 x2} (h : State.Keeps q F s) : State.Keeps q F (State.markItem s x1 x2) := by
  unfold State.markItem
  refine State.Keeps.fields (s := s) ?_
  exact h

theorem execCausewayCrcMismatch_keeps {q F x0 x1 x2 s} (h : State.Keeps q F s) : Out.Keeps q F (execCausewayCrcMismatch x0 x1 x2 s) := by
  unfold execCausewayCrcMismatch
  extract_lets y101 y102
  clear_value y101
  clear_value y102
  refine ok_keeps ?_
  split
  next z103 z104 =>
    exact h
  next z105 z106 z107 =>
    refine ite_keeps ?_ ?_
    · split
      next z108 z109 =>
        apply State.fatal_keeps
        exact h
      next z110 z111 =>
        exact h
      next z112 z113 z114 =>
        apply State.contain_keeps
        exact h
    · refine ite_keeps ?_ ?_
      · exact h
      · apply State.markItem_keeps
        refine State.Keeps.fields (s := s) ?_
        exact h

theorem execRetryRequest_keeps {q F x0 x1 s} (h : State.Keeps q F s) : Out.Keeps q F (execRetryRequest x0 x1 s) := by
  unfold execRetryRequest
  extract_lets y101 y102
  clear_value y101
  clear_value y102
  refine ok_keeps ?_
  split
  next z103 z104 =>
    exact h
  next z105 z106 z107 =>
    extract_lets y108 y109 y110 y111
    clear_value y108
    clear_value y109
    have h112 : State.Keeps q F y110 := by
      refine State.Keeps.fields (s := s) ?_
      exact h
    clear_value y110
    have h113 : State.Keeps q F y111 := by
      refine ite_keeps ?_ ?_
      · exact h112
      · apply State.markItem_keeps
        exact h112
    clear_value y111
    apply State.bump_keeps
    exact h113

end Sys2Proof.Machine
end

