-- ==== Sys2Proof/Laws/KeepsFabric.lean ====
section
/-! SUPPORT. Every operation of Fabric.lean keeps what State.Keeps says. -/

set_option maxRecDepth 20000

namespace Sys2Proof.Machine

theorem State.overrun_keeps {q F s x1 x2 x3} (h : State.Keeps q F s) : State.Keeps q F (State.overrun s x1 x2 x3) := by
  unfold State.overrun
  extract_lets y101 y102
  clear_value y101
  clear_value y102
  apply State.fabricFault_keeps
  apply State.bumpFld_keeps
  exact h

theorem State.prefetch_keeps {q F s x1 x2} (h : State.Keeps q F s) : State.Keeps q F (State.prefetch s x1 x2) := by
  unfold State.prefetch
  extract_lets y101
  clear_value y101
  refine ite_keeps ?_ ?_
  · exact h
  · refine foldl_keeps (fun t102 x103 h104 => ?_) ?_
    · apply State.request_keeps
      exact h104
    · exact h

theorem execDescriptorFetch_keeps {q F x0 s} (h : State.Keeps q F s) : Out.Keeps q F (execDescriptorFetch x0 s) := by
  unfold execDescriptorFetch
  refine ok_keeps ?_
  extract_lets y101 y102 y103 y104 y105
  clear_value y101
  clear_value y102
  clear_value y103
  have h106 : State.Keeps q F y104 := by
    apply State.devSeen_keeps
    exact h
  clear_value y104
  clear_value y105
  split
  next z107 z108 =>
    exact h
  next z109 z110 z111 =>
    refine ite_keeps ?_ ?_
    · exact h
    · refine ite_keeps ?_ ?_
      · apply State.modEngine_keeps
        exact h106
      · refine ite_keeps ?_ ?_
        · apply State.prefetch_keeps
          apply State.modEngine_keeps
          exact h106
        · apply State.fabricFault_keeps
          exact h106

theorem State.takeFromSlice_keeps {q F s x1 x2 x3 x4 x5} (h : State.Keeps q F s) : SndKeeps q F (State.takeFromSlice s x1 x2 x3 x4 x5) := by
  unfold State.takeFromSlice
  extract_lets y101 y102 y103 y104 y105 y106 y107
  clear_value y101
  clear_value y102
  clear_value y103
  clear_value y104
  have h108 : State.Keeps q F y105 := by
    refine ite_keeps ?_ ?_
    · apply State.bump_keeps
      exact h
    · exact h
  clear_value y105
  clear_value y106
  have h109 : State.Keeps q F y107 := by
    apply State.setSlice_keeps
    exact h108
  clear_value y107
  refine mk_snd_keeps ?_
  refine ite_keeps ?_ ?_
  · apply State.startDrop_keeps
    exact h109
  · exact h109

theorem State.modStream_keeps {q F s x1 x2 x3} (h : State.Keeps q F s) : State.Keeps q F (State.modStream s x1 x2 x3) := by
  unfold State.modStream
  apply State.modEngine_keeps
  exact h

theorem State.streamMiss_keeps {q F s x1 x2 x3 x4} (h : State.Keeps q F s) : State.Keeps q F (State.streamMiss s x1 x2 x3 x4) := by
  unfold State.streamMiss
  refine ite_keeps ?_ ?_
  · extract_lets y101
    have h102 : State.Keeps q F y101 := by
      apply State.modStream_keeps
      exact h
    clear_value y101
    refine ite_keeps ?_ ?_
    · apply State.overrun_keeps
      exact h102
    · exact h102
  · extract_lets y103 y104
    have h105 : State.Keeps q F y103 := by
      apply State.modStream_keeps
      exact h
    clear_value y103
    have h106 : State.Keeps q F y104 := by
      apply State.bumpFld_keeps
      exact h105
    clear_value y104
    refine ite_keeps ?_ ?_
    · apply State.event_keeps
      exact h106
    · exact h106

theorem State.sendFlits_keeps {q F s x1} (h : State.Keeps q F s) : State.Keeps q F (State.sendFlits s x1) := by
  unfold State.sendFlits
  refine foldl_keeps (fun t101 x102 h103 => ?_) ?_
  · apply State.sendFlit_keeps
    exact h103
  · exact h

theorem State.sendChunk_keeps {q F s x1 x2 x3 x4 x5 x6} (h : State.Keeps q F s) : State.Keeps q F (State.sendChunk s x1 x2 x3 x4 x5 x6) := by
  unfold State.sendChunk
  extract_lets y101 y102 y103 y104 y105 y106 y107 y108
  clear_value y101
  clear_value y102
  clear_value y103
  clear_value y104
  clear_value y105
  clear_value y106
  clear_value y107
  have h109 : State.Keeps q F y108 := by
    refine State.Keeps.fields (s := s) ?_
    exact h
  clear_value y108
  apply State.modStream_keeps
  apply State.sendFlits_keeps
  exact h109

theorem execStreamChunkSend_keeps {q F x0 x1 s} (h : State.Keeps q F s) : Out.Keeps q F (execStreamChunkSend x0 x1 s) := by
  unfold execStreamChunkSend
  refine ok_keeps ?_
  extract_lets y101 y102 y103 y104 y105
  clear_value y101
  clear_value y102
  clear_value y103
  clear_value y104
  clear_value y105
  split
  next z106 z107 z108 z109 z110 z111 =>
    extract_lets y112 y113 y114
    clear_value y112
    clear_value y113
    clear_value y114
    refine ite_keeps ?_ ?_
    · exact h
    · refine ite_keeps ?_ ?_
      · apply State.streamMiss_keeps
        exact h
      · refine ite_keeps ?_ ?_
        · apply State.streamMiss_keeps
          exact h
        · refine ite_keeps ?_ ?_
          · apply State.streamMiss_keeps
            exact h
          · refine ite_keeps ?_ ?_
            · split
              next z115 z116 z117 z118 z119 z120 z121 =>
                extract_lets y122
                have h123 : SndKeeps q F y122 := by
                  apply State.takeFromSlice_keeps
                  exact h
                clear_value y122
                apply State.sendChunk_keeps
                refine snd_keeps ?_
                exact h123
              next z124 z125 z126 =>
                apply State.streamMiss_keeps
                exact h
            · split
              next z127 z128 z129 z130 z131 =>
                apply State.sendChunk_keeps
                apply State.modEngine_keeps
                exact h
              next z132 z133 z134 =>
                apply State.streamMiss_keeps
                exact h
  next z135 z136 z137 =>
    exact h

theorem State.fillOne_keeps {q F s x1 x2} (h : State.Keeps q F s) : State.Keeps q F (State.fillOne s x1 x2) := by
  unfold State.fillOne
  extract_lets y101 y102 y103
  clear_value y101
  clear_value y102
  clear_value y103
  split
  next z104 z105 =>
    exact h
  next z106 z107 z108 =>
    split
    next z109 z110 =>
      exact h
    next z111 z112 z113 =>
      extract_lets y114
      clear_value y114
      apply State.modEngine_keeps
      exact h

theorem State.fillElastic_keeps {q F s x1 x2 x3} (h : State.Keeps q F s) : State.Keeps q F (State.fillElastic s x1 x2 x3) := by
  induction x3 generalizing s with
  | zero => exact h
  | succ n ih =>
    unfold State.fillElastic
    exact ite_keeps h (ih (State.fillOne_keeps h))

theorem State.tickElastic_keeps {q F s} (h : State.Keeps q F s) : State.Keeps q F (State.tickElastic s) := by
  unfold State.tickElastic
  refine foldl_keeps (fun t101 x102 h103 => ?_) ?_
  · split
    next z104 z105 z106 =>
      apply State.fillElastic_keeps
      exact h103
    next z107 z108 =>
      exact h103
  · exact h

theorem State.dropChunk_keeps {q F s x1} (h : State.Keeps q F s) : State.Keeps q F (State.dropChunk s x1) := by
  unfold State.dropChunk
  refine State.Keeps.fields (s := s) ?_
  exact h

theorem State.holdChunk_keeps {q F s x1} (h : State.Keeps q F s) : State.Keeps q F (State.holdChunk s x1) := by
  unfold State.holdChunk
  split
  next z101 z102 z103 =>
    refine State.Keeps.fields (s := s) ?_
    exact h
  next z104 z105 =>
    exact h

theorem State.landSlice_keeps {q F s x1 x2 x3 x4} (h : State.Keeps q F s) : State.Keeps q F (State.landSlice s x1 x2 x3 x4) := by
  unfold State.landSlice
  extract_lets y101 y102 y103 y104
  clear_value y101
  have h105 : State.Keeps q F y102 := by
    refine ite_keeps ?_ ?_
    · exact h
    · apply lineAllocation_keeps
      exact h
  clear_value y102
  clear_value y103
  clear_value y104
  split
  next z106 z107 =>
    apply State.holdChunk_keeps
    exact h105
  next z108 z109 z110 =>
    extract_lets y111 y112 y113 y114 y115 y116 y117
    have h118 : State.Keeps q F y111 := by
      refine ite_keeps ?_ ?_
      · apply State.evictMask_keeps
        exact h105
      · exact h105
    clear_value y111
    clear_value y112
    clear_value y113
    clear_value y114
    have h119 : State.Keeps q F y115 := by
      apply State.dropChunk_keeps
      apply State.modSlice_keeps
      apply State.landBytes_keeps
      exact h118
    clear_value y115
    have h120 : State.Keeps q F y116 := by
      apply State.bump_keeps
      exact h119
    clear_value y116
    have h121 : State.Keeps q F y117 := by
      refine ite_keeps ?_ ?_
      · apply State.event_keeps
        exact h120
      · exact h120
    clear_value y117
    refine ite_keeps ?_ ?_
    · apply State.holdChunk_keeps
      exact h118
    · refine ite_keeps ?_ ?_
      · refine foldl_keeps (fun t122 x123 h124 => ?_) ?_
        · apply State.chunkWritten_keeps
          exact h124
        · exact h119
      · refine ite_keeps ?_ ?_
        · apply State.modSlice_keeps
          exact h121
        · refine ite_keeps ?_ ?_
          · apply State.openRecall_keeps
            exact h121
          · apply State.modSlice_keeps
            exact h121

theorem State.land_keeps {q F s x1 x2} (h : State.Keeps q F s) : State.Keeps q F (State.land s x1 x2) := by
  unfold State.land
  refine ite_keeps ?_ ?_
  · apply State.dropChunk_keeps
    exact h
  · split
    next z101 z102 z103 z104 =>
      extract_lets y105
      have h106 : State.Keeps q F y105 := by
        apply State.modCore_keeps
        apply State.dropChunk_keeps
        exact h
      clear_value y105
      refine foldl_keeps (fun t107 x108 h109 => ?_) ?_
      · apply State.chunkWritten_keeps
        exact h109
      · exact h106
    next z110 z111 z112 z113 =>
      extract_lets y114
      clear_value y114
      refine ite_keeps ?_ ?_
      · apply State.holdChunk_keeps
        exact h
      · apply State.landSlice_keeps
        exact h

theorem execChunkLanding_keeps {q F x0 x1 s} (h : State.Keeps q F s) : Out.Keeps q F (execChunkLanding x0 x1 s) := by
  unfold execChunkLanding
  refine ok_keeps ?_
  split
  next z101 z102 =>
    exact h
  next z103 z104 z105 =>
    split
    next z106 z107 =>
      exact h
    next z108 z109 z110 =>
      refine ite_keeps ?_ ?_
      · exact h
      · apply State.land_keeps
        exact h

theorem State.chunkArrives_keeps {q F s x1} (h : State.Keeps q F s) : State.Keeps q F (State.chunkArrives s x1) := by
  unfold State.chunkArrives
  split
  next z101 z102 z103 z104 =>
    exact h
  next z105 z106 z107 z108 =>
    extract_lets y109 y110
    clear_value y109
    clear_value y110
    refine ite_keeps ?_ ?_
    · exact h
    · apply State.overrun_keeps
      refine State.Keeps.fields (s := s) ?_
      exact h

theorem State.tickArrivals_keeps {q F s x1 x2} (h : State.Keeps q F s) : State.Keeps q F (State.tickArrivals s x1 x2) := by
  unfold State.tickArrivals
  refine foldl_keeps (fun t101 x102 h103 => ?_) ?_
  · apply State.chunkArrives_keeps
    exact h103
  · exact h

theorem execLandingRetry_keeps {q F x0 s} (h : State.Keeps q F s) : Out.Keeps q F (execLandingRetry x0 s) := by
  unfold execLandingRetry
  extract_lets y101 y102
  have h103 : ∀ a0, State.Keeps q F (y101 a0) := by
    intro x104
    unfold y101
    unfold Option.elim
    split
    next z105 z106 z107 z108 z109 z110 =>
      apply State.land_keeps
      exact h
    next z111 z112 z113 z114 z115 =>
      exact h
  clear_value y101
  clear_value y102
  refine ok_keeps ?_
  split
  next z116 z117 z118 z119 =>
    apply h103
  next z120 z121 z122 z123 z124 =>
    apply h103
  next z125 z126 z127 z128 =>
    exact h

theorem execStreamFlagAdd_keeps {q F x0 s} (h : State.Keeps q F s) : Out.Keeps q F (execStreamFlagAdd x0 s) := by
  unfold execStreamFlagAdd
  refine ok_keeps ?_
  split
  next z101 z102 =>
    exact h
  next z103 z104 z105 z106 =>
    split
    next z107 z108 =>
      exact h
    next z109 z110 z111 =>
      extract_lets y112
      clear_value y112
      apply State.sendFlag_keeps
      apply State.modStream_keeps
      exact h

theorem State.redDone_keeps {q F s x1 x2} (h : State.Keeps q F s) : State.Keeps q F (State.redDone s x1 x2) := by
  unfold State.redDone
  extract_lets y101 y102
  clear_value y101
  clear_value y102
  refine State.Keeps.fields (s := s) ?_
  exact h

theorem State.redJoin_keeps {q F s x1 x2} (h : State.Keeps q F s) : State.Keeps q F (State.redJoin s x1 x2) := by
  unfold State.redJoin
  split
  next z101 z102 =>
    exact h
  next z103 z104 z105 =>
    extract_lets y106 y107
    clear_value y106
    clear_value y107
    refine ite_keeps ?_ ?_
    · apply State.redDone_keeps
      exact h
    · refine State.Keeps.fields (s := s) ?_
      exact h

theorem State.redOpen_keeps {q F s x1 x2 x3} (h : State.Keeps q F s) : State.Keeps q F (State.redOpen s x1 x2 x3) := by
  unfold State.redOpen
  extract_lets y101 y102 y103
  clear_value y101
  clear_value y102
  have h104 : State.Keeps q F y103 := by
    refine State.Keeps.fields (s := s) ?_
    exact h
  clear_value y103
  refine ite_keeps ?_ ?_
  · apply State.redDone_keeps
    exact h104
  · exact h104

theorem execReductionChunkArrival_keeps {q F x0 x1 s} (h : State.Keeps q F s) : Out.Keeps q F (execReductionChunkArrival x0 x1 s) := by
  unfold execReductionChunkArrival
  refine ok_keeps ?_
  split
  next z101 z102 =>
    exact h
  next z103 z104 z105 =>
    split
    next z106 z107 =>
      exact h
    next z108 z109 z110 =>
      refine ite_keeps ?_ ?_
      · exact h
      · extract_lets y111 y112
        have h113 : State.Keeps q F y111 := by
          apply State.dropChunk_keeps
          exact h
        clear_value y111
        clear_value y112
        split
        next z114 z115 z116 =>
          apply State.redJoin_keeps
          exact h113
        next z117 z118 =>
          refine ite_keeps ?_ ?_
          · apply State.overrun_keeps
            exact h113
          · apply State.redOpen_keeps
            exact h113

theorem execReductionEntryExpiry_keeps {q F x0 x1 s} (h : State.Keeps q F s) : Out.Keeps q F (execReductionEntryExpiry x0 x1 s) := by
  unfold execReductionEntryExpiry
  refine ok_keeps ?_
  split
  next z101 z102 =>
    exact h
  next z103 z104 z105 =>
    split
    next z106 z107 =>
      exact h
    next z108 z109 z110 =>
      refine ite_keeps ?_ ?_
      · exact h
      · extract_lets y111 y112
        clear_value y111
        have h113 : State.Keeps q F y112 := by
          refine State.Keeps.fields (s := s) ?_
          exact h
        clear_value y112
        refine ite_keeps ?_ ?_
        · apply State.overrun_keeps
          exact h113
        · exact h113

theorem State.setSlot_keeps {q F s x1 x2 x3} (h : State.Keeps q F s) : State.Keeps q F (State.setSlot s x1 x2 x3) := by
  unfold State.setSlot
  extract_lets y101
  clear_value y101
  split
  next z102 z103 =>
    apply State.setReg_keeps
    exact h
  next z104 =>
    apply State.setReg_keeps
    exact h

theorem State.endTransit_keeps {q F s} (h : State.Keeps q F s) : State.Keeps q F (State.endTransit s) := by
  unfold State.endTransit
  extract_lets y101 y102
  clear_value y101
  clear_value y102
  refine State.Keeps.fields (s := s) ?_
  exact h

theorem State.pend_keeps {q F s x1} (h : State.Keeps q F s) : State.Keeps q F (State.pend s x1) := by
  unfold State.pend
  refine State.Keeps.fields (s := s) ?_
  exact h

theorem State.pendStep_keeps {q F s x1} (h : State.Keeps q F s) : State.Keeps q F (State.pendStep s x1) := by
  unfold State.pendStep
  refine State.Keeps.fields (s := s) ?_
  exact h

end Sys2Proof.Machine
end

