-- ==== Sys2Proof/Laws/KeepsCoherence.lean ====
section
/-! SUPPORT. Every operation of Coherence.lean keeps what State.Keeps says. -/

set_option maxRecDepth 20000

namespace Sys2Proof.Machine

theorem State.touch_keeps {q F s x1 x2 x3} (h : State.Keeps q F s) : State.Keeps q F (State.touch s x1 x2 x3) := by
  unfold State.touch
  apply State.modDie_keeps
  exact h

theorem State.sendGet_keeps {q F s x1 x2 x3 x4} (h : State.Keeps q F s) : State.Keeps q F (State.sendGet s x1 x2 x3 x4) := by
  unfold State.sendGet
  extract_lets y101
  clear_value y101
  refine ite_keeps ?_ ?_
  · apply State.toHome_keeps
    apply State.bump_keeps
    exact h
  · apply State.toHome_keeps
    apply State.bump_keeps
    exact h

theorem State.sendEntry_keeps {q F s x1 x2} (h : State.Keeps q F s) : State.Keeps q F (State.sendEntry s x1 x2) := by
  unfold State.sendEntry
  split
  next z101 z102 =>
    exact h
  next z103 z104 z105 =>
    extract_lets y106 y107 y108 y109
    clear_value y106
    have h110 : State.Keeps q F y107 := by
      apply State.modDie_keeps
      exact h
    clear_value y107
    clear_value y108
    clear_value y109
    apply State.request_keeps
    exact h110

theorem State.loadDone_keeps {q F s x1 x2} (h : State.Keeps q F s) : State.Keeps q F (State.loadDone s x1 x2) := by
  unfold State.loadDone
  apply State.accPart_keeps
  exact h

theorem State.addDirty_keeps {q F s x1 x2 x3 x4} (h : State.Keeps q F s) : State.Keeps q F (State.addDirty s x1 x2 x3 x4) := by
  unfold State.addDirty
  extract_lets y101 y102 y103 y104
  clear_value y101
  clear_value y102
  clear_value y103
  have h105 : State.Keeps q F y104 := by
    unfold y104
    split
    next z106 z107 z108 =>
      refine ite_keeps ?_ ?_
      · apply State.leaveDie_keeps
        exact h
      · exact h
    next z109 =>
      exact h
  clear_value y104
  refine ite_keeps ?_ ?_
  · exact h
  · apply State.modDie_keeps
    exact h105

theorem State.storeInBlock_keeps {q F s x1 x2} (h : State.Keeps q F s) : State.Keeps q F (State.storeInBlock s x1 x2) := by
  unfold State.storeInBlock
  extract_lets y101 y102
  clear_value y101
  have h103 : State.Keeps q F y102 := by
    apply State.touch_keeps
    apply State.modDie_keeps
    exact h
  clear_value y102
  apply State.accPart_keeps
  apply State.addDirty_keeps
  exact h103

theorem State.storeInMerge_keeps {q F s x1 x2 x3} (h : State.Keeps q F s) : State.Keeps q F (State.storeInMerge s x1 x2 x3) := by
  unfold State.storeInMerge
  extract_lets y101 y102 y103 y104
  clear_value y101
  clear_value y102
  clear_value y103
  have h105 : ∀ a0 a1, State.Keeps q F a1 → State.Keeps q F (y104 a0 a1) := by
    intro x106
    intro x107
    intro h108
    unfold y104
    extract_lets y109
    have h110 : State.Keeps q F y109 := by
      apply State.accPart_keeps
      apply State.modDie_keeps
      exact h108
    clear_value y109
    split
    next z111 z112 z113 =>
      refine ite_keeps ?_ ?_
      · apply State.sendEntry_keeps
        exact h110
      · exact h110
    next z114 z115 =>
      exact h110
  clear_value y104
  split
  next z116 z117 z118 =>
    apply h105
    apply State.modDie_keeps
    exact h
  next z119 z120 =>
    refine ite_keeps ?_ ?_
    · split
      next z121 z122 z123 =>
        apply State.sendEntry_keeps
        exact h
      next z124 z125 =>
        exact h
    · apply h105
      apply State.modDie_keeps
      exact h

theorem State.takeWay_keeps {q F s x1 x2 x3 x4} (h : State.Keeps q F s) : OptKeeps q F (State.takeWay s x1 x2 x3 x4) := by
  unfold State.takeWay
  extract_lets y101 y102 y103
  clear_value y101
  clear_value y102
  clear_value y103
  refine opt_ite_keeps ?_ ?_
  · exact none_keeps
  · split
    next z104 z105 z106 =>
      refine some_keeps ?_
      apply State.touch_keeps
      apply State.modDie_keeps
      exact h
    next z107 z108 =>
      exact none_keeps

theorem dieLoad_keeps {q F x0 x1 s} (h : State.Keeps q F s) : State.Keeps q F (dieLoad x0 x1 s) := by
  unfold dieLoad
  extract_lets y101
  clear_value y101
  split
  next z102 z103 =>
    exact h
  next z104 z105 z106 =>
    refine ite_keeps ?_ ?_
    · exact h
    · extract_lets y107 y108 y109
      clear_value y107
      have h110 : ∀ a0 a1, State.Keeps q F a1 → State.Keeps q F (y108 a0 a1) := by
        intro x111
        intro x112
        intro h113
        unfold y108
        apply State.loadDone_keeps
        apply State.modDie_keeps
        exact h113
      clear_value y108
      clear_value y109
      split
      next z114 z115 z116 =>
        refine ite_keeps ?_ ?_
        · exact h
        · refine ite_keeps ?_ ?_
          · apply h110
            apply State.modDie_keeps
            exact h
          · apply State.sendEntry_keeps
            exact h
      next z117 z118 =>
        split
        next z119 z120 z121 =>
          refine ite_keeps ?_ ?_
          · apply h110
            apply State.touch_keeps
            exact h
          · refine ite_keeps ?_ ?_
            · exact h
            · apply State.modDie_keeps
              exact h
        next z122 z123 =>
          split
          next z124 z125 z126 =>
            apply State.sendGet_keeps
            apply State.modDie_keeps
            refine (?_ : OptKeeps _ _ _) _ z126
            apply State.takeWay_keeps
            exact h
          next z127 z128 =>
            split
            next z129 z130 z131 =>
              refine ite_keeps ?_ ?_
              · apply State.putBlock_keeps
                exact h
              · exact h
            next z132 z133 =>
              exact h

theorem dieStore_keeps {q F x0 x1 s} (h : State.Keeps q F s) : State.Keeps q F (dieStore x0 x1 s) := by
  unfold dieStore
  extract_lets y101
  clear_value y101
  split
  next z102 z103 =>
    exact h
  next z104 z105 z106 =>
    refine ite_keeps ?_ ?_
    · exact h
    · extract_lets y107
      clear_value y107
      split
      next z108 z109 =>
        apply State.storeInMerge_keeps
        exact h
      next z110 z111 z112 =>
        split
        next z113 z114 =>
          refine ite_keeps ?_ ?_
          · exact h
          · apply State.storeInBlock_keeps
            apply State.modDie_keeps
            exact h
        next z115 z116 =>
          refine ite_keeps ?_ ?_
          · exact h
          · apply State.storeInBlock_keeps
            apply State.modDie_keeps
            exact h
        next z117 z118 =>
          refine ite_keeps ?_ ?_
          · exact h
          · apply State.sendGet_keeps
            apply State.modDie_keeps
            exact h
        next z119 z120 z121 z122 =>
          apply State.modDie_keeps
          exact h

theorem State.takeMsg_keeps {q F s x1} (h : State.Keeps q F s) : State.Keeps q F (State.takeMsg s x1) := by
  unfold State.takeMsg
  refine State.Keeps.fields (s := s) ?_
  exact h

theorem State.serveLoads_keeps {q F s x1 x2 x3} (h : State.Keeps q F s) : State.Keeps q F (State.serveLoads s x1 x2 x3) := by
  unfold State.serveLoads
  extract_lets y101 y102
  clear_value y101
  clear_value y102
  split
  next z103 z104 =>
    exact h
  next z105 z106 z107 =>
    extract_lets y108
    have h109 : State.Keeps q F y108 := by
      refine foldl_keeps (fun t110 x111 h112 => ?_) ?_
      · apply State.loadDone_keeps
        exact h112
      · exact h
    clear_value y108
    apply State.modDie_keeps
    exact h109

theorem State.serveStores_keeps {q F s x1 x2 x3} (h : State.Keeps q F s) : State.Keeps q F (State.serveStores s x1 x2 x3) := by
  unfold State.serveStores
  extract_lets y101 y102
  clear_value y101
  clear_value y102
  refine foldl_keeps (fun t103 x104 h105 => ?_) ?_
  · apply State.storeInBlock_keeps
    exact h105
  · apply State.modDie_keeps
    exact h

theorem State.settleMoved_keeps {q F s x1 x2} (h : State.Keeps q F s) : State.Keeps q F (State.settleMoved s x1 x2) := by
  unfold State.settleMoved
  refine State.Keeps.fields (s := s) ?_
  exact h

theorem State.toAsker_keeps {q F s x1 x2 x3 x4 x5 x6} (h : State.Keeps q F s) : State.Keeps q F (State.toAsker s x1 x2 x3 x4 x5 x6) := by
  unfold State.toAsker
  split
  next z101 z102 =>
    apply State.sendMsg_keeps
    exact h
  next z103 =>
    exact h

theorem State.ownerActs_keeps {q F s x1 x2 x3 x4} (h : State.Keeps q F s) : State.Keeps q F (State.ownerActs s x1 x2 x3 x4) := by
  unfold State.ownerActs
  split
  next z101 z102 =>
    exact h
  next z103 z104 z105 =>
    extract_lets y106
    have h107 : State.Keeps q F y106 := by
      refine ite_keeps ?_ ?_
      · exact h
      · apply State.modDie_keeps
        exact h
    clear_value y106
    split
    next z108 z109 =>
      apply State.modDie_keeps
      apply State.toHome_keeps
      apply State.toAsker_keeps
      exact h107
    next z110 z111 =>
      apply State.modDie_keeps
      apply State.toHome_keeps
      apply State.toAsker_keeps
      exact h107
    next z112 =>
      apply State.modDie_keeps
      apply State.toHome_keeps
      exact h107
    next z113 =>
      exact h107

theorem State.grantM_keeps {q F s x1 x2 x3 x4} (h : State.Keeps q F s) : State.Keeps q F (State.grantM s x1 x2 x3 x4) := by
  unfold State.grantM
  split
  next z101 z102 =>
    exact h
  next z103 z104 z105 =>
    refine ite_keeps ?_ ?_
    · extract_lets y106 y107
      have h108 : State.Keeps q F y106 := by
        apply State.modDie_keeps
        exact h
      clear_value y106
      have h109 : State.Keeps q F y107 := by
        apply State.serveLoads_keeps
        apply State.serveStores_keeps
        exact h108
      clear_value y107
      apply State.pumpLeave_keeps
      apply State.ownerActs_keeps
      exact h109
    · exact h

theorem State.dieInv_keeps {q F s x1 x2 x3 x4} (h : State.Keeps q F s) : State.Keeps q F (State.dieInv s x1 x2 x3 x4) := by
  unfold State.dieInv
  split
  next z101 z102 =>
    apply State.toHome_keeps
    exact h
  next z103 z104 z105 =>
    extract_lets y106 y107 y108 y109
    have h110 : ∀ a0, State.Keeps q F a0 → State.Keeps q F (y106 a0) := by
      intro x111
      intro h112
      unfold y106
      apply State.toHome_keeps
      exact h112
    clear_value y106
    have h113 : ∀ a0 a1, State.Keeps q F a1 → State.Keeps q F (y107 a0 a1) := by
      intro x114
      intro x115
      intro h116
      unfold y107
      apply State.modDie_keeps
      exact h116
    clear_value y107
    have h117 : ∀ a0, State.Keeps q F (y108 a0) := by
      intro x118
      unfold y108
      apply State.modDie_keeps
      exact h
    clear_value y108
    have h119 : State.Keeps q F y109 := by
      apply State.modDie_keeps
      exact h
    clear_value y109
    split
    next z120 z121 z122 =>
      apply State.modDie_keeps
      apply h110
      exact h
    next z123 z124 z125 =>
      apply State.modDie_keeps
      apply h110
      exact h
    next z126 z127 z128 z129 =>
      apply State.pumpLeave_keeps
      apply State.ownerActs_keeps
      exact h
    next z130 z131 z132 z133 =>
      apply State.pumpLeave_keeps
      apply h113
      apply h110
      apply State.toAsker_keeps
      exact h
    next z134 z135 z136 z137 =>
      apply State.modDie_keeps
      apply h110
      apply State.toAsker_keeps
      exact h
    next z138 z139 z140 =>
      apply h113
      apply h110
      exact h
    next z141 z142 z143 =>
      apply h117
    next z144 z145 z146 z147 =>
      apply h117
    next z148 z149 z150 z151 =>
      apply h117
    next z152 z153 z154 =>
      apply h113
      apply h110
      exact h
    next z155 z156 z157 =>
      apply h113
      apply State.toHome_keeps
      exact h119
    next z158 z159 z160 z161 =>
      apply h113
      apply State.toHome_keeps
      apply State.toAsker_keeps
      exact h119
    next z162 z163 z164 z165 =>
      apply h113
      apply h110
      apply State.toAsker_keeps
      exact h119
    next z166 z167 z168 =>
      apply h113
      apply h110
      exact h
    next z169 z170 z171 z172 =>
      apply h113
      apply h110
      apply State.toAsker_keeps
      exact h
    next z173 z174 z175 z176 =>
      apply h113
      apply h110
      apply State.toAsker_keeps
      exact h
    next z177 z178 z179 =>
      apply h113
      apply h110
      exact h
    next z180 z181 z182 z183 z184 z185 z186 z187 z188 z189 z190 z191 z192 z193 z194 z195 z196 z197 z198 z199 =>
      exact h

theorem dieForward_keeps {q F x0 x1 x2 s} (h : State.Keeps q F s) : State.Keeps q F (dieForward x0 x1 x2 s) := by
  unfold dieForward
  split
  next z101 z102 =>
    exact h
  next z103 z104 z105 z106 =>
    extract_lets y107
    clear_value y107
    apply State.dieInv_keeps
    apply State.takeMsg_keeps
    exact h

theorem dieData_keeps {q F x0 s} (h : State.Keeps q F s) : State.Keeps q F (dieData x0 s) := by
  unfold dieData
  split
  next z101 z102 =>
    exact h
  next z103 z104 z105 z106 =>
    extract_lets y107 y108
    have h109 : State.Keeps q F y107 := by
      apply State.takeMsg_keeps
      exact h
    clear_value y107
    have h110 : State.Keeps q F y108 := by
      apply State.touch_keeps
      apply State.modDie_keeps
      exact h109
    clear_value y108
    split
    next z111 z112 =>
      exact h109
    next z113 z114 z115 =>
      split
      next z116 z117 =>
        apply State.pumpLeave_keeps
        apply State.serveLoads_keeps
        apply State.modDie_keeps
        exact h110
      next z118 z119 =>
        apply State.pumpLeave_keeps
        apply State.modDie_keeps
        apply State.serveLoads_keeps
        exact h110
      next z120 z121 z122 =>
        exact h110

theorem dieDataE_keeps {q F x0 x1 s} (h : State.Keeps q F s) : State.Keeps q F (dieDataE x0 x1 s) := by
  unfold dieDataE
  split
  next z101 z102 =>
    exact h
  next z103 z104 z105 z106 =>
    extract_lets y107
    have h108 : State.Keeps q F y107 := by
      apply State.takeMsg_keeps
      exact h
    clear_value y107
    split
    next z109 z110 z111 =>
      refine ite_keeps ?_ ?_
      · apply State.pumpLeave_keeps
        apply State.serveLoads_keeps
        apply State.touch_keeps
        apply State.modDie_keeps
        exact h108
      · exact h108
    next z112 z113 =>
      exact h108

theorem dieDataM_keeps {q F x0 s} (h : State.Keeps q F s) : State.Keeps q F (dieDataM x0 s) := by
  unfold dieDataM
  split
  next z101 z102 =>
    exact h
  next z103 z104 z105 z106 =>
    apply State.grantM_keeps
    apply State.takeMsg_keeps
    exact h

theorem diePutAck_keeps {q F x0 x1 s} (h : State.Keeps q F s) : State.Keeps q F (diePutAck x0 x1 s) := by
  unfold diePutAck
  split
  next z101 z102 =>
    exact h
  next z103 z104 z105 z106 =>
    apply State.pumpLeave_keeps
    apply State.modDie_keeps
    apply State.takeMsg_keeps
    exact h

theorem dieNack_keeps {q F x0 x1 s} (h : State.Keeps q F s) : State.Keeps q F (dieNack x0 x1 s) := by
  unfold dieNack
  split
  next z101 z102 =>
    exact h
  next z103 z104 z105 z106 =>
    apply State.modDie_keeps
    apply State.bump_keeps
    apply State.takeMsg_keeps
    exact h

theorem dieResend_keeps {q F x0 x1 s} (h : State.Keeps q F s) : State.Keeps q F (dieResend x0 x1 s) := by
  unfold dieResend
  split
  next z101 z102 =>
    exact h
  next z103 z104 z105 =>
    refine ite_keeps ?_ ?_
    · exact h
    · extract_lets y106
      have h107 : State.Keeps q F y106 := by
        apply State.modDie_keeps
        exact h
      clear_value y106
      split
      next z108 z109 =>
        apply State.sendGet_keeps
        exact h107
      next z110 z111 =>
        apply State.sendGet_keeps
        exact h107
      next z112 z113 =>
        apply State.sendGet_keeps
        exact h107
      next z114 z115 z116 z117 =>
        exact h107

theorem homeMsg_keeps {q F x0 x1 x2 s x4} (h : State.Keeps q F s) (hx4 : ∀ a0 a1 a2 a3, State.Keeps q F a3 → State.Keeps q F (x4 a0 a1 a2 a3)) : State.Keeps q F (homeMsg x0 x1 x2 s x4) := by
  unfold homeMsg
  split
  next z101 z102 =>
    exact h
  next z103 z104 z105 z106 =>
    split
    next z107 z108 =>
      exact h
    next z109 z110 z111 =>
      apply hx4
      exact h

theorem State.nackMsg_keeps {q F s x1 x2 x3 x4} (h : State.Keeps q F s) : State.Keeps q F (State.nackMsg s x1 x2 x3 x4) := by
  unfold State.nackMsg
  apply State.sendMsg_keeps
  apply State.takeMsg_keeps
  exact h

theorem State.grant_keeps {q F s x1 x2 x3 x4 x5 x6 x7} (h : State.Keeps q F s) : State.Keeps q F (State.grant s x1 x2 x3 x4 x5 x6 x7) := by
  unfold State.grant
  extract_lets y101 y102
  clear_value y101
  clear_value y102
  apply State.sendMsg_keeps
  apply State.modSlice_keeps
  exact h

theorem State.missMsg_keeps {q F s x1 x2 x3} (h : State.Keeps q F s) : State.Keeps q F (State.missMsg s x1 x2 x3) := by
  unfold State.missMsg
  refine ite_keeps ?_ ?_
  · exact h
  · extract_lets y101
    have h102 : State.Keeps q F y101 := by
      refine ite_keeps ?_ ?_
      · apply State.deadRead_keeps
        exact h
      · exact h
    clear_value y101
    refine State.Keeps.fields (s := y101) ?_
    exact h102

theorem State.handleGet_keeps {q F s x1 x2 x3 x4 x5 x6} (h : State.Keeps q F s) : State.Keeps q F (State.handleGet s x1 x2 x3 x4 x5 x6) := by
  unfold State.handleGet
  extract_lets y101 y102 y103 y104 y105 y106 y107 y108
  clear_value y101
  clear_value y102
  clear_value y103
  clear_value y104
  clear_value y105
  clear_value y106
  clear_value y107
  have h109 : State.Keeps q F y108 := by
    apply State.modSlice_keeps
    apply State.takeMsg_keeps
    exact h
  clear_value y108
  refine ite_keeps ?_ ?_
  · apply State.nackMsg_keeps
    exact h
  · refine ite_keeps ?_ ?_
    · apply State.missMsg_keeps
      exact h
    · refine ite_keeps ?_ ?_
      · exact h
      · split
        next z110 z111 =>
          refine ite_keeps ?_ ?_
          · apply State.nackMsg_keeps
            exact h
          · apply State.sendMsg_keeps
            apply State.modSlice_keeps
            apply State.takeMsg_keeps
            exact h
        next z112 z113 =>
          refine ite_keeps ?_ ?_
          · apply State.startFill_keeps
            apply State.missMsg_keeps
            exact h
          · refine ite_keeps ?_ ?_
            · refine ite_keeps ?_ ?_
              · apply State.grant_keeps
                apply State.takeMsg_keeps
                exact h
              · apply State.grant_keeps
                apply State.takeMsg_keeps
                exact h
            · refine ite_keeps ?_ ?_
              · apply State.grant_keeps
                apply State.takeMsg_keeps
                exact h
              · refine ite_keeps ?_ ?_
                · apply State.nackMsg_keeps
                  exact h
                · apply State.sendAll_keeps
                  exact h109

theorem homeGet_keeps {q F x0 x1 x2 s} (h : State.Keeps q F s) : State.Keeps q F (homeGet x0 x1 x2 s) := by
  unfold homeGet
  split
  next z101 z102 =>
    exact h
  next z103 z104 z105 z106 =>
    split
    next z107 z108 =>
      apply State.missMsg_keeps
      exact h
    next z109 z110 z111 =>
      apply State.handleGet_keeps
      exact h

theorem State.putAck_keeps {q F s x1 x2 x3 x4} (h : State.Keeps q F s) : State.Keeps q F (State.putAck s x1 x2 x3 x4) := by
  unfold State.putAck
  apply State.sendMsg_keeps
  apply State.takeMsg_keeps
  exact h

theorem homePutS_keeps {q F x0 x1 s} (h : State.Keeps q F s) : State.Keeps q F (homePutS x0 x1 s) := by
  unfold homePutS
  apply homeMsg_keeps
  · exact h
  · intro x101
    intro x102
    intro x103
    intro x104
    intro h105
    extract_lets y106 y107 y108 y109
    clear_value y106
    clear_value y107
    have h110 : State.Keeps q F y108 := by
      apply State.putAck_keeps
      exact h105
    clear_value y108
    clear_value y109
    refine ite_keeps ?_ ?_
    · apply State.settleSlice_keeps
      apply State.modSlice_keeps
      exact h110
    · exact h110

theorem homePutE_keeps {q F x0 x1 s} (h : State.Keeps q F s) : State.Keeps q F (homePutE x0 x1 s) := by
  unfold homePutE
  apply homeMsg_keeps
  · exact h
  · intro x101
    intro x102
    intro x103
    intro x104
    intro h105
    extract_lets y106 y107 y108
    clear_value y106
    clear_value y107
    have h109 : State.Keeps q F y108 := by
      apply State.putAck_keeps
      exact h105
    clear_value y108
    split
    next z110 z111 z112 =>
      apply State.settleSlice_keeps
      apply State.modSlice_keeps
      exact h109
    next z113 z114 z115 z116 z117 =>
      refine ite_keeps ?_ ?_
      · apply State.modSlice_keeps
        exact h109
      · exact h109
    next z118 z119 z120 z121 =>
      exact h109

theorem State.writeCarried_keeps {q F s x1 x2 x3} (h : State.Keeps q F s) : State.Keeps q F (State.writeCarried s x1 x2 x3) := by
  unfold State.writeCarried
  apply State.modSlice_keeps
  apply State.landBytes_keeps
  exact h

theorem homePutM_keeps {q F x0 x1 s} (h : State.Keeps q F s) : State.Keeps q F (homePutM x0 x1 s) := by
  unfold homePutM
  apply homeMsg_keeps
  · exact h
  · intro x101
    intro x102
    intro x103
    intro x104
    intro h105
    extract_lets y106 y107 y108
    clear_value y106
    clear_value y107
    have h109 : State.Keeps q F y108 := by
      apply State.putAck_keeps
      exact h105
    clear_value y108
    split
    next z110 z111 z112 =>
      apply State.settleSlice_keeps
      apply State.modSlice_keeps
      apply State.settleMoved_keeps
      apply State.writeCarried_keeps
      exact h109
    next z113 z114 z115 z116 z117 =>
      extract_lets y118
      have h119 : State.Keeps q F y118 := by
        refine ite_keeps ?_ ?_
        · exact h109
        · apply State.settleMoved_keeps
          refine ite_keeps ?_ ?_
          · exact h109
          · apply State.writeCarried_keeps
            exact h109
      clear_value y118
      refine ite_keeps ?_ ?_
      · apply State.modSlice_keeps
        exact h119
      · exact h119
    next z120 z121 z122 z123 =>
      exact h109

theorem State.ackTr_keeps {q F s x1 x2 x3} (h : State.Keeps q F s) : State.Keeps q F (State.ackTr s x1 x2 x3) := by
  unfold State.ackTr
  extract_lets y101 y102 y103
  clear_value y101
  clear_value y102
  clear_value y103
  split
  next z104 z105 =>
    exact h
  next z106 z107 z108 =>
    split
    next z109 z110 =>
      extract_lets y111
      clear_value y111
      apply State.endTr_keeps
      exact h
    next z112 z113 =>
      apply State.endTr_keeps
      exact h
    next z114 z115 =>
      refine ite_keeps ?_ ?_
      · apply State.modSlice_keeps
        exact h
      · extract_lets y116
        clear_value y116
        apply State.endTr_keeps
        apply State.sendMsg_keeps
        exact h
    next z117 z118 =>
      refine ite_keeps ?_ ?_
      · apply State.modSlice_keeps
        exact h
      · apply State.endTr_keeps
        exact h

theorem homeInvAck_keeps {q F x0 x1 s} (h : State.Keeps q F s) : State.Keeps q F (homeInvAck x0 x1 s) := by
  unfold homeInvAck
  apply homeMsg_keeps
  · exact h
  · intro x101
    intro x102
    intro x103
    intro x104
    intro h105
    apply State.ackTr_keeps
    apply State.takeMsg_keeps
    exact h105

theorem homeDataM_keeps {q F x0 x1 s} (h : State.Keeps q F s) : State.Keeps q F (homeDataM x0 x1 s) := by
  unfold homeDataM
  apply homeMsg_keeps
  · exact h
  · intro x101
    intro x102
    intro x103
    intro x104
    intro h105
    extract_lets y106 y107
    clear_value y106
    have h108 : State.Keeps q F y107 := by
      apply State.takeMsg_keeps
      exact h105
    clear_value y107
    split
    next z109 z110 =>
      exact h108
    next z111 z112 z113 =>
      apply State.ackTr_keeps
      apply State.settleMoved_keeps
      refine ite_keeps ?_ ?_
      · exact h108
      · apply State.writeCarried_keeps
        exact h108

theorem writeAck_keeps {q F x0 x1 s} (h : State.Keeps q F s) : State.Keeps q F (writeAck x0 x1 s) := by
  unfold writeAck
  extract_lets y101 y102
  clear_value y101
  have h103 : State.Keeps q F y102 := by
    apply State.modDie_keeps
    exact h
  clear_value y102
  split
  next z104 z105 =>
    exact h
  next z106 z107 z108 z109 =>
    refine ite_keeps ?_ ?_
    · apply State.modDie_keeps
      exact h103
    · split
      next z110 z111 =>
        exact h103
      next z112 z113 z114 =>
        apply State.modDie_keeps
        exact h103

theorem execDieCacheLoad_keeps {q F x0 x1 s} (h : State.Keeps q F s) : Out.Keeps q F (execDieCacheLoad x0 x1 s) := by
  unfold execDieCacheLoad
  refine ok_keeps ?_
  apply dieLoad_keeps
  exact h

theorem execDieCacheStore_keeps {q F x0 x1 s} (h : State.Keeps q F s) : Out.Keeps q F (execDieCacheStore x0 x1 s) := by
  unfold execDieCacheStore
  refine ok_keeps ?_
  apply dieStore_keeps
  exact h

theorem execMergeEntryAgeExpiry_keeps {q F x0 x1 s} (h : State.Keeps q F s) : Out.Keeps q F (execMergeEntryAgeExpiry x0 x1 s) := by
  unfold execMergeEntryAgeExpiry
  refine ok_keeps ?_
  split
  next z101 z102 z103 =>
    apply State.sendEntry_keeps
    exact h
  next z104 z105 =>
    exact h

theorem execWriteAcknowledgement_keeps {q F x0 x1 s} (h : State.Keeps q F s) : Out.Keeps q F (execWriteAcknowledgement x0 x1 s) := by
  unfold execWriteAcknowledgement
  refine ok_keeps ?_
  apply writeAck_keeps
  exact h

theorem execGets_keeps {q F x0 x1 s} (h : State.Keeps q F s) : Out.Keeps q F (execGets x0 x1 s) := by
  unfold execGets
  refine ok_keeps ?_
  apply homeGet_keeps
  exact h

theorem execGetm_keeps {q F x0 x1 s} (h : State.Keeps q F s) : Out.Keeps q F (execGetm x0 x1 s) := by
  unfold execGetm
  refine ok_keeps ?_
  apply homeGet_keeps
  exact h

theorem execPuts_keeps {q F x0 x1 s} (h : State.Keeps q F s) : Out.Keeps q F (execPuts x0 x1 s) := by
  unfold execPuts
  refine ok_keeps ?_
  apply homePutS_keeps
  exact h

theorem execPute_keeps {q F x0 x1 s} (h : State.Keeps q F s) : Out.Keeps q F (execPute x0 x1 s) := by
  unfold execPute
  refine ok_keeps ?_
  apply homePutE_keeps
  exact h

theorem execPutm_keeps {q F x0 x1 s} (h : State.Keeps q F s) : Out.Keeps q F (execPutm x0 x1 s) := by
  unfold execPutm
  refine ok_keeps ?_
  apply homePutM_keeps
  exact h

theorem execInvack_keeps {q F x0 x1 s} (h : State.Keeps q F s) : Out.Keeps q F (execInvack x0 x1 s) := by
  unfold execInvack
  refine ok_keeps ?_
  apply homeInvAck_keeps
  exact h

theorem execDatam_keeps {q F x0 x1 x2 s} (h : State.Keeps q F s) : Out.Keeps q F (execDatam x0 x1 x2 s) := by
  unfold execDatam
  refine ok_keeps ?_
  refine ite_keeps ?_ ?_
  · apply homeDataM_keeps
    exact h
  · apply dieDataM_keeps
    exact h

theorem execInv_keeps {q F x0 x1 s} (h : State.Keeps q F s) : Out.Keeps q F (execInv x0 x1 s) := by
  unfold execInv
  refine ok_keeps ?_
  apply dieForward_keeps
  exact h

theorem execFwdgets_keeps {q F x0 x1 s} (h : State.Keeps q F s) : Out.Keeps q F (execFwdgets x0 x1 s) := by
  unfold execFwdgets
  refine ok_keeps ?_
  apply dieForward_keeps
  exact h

theorem execFwdgetm_keeps {q F x0 x1 s} (h : State.Keeps q F s) : Out.Keeps q F (execFwdgetm x0 x1 s) := by
  unfold execFwdgetm
  refine ok_keeps ?_
  apply dieForward_keeps
  exact h

theorem execData_keeps {q F x0 s} (h : State.Keeps q F s) : Out.Keeps q F (execData x0 s) := by
  unfold execData
  refine ok_keeps ?_
  apply dieData_keeps
  exact h

theorem execDatae_keeps {q F x0 x1 s} (h : State.Keeps q F s) : Out.Keeps q F (execDatae x0 x1 s) := by
  unfold execDatae
  refine ok_keeps ?_
  apply dieDataE_keeps
  exact h

theorem execPutack_keeps {q F x0 x1 s} (h : State.Keeps q F s) : Out.Keeps q F (execPutack x0 x1 s) := by
  unfold execPutack
  refine ok_keeps ?_
  apply diePutAck_keeps
  exact h

theorem execNack_keeps {q F x0 x1 s} (h : State.Keeps q F s) : Out.Keeps q F (execNack x0 x1 s) := by
  unfold execNack
  refine ok_keeps ?_
  apply dieNack_keeps
  exact h

theorem execCoherenceResend_keeps {q F x0 x1 s} (h : State.Keeps q F s) : Out.Keeps q F (execCoherenceResend x0 x1 s) := by
  unfold execCoherenceResend
  refine ok_keeps ?_
  apply dieResend_keeps
  exact h

end Sys2Proof.Machine
end

