-- ==== Sys2Proof/Laws/KeepsSequencer.lean ====
section
/-! SUPPORT. Every operation of Sequencer.lean keeps what State.Keeps says. -/

set_option maxRecDepth 20000

namespace Sys2Proof.Machine

theorem State.startFetch_keeps {q F s x1 x2 x3} (h : State.Keeps q F s) : State.Keeps q F (State.startFetch s x1 x2 x3) := by
  unfold State.startFetch
  refine ite_keeps ?_ ?_
  · exact h
  · apply State.request_keeps
    apply State.modCore_keeps
    exact h

theorem State.fetch_keeps {q F s x1 x2} (h : State.Keeps q F s) (hx2 : ∀ a0 a1, State.Keeps q F a1 → State.Keeps q F (x2 a0 a1)) : State.Keeps q F (State.fetch s x1 x2) := by
  unfold State.fetch
  extract_lets y101
  clear_value y101
  split
  next z102 z103 =>
    exact h
  next z104 z105 z106 z107 =>
    refine ite_keeps ?_ ?_
    · exact h
    · refine ite_keeps ?_ ?_
      · apply State.fault_keeps
        exact h
      · split
        next z108 z109 =>
          apply State.startFetch_keeps
          exact h
        next z110 z111 z112 =>
          apply hx2
          apply State.modCore_keeps
          exact h

theorem State.issueOp_keeps {q F s x1 x2 x3} (h : State.Keeps q F s) (hx3 : ∀ a0 a1, State.Keeps q F a1 → State.Keeps q F (x3 a0 a1)) : State.Keeps q F (State.issueOp s x1 x2 x3) := by
  unfold State.issueOp
  apply State.fetch_keeps
  · exact h
  · intro x101
    intro x102
    intro h103
    refine ite_keeps ?_ ?_
    · apply hx3
      exact h103
    · exact h

theorem State.checked_keeps {q F s x1 x2 x3} (h : State.Keeps q F s) (hx3 : ∀ a0, State.Keeps q F a0 → State.Keeps q F (x3 a0)) : State.Keeps q F (State.checked s x1 x2 x3) := by
  unfold State.checked
  split
  next z101 z102 z103 =>
    apply State.fault_keeps
    exact h
  next z104 z105 =>
    apply hx3
    exact h

theorem State.nextPc_keeps {q F s x1} (h : State.Keeps q F s) : State.Keeps q F (State.nextPc s x1) := by
  unfold State.nextPc
  apply State.modCore_keeps
  exact h

theorem execSalu_keeps {q F x0 s} (h : State.Keeps q F s) : Out.Keeps q F (execSalu x0 s) := by
  unfold execSalu
  refine ok_keeps ?_
  apply State.issueOp_keeps
  · exact h
  · intro x101
    intro x102
    intro h103
    extract_lets y104 y105
    clear_value y104
    clear_value y105
    split
    next z106 z107 z108 z109 z110 =>
      apply State.nextPc_keeps
      apply State.modCore_keeps
      exact h103
    next z111 z112 z113 =>
      apply State.fault_keeps
      exact h103

theorem execSli_keeps {q F x0 s} (h : State.Keeps q F s) : Out.Keeps q F (execSli x0 s) := by
  unfold execSli
  refine ok_keeps ?_
  apply State.issueOp_keeps
  · exact h
  · intro x101
    intro x102
    intro h103
    apply State.checked_keeps
    · exact h103
    · intro x104
      intro h105
      apply State.nextPc_keeps
      apply State.modCore_keeps
      exact h105

theorem execSbr_keeps {q F x0 s} (h : State.Keeps q F s) : Out.Keeps q F (execSbr x0 s) := by
  unfold execSbr
  refine ok_keeps ?_
  apply State.issueOp_keeps
  · exact h
  · intro x101
    intro x102
    intro h103
    extract_lets y104
    clear_value y104
    split
    next z105 z106 z107 z108 =>
      apply State.modCore_keeps
      exact h103
    next z109 z110 z111 z112 =>
      apply State.nextPc_keeps
      exact h103
    next z113 z114 z115 z116 =>
      apply State.fault_keeps
      exact h103

theorem execSldt_keeps {q F x0 s} (h : State.Keeps q F s) : Out.Keeps q F (execSldt x0 s) := by
  unfold execSldt
  refine ok_keeps ?_
  apply State.issueOp_keeps
  · exact h
  · intro x101
    intro x102
    intro h103
    extract_lets y104
    clear_value y104
    refine ite_keeps ?_ ?_
    · exact h
    · apply State.checked_keeps
      · exact h103
      · intro x105
        intro h106
        apply State.nextPc_keeps
        apply State.modCore_keeps
        exact h106

theorem execSstt_keeps {q F x0 s} (h : State.Keeps q F s) : Out.Keeps q F (execSstt x0 s) := by
  unfold execSstt
  refine ok_keeps ?_
  apply State.issueOp_keeps
  · exact h
  · intro x101
    intro x102
    intro h103
    extract_lets y104
    clear_value y104
    refine ite_keeps ?_ ?_
    · exact h
    · apply State.checked_keeps
      · exact h103
      · intro x105
        intro h106
        apply State.nextPc_keeps
        apply State.modCore_keeps
        exact h106

theorem execEndKernel_keeps {q F x0 s} (h : State.Keeps q F s) : Out.Keeps q F (execEndKernel x0 s) := by
  unfold execEndKernel
  refine ok_keeps ?_
  apply State.issueOp_keeps
  · exact h
  · intro x101
    intro x102
    intro h103
    apply State.checked_keeps
    · exact h103
    · intro x104
      intro h105
      apply State.modCore_keeps
      exact h105

theorem execUndefinedOpcode_keeps {q F x0 s} (h : State.Keeps q F s) : Out.Keeps q F (execUndefinedOpcode x0 s) := by
  unfold execUndefinedOpcode
  refine ok_keeps ?_
  apply State.fetch_keeps
  · exact h
  · intro x101
    intro x102
    intro h103
    refine ite_keeps ?_ ?_
    · exact h
    · apply State.fault_keeps
      exact h103

theorem execInstructionBufferFill_keeps {q F x0 s} (h : State.Keeps q F s) : Out.Keeps q F (execInstructionBufferFill x0 s) := by
  unfold execInstructionBufferFill
  refine ok_keeps ?_
  split
  next z101 z102 =>
    apply State.fetch_keeps
    · exact h
    · intro x103
      intro x104
      intro h105
      exact h
  next z106 z107 z108 =>
    split
    next z109 z110 =>
      exact h
    next z111 z112 z113 =>
      apply State.modCore_keeps
      exact h

theorem execReadOnlyCacheFill_keeps {q F x0 x1 s} (h : State.Keeps q F s) : Out.Keeps q F (execReadOnlyCacheFill x0 x1 s) := by
  unfold execReadOnlyCacheFill
  refine ok_keeps ?_
  split
  next z101 z102 =>
    exact h
  next z103 z104 z105 =>
    split
    next z106 z107 =>
      exact h
    next z108 z109 z110 =>
      extract_lets y111
      have h112 : State.Keeps q F y111 := by
        apply State.modCore_keeps
        exact h
      clear_value y111
      refine foldl_keeps (fun t113 x114 h115 => ?_) ?_
      · apply State.accPart_keeps
        exact h115
      · exact h112

theorem State.enqueue_keeps {q F s x1 x2 x3 x4 x5 x6 x7 x8 x9 x10} (h : State.Keeps q F s) : State.Keeps q F (State.enqueue s x1 x2 x3 x4 x5 x6 x7 x8 x9 x10) := by
  unfold State.enqueue
  apply State.nextPc_keeps
  apply State.modCore_keeps
  exact h

theorem State.setEntry_keeps {q F s x1 x2 x3 x4} (h : State.Keeps q F s) : State.Keeps q F (State.setEntry s x1 x2 x3 x4) := by
  unfold State.setEntry
  apply State.modCore_keeps
  exact h

theorem State.dropEntry_keeps {q F s x1 x2 x3 x4} (h : State.Keeps q F s) : State.Keeps q F (State.dropEntry s x1 x2 x3 x4) := by
  unfold State.dropEntry
  apply State.modCore_keeps
  exact h

theorem execQueueHeadStart_keeps {q F x0 x1 s} (h : State.Keeps q F s) : Out.Keeps q F (execQueueHeadStart x0 x1 s) := by
  unfold execQueueHeadStart
  refine ok_keeps ?_
  extract_lets y101
  clear_value y101
  split
  next z102 z103 =>
    exact h
  next z104 z105 z106 =>
    split
    next z107 z108 =>
      exact h
    next z109 z110 z111 =>
      refine ite_keeps ?_ ?_
      · exact h
      · extract_lets y112
        have h113 : State.Keeps q F y112 := by
          apply State.setEntry_keeps
          exact h
        clear_value y112
        refine ite_keeps ?_ ?_
        · apply State.modCore_keeps
          exact h113
        · exact h113

theorem execScoreboardRelease_keeps {q F x0 x1 s} (h : State.Keeps q F s) : Out.Keeps q F (execScoreboardRelease x0 x1 s) := by
  unfold execScoreboardRelease
  refine ok_keeps ?_
  split
  next z101 z102 z103 z104 =>
    refine ite_keeps ?_ ?_
    · apply State.dropEntry_keeps
      exact h
    · exact h
  next z105 z106 =>
    exact h

theorem State.actHead_keeps {q F s x1 x2 x3 x4} (h : State.Keeps q F s) (hx4 : ∀ a0 a1 a2, State.Keeps q F a2 → State.Keeps q F (x4 a0 a1 a2)) : State.Keeps q F (State.actHead s x1 x2 x3 x4) := by
  unfold State.actHead
  extract_lets y101
  clear_value y101
  split
  next z102 z103 =>
    exact h
  next z104 z105 z106 =>
    split
    next z107 z108 =>
      exact h
    next z109 z110 z111 =>
      refine ite_keeps ?_ ?_
      · apply hx4
        exact h
      · exact h

theorem State.finishEntry_keeps {q F s x1 x2 x3} (h : State.Keeps q F s) : State.Keeps q F (State.finishEntry s x1 x2 x3) := by
  unfold State.finishEntry
  apply State.setEntry_keeps
  exact h

theorem State.startDrain_keeps {q F s x1} (h : State.Keeps q F s) : State.Keeps q F (State.startDrain s x1) := by
  unfold State.startDrain
  extract_lets y101 y102 y103 y104 y105 y106
  clear_value y101
  clear_value y102
  clear_value y103
  clear_value y104
  have h107 : State.Keeps q F y105 := by
    refine foldl_keeps (fun t108 x109 h110 => ?_) ?_
    · apply State.sendEntry_keeps
      exact h110
    · exact h
  clear_value y105
  have h111 : State.Keeps q F y106 := by
    apply State.leaveDie_keeps
    exact h107
  clear_value y106
  apply State.modCore_keeps
  exact h111

theorem State.drained_keeps {q F s x1 x2 x3} (h : State.Keeps q F s) (hx3 : ∀ a0, State.Keeps q F a0 → State.Keeps q F (x3 a0)) : State.Keeps q F (State.drained s x1 x2 x3) := by
  unfold State.drained
  refine ite_keeps ?_ ?_
  · exact h
  · extract_lets y101
    have h102 : State.Keeps q F y101 := by
      refine ite_keeps ?_ ?_
      · exact h
      · apply State.startDrain_keeps
        exact h
    clear_value y101
    split
    next z103 z104 z105 =>
      refine ite_keeps ?_ ?_
      · apply hx3
        apply State.modCore_keeps
        exact h102
      · exact h102
    next z106 z107 =>
      exact h102

theorem execCoreKernelEnd_keeps {q F x0 s} (h : State.Keeps q F s) : Out.Keeps q F (execCoreKernelEnd x0 s) := by
  unfold execCoreKernelEnd
  refine ok_keeps ?_
  extract_lets y101
  clear_value y101
  refine ite_keeps ?_ ?_
  · exact h
  · apply State.drained_keeps
    · exact h
    · intro x102
      intro h103
      apply State.modCore_keeps
      exact h103

end Sys2Proof.Machine
end

