-- ==== Sys2Proof/Laws/KeepsCompose.lean ====
section
/-! SUPPORT. Every operation of Compose.lean keeps what State.Keeps says. -/

set_option maxRecDepth 20000

namespace Sys2Proof.Machine

theorem State.setHolder_keeps {q F s x1 x2 x3} (h : State.Keeps q F s) : State.Keeps q F (State.setHolder s x1 x2 x3) := by
  unfold State.setHolder
  refine ite_keeps ?_ ?_
  · apply State.setSliceHolder_keeps
    exact h
  · apply State.setCoreHolder_keeps
    exact h

theorem State.gainUnit_keeps {q F s x1 x2 x3} (h : State.Keeps q F s) : State.Keeps q F (State.gainUnit s x1 x2 x3) := by
  unfold State.gainUnit
  extract_lets y101
  have h102 : State.Keeps q F y101 := by
    apply State.setHolder_keeps
    exact h
  clear_value y101
  refine ite_keeps ?_ ?_
  · apply State.setSlice_keeps
    exact h102
  · apply State.setCore_keeps
    exact h102

theorem State.allot_keeps {q F s x1 x2 x3 x4} (h : State.Keeps q F s) : FstKeeps q F (State.allot s x1 x2 x3 x4) := by
  unfold State.allot
  extract_lets y101 y102 y103 y104 y105 y106 y107 y108 y109 y110
  clear_value y101
  clear_value y102
  clear_value y103
  clear_value y104
  clear_value y105
  have h111 : State.Keeps q F y106 := by
    refine foldl_keeps (fun t112 x113 h114 => ?_) ?_
    · apply State.modExtent_keeps
      exact h114
    · exact h
  clear_value y106
  clear_value y107
  have h115 : State.Keeps q F y108 := by
    refine State.Keeps.fields (s := y106) ?_
    exact h111
  clear_value y108
  have h116 : State.Keeps q F y109 := by
    refine foldl_keeps (fun t117 x118 h119 => ?_) ?_
    · apply State.setFlag_keeps
      exact h119
    · exact h115
  clear_value y109
  have h120 : State.Keeps q F y110 := by
    apply State.modVd_keeps
    exact h116
  clear_value y110
  refine mk_fst_keeps ?_
  exact h120

theorem State.number_keeps {q F s x1 x2 x3} (h : State.Keeps q F s) : State.Keeps q F (State.number s x1 x2 x3) := by
  unfold State.number
  extract_lets y101
  clear_value y101
  refine foldl_keeps (fun t102 x103 h104 => ?_) ?_
  · apply State.setHolder_keeps
    exact h104
  · exact h

theorem State.scrub_keeps {q F s x1} (h : State.Keeps q F s) : State.Keeps q F (State.scrub s x1) := by
  unfold State.scrub
  apply State.modExtent_keeps
  exact h

theorem State.leave_keeps {q F s x1 x2} (h : State.Keeps q F s) : State.Keeps q F (State.leave s x1 x2) := by
  unfold State.leave
  apply State.setHolder_keeps
  apply State.setSlot_keeps
  exact h

theorem State.create_keeps {q F s x1} (h : State.Keeps q F s) : State.Keeps q F (State.create s x1) := by
  unfold State.create
  extract_lets y101 y102 y103 y104 y105 y106 y107
  clear_value y101
  have h108 : State.Keeps q F y102 := by
    apply State.clearVf_keeps
    apply State.setVd_keeps
    exact h
  clear_value y102
  have h109 : State.Keeps q F y103 := by
    apply State.setReg_keeps
    apply State.setReg_keeps
    apply State.setReg_keeps
    apply State.setReg_keeps
    apply State.setReg_keeps
    exact h108
  clear_value y103
  have h110 : FstKeeps q F y104 := by
    apply State.allot_keeps
    exact h109
  clear_value y104
  have h111 : ∀ a0 a1, State.Keeps q F a1 → State.Keeps q F (y105 a0 a1) := by
    intro x112
    intro x113
    intro h114
    unfold y105
    extract_lets y115
    clear_value y115
    refine foldl_keeps (fun t116 x117 h118 => ?_) ?_
    · apply State.pend_keeps
      apply State.gainUnit_keeps
      exact h118
    · exact h114
  clear_value y105
  have h119 : State.Keeps q F y106 := by
    apply h111
    apply h111
    refine fst_keeps ?_
    exact h110
  clear_value y106
  have h120 : State.Keeps q F y107 := by
    apply State.modVd_keeps
    exact h119
  clear_value y107
  apply State.setRegFld_keeps
  apply State.pend_keeps
  exact h120

theorem State.createEnds_keeps {q F s x1 x2} (h : State.Keeps q F s) : State.Keeps q F (State.createEnds s x1 x2) := by
  unfold State.createEnds
  extract_lets y101 y102 y103
  clear_value y101
  have h104 : State.Keeps q F y102 := by
    apply State.number_keeps
    apply State.number_keeps
    exact h
  clear_value y102
  have h105 : State.Keeps q F y103 := by
    refine foldl_keeps (fun t106 x107 h108 => ?_) ?_
    · apply State.modExtent_keeps
      exact h108
    · exact h104
  clear_value y103
  apply State.composeDone_keeps
  apply State.modVd_keeps
  exact h105

theorem State.readComposition_keeps {q F s x1} (h : State.Keeps q F s) : State.Keeps q F (State.readComposition s x1) := by
  unfold State.readComposition
  extract_lets y101 y102 y103
  clear_value y101
  clear_value y102
  have h104 : ∀ a0 a1, State.Keeps q F a1 → State.Keeps q F (y103 a0 a1) := by
    intro x105
    intro x106
    intro h107
    unfold y103
    apply State.composeDone_keeps
    exact h107
  clear_value y103
  refine ite_keeps ?_ ?_
  · apply h104
    exact h
  · refine ite_keeps ?_ ?_
    · refine ite_keeps ?_ ?_
      · apply h104
        apply State.setRegs_keeps
        exact h
      · apply h104
        exact h
    · refine ite_keeps ?_ ?_
      · apply h104
        exact h
      · apply h104
        apply State.setRegs_keeps
        exact h

theorem State.setCreate_keeps {q F s x1} (h : State.Keeps q F s) : State.Keeps q F (State.setCreate s x1) := by
  unfold State.setCreate
  extract_lets y101 y102 y103
  clear_value y101
  clear_value y102
  have h104 : State.Keeps q F y103 := by
    refine foldl_keeps (fun t105 x106 h107 => ?_) ?_
    · apply State.setCore_keeps
      apply State.setCoreHolder_keeps
      exact h107
    · exact h
  clear_value y103
  split
  next z108 z109 z110 =>
    apply State.composeDone_keeps
    exact h
  next z111 z112 =>
    apply State.composeDone_keeps
    apply State.modSet_keeps
    exact h104

theorem State.setDestroy_keeps {q F s x1} (h : State.Keeps q F s) : State.Keeps q F (State.setDestroy s x1) := by
  unfold State.setDestroy
  extract_lets y101 y102 y103 y104
  clear_value y101
  clear_value y102
  clear_value y103
  have h105 : State.Keeps q F y104 := by
    refine foldl_keeps (fun t106 x107 h108 => ?_) ?_
    · apply State.pend_keeps
      apply State.setCore_keeps
      exact h108
    · exact h
  clear_value y104
  split
  next z109 z110 z111 =>
    apply State.composeDone_keeps
    exact h
  next z112 z113 =>
    apply State.composeDone_keeps
    apply State.modSet_keeps
    exact h105

theorem State.dropTraffic_keeps {q F s x1} (h : State.Keeps q F s) : State.Keeps q F (State.dropTraffic s x1) := by
  unfold State.dropTraffic
  extract_lets y101 y102 y103
  have h104 : State.Keeps q F y101 := by
    apply State.settleHost_keeps
    exact h
  clear_value y101
  clear_value y102
  have h105 : State.Keeps q F y103 := by
    refine State.Keeps.fields (s := y101) ?_
    exact h104
  clear_value y103
  refine foldl_keeps (fun t106 x107 h108 => ?_) ?_
  · apply State.setSlice_keeps
    exact h108
  · exact h105

theorem State.destroyVd_keeps {q F s x1} (h : State.Keeps q F s) : State.Keeps q F (State.destroyVd s x1) := by
  unfold State.destroyVd
  extract_lets y101 y102 y103 y104 y105 y106 y107 y108 y109 y110 y111 y112 y113 y114
  clear_value y101
  clear_value y102
  have h115 : State.Keeps q F y103 := by
    apply State.dropTraffic_keeps
    apply State.flrVf_keeps
    exact h
  clear_value y103
  clear_value y104
  clear_value y105
  clear_value y106
  have h116 : State.Keeps q F y107 := by
    refine foldl_keeps (fun t117 x118 h119 => ?_) ?_
    · apply State.scrub_keeps
      exact h119
    · exact h115
  clear_value y107
  clear_value y108
  have h120 : State.Keeps q F y109 := by
    refine State.Keeps.fields (s := y107) ?_
    exact h116
  clear_value y109
  have h121 : State.Keeps q F y110 := by
    refine foldl_keeps (fun t122 x123 h124 => ?_) ?_
    · apply State.pend_keeps
      apply State.setCore_keeps
      exact h124
    · exact h120
  clear_value y110
  have h125 : State.Keeps q F y111 := by
    refine foldl_keeps (fun t126 x127 h128 => ?_) ?_
    · apply State.pend_keeps
      exact h128
    · exact h121
  clear_value y111
  have h129 : State.Keeps q F y112 := by
    refine foldl_keeps (fun t130 x131 h132 => ?_) ?_
    · apply State.pend_keeps
      exact h132
    · exact h125
  clear_value y112
  have h133 : State.Keeps q F y113 := by
    refine ite_keeps ?_ ?_
    · exact h129
    · apply State.modSet_keeps
      exact h129
  clear_value y113
  have h134 : State.Keeps q F y114 := by
    apply State.modVd_keeps
    exact h133
  clear_value y114
  apply State.setRegFld_keeps
  apply State.abortRelease_keeps
  apply State.pend_keeps
  exact h134

theorem State.startRebind_keeps {q F s x1 x2} (h : State.Keeps q F s) : State.Keeps q F (State.startRebind s x1 x2) := by
  unfold State.startRebind
  extract_lets y101 y102
  clear_value y101
  have h103 : State.Keeps q F y102 := by
    refine State.Keeps.fields (s := s) ?_
    exact h
  clear_value y102
  apply State.setRegFld_keeps
  apply State.modVd_keeps
  exact h103

theorem State.composeOp_keeps {q F s x1 x2} (h : State.Keeps q F s) : State.Keeps q F (State.composeOp s x1 x2) := by
  unfold State.composeOp
  extract_lets y101 y102
  clear_value y101
  clear_value y102
  split
  next z103 =>
    split
    next z104 z105 z106 =>
      apply State.composeDone_keeps
      exact h
    next z107 z108 =>
      apply State.create_keeps
      exact h
  next z109 =>
    split
    next z110 z111 z112 =>
      apply State.composeDone_keeps
      exact h
    next z113 z114 =>
      apply State.destroyVd_keeps
      exact h
  next z115 =>
    split
    next z116 z117 z118 =>
      apply State.composeDone_keeps
      exact h
    next z119 z120 =>
      apply State.startRebind_keeps
      exact h
  next z121 =>
    split
    next z122 z123 z124 =>
      apply State.composeDone_keeps
      exact h
    next z125 z126 =>
      apply State.startRebind_keeps
      exact h
  next z127 =>
    apply State.readComposition_keeps
    exact h
  next z128 =>
    apply State.setCreate_keeps
    exact h
  next z129 =>
    apply State.setDestroy_keeps
    exact h
  next z130 z131 z132 z133 z134 z135 z136 z137 =>
    apply State.composeDone_keeps
    exact h

theorem State.composeGo_keeps {q F s x1} (h : State.Keeps q F s) : State.Keeps q F (State.composeGo s x1) := by
  unfold State.composeGo
  refine ite_keeps ?_ ?_
  · exact h
  · extract_lets y101 y102 y103
    have h104 : State.Keeps q F y101 := by
      apply State.setRegFld_keeps
      exact h
    clear_value y101
    clear_value y102
    clear_value y103
    refine ite_keeps ?_ ?_
    · apply State.readComposition_keeps
      exact h104
    · refine ite_keeps ?_ ?_
      · apply State.setRegBit_keeps
        exact h104
      · refine ite_keeps ?_ ?_
        · refine State.Keeps.fields (s := y101) ?_
          exact h104
        · apply State.composeOp_keeps
          exact h104

theorem execCreate_keeps {q F s} (h : State.Keeps q F s) : Out.Keeps q F (execCreate s) := by
  unfold execCreate
  refine ok_keeps ?_
  apply State.composeGo_keeps
  exact h

theorem execDestroy_keeps {q F s} (h : State.Keeps q F s) : Out.Keeps q F (execDestroy s) := by
  unfold execDestroy
  refine ok_keeps ?_
  apply State.composeGo_keeps
  exact h

theorem execMove_keeps {q F s} (h : State.Keeps q F s) : Out.Keeps q F (execMove s) := by
  unfold execMove
  refine ok_keeps ?_
  apply State.composeGo_keeps
  exact h

theorem execResize_keeps {q F s} (h : State.Keeps q F s) : Out.Keeps q F (execResize s) := by
  unfold execResize
  refine ok_keeps ?_
  apply State.composeGo_keeps
  exact h

theorem execReadDesc_keeps {q F s} (h : State.Keeps q F s) : Out.Keeps q F (execReadDesc s) := by
  unfold execReadDesc
  refine ok_keeps ?_
  apply State.composeGo_keeps
  exact h

theorem execSetCreate_keeps {q F s} (h : State.Keeps q F s) : Out.Keeps q F (execSetCreate s) := by
  unfold execSetCreate
  refine ok_keeps ?_
  apply State.composeGo_keeps
  exact h

theorem execSetDestroy_keeps {q F s} (h : State.Keeps q F s) : Out.Keeps q F (execSetDestroy s) := by
  unfold execSetDestroy
  refine ok_keeps ?_
  apply State.composeGo_keeps
  exact h

theorem execComposePendingStart_keeps {q F s} (h : State.Keeps q F s) : Out.Keeps q F (execComposePendingStart s) := by
  unfold execComposePendingStart
  refine ok_keeps ?_
  split
  next z101 z102 =>
    exact h
  next z103 z104 z105 z106 =>
    refine ite_keeps ?_ ?_
    · exact h
    · apply State.composeOp_keeps
      refine State.Keeps.fields (s := s) ?_
      exact h

theorem State.dropElastic_keeps {q F s x1} (h : State.Keeps q F s) : State.Keeps q F (State.dropElastic s x1) := by
  unfold State.dropElastic
  refine State.Keeps.fields (s := s) ?_
  exact h

theorem State.quiesce_keeps {q F s x1} (h : State.Keeps q F s) : State.Keeps q F (State.quiesce s x1) := by
  unfold State.quiesce
  extract_lets y101 y102 y103 y104 y105
  clear_value y101
  have h106 : State.Keeps q F y102 := by
    apply State.dropElastic_keeps
    apply State.modVd_keeps
    exact h
  clear_value y102
  have h107 : ∀ a0 a1, State.Keeps q F a1 → State.Keeps q F (y103 a0 a1) := by
    intro x108
    intro x109
    intro h110
    unfold y103
    refine foldl_keeps (fun t111 x112 h113 => ?_) ?_
    · apply State.pendStep_keeps
      exact h113
    · exact h110
  clear_value y103
  have h114 : State.Keeps q F y104 := by
    apply h107
    apply h107
    exact h106
  clear_value y104
  clear_value y105
  refine State.Keeps.fields (s := y104) ?_
  exact h114

theorem State.inBind_keeps {q F s x1 x2} (h : State.Keeps q F s) (hx2 : ∀ a0, State.Keeps q F (x2 a0)) : State.Keeps q F (State.inBind s x1 x2) := by
  unfold State.inBind
  split
  next z101 z102 z103 =>
    refine ite_keeps ?_ ?_
    · apply hx2
    · exact h
  next z104 z105 =>
    exact h

theorem State.endRebind_keeps {q F s x1 x2} (h : State.Keeps q F s) : State.Keeps q F (State.endRebind s x1 x2) := by
  unfold State.endRebind
  extract_lets y101 y102
  have h103 : State.Keeps q F y101 := by
    apply State.modVd_keeps
    exact h
  clear_value y101
  clear_value y102
  apply State.composeDone_keeps
  refine State.Keeps.fields (s := y101) ?_
  exact h103

theorem execQuiescePoint_keeps {q F s} (h : State.Keeps q F s) : Out.Keeps q F (execQuiescePoint s) := by
  unfold execQuiescePoint
  refine ok_keeps ?_
  apply State.inBind_keeps
  · exact h
  · intro x101
    refine ite_keeps ?_ ?_
    · apply State.quiesce_keeps
      exact h
    · exact h

theorem execComposeTimeout_keeps {q F s} (h : State.Keeps q F s) : Out.Keeps q F (execComposeTimeout s) := by
  unfold execComposeTimeout
  refine ok_keeps ?_
  apply State.inBind_keeps
  · exact h
  · intro x101
    extract_lets y102
    clear_value y102
    refine ite_keeps ?_ ?_
    · exact h
    · refine ite_keeps ?_ ?_
      · refine ite_keeps ?_ ?_
        · apply State.quiesce_keeps
          exact h
        · exact h
      · apply State.endRebind_keeps
        exact h

theorem State.startEmptying_keeps {q F s x1} (h : State.Keeps q F s) : State.Keeps q F (State.startEmptying s x1) := by
  unfold State.startEmptying
  extract_lets y101 y102
  have h103 : State.Keeps q F y101 := by
    refine foldl_keeps (fun t104 x105 h106 => ?_) ?_
    · refine ite_keeps ?_ ?_
      · apply State.startDrain_keeps
        exact h106
      · exact h106
    · exact h
  clear_value y101
  clear_value y102
  refine foldl_keeps (fun t107 x108 h109 => ?_) ?_
  · apply State.putBlock_keeps
    exact h109
  · exact h103

theorem State.copyContexts_keeps {q F s x1} (h : State.Keeps q F s) : State.Keeps q F (State.copyContexts s x1) := by
  unfold State.copyContexts
  refine ite_keeps ?_ ?_
  · exact h
  · refine foldl_keeps (fun t101 x102 h103 => ?_) ?_
    · refine ite_keeps ?_ ?_
      · exact h103
      · extract_lets y104
        clear_value y104
        apply State.modCore_keeps
        exact h103
    · exact h

theorem execMovingEnd_keeps {q F s} (h : State.Keeps q F s) : Out.Keeps q F (execMovingEnd s) := by
  unfold execMovingEnd
  refine ok_keeps ?_
  apply State.inBind_keeps
  · exact h
  · intro x101
    refine ite_keeps ?_ ?_
    · apply State.startEmptying_keeps
      exact h
    · refine ite_keeps ?_ ?_
      · exact h
      · extract_lets y102 y103 y104 y105 y106 y107 y108 y109 y110 y111 y112 y113 y114
        clear_value y102
        clear_value y103
        clear_value y104
        clear_value y105
        have h115 : State.Keeps q F y106 := by
          refine foldl_keeps (fun t116 x117 h118 => ?_) ?_
          · apply State.performWrites_keeps
            exact h118
          · exact h
        clear_value y106
        have h119 : State.Keeps q F y107 := by
          apply State.copyContexts_keeps
          exact h115
        clear_value y107
        have h120 : State.Keeps q F y108 := by
          refine foldl_keeps (fun t121 x122 h123 => ?_) ?_
          · apply State.setCore_keeps
            exact h123
          · exact h119
        clear_value y108
        have h124 : State.Keeps q F y109 := by
          refine foldl_keeps (fun t125 x126 h127 => ?_) ?_
          · apply State.flushSlice_keeps
            exact h127
          · exact h120
        clear_value y109
        have h128 : State.Keeps q F y110 := by
          apply State.discardLines_keeps
          exact h124
        clear_value y110
        have h129 : State.Keeps q F y111 := by
          refine foldl_keeps (fun t130 x131 h132 => ?_) ?_
          · apply State.pendStep_keeps
            exact h132
          · exact h128
        clear_value y111
        have h133 : State.Keeps q F y112 := by
          refine foldl_keeps (fun t134 x135 h136 => ?_) ?_
          · apply State.pendStep_keeps
            exact h136
          · exact h129
        clear_value y112
        have h137 : State.Keeps q F y113 := by
          apply State.pendStep_keeps
          exact h133
        clear_value y113
        clear_value y114
        refine ite_keeps ?_ ?_
        · apply State.endRebind_keeps
          exact h128
        · refine State.Keeps.fields (s := y113) ?_
          exact h137

theorem State.moveFlags_keeps {q F s x1 x2} (h : State.Keeps q F s) : State.Keeps q F (State.moveFlags s x1 x2) := by
  unfold State.moveFlags
  extract_lets y101
  clear_value y101
  refine foldl_keeps (fun t102 x103 h104 => ?_) ?_
  · apply State.setFlag_keeps
    exact h104
  · exact h

theorem State.moveEngines_keeps {q F s x1} (h : State.Keeps q F s) : State.Keeps q F (State.moveEngines s x1) := by
  unfold State.moveEngines
  extract_lets y101 y102 y103 y104
  clear_value y101
  clear_value y102
  clear_value y103
  clear_value y104
  refine State.Keeps.fields (s := s) ?_
  exact h

theorem State.resumePaused_keeps {q F s x1} (h : State.Keeps q F s) : State.Keeps q F (State.resumePaused s x1) := by
  unfold State.resumePaused
  split
  next z101 z102 =>
    exact h
  next z103 z104 z105 =>
    refine ite_keeps ?_ ?_
    · exact h
    · extract_lets y106
      have h107 : State.Keeps q F y106 := by
        apply State.modVd_keeps
        exact h
      clear_value y106
      refine foldl_keeps (fun t108 x109 h110 => ?_) ?_
      · apply State.modCore_keeps
        exact h110
      · exact h107

theorem State.reroute_keeps {q F s x1} (h : State.Keeps q F s) : State.Keeps q F (State.reroute s x1) := by
  unfold State.reroute
  extract_lets y101 y102 y103 y104 y105 y106
  clear_value y101
  have h107 : State.Keeps q F y102 := by
    apply State.settleHost_keeps
    exact h
  clear_value y102
  clear_value y103
  clear_value y104
  clear_value y105
  have h108 : State.Keeps q F y106 := by
    refine State.Keeps.fields (s := y102) ?_
    exact h107
  clear_value y106
  refine foldl_keeps (fun t109 x110 h111 => ?_) ?_
  · apply State.sendHomeOp_keeps
    exact h111
  · refine foldl_keeps (fun t112 x113 h114 => ?_) ?_
    · apply State.request_keeps
      exact h114
    · exact h108

theorem State.commitRebind_keeps {q F s x1} (h : State.Keeps q F s) : State.Keeps q F (State.commitRebind s x1) := by
  unfold State.commitRebind
  extract_lets y101 y102 y103 y104 y105 y106 y107 y108 y109 y110 y111 y112 y113 y114 y115 y116 y117
  clear_value y101
  clear_value y102
  clear_value y103
  have h118 : State.Keeps q F y104 := by
    apply State.moveFlags_keeps
    exact h
  clear_value y104
  have h119 : State.Keeps q F y105 := by
    refine ite_keeps ?_ ?_
    · exact h118
    · refine foldl_keeps (fun t120 x121 h122 => ?_) ?_
      · apply State.scrub_keeps
        exact h122
      · exact h118
  clear_value y105
  have h123 : State.Keeps q F y106 := by
    refine foldl_keeps (fun t124 x125 h126 => ?_) ?_
    · apply State.modExtent_keeps
      exact h126
    · exact h119
  clear_value y106
  clear_value y107
  clear_value y108
  clear_value y109
  clear_value y110
  have h127 : State.Keeps q F y111 := by
    refine State.Keeps.fields (s := y106) ?_
    exact h123
  clear_value y111
  have h128 : State.Keeps q F y112 := by
    apply State.clearRegs_keeps
    exact h127
  clear_value y112
  have h129 : State.Keeps q F y113 := by
    apply State.modVd_keeps
    exact h128
  clear_value y113
  have h130 : State.Keeps q F y114 := by
    apply State.moveEngines_keeps
    apply State.number_keeps
    apply State.number_keeps
    exact h129
  clear_value y114
  have h131 : State.Keeps q F y115 := by
    apply State.reroute_keeps
    exact h130
  clear_value y115
  have h132 : State.Keeps q F y116 := by
    apply State.event_keeps
    apply State.resumePaused_keeps
    exact h131
  clear_value y116
  clear_value y117
  refine ite_keeps ?_ ?_
  · apply State.endRebind_keeps
    exact h132
  · refine State.Keeps.fields (s := y116) ?_
    exact h132

theorem State.switchEnds_keeps {q F s x1 x2} (h : State.Keeps q F s) : State.Keeps q F (State.switchEnds s x1 x2) := by
  unfold State.switchEnds
  extract_lets y101 y102
  clear_value y101
  have h103 : State.Keeps q F y102 := by
    refine foldl_keeps (fun t104 x105 h106 => ?_) ?_
    · apply State.modCore_keeps
      exact h106
    · exact h
  clear_value y102
  apply State.modSet_keeps
  exact h103

theorem State.applyWrite_keeps {q F s x1} (h : State.Keeps q F s) : State.Keeps q F (State.applyWrite s x1) := by
  unfold State.applyWrite
  split
  next z101 z102 z103 z104 =>
    apply State.setSlot_keeps
    exact h
  next z105 z106 z107 =>
    apply State.leave_keeps
    exact h
  next z108 z109 z110 =>
    apply State.createEnds_keeps
    exact h
  next z111 z112 =>
    apply State.composeDone_keeps
    apply State.setVd_keeps
    exact h
  next z113 z114 z115 =>
    apply State.switchEnds_keeps
    exact h
  next z116 =>
    apply State.inBind_keeps
    · exact h
    · intro x117
      apply State.commitRebind_keeps
      exact h

theorem State.commitTables_keeps {q F s} (h : State.Keeps q F s) : State.Keeps q F (State.commitTables s) := by
  unfold State.commitTables
  extract_lets y101 y102 y103
  clear_value y101
  clear_value y102
  clear_value y103
  refine foldl_keeps (fun t104 x105 h106 => ?_) ?_
  · apply State.applyWrite_keeps
    exact h106
  · refine State.Keeps.fields (s := s) ?_
    exact h

theorem execSlotTableCommit_keeps {q F s} (h : State.Keeps q F s) : Out.Keeps q F (execSlotTableCommit s) := by
  unfold execSlotTableCommit
  refine ok_keeps ?_
  refine ite_keeps ?_ ?_
  · apply State.commitTables_keeps
    exact h
  · exact h

theorem execGainingEnd_keeps {q F s} (h : State.Keeps q F s) : Out.Keeps q F (execGainingEnd s) := by
  unfold execGainingEnd
  refine ok_keeps ?_
  apply State.inBind_keeps
  · exact h
  · intro x101
    extract_lets y102 y103 y104 y105 y106 y107 y108 y109
    have h110 : State.Keeps q F y102 := by
      refine ite_keeps ?_ ?_
      · apply State.commitTables_keeps
        exact h
      · exact h
    clear_value y102
    clear_value y103
    have h111 : ∀ a0 a1, State.Keeps q F a1 → State.Keeps q F (y104 a0 a1) := by
      intro x112
      intro x113
      intro h114
      unfold y104
      refine foldl_keeps (fun t115 x116 h117 => ?_) ?_
      · apply State.gainUnit_keeps
        exact h117
      · exact h114
    clear_value y104
    have h118 : State.Keeps q F y105 := by
      apply h111
      apply h111
      exact h110
    clear_value y105
    have h119 : FstKeeps q F y106 := by
      apply State.allot_keeps
      exact h118
    clear_value y106
    have h120 : State.Keeps q F y107 := by
      refine fst_keeps ?_
      exact h119
    clear_value y107
    clear_value y108
    clear_value y109
    refine ite_keeps ?_ ?_
    · exact h110
    · refine ite_keeps ?_ ?_
      · apply State.endRebind_keeps
        exact h120
      · apply State.startEmptying_keeps
        refine State.Keeps.fields (s := y107) ?_
        exact h120

theorem execCommittingEnd_keeps {q F s} (h : State.Keeps q F s) : Out.Keeps q F (execCommittingEnd s) := by
  unfold execCommittingEnd
  refine ok_keeps ?_
  apply State.inBind_keeps
  · exact h
  · intro x101
    refine ite_keeps ?_ ?_
    · apply State.commitTables_keeps
      exact h
    · exact h

theorem execResumingEnd_keeps {q F s} (h : State.Keeps q F s) : Out.Keeps q F (execResumingEnd s) := by
  unfold execResumingEnd
  refine ok_keeps ?_
  apply State.inBind_keeps
  · exact h
  · intro x101
    refine ite_keeps ?_ ?_
    · exact h
    · apply State.endRebind_keeps
      exact h

theorem State.zeroExtent_keeps {q F s x1} (h : State.Keeps q F s) : State.Keeps q F (State.zeroExtent s x1) := by
  unfold State.zeroExtent
  extract_lets y101
  clear_value y101
  refine State.Keeps.fieldsMem (s := s) ?_ (fun w102 => ?_)
  · exact h
  · exact SMap.wf_filter _ _ _ w102

theorem execScrubEnd_keeps {q F x0 s} (h : State.Keeps q F s) : Out.Keeps q F (execScrubEnd x0 s) := by
  unfold execScrubEnd
  refine ok_keeps ?_
  refine ite_keeps ?_ ?_
  · apply State.modExtent_keeps
    apply State.zeroExtent_keeps
    exact h
  · exact h

end Sys2Proof.Machine
end

