-- ==== Sys2Proof/Laws/KeepsSync.lean ====
section
/-! SUPPORT. Every operation of Sync.lean keeps what State.Keeps says. -/

set_option maxRecDepth 20000

namespace Sys2Proof.Machine

theorem State.enqueueSync_keeps {q F s x1 x2 x3 x4} (h : State.Keeps q F s) : State.Keeps q F (State.enqueueSync s x1 x2 x3 x4) := by
  unfold State.enqueueSync
  extract_lets y101
  have h102 : State.Keeps q F y101 := by
    apply State.enqueue_keeps
    exact h
  clear_value y101
  refine ite_keeps ?_ ?_
  · apply State.modCore_keeps
    exact h102
  · exact h102

theorem State.issueSync_keeps {q F s x1 x2 x3 x4 x5} (h : State.Keeps q F s) : State.Keeps q F (State.issueSync s x1 x2 x3 x4 x5) := by
  unfold State.issueSync
  apply State.issueOp_keeps
  · exact h
  · intro x101
    intro x102
    intro h103
    refine ite_keeps ?_ ?_
    · exact h
    · apply State.checked_keeps
      · exact h103
      · intro x104
        intro h105
        apply State.enqueueSync_keeps
        exact h105

theorem State.flagsetAct_keeps {q F s x1 x2} (h : State.Keeps q F s) : State.Keeps q F (State.flagsetAct s x1 x2) := by
  unfold State.flagsetAct
  apply State.actHead_keeps
  · exact h
  · intro x101
    intro x102
    intro x103
    intro h104
    split
    next z105 z106 =>
      exact h104
    next z107 z108 z109 =>
      refine ite_keeps ?_ ?_
      · exact h104
      · extract_lets y110
        have h111 : ∀ a0, State.Keeps q F a0 → State.Keeps q F (y110 a0) := by
          intro x112
          intro h113
          unfold y110
          apply State.sendFlag_keeps
          exact h113
        clear_value y110
        refine ite_keeps ?_ ?_
        · apply h111
          exact h104
        · refine ite_keeps ?_ ?_
          · apply State.drained_keeps
            · exact h104
            · intro x114
              intro h115
              apply h111
              exact h115
          · exact h104

theorem State.flagset_keeps {q F s x1 x2 x3} (h : State.Keeps q F s) : State.Keeps q F (State.flagset s x1 x2 x3) := by
  unfold State.flagset
  split
  next z101 =>
    apply State.issueSync_keeps
    exact h
  next z102 =>
    apply State.flagsetAct_keeps
    exact h

theorem execFlagsetAdd_keeps {q F x0 x1 s} (h : State.Keeps q F s) : Out.Keeps q F (execFlagsetAdd x0 x1 s) := by
  unfold execFlagsetAdd
  refine ok_keeps ?_
  apply State.flagset_keeps
  exact h

theorem execFlagsetWrite_keeps {q F x0 x1 s} (h : State.Keeps q F s) : Out.Keeps q F (execFlagsetWrite x0 x1 s) := by
  unfold execFlagsetWrite
  refine ok_keeps ?_
  apply State.flagset_keeps
  exact h

theorem execFlagsetArrive_keeps {q F x0 x1 s} (h : State.Keeps q F s) : Out.Keeps q F (execFlagsetArrive x0 x1 s) := by
  unfold execFlagsetArrive
  refine ok_keeps ?_
  apply State.flagset_keeps
  exact h

theorem execFlagsetArm_keeps {q F x0 x1 s} (h : State.Keeps q F s) : Out.Keeps q F (execFlagsetArm x0 x1 s) := by
  unfold execFlagsetArm
  refine ok_keeps ?_
  apply State.flagset_keeps
  exact h

theorem State.syncDone_keeps {q F s x1 x2} (h : State.Keeps q F s) : State.Keeps q F (State.syncDone s x1 x2) := by
  unfold State.syncDone
  apply State.modCore_keeps
  apply State.dropEntry_keeps
  exact h

theorem State.sendWake_keeps {q F s x1 x2 x3} (h : State.Keeps q F s) : State.Keeps q F (State.sendWake s x1 x2 x3) := by
  unfold State.sendWake
  apply State.sendReed_keeps
  exact h

theorem State.flagwaitDone_keeps {q F s x1} (h : State.Keeps q F s) : State.Keeps q F (State.flagwaitDone s x1) := by
  unfold State.flagwaitDone
  apply State.actHead_keeps
  · apply State.dropWakes_keeps
    exact h
  · intro x101
    intro x102
    intro x103
    intro h104
    apply State.syncDone_keeps
    apply State.modCore_keeps
    exact h104

theorem execFlagwait_keeps {q F x0 x1 s} (h : State.Keeps q F s) : Out.Keeps q F (execFlagwait x0 x1 s) := by
  unfold execFlagwait
  refine ok_keeps ?_
  split
  next z101 =>
    apply State.issueSync_keeps
    exact h
  next z102 =>
    apply State.actHead_keeps
    · exact h
    · intro x103
      intro x104
      intro x105
      intro h106
      split
      next z107 z108 =>
        exact h106
      next z109 z110 z111 =>
        refine ite_keeps ?_ ?_
        · exact h106
        · extract_lets y112 y113
          clear_value y112
          have h114 : State.Keeps q F y113 := by
            apply State.modCore_keeps
            exact h106
          clear_value y113
          refine ite_keeps ?_ ?_
          · apply State.sendWake_keeps
            exact h114
          · exact h114

theorem execFlagwaitWake_keeps {q F x0 s} (h : State.Keeps q F s) : Out.Keeps q F (execFlagwaitWake x0 s) := by
  unfold execFlagwaitWake
  refine ok_keeps ?_
  refine ite_keeps ?_ ?_
  · exact h
  · refine ite_keeps ?_ ?_
    · apply State.dropWakes_keeps
      exact h
    · apply State.flagwaitDone_keeps
      exact h

theorem execFlagTimeout_keeps {q F x0 s} (h : State.Keeps q F s) : Out.Keeps q F (execFlagTimeout x0 s) := by
  unfold execFlagTimeout
  refine ok_keeps ?_
  split
  next z101 z102 =>
    exact h
  next z103 z104 z105 =>
    refine ite_keeps ?_ ?_
    · exact h
    · refine ite_keeps ?_ ?_
      · apply State.flagwaitDone_keeps
        exact h
      · apply State.actHead_keeps
        · exact h
        · intro x106
          intro x107
          intro x108
          intro h109
          apply State.fault_keeps
          apply State.dropEntry_keeps
          exact h109

theorem execFence_keeps {q F x0 x1 s} (h : State.Keeps q F s) : Out.Keeps q F (execFence x0 x1 s) := by
  unfold execFence
  refine ok_keeps ?_
  split
  next z101 =>
    apply State.issueSync_keeps
    exact h
  next z102 =>
    apply State.actHead_keeps
    · exact h
    · intro x103
      intro x104
      intro x105
      intro h106
      extract_lets y107
      clear_value y107
      refine ite_keeps ?_ ?_
      · exact h106
      · refine ite_keeps ?_ ?_
        · apply State.syncDone_keeps
          exact h106
        · apply State.drained_keeps
          · exact h106
          · intro x108
            intro h109
            apply State.syncDone_keeps
            exact h109

theorem execWaitc_keeps {q F x0 x1 s} (h : State.Keeps q F s) : Out.Keeps q F (execWaitc x0 x1 s) := by
  unfold execWaitc
  refine ok_keeps ?_
  split
  next z101 =>
    apply State.issueSync_keeps
    exact h
  next z102 =>
    apply State.actHead_keeps
    · exact h
    · intro x103
      intro x104
      intro x105
      intro h106
      refine ite_keeps ?_ ?_
      · apply State.drained_keeps
        · exact h106
        · intro x107
          intro h108
          apply State.syncDone_keeps
          exact h108
      · exact h106

theorem execCkpt_keeps {q F x0 x1 s} (h : State.Keeps q F s) : Out.Keeps q F (execCkpt x0 x1 s) := by
  unfold execCkpt
  refine ok_keeps ?_
  split
  next z101 =>
    apply State.issueSync_keeps
    exact h
  next z102 =>
    apply State.actHead_keeps
    · exact h
    · intro x103
      intro x104
      intro x105
      intro h106
      refine ite_keeps ?_ ?_
      · exact h106
      · apply State.modCore_keeps
        apply State.dropEntry_keeps
        exact h106

end Sys2Proof.Machine
end

