-- ==== Sys2Proof/Laws/KeepsJobs.lean ====
section
/-! SUPPORT. Every operation of Jobs.lean keeps what State.Keeps says. -/

set_option maxRecDepth 20000

namespace Sys2Proof.Machine

theorem State.acctAdd_keeps {q F s x1 x2 x3} (h : State.Keeps q F s) : State.Keeps q F (State.acctAdd s x1 x2 x3) := by
  unfold State.acctAdd
  apply State.modVd_keeps
  exact h

theorem State.doorbellW_keeps {q F s x1 x2 x3} (h : State.Keeps q F s) : FstKeeps q F (State.doorbellW s x1 x2 x3) := by
  unfold State.doorbellW
  refine fst_ite_keeps ?_ ?_
  · refine mk_fst_keeps ?_
    exact h
  · extract_lets y101 y102 y103 y104 y105 y106 y107 y108
    clear_value y101
    clear_value y102
    clear_value y103
    clear_value y104
    clear_value y105
    clear_value y106
    have h109 : State.Keeps q F y107 := by
      apply State.setRegFld_keeps
      exact h
    clear_value y107
    have h110 : State.Keeps q F y108 := by
      apply State.modVd_keeps
      exact h109
    clear_value y108
    refine fst_ite_keeps ?_ ?_
    · refine mk_fst_keeps ?_
      apply State.setRegBit_keeps
      exact h
    · refine mk_fst_keeps ?_
      apply State.sendReed_keeps
      apply State.acctAdd_keeps
      exact h110

theorem State.doorbell_keeps {q F s x1 x2 x3} (h : State.Keeps q F s) : State.Keeps q F (State.doorbell s x1 x2 x3) := by
  unfold State.doorbell
  apply State.counted_keeps
  apply State.doorbellW_keeps
  exact h

theorem execDoorbell_keeps {q F x0 x1 x2 s} (h : State.Keeps q F s) : Out.Keeps q F (execDoorbell x0 x1 x2 s) := by
  unfold execDoorbell
  refine ok_keeps ?_
  apply State.doorbell_keeps
  exact h

theorem State.cqHeadW_keeps {q F s x1 x2 x3} (h : State.Keeps q F s) : FstKeeps q F (State.cqHeadW s x1 x2 x3) := by
  unfold State.cqHeadW
  refine fst_ite_keeps ?_ ?_
  · refine mk_fst_keeps ?_
    exact h
  · extract_lets y101 y102 y103
    clear_value y101
    clear_value y102
    clear_value y103
    refine fst_ite_keeps ?_ ?_
    · refine mk_fst_keeps ?_
      apply State.setRegFld_keeps
      exact h
    · refine mk_fst_keeps ?_
      apply State.setRegBit_keeps
      exact h

theorem State.writeCqHead_keeps {q F s x1 x2 x3} (h : State.Keeps q F s) : State.Keeps q F (State.writeCqHead s x1 x2 x3) := by
  unfold State.writeCqHead
  apply State.counted_keeps
  apply State.cqHeadW_keeps
  exact h

theorem execCqHeadWrite_keeps {q F x0 x1 x2 s} (h : State.Keeps q F s) : Out.Keeps q F (execCqHeadWrite x0 x1 x2 s) := by
  unfold execCqHeadWrite
  refine ok_keeps ?_
  apply State.writeCqHead_keeps
  exact h

theorem State.enableQueue_keeps {q F s x1 x2 x3} (h : State.Keeps q F s) : State.Keeps q F (State.enableQueue s x1 x2 x3) := by
  unfold State.enableQueue
  refine ite_keeps ?_ ?_
  · exact h
  · extract_lets y101 y102 y103
    clear_value y101
    have h104 : State.Keeps q F y102 := by
      apply State.setRegBit_keeps
      apply State.setReg_keeps
      apply State.setReg_keeps
      apply State.setReg_keeps
      apply State.setReg_keeps
      exact h
    clear_value y102
    have h105 : State.Keeps q F y103 := by
      refine State.Keeps.fields (s := y102) ?_
      exact h104
    clear_value y103
    refine ite_keeps ?_ ?_
    · exact h
    · refine ite_keeps ?_ ?_
      · apply State.modVd_keeps
        exact h105
      · apply State.setRegBit_keeps
        exact h

theorem execQueueEnable_keeps {q F x0 x1 x2 s} (h : State.Keeps q F s) : Out.Keeps q F (execQueueEnable x0 x1 x2 s) := by
  unfold execQueueEnable
  refine ok_keeps ?_
  apply State.enableQueue_keeps
  exact h

theorem State.complete_keeps {q F s x1 x2 x3 x4} (h : State.Keeps q F s) : State.Keeps q F (State.complete s x1 x2 x3 x4) := by
  unfold State.complete
  extract_lets y101 y102 y103 y104 y105 y106 y107 y108
  clear_value y101
  clear_value y102
  clear_value y103
  clear_value y104
  have h109 : State.Keeps q F y105 := by
    refine ite_keeps ?_ ?_
    · apply State.devWrite_keeps
      exact h
    · exact h
  clear_value y105
  have h110 : State.Keeps q F y106 := by
    apply State.setRegFld_keeps
    exact h109
  clear_value y106
  have h111 : State.Keeps q F y107 := by
    refine ite_keeps ?_ ?_
    · apply State.modVd_keeps
      exact h110
    · exact h110
  clear_value y107
  have h112 : State.Keeps q F y108 := by
    apply State.acctAdd_keeps
    exact h111
  clear_value y108
  refine ite_keeps ?_ ?_
  · apply State.vecVf_keeps
    exact h112
  · exact h112

theorem State.choose_keeps {q F s x1} (h : State.Keeps q F s) : State.Keeps q F (State.choose s x1) := by
  unfold State.choose
  extract_lets y101 y102 y103 y104 y105 y106 y107 y108
  clear_value y101
  have h109 : State.Keeps q F y102 := by
    refine foldl_keeps (fun t110 x111 h112 => ?_) ?_
    · apply State.modVd_keeps
      exact h112
    · exact h
  clear_value y102
  clear_value y103
  clear_value y104
  clear_value y105
  have h113 : State.Keeps q F y106 := by
    refine foldl_keeps (fun t114 x115 h116 => ?_) ?_
    · apply State.modVd_keeps
      exact h116
    · exact h109
  clear_value y106
  clear_value y107
  clear_value y108
  refine ite_keeps ?_ ?_
  · apply State.modSet_keeps
    exact h109
  · apply State.modSet_keeps
    exact h113

theorem State.shareChoice_keeps {q F s x1} (h : State.Keeps q F s) : State.Keeps q F (State.shareChoice s x1) := by
  unfold State.shareChoice
  extract_lets y101
  clear_value y101
  refine ite_keeps ?_ ?_
  · exact h
  · apply State.choose_keeps
    exact h

theorem State.standing_keeps {q F s x1} (h : State.Keeps q F s) : State.Keeps q F (State.standing s x1) := by
  unfold State.standing
  split
  next z101 z102 z103 =>
    refine ite_keeps ?_ ?_
    · exact h
    · apply State.choose_keeps
      exact h
  next z104 z105 =>
    apply State.choose_keeps
    exact h

theorem State.turn_keeps {q F s x1} (h : State.Keeps q F s) : SndKeeps q F (State.turn s x1) := by
  unfold State.turn
  extract_lets y101 y102
  clear_value y101
  have h103 : State.Keeps q F y102 := by
    apply State.standing_keeps
    exact h
  clear_value y102
  refine snd_ite_keeps ?_ ?_
  · refine mk_snd_keeps ?_
    exact h
  · refine mk_snd_keeps ?_
    exact h103

theorem execSharedSetSwitch_keeps {q F x0 x1 s} (h : State.Keeps q F s) : Out.Keeps q F (execSharedSetSwitch x0 x1 s) := by
  unfold execSharedSetSwitch
  refine ok_keeps ?_
  extract_lets y101 y102 y103 y104
  clear_value y101
  clear_value y102
  have h105 : State.Keeps q F y103 := by
    apply State.standing_keeps
    exact h
  clear_value y103
  clear_value y104
  refine ite_keeps ?_ ?_
  · exact h
  · split
    next z106 =>
      split
      next z107 z108 =>
        exact h105
      next z109 z110 z111 =>
        refine ite_keeps ?_ ?_
        · exact h105
        · refine foldl_keeps (fun t112 x113 h114 => ?_) ?_
          · apply State.startDrain_keeps
            exact h114
          · exact h105
    next z115 =>
      split
      next z116 z117 =>
        exact h
      next z118 z119 z120 =>
        refine ite_keeps ?_ ?_
        · refine ite_keeps ?_ ?_
          · apply State.commitTables_keeps
            exact h
          · exact h
        · refine ite_keeps ?_ ?_
          · exact h
          · apply State.pend_keeps
            refine foldl_keeps (fun t121 x122 h123 => ?_) ?_
            · apply State.pend_keeps
              exact h123
            · exact h

theorem State.loadSchedule_keeps {q F s x1 x2 x3 x4} (h : State.Keeps q F s) : OptKeeps q F (State.loadSchedule s x1 x2 x3 x4) := by
  unfold State.loadSchedule
  extract_lets y101 y102 y103 y104 y105 y106 y107 y108 y109 y110 y111 y112 y113 y114 y115
  clear_value y101
  have h116 : State.Keeps q F y102 := by
    refine State.Keeps.fields (s := s) ?_
    exact h
  clear_value y102
  clear_value y103
  clear_value y104
  clear_value y105
  clear_value y106
  clear_value y107
  clear_value y108
  clear_value y109
  clear_value y110
  clear_value y111
  clear_value y112
  clear_value y113
  clear_value y114
  clear_value y115
  refine opt_ite_keeps ?_ ?_
  · refine some_keeps ?_
    exact h116
  · refine opt_ite_keeps ?_ ?_
    · exact none_keeps
    · refine opt_ite_keeps ?_ ?_
      · exact none_keeps
      · refine some_keeps ?_
        refine State.Keeps.fields (s := y102) ?_
        exact h116

theorem State.accept_keeps {q F s x1 x2} (h : State.Keeps q F s) : State.Keeps q F (State.accept s x1 x2) := by
  unfold State.accept
  apply State.modVd_keeps
  exact h

theorem State.take_keeps {q F s x1 x2 x3} (h : State.Keeps q F s) : State.Keeps q F (State.take s x1 x2 x3) := by
  unfold State.take
  extract_lets y101 y102 y103 y104 y105 y106 y107 y108 y109 y110 y111
  clear_value y101
  clear_value y102
  have h112 : State.Keeps q F y103 := by
    apply State.setRegFld_keeps
    exact h
  clear_value y103
  have h113 : ∀ a0 a1 a2 a3, State.Keeps q F a3 → State.Keeps q F (y104 a0 a1 a2 a3) := by
    intro x114
    intro x115
    intro x116
    intro x117
    intro h118
    unfold y104
    apply State.shareChoice_keeps
    apply State.complete_keeps
    exact h118
  clear_value y104
  clear_value y105
  have h119 : State.Keeps q F y106 := by
    apply State.devSeen_keeps
    exact h112
  clear_value y106
  clear_value y107
  clear_value y108
  clear_value y109
  have h120 : State.Keeps q F y110 := by
    refine ite_keeps ?_ ?_
    · apply State.devSeen_keeps
      exact h119
    · exact h119
  clear_value y110
  clear_value y111
  refine ite_keeps ?_ ?_
  · apply h113
    exact h112
  · refine ite_keeps ?_ ?_
    · apply State.modVd_keeps
      exact h119
    · refine ite_keeps ?_ ?_
      · apply h113
        exact h120
      · split
        next z121 z122 =>
          apply h113
          exact h120
        next z123 z124 z125 =>
          apply State.accept_keeps
          refine (?_ : OptKeeps _ _ _) _ z125
          apply State.loadSchedule_keeps
          exact h120

theorem State.noteRun_keeps {q F s x1} (h : State.Keeps q F s) : State.Keeps q F (State.noteRun s x1) := by
  unfold State.noteRun
  extract_lets y101
  clear_value y101
  refine ite_keeps ?_ ?_
  · exact h
  · apply State.modSet_keeps
    exact h

theorem execJobTake_keeps {q F x0 s} (h : State.Keeps q F s) : Out.Keeps q F (execJobTake x0 s) := by
  unfold execJobTake
  refine ok_keeps ?_
  extract_lets y101 y102
  clear_value y101
  have h103 : SndKeeps q F y102 := by
    apply State.turn_keeps
    exact h
  clear_value y102
  refine ite_keeps ?_ ?_
  · exact h
  · split
    next z104 z105 =>
      exact h
    next z106 z107 z108 =>
      refine ite_keeps ?_ ?_
      · refine snd_keeps ?_
        exact h103
      · refine ite_keeps ?_ ?_
        · refine snd_keeps ?_
          exact h103
        · extract_lets y109
          have h110 : State.Keeps q F y109 := by
            apply State.take_keeps
            refine snd_keeps ?_
            exact h103
          clear_value y109
          refine ite_keeps ?_ ?_
          · apply State.noteRun_keeps
            exact h110
          · exact h110

theorem execJobEpoch_keeps {q F x0 s} (h : State.Keeps q F s) : Out.Keeps q F (execJobEpoch x0 s) := by
  unfold execJobEpoch
  refine ok_keeps ?_
  extract_lets y101 y102
  clear_value y101
  clear_value y102
  split
  next z103 z104 =>
    exact h
  next z105 z106 z107 =>
    refine ite_keeps ?_ ?_
    · exact h
    · extract_lets y108 y109
      have h110 : State.Keeps q F y108 := by
        refine foldl_keeps (fun t111 x112 h113 => ?_) ?_
        · apply State.modCore_keeps
          exact h113
        · exact h
      clear_value y108
      have h114 : State.Keeps q F y109 := by
        apply State.modVd_keeps
        exact h110
      clear_value y109
      refine ite_keeps ?_ ?_
      · exact h114
      · apply State.acctAdd_keeps
        exact h114

theorem State.attribute_keeps {q F s x1} (h : State.Keeps q F s) : State.Keeps q F (State.attribute s x1) := by
  unfold State.attribute
  extract_lets y101 y102 y103 y104
  clear_value y101
  clear_value y102
  clear_value y103
  have h105 : State.Keeps q F y104 := by
    apply State.acctAdd_keeps
    apply State.acctAdd_keeps
    apply State.acctAdd_keeps
    exact h
  clear_value y104
  apply State.modVd_keeps
  exact h105

theorem State.startDrains_keeps {q F s x1} (h : State.Keeps q F s) : State.Keeps q F (State.startDrains s x1) := by
  unfold State.startDrains
  refine foldl_keeps (fun t101 x102 h103 => ?_) ?_
  · refine ite_keeps ?_ ?_
    · exact h103
    · apply State.startDrain_keeps
      exact h103
  · exact h

theorem State.idleCores_keeps {q F s x1} (h : State.Keeps q F s) : State.Keeps q F (State.idleCores s x1) := by
  unfold State.idleCores
  refine foldl_keeps (fun t101 x102 h103 => ?_) ?_
  · apply State.modCore_keeps
    exact h103
  · exact h

theorem State.jobGone_keeps {q F s x1 x2} (h : State.Keeps q F s) : State.Keeps q F (State.jobGone s x1 x2) := by
  unfold State.jobGone
  extract_lets y101 y102 y103
  have h104 : State.Keeps q F y101 := by
    apply State.idleCores_keeps
    exact h
  clear_value y101
  clear_value y102
  have h105 : State.Keeps q F y103 := by
    refine State.Keeps.fields (s := y101) ?_
    exact h104
  clear_value y103
  apply State.modVd_keeps
  exact h105

theorem execJobEnd_keeps {q F x0 s} (h : State.Keeps q F s) : Out.Keeps q F (execJobEnd x0 s) := by
  unfold execJobEnd
  refine ok_keeps ?_
  extract_lets y101
  clear_value y101
  split
  next z102 z103 =>
    exact h
  next z104 z105 z106 =>
    extract_lets y107 y108
    clear_value y107
    clear_value y108
    refine ite_keeps ?_ ?_
    · exact h
    · refine ite_keeps ?_ ?_
      · apply State.startDrains_keeps
        exact h
      · apply State.shareChoice_keeps
        apply State.complete_keeps
        apply State.jobGone_keeps
        apply State.attribute_keeps
        exact h

theorem State.limitJob_keeps {q F s x1} (h : State.Keeps q F s) : State.Keeps q F (State.limitJob s x1) := by
  unfold State.limitJob
  apply State.endJob_keeps
  apply State.cancelStreams_keeps
  apply State.stopCores_keeps
  exact h

theorem execRunLimit_keeps {q F x0 s} (h : State.Keeps q F s) : Out.Keeps q F (execRunLimit x0 s) := by
  unfold execRunLimit
  refine ok_keeps ?_
  split
  next z101 z102 z103 =>
    refine ite_keeps ?_ ?_
    · apply State.limitJob_keeps
      exact h
    · exact h
  next z104 z105 =>
    exact h

theorem State.releaseCkpt_keeps {q F s x1} (h : State.Keeps q F s) : State.Keeps q F (State.releaseCkpt s x1) := by
  unfold State.releaseCkpt
  refine foldl_keeps (fun t101 x102 h103 => ?_) ?_
  · apply State.modCore_keeps
    exact h103
  · exact h

theorem State.startFallback_keeps {q F s x1 x2 x3} (h : State.Keeps q F s) : State.Keeps q F (State.startFallback s x1 x2 x3) := by
  unfold State.startFallback
  apply State.modVd_keeps
  apply State.cancelStreams_keeps
  exact h

theorem State.loadFallback_keeps {q F s x1} (h : State.Keeps q F s) : State.Keeps q F (State.loadFallback s x1) := by
  unfold State.loadFallback
  split
  next z101 z102 =>
    exact h
  next z103 z104 z105 =>
    extract_lets y106
    have h107 : State.Keeps q F y106 := by
      apply State.modVd_keeps
      exact h
    clear_value y106
    split
    next z108 z109 z110 =>
      refine (?_ : OptKeeps _ _ _) _ z110
      apply State.loadSchedule_keeps
      exact h107
    next z111 z112 =>
      apply State.endJob_keeps
      apply State.stopCores_keeps
      exact h107

theorem execCheckpoint_keeps {q F x0 s} (h : State.Keeps q F s) : Out.Keeps q F (execCheckpoint x0 s) := by
  unfold execCheckpoint
  refine ok_keeps ?_
  extract_lets y101 y102
  clear_value y101
  clear_value y102
  split
  next z103 z104 z105 z106 z107 z108 =>
    refine ite_keeps ?_ ?_
    · exact h
    · extract_lets y109 y110 y111 y112 y113 y114 y115 y116
      clear_value y109
      clear_value y110
      have h117 : State.Keeps q F y111 := by
        apply State.modVd_keeps
        exact h
      clear_value y111
      clear_value y112
      clear_value y113
      clear_value y114
      have h118 : State.Keeps q F y115 := by
        refine ite_keeps ?_ ?_
        · apply State.devSeen_keeps
          apply State.devSeen_keeps
          exact h117
        · exact h117
      clear_value y115
      have h119 : State.Keeps q F y116 := by
        refine ite_keeps ?_ ?_
        · apply State.modVd_keeps
          exact h118
        · exact h118
      clear_value y116
      refine ite_keeps ?_ ?_
      · apply State.limitJob_keeps
        exact h117
      · refine ite_keeps ?_ ?_
        · apply State.startFallback_keeps
          exact h118
        · refine ite_keeps ?_ ?_
          · apply State.modVd_keeps
            exact h119
          · apply State.releaseCkpt_keeps
            exact h119
  next z120 z121 z122 z123 =>
    exact h

theorem State.startSave_keeps {q F s x1} (h : State.Keeps q F s) : State.Keeps q F (State.startSave s x1) := by
  unfold State.startSave
  extract_lets y101 y102 y103 y104 y105
  clear_value y101
  have h106 : State.Keeps q F y102 := by
    apply State.attribute_keeps
    exact h
  clear_value y102
  have h107 : State.Keeps q F y103 := by
    apply State.modVd_keeps
    exact h106
  clear_value y103
  clear_value y104
  have h108 : State.Keeps q F y105 := by
    refine State.Keeps.fields (s := y103) ?_
    exact h107
  clear_value y105
  apply State.shareChoice_keeps
  apply State.startDrains_keeps
  exact h108

theorem execCheckpointClean_keeps {q F x0 s} (h : State.Keeps q F s) : Out.Keeps q F (execCheckpointClean x0 s) := by
  unfold execCheckpointClean
  refine ok_keeps ?_
  extract_lets y101 y102
  clear_value y101
  clear_value y102
  split
  next z103 z104 =>
    exact h
  next z105 z106 z107 =>
    refine ite_keeps ?_ ?_
    · exact h
    · extract_lets y108
      clear_value y108
      split
      next z109 z110 z111 z112 =>
        apply State.quiesce_keeps
        exact h
      next z113 z114 z115 z116 =>
        apply State.startSave_keeps
        exact h
      next z117 z118 z119 z120 z121 z122 z123 =>
        apply State.releaseCkpt_keeps
        apply State.modVd_keeps
        exact h

theorem State.devFill_keeps {q F s x1 x2 x3 x4} (h : State.Keeps q F s) : State.Keeps q F (State.devFill s x1 x2 x3 x4) := by
  unfold State.devFill
  refine foldl_keeps (fun t101 x102 h103 => ?_) ?_
  · apply State.devWriteSec_keeps
    exact h103
  · exact h

theorem State.lineOut_keeps {q F s x1 x2} (h : State.Keeps q F s) : State.Keeps q F (State.lineOut s x1 x2) := by
  unfold State.lineOut
  split
  next z101 z102 =>
    exact h
  next z103 z104 z105 =>
    extract_lets y106 y107 y108 y109 y110
    clear_value y106
    clear_value y107
    clear_value y108
    have h111 : State.Keeps q F y109 := by
      refine foldl_keeps (fun t112 x113 h114 => ?_) ?_
      · apply State.lineToMem_keeps
        exact h114
      · exact h
    clear_value y109
    have h115 : State.Keeps q F y110 := by
      apply State.modSlice_keeps
      exact h111
    clear_value y110
    split
    next z116 z117 z118 =>
      apply State.modSlice_keeps
      apply State.lineToMem_keeps
      exact h115
    next z119 z120 =>
      exact h115

theorem State.lineUsed_keeps {q F s x1 x2} (h : State.Keeps q F s) : State.Keeps q F (State.lineUsed s x1 x2) := by
  unfold State.lineUsed
  split
  next z101 z102 =>
    exact h
  next z103 z104 z105 =>
    extract_lets y106
    have h107 : State.Keeps q F y106 := by
      apply State.devSeen_keeps
      exact h
    clear_value y106
    split
    next z108 z109 z110 =>
      apply State.startDrop_keeps
      apply State.modSlice_keeps
      exact h107
    next z111 z112 =>
      exact h107

theorem execPreemptionSaveEnd_keeps {q F x0 s} (h : State.Keeps q F s) : Out.Keeps q F (execPreemptionSaveEnd x0 s) := by
  unfold execPreemptionSaveEnd
  refine ok_keeps ?_
  extract_lets y101 y102
  clear_value y101
  clear_value y102
  split
  next z103 z104 =>
    exact h
  next z105 z106 z107 =>
    refine ite_keeps ?_ ?_
    · exact h
    · refine ite_keeps ?_ ?_
      · apply State.startDrains_keeps
        exact h
      · refine ite_keeps ?_ ?_
        · exact h
        · extract_lets y108 y109 y110 y111 y112
          clear_value y108
          have h113 : State.Keeps q F y109 := by
            refine foldl_keeps (fun t114 x115 h116 => ?_) ?_
            · apply State.devFill_keeps
              exact h116
            · exact h
          clear_value y109
          have h117 : State.Keeps q F y110 := by
            refine foldl_keeps (fun t118 x119 h120 => ?_) ?_
            · apply State.lineOut_keeps
              exact h120
            · exact h113
          clear_value y110
          clear_value y111
          have h121 : State.Keeps q F y112 := by
            apply State.idleCores_keeps
            apply State.acctAdd_keeps
            apply State.attribute_keeps
            exact h117
          clear_value y112
          apply State.modVd_keeps
          exact h121

theorem State.readContexts_keeps {q F s x1 x2} (h : State.Keeps q F s) : State.Keeps q F (State.readContexts s x1 x2) := by
  unfold State.readContexts
  extract_lets y101 y102
  clear_value y101
  have h103 : State.Keeps q F y102 := by
    refine foldl_keeps (fun t104 x105 h106 => ?_) ?_
    · apply State.modCore_keeps
      exact h106
    · exact h
  clear_value y102
  refine foldl_keeps (fun t107 x108 h109 => ?_) ?_
  · apply State.lineUsed_keeps
    exact h109
  · exact h103

theorem State.goOn_keeps {q F s x1 x2} (h : State.Keeps q F s) : State.Keeps q F (State.goOn s x1 x2) := by
  unfold State.goOn
  extract_lets y101 y102 y103 y104
  clear_value y101
  clear_value y102
  clear_value y103
  have h105 : State.Keeps q F y104 := by
    refine State.Keeps.fields (s := s) ?_
    exact h
  clear_value y104
  apply State.releaseCkpt_keeps
  apply State.modVd_keeps
  exact h105

theorem execJobResume_keeps {q F x0 s} (h : State.Keeps q F s) : Out.Keeps q F (execJobResume x0 s) := by
  unfold execJobResume
  refine ok_keeps ?_
  extract_lets y101 y102
  clear_value y101
  have h103 : SndKeeps q F y102 := by
    apply State.turn_keeps
    exact h
  clear_value y102
  split
  next z104 z105 z106 =>
    refine ite_keeps ?_ ?_
    · apply State.goOn_keeps
      exact h
    · exact h
  next z107 z108 =>
    refine ite_keeps ?_ ?_
    · exact h
    · split
      next z109 z110 =>
        exact h
      next z111 z112 z113 =>
        split
        next z114 z115 z116 z117 z118 =>
          extract_lets y119 y120 y121
          have h122 : State.Keeps q F y119 := by
            apply State.modVd_keeps
            refine snd_keeps ?_
            exact h103
          clear_value y119
          clear_value y120
          have h123 : State.Keeps q F y121 := by
            refine State.Keeps.fields (s := y119) ?_
            exact h122
          clear_value y121
          refine ite_keeps ?_ ?_
          · apply State.shareChoice_keeps
            apply State.complete_keeps
            exact h123
          · apply State.noteRun_keeps
            apply State.modVd_keeps
            apply State.readContexts_keeps
            exact h122
        next z124 z125 z126 =>
          refine snd_keeps ?_
          exact h103

theorem execFenceRecord_keeps {q F x0 s} (h : State.Keeps q F s) : Out.Keeps q F (execFenceRecord x0 s) := by
  unfold execFenceRecord
  refine ok_keeps ?_
  extract_lets y101
  clear_value y101
  split
  next z102 z103 =>
    exact h
  next z104 z105 z106 =>
    refine ite_keeps ?_ ?_
    · exact h
    · apply State.shareChoice_keeps
      apply State.complete_keeps
      apply State.modVd_keeps
      exact h

theorem execEngineTimeAttribution_keeps {q F s} (h : State.Keeps q F s) : Out.Keeps q F (execEngineTimeAttribution s) := by
  unfold execEngineTimeAttribution
  refine ok_keeps ?_
  refine ite_keeps ?_ ?_
  · exact h
  · refine foldl_keeps (fun t101 x102 h103 => ?_) ?_
    · extract_lets y104 y105 y106
      clear_value y104
      have h107 : State.Keeps q F y105 := by
        apply State.attribute_keeps
        exact h103
      clear_value y105
      clear_value y106
      refine ite_keeps ?_ ?_
      · apply State.requestPreempt_keeps
        exact h107
      · exact h107
    · exact h

theorem State.capture_keeps {q F s x1 x2} (h : State.Keeps q F s) : State.Keeps q F (State.capture s x1 x2) := by
  unfold State.capture
  refine foldl_keeps (fun t101 x102 h103 => ?_) ?_
  · apply State.setReg64_keeps
    exact h103
  · exact h

theorem State.acctSnap_keeps {q F s x1} (h : State.Keeps q F s) : State.Keeps q F (State.acctSnap s x1) := by
  unfold State.acctSnap
  refine ite_keeps ?_ ?_
  · exact h
  · apply State.capture_keeps
    exact h

theorem execAcctSnap_keeps {q F x0 s} (h : State.Keeps q F s) : Out.Keeps q F (execAcctSnap x0 s) := by
  unfold execAcctSnap
  refine ok_keeps ?_
  refine ite_keeps ?_ ?_
  · apply State.acctSnap_keeps
    exact h
  · exact h

theorem State.schedSnap_keeps {q F s x1 x2} (h : State.Keeps q F s) : State.Keeps q F (State.schedSnap s x1 x2) := by
  unfold State.schedSnap
  extract_lets y101
  have h102 : State.Keeps q F y101 := by
    apply State.capture_keeps
    apply State.setRegFld_keeps
    exact h
  clear_value y101
  refine ite_keeps ?_ ?_
  · apply State.modVd_keeps
    exact h102
  · exact h102

theorem execSchedAcctSnap_keeps {q F x0 x1 s} (h : State.Keeps q F s) : Out.Keeps q F (execSchedAcctSnap x0 x1 s) := by
  unfold execSchedAcctSnap
  refine ok_keeps ?_
  refine ite_keeps ?_ ?_
  · apply State.schedSnap_keeps
    exact h
  · exact h

theorem State.schedPreempt_keeps {q F s x1} (h : State.Keeps q F s) : State.Keeps q F (State.schedPreempt s x1) := by
  unfold State.schedPreempt
  apply State.requestPreempt_keeps
  apply State.setRegFld_keeps
  exact h

theorem execSchedPreempt_keeps {q F x0 s} (h : State.Keeps q F s) : Out.Keeps q F (execSchedPreempt x0 s) := by
  unfold execSchedPreempt
  refine ok_keeps ?_
  refine ite_keeps ?_ ?_
  · apply State.schedPreempt_keeps
    exact h
  · exact h

theorem State.tickAclk_keeps {q F s} (h : State.Keeps q F s) : State.Keeps q F (State.tickAclk s) := by
  unfold State.tickAclk
  refine foldl_keeps (fun t101 x102 h103 => ?_) ?_
  · apply State.modPdie_keeps
    exact h103
  · exact h

theorem State.newFrame_keeps {q F s} (h : State.Keeps q F s) : State.Keeps q F (State.newFrame s) := by
  unfold State.newFrame
  extract_lets y101 y102 y103 y104
  have h105 : State.Keeps q F y101 := by
    apply State.endTransit_keeps
    exact h
  clear_value y101
  have h106 : State.Keeps q F y102 := by
    refine foldl_keeps (fun t107 x108 h109 => ?_) ?_
    · apply State.cancelNow_keeps
      exact h109
    · exact h105
  clear_value y102
  clear_value y103
  have h110 : State.Keeps q F y104 := by
    refine State.Keeps.fields (s := y102) ?_
    exact h106
  clear_value y104
  refine foldl_keeps (fun t111 x112 h113 => ?_) ?_
  · apply State.loadFallback_keeps
    exact h113
  · exact h110

theorem State.tickFabric_keeps {q F s s1} (h : State.Keeps q F s) : State.Keeps q F (State.tickFabric s s1) := by
  unfold State.tickFabric
  refine ite_keeps ?_ ?_
  · exact h
  · extract_lets y101
    have h102 : State.Keeps q F y101 := by
      apply State.tickDemand_keeps
      apply State.tickElastic_keeps
      apply State.tickArrivals_keeps
      exact h
    clear_value y101
    refine ite_keeps ?_ ?_
    · exact h102
    · apply State.newFrame_keeps
      exact h102

end Sys2Proof.Machine
end

