-- ==== Sys2Proof/Laws/KeepsHost.lean ====
section
/-! SUPPORT. Every operation of Host.lean keeps what State.Keeps says. -/

set_option maxRecDepth 20000

namespace Sys2Proof.Machine

theorem State.hostTake_keeps {q F s x1 x2 x3} (h : State.Keeps q F s) : State.Keeps q F (State.hostTake s x1 x2 x3) := by
  unfold State.hostTake
  refine State.Keeps.fields (s := s) ?_
  exact h

theorem State.hostRead64_keeps {q F s x1} (h : State.Keeps q F s) : State.Keeps q F (State.hostRead64 s x1) := by
  unfold State.hostRead64
  refine ite_keeps ?_ ?_
  · exact h
  · split
    next z101 z102 =>
      apply State.hostTake_keeps
      apply State.windowMiss_keeps
      exact h
    next z103 z104 z105 z106 =>
      apply State.request_keeps
      apply State.hostTake_keeps
      exact h

theorem State.hostWrite64_keeps {q F s x1 x2 x3} (h : State.Keeps q F s) : State.Keeps q F (State.hostWrite64 s x1 x2 x3) := by
  unfold State.hostWrite64
  refine ite_keeps ?_ ?_
  · exact h
  · split
    next z101 z102 =>
      apply State.hostTake_keeps
      apply State.windowMiss_keeps
      exact h
    next z103 z104 z105 z106 =>
      extract_lets y107 y108
      clear_value y107
      clear_value y108
      refine ite_keeps ?_ ?_
      · apply State.hostTake_keeps
        exact h
      · apply State.request_keeps
        apply State.hostTake_keeps
        exact h

theorem execMemrd_keeps {q F x0 s} (h : State.Keeps q F s) : Out.Keeps q F (execMemrd x0 s) := by
  unfold execMemrd
  refine ok_keeps ?_
  apply State.hostRead64_keeps
  exact h

theorem execMemwr_keeps {q F x0 x1 s} (h : State.Keeps q F s) : Out.Keeps q F (execMemwr x0 x1 s) := by
  unfold execMemwr
  refine ok_keeps ?_
  apply State.hostWrite64_keeps
  exact h

theorem execMemwrptl_keeps {q F x0 x1 x2 s} (h : State.Keeps q F s) : Out.Keeps q F (execMemwrptl x0 x1 x2 s) := by
  unfold execMemwrptl
  refine ok_keeps ?_
  apply State.hostWrite64_keeps
  exact h

theorem execMemspecrd_keeps {q F x0 s} (h : State.Keeps q F s) : Out.Keeps q F (execMemspecrd x0 s) := by
  unfold execMemspecrd
  refine ok_keeps ?_
  exact h

theorem execMeminv_keeps {q F x0 s} (h : State.Keeps q F s) : Out.Keeps q F (execMeminv x0 s) := by
  unfold execMeminv
  refine ok_keeps ?_
  refine ite_keeps ?_ ?_
  · refine State.Keeps.fields (s := s) ?_
    exact h
  · exact h

theorem execUnsupportedMessage_keeps {q F x0 s} (h : State.Keeps q F s) : Out.Keeps q F (execUnsupportedMessage x0 s) := by
  unfold execUnsupportedMessage
  refine ok_keeps ?_
  refine ite_keeps ?_ ?_
  · refine State.Keeps.fields (s := s) ?_
    exact h
  · exact h

theorem State.noteMax_keeps {q F s x1 x2} (h : State.Keeps q F s) : State.Keeps q F (State.noteMax s x1 x2) := by
  unfold State.noteMax
  apply State.setRegFld_keeps
  exact h

theorem execHostResponse_keeps {q F x0 x1 s} (h : State.Keeps q F s) : Out.Keeps q F (execHostResponse x0 x1 s) := by
  unfold execHostResponse
  refine ok_keeps ?_
  split
  next z101 z102 =>
    exact h
  next z103 z104 z105 =>
    split
    next z106 z107 z108 z109 z110 =>
      extract_lets y111 y112 y113 y114 y115 y116 y117
      clear_value y111
      have h118 : State.Keeps q F y112 := by
        refine State.Keeps.fields (s := s) ?_
        exact h
      clear_value y112
      have h119 : State.Keeps q F y113 := by
        apply State.noteMax_keeps
        exact h118
      clear_value y113
      have h120 : State.Keeps q F y114 := by
        apply State.bump_keeps
        exact h119
      clear_value y114
      clear_value y115
      have h121 : State.Keeps q F y116 := by
        apply State.record_keeps
        exact h120
      clear_value y116
      have h122 : State.Keeps q F y117 := by
        apply State.vecPf_keeps
        exact h121
      clear_value y117
      refine ite_keeps ?_ ?_
      · exact h119
      · split
        next z123 z124 z125 z126 z127 =>
          apply State.event_keeps
          exact h122
        next z128 z129 z130 =>
          exact h122
    next z131 z132 z133 =>
      exact h

theorem execHdmDecoderCommit_keeps {q F x0 x1 x2 s} (h : State.Keeps q F s) : Out.Keeps q F (execHdmDecoderCommit x0 x1 x2 s) := by
  unfold execHdmDecoderCommit
  refine ok_keeps ?_
  extract_lets y101 y102 y103
  clear_value y101
  have h104 : State.Keeps q F y102 := by
    refine State.Keeps.fields (s := s) ?_
    exact h
  clear_value y102
  clear_value y103
  refine ite_keeps ?_ ?_
  · exact h104
  · refine ite_keeps ?_ ?_
    · refine State.Keeps.fields (s := y102) ?_
      exact h104
    · refine State.Keeps.fields (s := y102) ?_
      exact h104

theorem State.clearMax_keeps {q F s} (h : State.Keeps q F s) : State.Keeps q F (State.clearMax s) := by
  unfold State.clearMax
  apply State.setReg_keeps
  apply State.setReg_keeps
  exact h

theorem execMaxClear_keeps {q F s} (h : State.Keeps q F s) : Out.Keeps q F (execMaxClear s) := by
  unfold execMaxClear
  refine ok_keeps ?_
  refine ite_keeps ?_ ?_
  · apply State.clearMax_keeps
    exact h
  · exact h

theorem execMissAddrClear_keeps {q F s} (h : State.Keeps q F s) : Out.Keeps q F (execMissAddrClear s) := by
  unfold execMissAddrClear
  refine ok_keeps ?_
  refine ite_keeps ?_ ?_
  · apply State.setRegBit_keeps
    exact h
  · exact h

theorem State.linkTrained_keeps {q F s x1 x2 x3 x4} (h : State.Keeps q F s) : State.Keeps q F (State.linkTrained s x1 x2 x3 x4) := by
  unfold State.linkTrained
  extract_lets y101
  have h102 : State.Keeps q F y101 := by
    apply State.setReg_keeps
    exact h
  clear_value y101
  refine ite_keeps ?_ ?_
  · apply State.record_keeps
    apply State.setRegBit_keeps
    exact h102
  · exact h102

theorem execHostLinkRetrain_keeps {q F x0 x1 x2 x3 s} (h : State.Keeps q F s) : Out.Keeps q F (execHostLinkRetrain x0 x1 x2 x3 s) := by
  unfold execHostLinkRetrain
  refine ok_keeps ?_
  refine ite_keeps ?_ ?_
  · exact h
  · apply State.linkTrained_keeps
    exact h

theorem execLinkDown_keeps {q F s} (h : State.Keeps q F s) : Out.Keeps q F (execLinkDown s) := by
  unfold execLinkDown
  refine ok_keeps ?_
  apply State.setRegBit_keeps
  refine State.Keeps.fields (s := s) ?_
  exact h

theorem execD3hot_keeps {q F s} (h : State.Keeps q F s) : Out.Keeps q F (execD3hot s) := by
  unfold execD3hot
  refine ok_keeps ?_
  exact h

theorem State.vfsOff_keeps {q F s} (h : State.Keeps q F s) : State.Keeps q F (State.vfsOff s) := by
  unfold State.vfsOff
  refine ite_keeps ?_ ?_
  · extract_lets y101 y102
    have h103 : State.Keeps q F y101 := by
      refine foldl_keeps (fun t104 x105 h106 => ?_) ?_
      · apply State.flrVf_keeps
        exact h106
      · exact h
    clear_value y101
    clear_value y102
    refine State.Keeps.fields (s := y101) ?_
    exact h103
  · exact h

theorem execPfFlr_keeps {q F s} (h : State.Keeps q F s) : Out.Keeps q F (execPfFlr s) := by
  unfold execPfFlr
  refine ok_keeps ?_
  extract_lets y101 y102
  have h103 : State.Keeps q F y101 := by
    apply State.vfsOff_keeps
    exact h
  clear_value y101
  clear_value y102
  refine State.Keeps.fields (s := y101) ?_
  exact h103

theorem execVfEnableClear_keeps {q F s} (h : State.Keeps q F s) : Out.Keeps q F (execVfEnableClear s) := by
  unfold execVfEnableClear
  refine ok_keeps ?_
  apply State.vfsOff_keeps
  exact h

theorem execVfEnableSet_keeps {q F s} (h : State.Keeps q F s) : Out.Keeps q F (execVfEnableSet s) := by
  unfold execVfEnableSet
  refine ok_keeps ?_
  refine ite_keeps ?_ ?_
  · refine State.Keeps.fields (s := s) ?_
    exact h
  · exact h

theorem execVfFlr_keeps {q F x0 s} (h : State.Keeps q F s) : Out.Keeps q F (execVfFlr x0 s) := by
  unfold execVfFlr
  refine ok_keeps ?_
  refine ite_keeps ?_ ?_
  · apply State.flrVf_keeps
    exact h
  · exact h

end Sys2Proof.Machine
end

