-- ==== Sys2Proof/Laws/KeepsTransport.lean ====
section
/-! SUPPORT. Every operation of Transport.lean keeps what State.Keeps says. -/

set_option maxRecDepth 20000

namespace Sys2Proof.Machine

theorem State.addFlag_keeps {q F s x1 x2 x3} (h : State.Keeps q F s) : State.Keeps q F (State.addFlag s x1 x2 x3) := by
  unfold State.addFlag
  refine ite_keeps ?_ ?_
  · apply State.sendFlag_keeps
    exact h
  · exact h

theorem State.sendRecord_keeps {q F s x1 x2 x3 x4 x5} (h : State.Keeps q F s) : State.Keeps q F (State.sendRecord s x1 x2 x3 x4 x5) := by
  unfold State.sendRecord
  refine ite_keeps ?_ ?_
  · exact h
  · extract_lets y101 y102 y103 y104 y105
    clear_value y101
    clear_value y102
    have h106 : State.Keeps q F y103 := by
      apply State.devWrite_keeps
      exact h
    clear_value y103
    have h107 : State.Keeps q F y104 := by
      apply State.setRegFld_keeps
      exact h106
    clear_value y104
    have h108 : State.Keeps q F y105 := by
      refine ite_keeps ?_ ?_
      · apply State.modQp_keeps
        exact h107
      · exact h107
    clear_value y105
    refine ite_keeps ?_ ?_
    · apply State.vecVf_keeps
      exact h108
    · exact h108

theorem State.finishWork_keeps {q F s x1 x2 x3 x4} (h : State.Keeps q F s) : State.Keeps q F (State.finishWork s x1 x2 x3 x4) := by
  unfold State.finishWork
  extract_lets y101 y102 y103
  clear_value y101
  have h104 : State.Keeps q F y102 := by
    apply State.modQp_keeps
    exact h
  clear_value y102
  have h105 : State.Keeps q F y103 := by
    refine ite_keeps ?_ ?_
    · apply State.addFlag_keeps
      exact h104
    · exact h104
  clear_value y103
  refine ite_keeps ?_ ?_
  · apply State.sendRecord_keeps
    exact h105
  · exact h105

theorem State.flushWork_keeps {q F s x1 x2 x3} (h : State.Keeps q F s) : State.Keeps q F (State.flushWork s x1 x2 x3) := by
  unfold State.flushWork
  extract_lets y101 y102 y103
  clear_value y101
  have h104 : State.Keeps q F y102 := by
    refine foldl_keeps (fun t105 x106 h107 => ?_) ?_
    · apply State.finishWork_keeps
      exact h107
    · exact h
  clear_value y102
  have h108 : State.Keeps q F y103 := by
    refine foldl_keeps (fun t109 x110 h111 => ?_) ?_
    · extract_lets y112
      clear_value y112
      apply State.finishWork_keeps
      apply State.devSeen_keeps
      exact h111
    · exact h104
  clear_value y103
  apply State.modQp_keeps
  apply State.setRegFld_keeps
  exact h108

theorem State.failPair_keeps {q F s x1 x2 x3 x4} (h : State.Keeps q F s) : State.Keeps q F (State.failPair s x1 x2 x3 x4) := by
  unfold State.failPair
  extract_lets y101 y102
  have h103 : State.Keeps q F y101 := by
    apply State.setRegFld_keeps
    exact h
  clear_value y101
  have h104 : State.Keeps q F y102 := by
    apply State.flushWork_keeps
    exact h103
  clear_value y102
  apply State.vecVf_keeps
  apply State.modQp_keeps
  exact h104

theorem State.openGates_keeps {q F s x1} (h : State.Keeps q F s) : State.Keeps q F (State.openGates s x1) := by
  unfold State.openGates
  refine foldl_keeps (fun t101 x102 h103 => ?_) ?_
  · split
    next z104 z105 z106 =>
      refine ite_keeps ?_ ?_
      · extract_lets y107
        have h108 : State.Keeps q F y107 := by
          apply State.modQp_keeps
          exact h103
        clear_value y107
        refine ite_keeps ?_ ?_
        · apply State.finishWork_keeps
          exact h108
        · exact h108
      · exact h103
    next z109 z110 =>
      exact h103
  · exact h

theorem execWorkRequestFetch_keeps {q F x0 x1 s} (h : State.Keeps q F s) : Out.Keeps q F (execWorkRequestFetch x0 x1 s) := by
  unfold execWorkRequestFetch
  refine ok_keeps ?_
  extract_lets y101 y102 y103 y104 y105 y106 y107 y108 y109
  clear_value y101
  clear_value y102
  clear_value y103
  clear_value y104
  clear_value y105
  clear_value y106
  have h110 : State.Keeps q F y107 := by
    apply State.devSeen_keeps
    exact h
  clear_value y107
  have h111 : State.Keeps q F y108 := by
    apply State.setRegFld_keeps
    exact h110
  clear_value y108
  have h112 : State.Keeps q F y109 := by
    apply State.modQp_keeps
    exact h111
  clear_value y109
  refine ite_keeps ?_ ?_
  · exact h
  · refine ite_keeps ?_ ?_
    · apply State.failPair_keeps
      exact h112
    · apply State.openGates_keeps
      exact h112

theorem State.armPair_keeps {q F s x1 x2} (h : State.Keeps q F s) : State.Keeps q F (State.armPair s x1 x2) := by
  unfold State.armPair
  extract_lets y101 y102 y103 y104 y105 y106 y107 y108
  have h109 : State.Keeps q F y101 := by
    apply State.setRegFld_keeps
    exact h
  clear_value y101
  clear_value y102
  clear_value y103
  have h110 : State.Keeps q F y104 := by
    apply State.devSeen_keeps
    exact h109
  clear_value y104
  clear_value y105
  clear_value y106
  have h111 : State.Keeps q F y107 := by
    apply State.modQp_keeps
    exact h110
  clear_value y107
  have h112 : State.Keeps q F y108 := by
    apply State.setRegFld_keeps
    exact h111
  clear_value y108
  refine ite_keeps ?_ ?_
  · exact h109
  · refine ite_keeps ?_ ?_
    · apply State.setRegFld_keeps
      exact h110
    · refine foldl_keeps (fun t113 x114 h115 => ?_) ?_
      · apply State.setReg_keeps
        exact h115
      · exact h112

theorem execArm_keeps {q F x0 x1 s} (h : State.Keeps q F s) : Out.Keeps q F (execArm x0 x1 s) := by
  unfold execArm
  refine ok_keeps ?_
  refine ite_keeps ?_ ?_
  · apply State.armPair_keeps
    exact h
  · exact h

theorem State.resetPair_keeps {q F s x1 x2} (h : State.Keeps q F s) : State.Keeps q F (State.resetPair s x1 x2) := by
  unfold State.resetPair
  extract_lets y101 y102
  have h103 : State.Keeps q F y101 := by
    apply State.setRegFld_keeps
    exact h
  clear_value y101
  have h104 : State.Keeps q F y102 := by
    apply State.flushWork_keeps
    exact h103
  clear_value y102
  apply State.modQp_keeps
  exact h104

theorem execReset_keeps {q F x0 x1 s} (h : State.Keeps q F s) : Out.Keeps q F (execReset x0 x1 s) := by
  unfold execReset
  refine ok_keeps ?_
  refine ite_keeps ?_ ?_
  · apply State.resetPair_keeps
    exact h
  · exact h

theorem State.postWork_keeps {q F s x1 x2 x3} (h : State.Keeps q F s) : State.Keeps q F (State.postWork s x1 x2 x3) := by
  unfold State.postWork
  refine ite_keeps ?_ ?_
  · apply State.setRegBit_keeps
    exact h
  · apply State.setRegFld_keeps
    exact h

theorem State.ringPairW_keeps {q F s x1 x2 x3} (h : State.Keeps q F s) : FstKeeps q F (State.ringPairW s x1 x2 x3) := by
  unfold State.ringPairW
  extract_lets y101
  clear_value y101
  refine mk_fst_keeps ?_
  apply State.postWork_keeps
  exact h

theorem State.ringPair_keeps {q F s x1 x2 x3} (h : State.Keeps q F s) : State.Keeps q F (State.ringPair s x1 x2 x3) := by
  unfold State.ringPair
  apply State.counted_keeps
  apply State.ringPairW_keeps
  exact h

theorem execQpDoorbell_keeps {q F x0 x1 x2 s} (h : State.Keeps q F s) : Out.Keeps q F (execQpDoorbell x0 x1 x2 s) := by
  unfold execQpDoorbell
  refine ok_keeps ?_
  refine ite_keeps ?_ ?_
  · apply State.ringPair_keeps
    exact h
  · exact h

theorem State.qpHeadW_keeps {q F s x1 x2 x3 x4} (h : State.Keeps q F s) : FstKeeps q F (State.qpHeadW s x1 x2 x3 x4) := by
  unfold State.qpHeadW
  extract_lets y101 y102 y103 y104 y105
  clear_value y101
  clear_value y102
  clear_value y103
  clear_value y104
  clear_value y105
  refine fst_ite_keeps ?_ ?_
  · refine mk_fst_keeps ?_
    apply State.setRegFld_keeps
    exact h
  · refine mk_fst_keeps ?_
    apply State.setRegBit_keeps
    exact h

theorem State.writeQpHead_keeps {q F s x1 x2 x3 x4} (h : State.Keeps q F s) : State.Keeps q F (State.writeQpHead s x1 x2 x3 x4) := by
  unfold State.writeQpHead
  apply State.counted_keeps
  apply State.qpHeadW_keeps
  exact h

theorem execQpCqHeadWrite_keeps {q F x0 x1 x2 x3 s} (h : State.Keeps q F s) : Out.Keeps q F (execQpCqHeadWrite x0 x1 x2 x3 s) := by
  unfold execQpCqHeadWrite
  refine ok_keeps ?_
  refine ite_keeps ?_ ?_
  · apply State.writeQpHead_keeps
    exact h
  · exact h

theorem State.sentFrame_keeps {q F s x1 x2 x3 x4} (h : State.Keeps q F s) : State.Keeps q F (State.sentFrame s x1 x2 x3 x4) := by
  unfold State.sentFrame
  extract_lets y101 y102 y103
  clear_value y101
  clear_value y102
  have h104 : State.Keeps q F y103 := by
    refine State.Keeps.fields (s := s) ?_
    exact h
  clear_value y103
  apply State.modQp_keeps
  exact h104

theorem State.emit_keeps {q F s x1} (h : State.Keeps q F s) : State.Keeps q F (State.emit s x1) := by
  unfold State.emit
  refine State.Keeps.fields (s := s) ?_
  exact h

theorem State.newSeg_keeps {q F s x1 x2 x3 x4 x5} (h : State.Keeps q F s) : State.Keeps q F (State.newSeg s x1 x2 x3 x4 x5) := by
  unfold State.newSeg
  extract_lets y101 y102
  clear_value y101
  clear_value y102
  apply State.emit_keeps
  apply State.modQp_keeps
  exact h

theorem State.sendWrite_keeps {q F s x1 x2 x3} (h : State.Keeps q F s) : State.Keeps q F (State.sendWrite s x1 x2 x3) := by
  unfold State.sendWrite
  extract_lets y101 y102 y103 y104 y105 y106 y107 y108 y109
  clear_value y101
  clear_value y102
  clear_value y103
  clear_value y104
  clear_value y105
  clear_value y106
  clear_value y107
  have h110 : State.Keeps q F y108 := by
    apply State.devSeen_keeps
    exact h
  clear_value y108
  have h111 : State.Keeps q F y109 := by
    apply State.modQp_keeps
    exact h110
  clear_value y109
  apply State.newSeg_keeps
  exact h111

theorem State.sendReadReq_keeps {q F s x1 x2 x3} (h : State.Keeps q F s) : State.Keeps q F (State.sendReadReq s x1 x2 x3) := by
  unfold State.sendReadReq
  extract_lets y101 y102 y103 y104 y105
  clear_value y101
  clear_value y102
  clear_value y103
  clear_value y104
  have h106 : State.Keeps q F y105 := by
    apply State.modQp_keeps
    exact h
  clear_value y105
  apply State.newSeg_keeps
  exact h106

theorem State.askAgain_keeps {q F s x1 x2 x3} (h : State.Keeps q F s) : State.Keeps q F (State.askAgain s x1 x2 x3) := by
  unfold State.askAgain
  extract_lets y101 y102 y103 y104 y105 y106 y107
  clear_value y101
  clear_value y102
  clear_value y103
  clear_value y104
  clear_value y105
  clear_value y106
  have h108 : State.Keeps q F y107 := by
    apply State.modQp_keeps
    exact h
  clear_value y107
  apply State.newSeg_keeps
  exact h108

theorem State.sendAnswer_keeps {q F s x1 x2 x3} (h : State.Keeps q F s) : State.Keeps q F (State.sendAnswer s x1 x2 x3) := by
  unfold State.sendAnswer
  extract_lets y101 y102 y103 y104 y105 y106 y107 y108
  clear_value y101
  clear_value y102
  clear_value y103
  clear_value y104
  clear_value y105
  have h109 : State.Keeps q F y106 := by
    apply State.devSeen_keeps
    exact h
  clear_value y106
  clear_value y107
  have h110 : State.Keeps q F y108 := by
    apply State.modQp_keeps
    exact h109
  clear_value y108
  apply State.emit_keeps
  exact h110

theorem State.trySend_keeps {q F s x1 x2} (h : State.Keeps q F s) : OptKeeps q F (State.trySend s x1 x2) := by
  unfold State.trySend
  extract_lets y101 y102
  clear_value y101
  clear_value y102
  refine opt_ite_keeps ?_ ?_
  · exact none_keeps
  · split
    next z103 z104 z105 =>
      extract_lets y106 y107
      clear_value y106
      clear_value y107
      refine some_keeps ?_
      apply State.emit_keeps
      apply State.bump_keeps
      apply State.modQp_keeps
      exact h
    next z108 z109 =>
      split
      next z110 z111 z112 z113 z114 =>
        refine some_keeps ?_
        apply State.askAgain_keeps
        exact h
      next z115 z116 z117 =>
        split
        next z118 z119 z120 z121 =>
          refine some_keeps ?_
          apply State.sendAnswer_keeps
          exact h
        next z122 z123 =>
          split
          next z124 z125 z126 z127 z128 =>
            refine opt_ite_keeps ?_ ?_
            · exact none_keeps
            · refine opt_ite_keeps ?_ ?_
              · refine opt_ite_keeps ?_ ?_
                · refine some_keeps ?_
                  apply State.sendReadReq_keeps
                  exact h
                · exact none_keeps
              · refine some_keeps ?_
                apply State.sendWrite_keeps
                exact h
          next z129 z130 z131 =>
            exact none_keeps

theorem State.nextSend_keeps {q F s x1} (h : State.Keeps q F s) {a b t} (e : State.nextSend s x1 = some (a, b, t)) :
    State.Keeps q F t := by
  unfold State.nextSend at e
  extract_lets n last at e
  split at e
  · exact nomatch e
  · obtain ⟨p, _, e2⟩ := List.exists_of_findSome?_eq_some e
    obtain ⟨u, hu, e3⟩ := Option.map_eq_some_iff.mp e2
    have hu' : State.Keeps q F u := State.trySend_keeps h _ hu
    cases e3
    apply State.sentFrame_keeps
    refine State.Keeps.fields (s := u) ?_
    exact hu'

theorem State.drrSent_keeps {q F s x1 x2} (h : State.Keeps q F s) : State.Keeps q F (State.drrSent s x1 x2) := by
  unfold State.drrSent
  refine State.Keeps.fields (s := s) ?_
  exact h

theorem execSegmentSend_keeps {q F x0 s} (h : State.Keeps q F s) : Out.Keeps q F (execSegmentSend x0 s) := by
  unfold execSegmentSend
  refine ok_keeps ?_
  refine ite_keeps ?_ ?_
  · exact h
  · split
    · apply State.emit_keeps
      refine State.Keeps.fields (s := s) ?_
      exact h
    · refine ite_keeps ?_ ?_
      · exact h
      · split
        · rename_i e
          refine ite_keeps ?_ ?_
          · apply State.drrSent_keeps
            exact State.nextSend_keeps h e
          · exact h
        · exact h

theorem State.completeWork_keeps {q F s x1 x2} (h : State.Keeps q F s) : State.Keeps q F (State.completeWork s x1 x2) := by
  unfold State.completeWork
  extract_lets y101
  clear_value y101
  refine foldl_keeps (fun t102 x103 h104 => ?_) ?_
  · apply State.finishWork_keeps
    exact h104
  · exact h

theorem State.takeAck_keeps {q F s x1 x2 x3 x4} (h : State.Keeps q F s) : State.Keeps q F (State.takeAck s x1 x2 x3 x4) := by
  unfold State.takeAck
  extract_lets y101 y102 y103 y104 y105
  clear_value y101
  clear_value y102
  clear_value y103
  clear_value y104
  clear_value y105
  refine ite_keeps ?_ ?_
  · exact h
  · apply State.completeWork_keeps
    apply State.modQp_keeps
    exact h

theorem State.onPacket_keeps {q F s x1 x2} (h : State.Keeps q F s) (hx2 : ∀ a0, State.Keeps q F a0 → State.Keeps q F (x2 a0)) : State.Keeps q F (State.onPacket s x1 x2) := by
  unfold State.onPacket
  refine ite_keeps ?_ ?_
  · exact h
  · refine ite_keeps ?_ ?_
    · apply State.bump_keeps
      exact h
    · apply hx2
      exact h

theorem State.settleTimer_keeps {q F s x1 x2} (h : State.Keeps q F s) : State.Keeps q F (State.settleTimer s x1 x2) := by
  unfold State.settleTimer
  refine ite_keeps ?_ ?_
  · exact h
  · apply State.modQp_keeps
    exact h

theorem execAck_keeps {q F x0 s} (h : State.Keeps q F s) : Out.Keeps q F (execAck x0 s) := by
  unfold execAck
  refine ok_keeps ?_
  apply State.onPacket_keeps
  · exact h
  · intro x101
    intro h102
    split
    next z103 z104 z105 =>
      apply State.settleTimer_keeps
      apply State.takeAck_keeps
      exact h102
    next z106 z107 =>
      exact h102

theorem execNak_keeps {q F x0 s} (h : State.Keeps q F s) : Out.Keeps q F (execNak x0 s) := by
  unfold execNak
  refine ok_keeps ?_
  apply State.onPacket_keeps
  · exact h
  · intro x101
    intro h102
    split
    next z103 z104 z105 =>
      extract_lets y106 y107 y108
      clear_value y106
      clear_value y107
      clear_value y108
      split
      next z109 z110 =>
        apply State.modQp_keeps
        exact h102
      next z111 z112 =>
        apply State.failPair_keeps
        exact h102
      next z113 z114 =>
        apply State.failPair_keeps
        exact h102
      next z115 z116 =>
        apply State.failPair_keeps
        exact h102
      next z117 z118 =>
        apply State.failPair_keeps
        exact h102
      next z119 z120 z121 z122 z123 z124 =>
        exact h102
    next z125 z126 =>
      exact h102

theorem execCnp_keeps {q F x0 s} (h : State.Keeps q F s) : Out.Keeps q F (execCnp x0 s) := by
  unfold execCnp
  refine ok_keeps ?_
  apply State.onPacket_keeps
  · exact h
  · intro x101
    intro h102
    split
    next z103 z104 z105 =>
      apply State.modQp_keeps
      exact h102
    next z106 z107 =>
      exact h102

theorem execRateIncrease_keeps {q F x0 x1 s} (h : State.Keeps q F s) : Out.Keeps q F (execRateIncrease x0 x1 s) := by
  unfold execRateIncrease
  refine ok_keeps ?_
  extract_lets y101
  clear_value y101
  refine ite_keeps ?_ ?_
  · exact h
  · apply State.modQp_keeps
    exact h

theorem execRetransmissionTimeout_keeps {q F x0 x1 s} (h : State.Keeps q F s) : Out.Keeps q F (execRetransmissionTimeout x0 x1 s) := by
  unfold execRetransmissionTimeout
  refine ok_keeps ?_
  extract_lets y101 y102 y103 y104
  clear_value y101
  clear_value y102
  clear_value y103
  clear_value y104
  refine ite_keeps ?_ ?_
  · exact h
  · refine ite_keeps ?_ ?_
    · apply State.modQp_keeps
      exact h
    · refine ite_keeps ?_ ?_
      · apply State.modQp_keeps
        exact h
      · apply State.failPair_keeps
        exact h

end Sys2Proof.Machine
end

