-- ==== Sys2Proof/Laws/KeepsNet.lean ====
section
/-! SUPPORT. Every operation of Net.lean keeps what State.Keeps says. -/

set_option maxRecDepth 20000

namespace Sys2Proof.Machine

theorem State.queueTx_keeps {q F s x1} (h : State.Keeps q F s) : State.Keeps q F (State.queueTx s x1) := by
  unfold State.queueTx
  refine State.Keeps.fields (s := s) ?_
  exact h

theorem State.flowControl_keeps {q F s x1} (h : State.Keeps q F s) : State.Keeps q F (State.flowControl s x1) := by
  unfold State.flowControl
  extract_lets y101 y102
  clear_value y101
  clear_value y102
  refine ite_keeps ?_ ?_
  · exact h
  · refine ite_keeps ?_ ?_
    · apply State.queueTx_keeps
      refine State.Keeps.fields (s := s) ?_
      exact h
    · refine ite_keeps ?_ ?_
      · apply State.queueTx_keeps
        refine State.Keeps.fields (s := s) ?_
        exact h
      · exact h

theorem State.stage_keeps {q F s x1 x2 x3 x4 x5 x6} (h : State.Keeps q F s) : State.Keeps q F (State.stage s x1 x2 x3 x4 x5 x6) := by
  unfold State.stage
  extract_lets y101 y102
  clear_value y101
  clear_value y102
  apply State.flowControl_keeps
  refine State.Keeps.fields (s := s) ?_
  exact h

theorem State.recvRecord_keeps {q F s x1 x2 x3} (h : State.Keeps q F s) : State.Keeps q F (State.recvRecord s x1 x2 x3) := by
  unfold State.recvRecord
  extract_lets y101 y102 y103 y104 y105
  clear_value y101
  clear_value y102
  have h106 : State.Keeps q F y103 := by
    apply State.devWrite_keeps
    exact h
  clear_value y103
  have h107 : State.Keeps q F y104 := by
    apply State.setRegFld_keeps
    exact h106
  clear_value y104
  have h108 : State.Keeps q F y105 := by
    refine ite_keeps ?_ ?_
    · apply State.modQp_keeps
      exact h107
    · exact h107
  clear_value y105
  refine ite_keeps ?_ ?_
  · exact h
  · refine ite_keeps ?_ ?_
    · apply State.setRegBit_keeps
      exact h
    · apply State.vecVf_keeps
      exact h108

theorem State.settleMsg_keeps {q F s x1 x2 x3} (h : State.Keeps q F s) : State.Keeps q F (State.settleMsg s x1 x2 x3) := by
  unfold State.settleMsg
  split
  next z101 z102 z103 =>
    refine ite_keeps ?_ ?_
    · exact h
    · extract_lets y104
      have h105 : State.Keeps q F y104 := by
        apply State.modQp_keeps
        exact h
      clear_value y104
      refine ite_keeps ?_ ?_
      · apply State.recvRecord_keeps
        apply State.addFlag_keeps
        exact h105
      · exact h105
  next z106 z107 =>
    exact h

theorem State.noteSeg_keeps {q F s x1 x2 x3} (h : State.Keeps q F s) : State.Keeps q F (State.noteSeg s x1 x2 x3) := by
  unfold State.noteSeg
  extract_lets y101 y102
  clear_value y101
  clear_value y102
  apply State.modQp_keeps
  exact h

theorem State.segComplete_keeps {q F s x1 x2 x3} (h : State.Keeps q F s) : State.Keeps q F (State.segComplete s x1 x2 x3) := by
  unfold State.segComplete
  apply State.settleMsg_keeps
  apply State.modQp_keeps
  exact h

theorem State.nakPacket_keeps {q F s x1 x2} (h : State.Keeps q F s) : State.Keeps q F (State.nakPacket s x1 x2) := by
  unfold State.nakPacket
  extract_lets y101 y102
  clear_value y101
  clear_value y102
  refine State.Keeps.fields (s := s) ?_
  exact h

theorem State.noteCe_keeps {q F s x1 x2 x3} (h : State.Keeps q F s) : State.Keeps q F (State.noteCe s x1 x2 x3) := by
  unfold State.noteCe
  extract_lets y101
  clear_value y101
  refine ite_keeps ?_ ?_
  · apply State.queueTx_keeps
    apply State.modQp_keeps
    exact h
  · exact h

theorem State.recvSeg_keeps {q F s x1 x2 x3} (h : State.Keeps q F s) (hx3 : ∀ a0 a1, State.Keeps q F a1 → State.Keeps q F (x3 a0 a1)) : State.Keeps q F (State.recvSeg s x1 x2 x3) := by
  unfold State.recvSeg
  apply State.onPacket_keeps
  · exact h
  · intro x101
    intro h102
    extract_lets y103
    clear_value y103
    split
    next z104 z105 =>
      apply State.nakPacket_keeps
      exact h102
    next z106 z107 z108 =>
      extract_lets y109 y110
      clear_value y109
      have h111 : State.Keeps q F y110 := by
        apply State.noteCe_keeps
        apply State.modQp_keeps
        exact h102
      clear_value y110
      refine ite_keeps ?_ ?_
      · apply State.nakPacket_keeps
        exact h102
      · refine ite_keeps ?_ ?_
        · apply State.modQp_keeps
          exact h102
        · refine ite_keeps ?_ ?_
          · apply State.nakPacket_keeps
            exact h102
          · refine ite_keeps ?_ ?_
            · apply State.nakPacket_keeps
              exact h102
            · refine ite_keeps ?_ ?_
              · apply State.nakPacket_keeps
                exact h102
              · apply hx3
                apply State.noteSeg_keeps
                exact h111

theorem execWrite_keeps {q F x0 s} (h : State.Keeps q F s) : Out.Keeps q F (execWrite x0 s) := by
  unfold execWrite
  refine ok_keeps ?_
  apply State.recvSeg_keeps
  · exact h
  · intro x101
    intro x102
    intro h103
    refine ite_keeps ?_ ?_
    · apply State.segComplete_keeps
      exact h103
    · apply State.stage_keeps
      exact h103

theorem execReduce_keeps {q F x0 s} (h : State.Keeps q F s) : Out.Keeps q F (execReduce x0 s) := by
  unfold execReduce
  refine ok_keeps ?_
  apply State.recvSeg_keeps
  · exact h
  · intro x101
    intro x102
    intro h103
    refine ite_keeps ?_ ?_
    · apply State.segComplete_keeps
      exact h103
    · apply State.stage_keeps
      exact h103

theorem execReadReq_keeps {q F x0 s} (h : State.Keeps q F s) : Out.Keeps q F (execReadReq x0 s) := by
  unfold execReadReq
  refine ok_keeps ?_
  apply State.recvSeg_keeps
  · exact h
  · intro x101
    intro x102
    intro h103
    extract_lets y104 y105
    clear_value y104
    have h106 : State.Keeps q F y105 := by
      apply State.segComplete_keeps
      exact h103
    clear_value y105
    refine ite_keeps ?_ ?_
    · exact h106
    · apply State.modQp_keeps
      exact h106

theorem execReadResp_keeps {q F x0 s} (h : State.Keeps q F s) : Out.Keeps q F (execReadResp x0 s) := by
  unfold execReadResp
  refine ok_keeps ?_
  apply State.onPacket_keeps
  · exact h
  · intro x101
    intro h102
    extract_lets y103
    clear_value y103
    split
    next z104 z105 =>
      apply State.bump_keeps
      exact h102
    next z106 z107 z108 =>
      split
      next z109 z110 =>
        apply State.bump_keeps
        exact h102
      next z111 z112 z113 =>
        extract_lets y114
        have h115 : State.Keeps q F y114 := by
          apply State.noteCe_keeps
          apply State.modQp_keeps
          exact h102
        clear_value y114
        refine ite_keeps ?_ ?_
        · exact h115
        · apply State.stage_keeps
          exact h115

theorem State.modStaged_keeps {q F s x1 x2} (h : State.Keeps q F s) : State.Keeps q F (State.modStaged s x1 x2) := by
  unfold State.modStaged
  refine State.Keeps.fields (s := s) ?_
  exact h

theorem State.deliverWrite_keeps {q F s x1} (h : State.Keeps q F s) : State.Keeps q F (State.deliverWrite s x1) := by
  unfold State.deliverWrite
  extract_lets y101 y102 y103
  clear_value y101
  clear_value y102
  have h104 : State.Keeps q F y103 := by
    apply State.modStaged_keeps
    exact h
  clear_value y103
  refine foldl_keeps (fun t105 x106 h107 => ?_) ?_
  · extract_lets y108
    clear_value y108
    apply State.request_keeps
    exact h107
  · exact h104

theorem State.deliverReduce_keeps {q F s x1} (h : State.Keeps q F s) : State.Keeps q F (State.deliverReduce s x1) := by
  unfold State.deliverReduce
  extract_lets y101 y102
  clear_value y101
  have h103 : State.Keeps q F y102 := by
    apply State.modStaged_keeps
    exact h
  clear_value y102
  refine foldl_keeps (fun t104 x105 h106 => ?_) ?_
  · extract_lets y107
    clear_value y107
    apply State.sendHomeOp_keeps
    exact h106
  · exact h103

theorem execSegmentDelivery_keeps {q F x0 s} (h : State.Keeps q F s) : Out.Keeps q F (execSegmentDelivery x0 s) := by
  unfold execSegmentDelivery
  refine ok_keeps ?_
  split
  next z101 z102 =>
    exact h
  next z103 z104 z105 =>
    refine ite_keeps ?_ ?_
    · exact h
    · split
      next z106 z107 z108 =>
        apply State.sendHomeOp_keeps
        refine State.Keeps.fields (s := s) ?_
        exact h
      next z109 z110 =>
        refine ite_keeps ?_ ?_
        · exact h
        · refine ite_keeps ?_ ?_
          · apply State.deliverReduce_keeps
            exact h
          · apply State.deliverWrite_keeps
            exact h

theorem State.readLanded_keeps {q F s x1 x2 x3} (h : State.Keeps q F s) : State.Keeps q F (State.readLanded s x1 x2 x3) := by
  unfold State.readLanded
  split
  next z101 z102 =>
    exact h
  next z103 z104 z105 =>
    extract_lets y106 y107 y108
    clear_value y106
    clear_value y107
    have h109 : State.Keeps q F y108 := by
      apply State.modQp_keeps
      exact h
    clear_value y108
    split
    next z110 z111 z112 z113 =>
      apply State.settleTimer_keeps
      apply State.finishWork_keeps
      exact h109
    next z114 z115 z116 z117 =>
      exact h109

theorem execNetworkWriteAck_keeps {q F x0 s} (h : State.Keeps q F s) : Out.Keeps q F (execNetworkWriteAck x0 s) := by
  unfold execNetworkWriteAck
  refine ok_keeps ?_
  split
  next z101 z102 =>
    exact h
  next z103 z104 z105 z106 =>
    extract_lets y107 y108
    clear_value y107
    have h109 : State.Keeps q F y108 := by
      refine State.Keeps.fields (s := s) ?_
      exact h
    clear_value y108
    split
    next z110 z111 =>
      exact h109
    next z112 z113 z114 =>
      extract_lets y115 y116 y117 y118
      clear_value y115
      have h119 : State.Keeps q F y116 := by
        apply State.flowControl_keeps
        apply State.modStaged_keeps
        exact h109
      clear_value y116
      clear_value y117
      have h120 : State.Keeps q F y118 := by
        refine State.Keeps.fields (s := y116) ?_
        exact h119
      clear_value y118
      refine ite_keeps ?_ ?_
      · exact h119
      · refine ite_keeps ?_ ?_
        · apply State.readLanded_keeps
          exact h120
        · apply State.segComplete_keeps
          exact h120

theorem State.ackMeasured_keeps {q F s x1 x2 x3} (h : State.Keeps q F s) : State.Keeps q F (State.ackMeasured s x1 x2 x3) := by
  unfold State.ackMeasured
  refine ite_keeps ?_ ?_
  · exact h
  · apply State.vecPf_keeps
    apply State.record_keeps
    apply State.bump_keeps
    exact h

theorem execAckSend_keeps {q F x0 x1 x2 s} (h : State.Keeps q F s) : Out.Keeps q F (execAckSend x0 x1 x2 s) := by
  unfold execAckSend
  refine ok_keeps ?_
  extract_lets y101 y102 y103 y104 y105
  clear_value y101
  clear_value y102
  clear_value y103
  clear_value y104
  have h106 : State.Keeps q F y105 := by
    apply State.modQp_keeps
    exact h
  clear_value y105
  split
  next z107 z108 z109 =>
    extract_lets y110 y111
    have h112 : State.Keeps q F y110 := by
      apply State.queueTx_keeps
      refine State.Keeps.fields (s := s) ?_
      exact h
    clear_value y110
    have h113 : State.Keeps q F y111 := by
      unfold y111
      split
      next z114 z115 z116 z117 z118 z119 z120 =>
        apply State.bump_keeps
        exact h112
      next z121 z122 =>
        exact h112
    clear_value y111
    apply State.ackMeasured_keeps
    exact h113
  next z123 z124 =>
    refine ite_keeps ?_ ?_
    · exact h
    · apply State.ackMeasured_keeps
      apply State.queueTx_keeps
      exact h106

theorem execArpRequest_keeps {q F x0 s} (h : State.Keeps q F s) : Out.Keeps q F (execArpRequest x0 s) := by
  unfold execArpRequest
  refine ok_keeps ?_
  refine ite_keeps ?_ ?_
  · exact h
  · refine ite_keeps ?_ ?_
    · apply State.queueTx_keeps
      exact h
    · apply State.bump_keeps
      exact h

theorem execNeighbourSolicitation_keeps {q F x0 s} (h : State.Keeps q F s) : Out.Keeps q F (execNeighbourSolicitation x0 s) := by
  unfold execNeighbourSolicitation
  refine ok_keeps ?_
  refine ite_keeps ?_ ?_
  · exact h
  · refine ite_keeps ?_ ?_
    · apply State.queueTx_keeps
      exact h
    · apply State.bump_keeps
      exact h

theorem execNonTuilinFrame_keeps {q F s} (h : State.Keeps q F s) : Out.Keeps q F (execNonTuilinFrame s) := by
  unfold execNonTuilinFrame
  refine ok_keeps ?_
  refine ite_keeps ?_ ?_
  · apply State.bump_keeps
    exact h
  · exact h

theorem execPauseFrame_keeps {q F s} (h : State.Keeps q F s) : Out.Keeps q F (execPauseFrame s) := by
  unfold execPauseFrame
  refine ok_keeps ?_
  refine ite_keeps ?_ ?_
  · apply State.bump_keeps
    exact h
  · exact h

theorem State.setPaused_keeps {q F s x1 x2} (h : State.Keeps q F s) : State.Keeps q F (State.setPaused s x1 x2) := by
  unfold State.setPaused
  extract_lets y101 y102
  clear_value y101
  clear_value y102
  apply State.setRegBit_keeps
  refine State.Keeps.fields (s := s) ?_
  exact h

theorem execPfcFrame_keeps {q F x0 x1 s} (h : State.Keeps q F s) : Out.Keeps q F (execPfcFrame x0 x1 s) := by
  unfold execPfcFrame
  refine ok_keeps ?_
  refine ite_keeps ?_ ?_
  · exact h
  · refine ite_keeps ?_ ?_
    · apply State.setPaused_keeps
      exact h
    · apply State.bump_keeps
      exact h

theorem execPfcPauseExpiry_keeps {q F x0 s} (h : State.Keeps q F s) : Out.Keeps q F (execPfcPauseExpiry x0 s) := by
  unfold execPfcPauseExpiry
  refine ok_keeps ?_
  refine ite_keeps ?_ ?_
  · apply State.setPaused_keeps
    exact h
  · exact h

theorem State.netLink_keeps {q F s x1} (h : State.Keeps q F s) : State.Keeps q F (State.netLink s x1) := by
  unfold State.netLink
  refine ite_keeps ?_ ?_
  · exact h
  · extract_lets y101 y102 y103
    clear_value y101
    have h104 : State.Keeps q F y102 := by
      refine State.Keeps.fields (s := s) ?_
      exact h
    clear_value y102
    have h105 : State.Keeps q F y103 := by
      apply State.setRegBit_keeps
      exact h104
    clear_value y103
    apply State.vecPf_keeps
    apply State.setRegFld_keeps
    apply State.setRegFld_keeps
    exact h105

theorem State.writeNetCtrl_keeps {q F s x1} (h : State.Keeps q F s) : State.Keeps q F (State.writeNetCtrl s x1) := by
  unfold State.writeNetCtrl
  extract_lets y101 y102 y103
  clear_value y101
  have h104 : State.Keeps q F y102 := by
    apply State.setReg_keeps
    exact h
  clear_value y102
  clear_value y103
  refine ite_keeps ?_ ?_
  · refine State.Keeps.fields (s := y102) ?_
    exact h104
  · refine ite_keeps ?_ ?_
    · apply State.netLink_keeps
      refine State.Keeps.fields (s := y102) ?_
      exact h104
    · exact h104

theorem execNetportEnable_keeps {q F x0 s} (h : State.Keeps q F s) : Out.Keeps q F (execNetportEnable x0 s) := by
  unfold execNetportEnable
  refine ok_keeps ?_
  refine ite_keeps ?_ ?_
  · apply State.countRsvd_keeps
    apply State.writeNetCtrl_keeps
    exact h
  · exact h

theorem execNetportLinkChange_keeps {q F x0 s} (h : State.Keeps q F s) : Out.Keeps q F (execNetportLinkChange x0 s) := by
  unfold execNetportLinkChange
  refine ok_keeps ?_
  refine ite_keeps ?_ ?_
  · exact h
  · apply State.netLink_keeps
    exact h

theorem State.flagDoorbell_keeps {q F s x1 x2 x3} (h : State.Keeps q F s) : State.Keeps q F (State.flagDoorbell s x1 x2 x3) := by
  unfold State.flagDoorbell
  refine foldl_keeps (fun t101 x102 h103 => ?_) ?_
  · extract_lets y104
    clear_value y104
    refine ite_keeps ?_ ?_
    · apply State.postWork_keeps
      exact h103
    · exact h103
  · exact h

theorem execFlagOperation_keeps {q F x0 x1 s} (h : State.Keeps q F s) : Out.Keeps q F (execFlagOperation x0 x1 s) := by
  unfold execFlagOperation
  refine ok_keeps ?_
  split
  next z101 z102 =>
    exact h
  next z103 z104 z105 =>
    refine ite_keeps ?_ ?_
    · exact h
    · extract_lets y106 y107 y108 y109 y110 y111 y112 y113
      clear_value y106
      clear_value y107
      clear_value y108
      have h114 : State.Keeps q F y109 := by
        apply State.setFlag_keeps
        refine State.Keeps.fields (s := s) ?_
        exact h
      clear_value y109
      clear_value y110
      have h115 : State.Keeps q F y111 := by
        refine foldl_keeps (fun t116 x117 h118 => ?_) ?_
        · apply State.sendWake_keeps
          exact h118
        · exact h114
      clear_value y111
      clear_value y112
      have h119 : State.Keeps q F y113 := by
        refine ite_keeps ?_ ?_
        · apply State.flagDoorbell_keeps
          exact h115
        · exact h115
      clear_value y113
      refine ite_keeps ?_ ?_
      · exact h114
      · apply State.openGates_keeps
        exact h119

end Sys2Proof.Machine
end

