-- ==== Sys2Proof/Laws/KeepsMatrix.lean ====
section
/-! SUPPORT. Every operation of Matrix.lean keeps what State.Keeps says. -/

set_option maxRecDepth 20000

namespace Sys2Proof.Machine

theorem execMma_keeps {q F x0 s} (h : State.Keeps q F s) : Out.Keeps q F (execMma x0 s) := by
  unfold execMma
  refine ok_keeps ?_
  apply State.issueOp_keeps
  · exact h
  · intro x101
    intro x102
    intro h103
    extract_lets y104 y105 y106
    clear_value y104
    clear_value y105
    clear_value y106
    refine ite_keeps ?_ ?_
    · exact h
    · apply State.checked_keeps
      · exact h103
      · intro x107
        intro h108
        extract_lets y109
        have h110 : State.Keeps q F y109 := by
          apply State.enqueue_keeps
          exact h108
        clear_value y109
        refine ite_keeps ?_ ?_
        · apply State.modCore_keeps
          exact h110
        · exact h110

theorem execMmaStep_keeps {q F x0 s} (h : State.Keeps q F s) : Out.Keeps q F (execMmaStep x0 s) := by
  unfold execMmaStep
  refine ok_keeps ?_
  apply State.actHead_keeps
  · exact h
  · intro x101
    intro x102
    intro x103
    intro h104
    extract_lets y105 y106
    clear_value y105
    clear_value y106
    refine ite_keeps ?_ ?_
    · exact h104
    · apply State.setEntry_keeps
      apply State.setCore_keeps
      exact h104

theorem execAccz_keeps {q F x0 x1 s} (h : State.Keeps q F s) : Out.Keeps q F (execAccz x0 x1 s) := by
  unfold execAccz
  refine ok_keeps ?_
  split
  next z101 =>
    apply State.issueOp_keeps
    · exact h
    · intro x102
      intro x103
      intro h104
      refine ite_keeps ?_ ?_
      · exact h
      · extract_lets y105
        clear_value y105
        apply State.checked_keeps
        · exact h104
        · intro x106
          intro h107
          apply State.modCore_keeps
          apply State.enqueue_keeps
          exact h107
  next z108 =>
    apply State.actHead_keeps
    · exact h
    · intro x109
      intro x110
      intro x111
      intro h112
      apply State.finishEntry_keeps
      apply State.modCore_keeps
      exact h112

theorem execAccld_keeps {q F x0 x1 s} (h : State.Keeps q F s) : Out.Keeps q F (execAccld x0 x1 s) := by
  unfold execAccld
  refine ok_keeps ?_
  extract_lets y101 y102
  clear_value y101
  clear_value y102
  split
  next z103 =>
    apply State.issueOp_keeps
    · exact h
    · intro x104
      intro x105
      intro h106
      refine ite_keeps ?_ ?_
      · exact h
      · extract_lets y107 y108 y109
        clear_value y107
        clear_value y108
        clear_value y109
        apply State.checked_keeps
        · exact h106
        · intro x110
          intro h111
          apply State.modCore_keeps
          apply State.enqueue_keeps
          exact h111
  next z112 =>
    apply State.actHead_keeps
    · exact h
    · intro x113
      intro x114
      intro x115
      intro h116
      extract_lets y117
      clear_value y117
      apply State.finishEntry_keeps
      apply State.modCore_keeps
      exact h116

theorem execAccst_keeps {q F x0 x1 s} (h : State.Keeps q F s) : Out.Keeps q F (execAccst x0 x1 s) := by
  unfold execAccst
  refine ok_keeps ?_
  split
  next z101 =>
    apply State.issueOp_keeps
    · exact h
    · intro x102
      intro x103
      intro h104
      extract_lets y105 y106 y107 y108
      clear_value y105
      clear_value y106
      clear_value y107
      clear_value y108
      refine ite_keeps ?_ ?_
      · exact h
      · apply State.checked_keeps
        · exact h104
        · intro x109
          intro h110
          apply State.enqueue_keeps
          exact h110
  next z111 =>
    apply State.actHead_keeps
    · exact h
    · intro x112
      intro x113
      intro x114
      intro h115
      extract_lets y116 y117 y118 y119 y120
      clear_value y116
      clear_value y117
      clear_value y118
      clear_value y119
      have h121 : State.Keeps q F y120 := by
        refine ite_keeps ?_ ?_
        · refine State.Keeps.fields (s := x114) ?_
          exact h115
        · exact h115
      clear_value y120
      apply State.finishEntry_keeps
      apply State.modCore_keeps
      exact h121

end Sys2Proof.Machine
end

