-- ==== Sys2Proof/Laws/KeepsPower.lean ====
section
/-! SUPPORT. Every operation of Power.lean keeps what State.Keeps says. -/

set_option maxRecDepth 20000

namespace Sys2Proof.Machine

theorem State.floorEnter_keeps {q F s} (h : State.Keeps q F s) : State.Keeps q F (State.floorEnter s) := by
  unfold State.floorEnter
  refine ite_keeps ?_ ?_
  · extract_lets y101 y102
    clear_value y101
    have h103 : State.Keeps q F y102 := by
      refine State.Keeps.fields (s := s) ?_
      exact h
    clear_value y102
    refine foldl_keeps (fun t104 x105 h106 => ?_) ?_
    · apply State.modPdie_keeps
      exact h106
    · exact h103
  · exact h

theorem State.eventAll_keeps {q F s x1 x2} (h : State.Keeps q F s) : State.Keeps q F (State.eventAll s x1 x2) := by
  unfold State.eventAll
  refine ite_keeps ?_ ?_
  · refine foldl_keeps (fun t101 x102 h103 => ?_) ?_
    · apply State.event_keeps
      exact h103
    · exact h
  · exact h

theorem State.takeReport_keeps {q F s x1 x2} (h : State.Keeps q F s) : State.Keeps q F (State.takeReport s x1 x2) := by
  unfold State.takeReport
  split
  next z101 =>
    apply State.modPdie_keeps
    apply State.bump_keeps
    exact h
  next z102 z103 =>
    apply State.modPdie_keeps
    exact h

theorem execReport_keeps {q F x0 x1 s} (h : State.Keeps q F s) : Out.Keeps q F (execReport x0 x1 s) := by
  unfold execReport
  refine ok_keeps ?_
  refine ite_keeps ?_ ?_
  · exact h
  · apply State.takeReport_keeps
    apply State.modPdie_keeps
    exact h

theorem execBudgetExchange_keeps {q F x0 x1 s} (h : State.Keeps q F s) : Out.Keeps q F (execBudgetExchange x0 x1 s) := by
  unfold execBudgetExchange
  refine ok_keeps ?_
  refine ite_keeps ?_ ?_
  · exact h
  · extract_lets y101 y102 y103 y104 y105 y106
    clear_value y101
    clear_value y102
    have h107 : State.Keeps q F y103 := by
      apply State.bumpFld_keeps
      exact h
    clear_value y103
    have h108 : State.Keeps q F y104 := by
      apply State.setReg_keeps
      exact h107
    clear_value y104
    clear_value y105
    have h109 : State.Keeps q F y106 := by
      refine State.Keeps.fields (s := y104) ?_
      exact h108
    clear_value y106
    split
    next z110 z111 z112 z113 =>
      extract_lets y114 y115 y116 y117 y118 y119 y120 y121 y122 y123
      have h124 : State.Keeps q F y114 := by
        refine ite_keeps ?_ ?_
        · apply State.setRegBit_keeps
          exact h109
        · exact h109
      clear_value y114
      clear_value y115
      clear_value y116
      clear_value y117
      clear_value y118
      clear_value y119
      clear_value y120
      clear_value y121
      clear_value y122
      have h125 : State.Keeps q F y123 := by
        refine State.Keeps.fields (s := y114) ?_
        exact h124
      clear_value y123
      refine foldl_keeps (fun t126 x127 h128 => ?_) ?_
      · apply State.modPdie_keeps
        exact h128
      · exact h125

theorem State.setSluice_keeps {q F s x1} (h : State.Keeps q F s) : State.Keeps q F (State.setSluice s x1) := by
  unfold State.setSluice
  refine foldl_keeps (fun t101 x102 h103 => ?_) ?_
  · extract_lets y104
    clear_value y104
    apply State.modCore_keeps
    exact h103
  · exact h

theorem State.takeGrant_keeps {q F s x1 x2} (h : State.Keeps q F s) : State.Keeps q F (State.takeGrant s x1 x2) := by
  unfold State.takeGrant
  split
  next z101 =>
    apply State.bump_keeps
    exact h
  next z102 z103 =>
    extract_lets y104
    have h105 : State.Keeps q F y104 := by
      apply State.modPdie_keeps
      exact h
    clear_value y104
    refine ite_keeps ?_ ?_
    · apply State.setSluice_keeps
      exact h105
    · exact h105

theorem execGrant_keeps {q F x0 x1 s} (h : State.Keeps q F s) : Out.Keeps q F (execGrant x0 x1 s) := by
  unfold execGrant
  refine ok_keeps ?_
  split
  next z101 z102 =>
    exact h
  next z103 z104 z105 z106 =>
    apply State.takeGrant_keeps
    apply State.modPdie_keeps
    exact h

theorem execGrantTimeout_keeps {q F x0 s} (h : State.Keeps q F s) : Out.Keeps q F (execGrantTimeout x0 s) := by
  unfold execGrantTimeout
  refine ok_keeps ?_
  refine ite_keeps ?_ ?_
  · apply State.modPdie_keeps
    exact h
  · exact h

theorem State.junction_keeps {q F s x1 x2} (h : State.Keeps q F s) : State.Keeps q F (State.junction s x1 x2) := by
  unfold State.junction
  extract_lets y101 y102 y103
  clear_value y101
  have h104 : State.Keeps q F y102 := by
    apply State.modPdie_keeps
    exact h
  clear_value y102
  have h105 : State.Keeps q F y103 := by
    apply State.modPdie_keeps
    exact h104
  clear_value y103
  refine ite_keeps ?_ ?_
  · apply State.floorEnter_keeps
    apply State.eventAll_keeps
    apply State.vecPf_keeps
    apply State.record_keeps
    exact h105
  · refine ite_keeps ?_ ?_
    · apply State.eventAll_keeps
      apply State.modPdie_keeps
      exact h104
    · exact h104

theorem State.trip_keeps {q F s x1} (h : State.Keeps q F s) : State.Keeps q F (State.trip s x1) := by
  unfold State.trip
  extract_lets y101 y102 y103
  have h104 : State.Keeps q F y101 := by
    apply State.discard_keeps
    apply State.fatalRecord_keeps
    exact h
  clear_value y101
  clear_value y102
  clear_value y103
  refine State.Keeps.fields (s := y101) ?_
  exact h104

theorem execSluiceLoop_keeps {q F x0 x1 x2 s} (h : State.Keeps q F s) : Out.Keeps q F (execSluiceLoop x0 x1 x2 s) := by
  unfold execSluiceLoop
  refine ok_keeps ?_
  refine ite_keeps ?_ ?_
  · exact h
  · extract_lets y101 y102
    clear_value y101
    have h103 : State.Keeps q F y102 := by
      apply State.junction_keeps
      exact h
    clear_value y102
    refine ite_keeps ?_ ?_
    · apply State.trip_keeps
      exact h103
    · refine ite_keeps ?_ ?_
      · split
        next z104 z105 z106 z107 =>
          extract_lets y108 y109
          clear_value y108
          have h110 : State.Keeps q F y109 := by
            apply State.modPdie_keeps
            refine snd_of_eq z107 ?_
            apply State.draw_keeps
            exact h103
          clear_value y109
          apply State.modPdie_keeps
          apply State.setSluice_keeps
          exact h110
      · refine ite_keeps ?_ ?_
        · refine foldl_keeps (fun t111 x112 h113 => ?_) ?_
          · apply State.modPdie_keeps
            exact h113
          · exact h103
        · exact h103

theorem execCapUnmet_keeps {q F s} (h : State.Keeps q F s) : Out.Keeps q F (execCapUnmet s) := by
  unfold execCapUnmet
  refine ok_keeps ?_
  split
  next z101 z102 z103 =>
    refine ite_keeps ?_ ?_
    · apply State.vecPf_keeps
      apply State.setRegBit_keeps
      refine State.Keeps.fields (s := s) ?_
      exact h
    · exact h
  next z104 z105 =>
    exact h

theorem State.writePowerCtrl_keeps {q F s x1} (h : State.Keeps q F s) : State.Keeps q F (State.writePowerCtrl s x1) := by
  unfold State.writePowerCtrl
  apply State.floorEnter_keeps
  apply State.setRegBit_keeps
  exact h

theorem execForceFloor_keeps {q F x0 s} (h : State.Keeps q F s) : Out.Keeps q F (execForceFloor x0 s) := by
  unfold execForceFloor
  refine ok_keeps ?_
  refine ite_keeps ?_ ?_
  · apply State.writePowerCtrl_keeps
    exact h
  · exact h

theorem execDroop_keeps {q F x0 x1 s} (h : State.Keeps q F s) : Out.Keeps q F (execDroop x0 x1 s) := by
  unfold execDroop
  refine ok_keeps ?_
  refine ite_keeps ?_ ?_
  · exact h
  · extract_lets y101
    have h102 : State.Keeps q F y101 := by
      refine ite_keeps ?_ ?_
      · exact h
      · apply State.bump_keeps
        exact h
    clear_value y101
    apply State.setSluice_keeps
    apply State.modPdie_keeps
    exact h102

theorem execStretchEnd_keeps {q F x0 s} (h : State.Keeps q F s) : Out.Keeps q F (execStretchEnd x0 s) := by
  unfold execStretchEnd
  refine ok_keeps ?_
  apply State.modPdie_keeps
  exact h

theorem execStretchLimit_keeps {q F x0 s} (h : State.Keeps q F s) : Out.Keeps q F (execStretchLimit x0 s) := by
  unfold execStretchLimit
  refine ok_keeps ?_
  refine ite_keeps ?_ ?_
  · apply State.fatal_keeps
    exact h
  · exact h

theorem State.lowerTrim_keeps {q F s x1 x2} (h : State.Keeps q F s) : State.Keeps q F (State.lowerTrim s x1 x2) := by
  unfold State.lowerTrim
  refine ite_keeps ?_ ?_
  · extract_lets y101 y102
    have h103 : State.Keeps q F y101 := by
      apply State.modPdie_keeps
      exact h
    clear_value y101
    clear_value y102
    refine State.Keeps.fields (s := y101) ?_
    exact h103
  · exact h

theorem execAgeingTrim_keeps {q F x0 s} (h : State.Keeps q F s) : Out.Keeps q F (execAgeingTrim x0 s) := by
  unfold execAgeingTrim
  refine ok_keeps ?_
  refine ite_keeps ?_ ?_
  · exact h
  · refine foldl_keeps (fun t101 x102 h103 => ?_) ?_
    · apply State.lowerTrim_keeps
      exact h103
    · refine State.Keeps.fields (s := s) ?_
      exact h

theorem execThermalTrip_keeps {q F x0 x1 s} (h : State.Keeps q F s) : Out.Keeps q F (execThermalTrip x0 x1 s) := by
  unfold execThermalTrip
  refine ok_keeps ?_
  refine ite_keeps ?_ ?_
  · exact h
  · apply State.trip_keeps
    exact h

theorem execSupplyWarn_keeps {q F x0 s} (h : State.Keeps q F s) : Out.Keeps q F (execSupplyWarn x0 s) := by
  unfold execSupplyWarn
  refine ok_keeps ?_
  refine ite_keeps ?_ ?_
  · exact h
  · extract_lets y101 y102
    clear_value y101
    have h103 : State.Keeps q F y102 := by
      refine State.Keeps.fields (s := s) ?_
      exact h
    clear_value y102
    apply State.eventAll_keeps
    apply State.vecPf_keeps
    apply State.floorEnter_keeps
    apply State.bump_keeps
    exact h103

theorem execSupplyOk_keeps {q F x0 s} (h : State.Keeps q F s) : Out.Keeps q F (execSupplyOk x0 s) := by
  unfold execSupplyOk
  refine ok_keeps ?_
  refine ite_keeps ?_ ?_
  · apply State.eventAll_keeps
    refine State.Keeps.fields (s := s) ?_
    exact h
  · exact h

theorem execSupplyReset_keeps {q F x0 s} (h : State.Keeps q F s) : Out.Keeps q F (execSupplyReset x0 s) := by
  unfold execSupplyReset
  refine ok_keeps ?_
  refine ite_keeps ?_ ?_
  · exact h
  · extract_lets y101 y102 y103 y104 y105
    clear_value y101
    clear_value y102
    have h106 : State.Keeps q F y103 := by
      refine State.Keeps.fields (s := s) ?_
      exact h
    clear_value y103
    have h107 : State.Keeps q F y104 := by
      apply State.moduleReset_keeps
      exact h106
    clear_value y104
    clear_value y105
    refine ite_keeps ?_ ?_
    · refine State.Keeps.fields (s := y104) ?_
      exact h107
    · exact h107

theorem State.throttleEvents_keeps {q F s} (h : State.Keeps q F s) : State.Keeps q F (State.throttleEvents s) := by
  unfold State.throttleEvents
  apply State.eventAll_keeps
  apply State.vecPf_keeps
  exact h

theorem execThrottle_keeps {q F s} (h : State.Keeps q F s) : Out.Keeps q F (execThrottle s) := by
  unfold execThrottle
  refine ok_keeps ?_
  refine ite_keeps ?_ ?_
  · exact h
  · extract_lets y101 y102 y103
    clear_value y101
    clear_value y102
    have h104 : State.Keeps q F y103 := by
      refine State.Keeps.fields (s := s) ?_
      exact h
    clear_value y103
    apply State.throttleEvents_keeps
    apply State.floorEnter_keeps
    apply State.bump_keeps
    exact h104

theorem execThrottleRelease_keeps {q F s} (h : State.Keeps q F s) : Out.Keeps q F (execThrottleRelease s) := by
  unfold execThrottleRelease
  refine ok_keeps ?_
  refine ite_keeps ?_ ?_
  · refine State.Keeps.fields (s := s) ?_
    exact h
  · exact h

theorem execThrottleRepeat_keeps {q F s} (h : State.Keeps q F s) : Out.Keeps q F (execThrottleRepeat s) := by
  unfold execThrottleRepeat
  refine ok_keeps ?_
  refine ite_keeps ?_ ?_
  · apply State.throttleEvents_keeps
    refine State.Keeps.fields (s := s) ?_
    exact h
  · exact h

end Sys2Proof.Machine
end

