-- ==== Sys2Proof/Laws/KeepsPeat.lean ====
section
/-! SUPPORT. Every operation of Peat.lean keeps what State.Keeps says. -/

set_option maxRecDepth 20000

namespace Sys2Proof.Machine

theorem State.readConfig_keeps {q F s} (h : State.Keeps q F s) : State.Keeps q F (State.readConfig s) := by
  unfold State.readConfig
  extract_lets y101 y102 y103 y104 y105 y106 y107 y108 y109 y110 y111 y112
  clear_value y101
  clear_value y102
  clear_value y103
  clear_value y104
  clear_value y105
  clear_value y106
  clear_value y107
  clear_value y108
  have h113 : State.Keeps q F y109 := by
    refine State.Keeps.fields (s := s) ?_
    exact h
  clear_value y109
  have h114 : State.Keeps q F y110 := by
    apply State.setReg_keeps
    exact h113
  clear_value y110
  clear_value y111
  have h115 : State.Keeps q F y112 := by
    refine foldl_keeps (fun t116 x117 h118 => ?_) ?_
    · apply State.record_keeps
      exact h118
    · exact h114
  clear_value y112
  split
  next z119 z120 =>
    exact h115
  next z121 =>
    apply State.record_keeps
    exact h115

theorem State.applyConfig_keeps {q F s} (h : State.Keeps q F s) : State.Keeps q F (State.applyConfig s) := by
  unfold State.applyConfig
  extract_lets y101 y102 y103 y104 y105
  have h106 : State.Keeps q F y101 := by
    apply State.setRegFld_keeps
    exact h
  clear_value y101
  have h107 : State.Keeps q F y102 := by
    apply State.setRegFld_keeps
    exact h106
  clear_value y102
  have h108 : State.Keeps q F y103 := by
    apply State.setRegFld_keeps
    exact h107
  clear_value y103
  have h109 : State.Keeps q F y104 := by
    apply State.setReg64_keeps
    exact h108
  clear_value y104
  clear_value y105
  refine State.Keeps.fields (s := y104) ?_
  exact h109

theorem State.readCalibration_keeps {q F s} (h : State.Keeps q F s) : State.Keeps q F (State.readCalibration s) := by
  unfold State.readCalibration
  extract_lets y101 y102 y103 y104 y105 y106
  clear_value y101
  clear_value y102
  clear_value y103
  clear_value y104
  have h107 : State.Keeps q F y105 := by
    refine State.Keeps.fields (s := s) ?_
    exact h
  clear_value y105
  have h108 : State.Keeps q F y106 := by
    apply State.setReg_keeps
    exact h107
  clear_value y106
  refine ite_keeps ?_ ?_
  · apply State.record_keeps
    exact h108
  · exact h108

theorem State.startEntry_keeps {q F s} (h : State.Keeps q F s) : State.Keeps q F (State.startEntry s) := by
  unfold State.startEntry
  apply State.program_keeps
  exact h

theorem State.openJournal_keeps {q F s} (h : State.Keeps q F s) : State.Keeps q F (State.openJournal s) := by
  unfold State.openJournal
  split
  next z101 z102 z103 z104 =>
    extract_lets y105 y106
    have h107 : State.Keeps q F y105 := by
      apply State.setReg_keeps
      exact h
    clear_value y105
    clear_value y106
    apply State.startEntry_keeps
    refine State.Keeps.fields (s := y105) ?_
    exact h107

theorem State.programNext_keeps {q F s} (h : State.Keeps q F s) : State.Keeps q F (State.programNext s) := by
  unfold State.programNext
  split
  next z101 z102 z103 z104 z105 z106 =>
    apply State.program_keeps
    refine State.Keeps.fields (s := s) ?_
    exact h
  next z107 z108 z109 =>
    exact h

theorem execJournalEntry_keeps {q F s} (h : State.Keeps q F s) : Out.Keeps q F (execJournalEntry s) := by
  unfold execJournalEntry
  refine ok_keeps ?_
  refine ite_keeps ?_ ?_
  · apply State.programNext_keeps
    exact h
  · exact h

theorem execSuppressedEntry_keeps {q F s} (h : State.Keeps q F s) : Out.Keeps q F (execSuppressedEntry s) := by
  unfold execSuppressedEntry
  refine ok_keeps ?_
  refine ite_keeps ?_ ?_
  · extract_lets y101 y102 y103
    clear_value y101
    clear_value y102
    clear_value y103
    refine State.Keeps.fields (s := s) ?_
    exact h
  · exact h

theorem State.calibDone_keeps {q F s x1} (h : State.Keeps q F s) : State.Keeps q F (State.calibDone s x1) := by
  unfold State.calibDone
  apply State.setRegFld_keeps
  apply State.setRegFld_keeps
  refine State.Keeps.fields (s := s) ?_
  exact h

theorem State.fillCalibBuf_keeps {q F s x1} (h : State.Keeps q F s) : State.Keeps q F (State.fillCalibBuf s x1) := by
  unfold State.fillCalibBuf
  apply State.setRegs_keeps
  exact h

theorem State.calibStart_keeps {q F s x1 x2} (h : State.Keeps q F s) : State.Keeps q F (State.calibStart s x1 x2) := by
  unfold State.calibStart
  apply State.setRegBit_keeps
  refine State.Keeps.fields (s := s) ?_
  exact h

theorem State.writeRecord_keeps {q F s} (h : State.Keeps q F s) : State.Keeps q F (State.writeRecord s) := by
  unfold State.writeRecord
  extract_lets y101
  clear_value y101
  refine ite_keeps ?_ ?_
  · apply State.calibDone_keeps
    exact h
  · refine ite_keeps ?_ ?_
    · apply State.calibDone_keeps
      exact h
    · split
      next z102 z103 z104 z105 =>
        extract_lets y106
        clear_value y106
        apply State.calibStart_keeps
        exact h

theorem State.calibGo_keeps {q F s x1 x2} (h : State.Keeps q F s) : State.Keeps q F (State.calibGo s x1 x2) := by
  unfold State.calibGo
  refine ite_keeps ?_ ?_
  · exact h
  · extract_lets y101 y102 y103
    have h104 : State.Keeps q F y101 := by
      apply State.setRegFld_keeps
      exact h
    clear_value y101
    clear_value y102
    clear_value y103
    refine ite_keeps ?_ ?_
    · apply State.setRegBit_keeps
      exact h104
    · split
      next z105 =>
        apply State.calibDone_keeps
        apply State.fillCalibBuf_keeps
        exact h104
      next z106 =>
        apply State.writeRecord_keeps
        exact h104
      next z107 =>
        apply State.calibDone_keeps
        apply State.fillCalibBuf_keeps
        exact h104
      next z108 =>
        refine ite_keeps ?_ ?_
        · apply State.calibDone_keeps
          exact h104
        · refine ite_keeps ?_ ?_
          · apply State.calibDone_keeps
            exact h104
          · apply State.calibStart_keeps
            exact h104
      next z109 =>
        split
        next z110 z111 z112 =>
          apply State.calibDone_keeps
          apply State.fillCalibBuf_keeps
          exact h104
        next z113 z114 =>
          apply State.calibDone_keeps
          exact h104
      next z115 =>
        apply State.calibDone_keeps
        apply State.fillCalibBuf_keeps
        exact h104
      next z116 =>
        refine ite_keeps ?_ ?_
        · apply State.calibDone_keeps
          exact h104
        · apply State.calibStart_keeps
          exact h104
      next z117 z118 z119 z120 z121 z122 z123 z124 =>
        apply State.calibDone_keeps
        exact h104

theorem execReadRecord_keeps {q F s} (h : State.Keeps q F s) : Out.Keeps q F (execReadRecord s) := by
  unfold execReadRecord
  refine ok_keeps ?_
  apply State.calibGo_keeps
  exact h

theorem execWriteRecord_keeps {q F s} (h : State.Keeps q F s) : Out.Keeps q F (execWriteRecord s) := by
  unfold execWriteRecord
  refine ok_keeps ?_
  apply State.calibGo_keeps
  exact h

theorem execReadCal_keeps {q F s} (h : State.Keeps q F s) : Out.Keeps q F (execReadCal s) := by
  unfold execReadCal
  refine ok_keeps ?_
  apply State.calibGo_keeps
  exact h

theorem execWriteCal_keeps {q F x0 s} (h : State.Keeps q F s) : Out.Keeps q F (execWriteCal x0 s) := by
  unfold execWriteCal
  refine ok_keeps ?_
  apply State.calibGo_keeps
  exact h

theorem execReadJournal_keeps {q F s} (h : State.Keeps q F s) : Out.Keeps q F (execReadJournal s) := by
  unfold execReadJournal
  refine ok_keeps ?_
  apply State.calibGo_keeps
  exact h

theorem execReadActive_keeps {q F s} (h : State.Keeps q F s) : Out.Keeps q F (execReadActive s) := by
  unfold execReadActive
  refine ok_keeps ?_
  apply State.calibGo_keeps
  exact h

theorem execClearJournal_keeps {q F x0 s} (h : State.Keeps q F s) : Out.Keeps q F (execClearJournal x0 s) := by
  unfold execClearJournal
  refine ok_keeps ?_
  apply State.calibGo_keeps
  exact h

theorem State.clearJournal_keeps {q F s} (h : State.Keeps q F s) : State.Keeps q F (State.clearJournal s) := by
  unfold State.clearJournal
  apply State.startEntry_keeps
  refine State.Keeps.fields (s := s) ?_
  exact h

end Sys2Proof.Machine
end

