-- ==== Sys2Proof/Laws/KeepsClocks.lean ====
section
/-! SUPPORT. Every operation of Clocks.lean keeps what State.Keeps says. -/

set_option maxRecDepth 20000

namespace Sys2Proof.Machine

theorem State.trySets_keeps {q F x0 x1 s} (h : State.Keeps q F s) : FstKeeps q F (State.trySets x0 x1 s) := by
  induction x1 generalizing s with
  | nil => exact h
  | cons k ks ih =>
    unfold State.trySets
    refine fst_ite_keeps ?_ ?_
    · exact h.same rfl rfl rfl rfl
    · exact ih (h.same rfl rfl rfl rfl)

theorem State.selectSet_keeps {q F s x1} (h : State.Keeps q F s) : FstKeeps q F (State.selectSet s x1) := by
  unfold State.selectSet
  extract_lets y101 y102
  clear_value y101
  have h103 : State.Keeps q F y102 := by
    refine State.Keeps.fields (s := s) ?_
    exact h
  clear_value y102
  apply State.trySets_keeps
  exact h103

theorem State.endTrial_keeps {q F s x1 x2} (h : State.Keeps q F s) : State.Keeps q F (State.endTrial s x1 x2) := by
  unfold State.endTrial
  extract_lets y101 y102 y103 y104 y105 y106 y107 y108
  clear_value y101
  have h109 : State.Keeps q F y102 := by
    refine State.Keeps.fields (s := s) ?_
    exact h
  clear_value y102
  clear_value y103
  clear_value y104
  have h110 : State.Keeps q F y105 := by
    apply State.nextSeq_keeps
    apply State.bump_keeps
    exact h109
  clear_value y105
  have h111 : State.Keeps q F y106 := by
    apply State.program_keeps
    exact h110
  clear_value y106
  have h112 : State.Keeps q F y107 := by
    apply State.moduleReset_keeps
    apply State.stewardRestart_keeps
    exact h111
  clear_value y107
  clear_value y108
  refine ite_keeps ?_ ?_
  · refine State.Keeps.fields (s := y107) ?_
    exact h112
  · exact h112

theorem State.formPool_keeps {q F s x1} (h : State.Keeps q F s) : State.Keeps q F (State.formPool s x1) := by
  unfold State.formPool
  split
  next z101 z102 z103 z104 z105 =>
    split
    next z106 z107 z108 z109 =>
      extract_lets y110 y111 y112 y113
      clear_value y110
      clear_value y111
      clear_value y112
      have h114 : State.Keeps q F y113 := by
        refine State.Keeps.fields (s := s) ?_
        exact h
      clear_value y113
      refine foldl_keeps (fun t115 x116 h117 => ?_) ?_
      · apply State.record_keeps
        exact h117
      · exact h114

theorem State.enter_keeps {q F s x1} (h : State.Keeps q F s) : State.Keeps q F (State.enter s x1) := by
  unfold State.enter
  refine State.Keeps.fields (s := s) ?_
  exact h

theorem State.stepEnded_keeps {q F s x1} (h : State.Keeps q F s) : State.Keeps q F (State.stepEnded s x1) := by
  unfold State.stepEnded
  apply State.setReg_keeps
  refine State.Keeps.fields (s := s) ?_
  exact h

theorem State.bootSet_keeps {q F s x1} (h : State.Keeps q F s) : State.Keeps q F (State.bootSet s x1) := by
  unfold State.bootSet
  split
  next z101 z102 z103 z104 =>
    apply State.stepEnded_keeps
    refine fst_of_eq z104 ?_
    apply State.selectSet_keeps
    exact h
  next z105 z106 z107 =>
    apply State.enter_keeps
    refine fst_of_eq z107 ?_
    apply State.selectSet_keeps
    exact h

theorem State.loadFailed_keeps {q F s x1} (h : State.Keeps q F s) : State.Keeps q F (State.loadFailed s x1) := by
  unfold State.loadFailed
  refine ite_keeps ?_ ?_
  · extract_lets y101 y102
    have h103 : State.Keeps q F y101 := by
      apply State.endTrial_keeps
      exact h
    clear_value y101
    clear_value y102
    refine State.Keeps.fields (s := y101) ?_
    exact h103
  · exact h

theorem State.clocksUp_keeps {q F s x1} (h : State.Keeps q F s) : State.Keeps q F (State.clocksUp s x1) := by
  unfold State.clocksUp
  refine ite_keeps ?_ ?_
  · apply State.enter_keeps
    exact h
  · refine ite_keeps ?_ ?_
    · apply State.loadFailed_keeps
      exact h
    · extract_lets y101 y102 y103 y104 y105 y106
      clear_value y101
      have h107 : State.Keeps q F y102 := by
        apply State.stepEnded_keeps
        refine State.Keeps.fields (s := s) ?_
        exact h
      clear_value y102
      have h108 : State.Keeps q F y103 := by
        refine foldl_keeps (fun t109 x110 h111 => ?_) ?_
        · apply State.lowerTrim_keeps
          apply State.modPdie_keeps
          exact h111
        · exact h107
      clear_value y103
      clear_value y104
      have h112 : State.Keeps q F y105 := by
        refine State.Keeps.fields (s := y103) ?_
        exact h108
      clear_value y105
      have h113 : State.Keeps q F y106 := by
        refine ite_keeps ?_ ?_
        · exact h112
        · apply State.linkTrained_keeps
          exact h112
      clear_value y106
      apply State.floorEnter_keeps
      exact h113

theorem State.fabricUp_keeps {q F s x1} (h : State.Keeps q F s) : State.Keeps q F (State.fabricUp s x1) := by
  unfold State.fabricUp
  extract_lets y101 y102 y103 y104 y105 y106 y107 y108 y109 y110
  have h111 : State.Keeps q F y101 := by
    refine foldl_keeps (fun t112 x113 h114 => ?_) ?_
    · apply State.setReg_keeps
      exact h114
    · exact h
  clear_value y101
  clear_value y102
  have h115 : State.Keeps q F y103 := by
    refine foldl_keeps (fun t116 x117 h118 => ?_) ?_
    · apply State.record_keeps
      exact h118
    · exact h111
  clear_value y103
  clear_value y104
  clear_value y105
  clear_value y106
  clear_value y107
  have h119 : State.Keeps q F y108 := by
    apply State.setReg_keeps
    exact h115
  clear_value y108
  clear_value y109
  have h120 : State.Keeps q F y110 := by
    refine State.Keeps.fields (s := y108) ?_
    exact h119
  clear_value y110
  apply State.stepEnded_keeps
  apply State.setReg64_keeps
  exact h120

theorem State.retireAtStart_keeps {q F s x1 x2} (h : State.Keeps q F s) : State.Keeps q F (State.retireAtStart s x1 x2) := by
  unfold State.retireAtStart
  apply State.record_keeps
  apply State.setRegFld_keeps
  apply State.setRegFld_keeps
  exact h

theorem State.channelUp_keeps {q F s x1} (h : State.Keeps q F s) : State.Keeps q F (State.channelUp s x1) := by
  unfold State.channelUp
  extract_lets y101 y102 y103
  clear_value y101
  clear_value y102
  clear_value y103
  apply State.setRegFld_keeps
  apply State.modChan_keeps
  refine State.Keeps.fields (s := s) ?_
  exact h

theorem State.memoryUp_keeps {q F s x1} (h : State.Keeps q F s) : State.Keeps q F (State.memoryUp s x1) := by
  unfold State.memoryUp
  apply State.stepEnded_keeps
  refine foldl_keeps (fun t101 x102 h103 => ?_) ?_
  · refine ite_keeps ?_ ?_
    · exact h103
    · split
      next z104 z105 z106 =>
        apply State.retireAtStart_keeps
        exact h103
      next z107 z108 =>
        apply State.channelUp_keeps
        exact h103
  · exact h

theorem State.dropChannels_keeps {q F s x1} (h : State.Keeps q F s) : State.Keeps q F (State.dropChannels s x1) := by
  unfold State.dropChannels
  refine foldl_keeps (fun t101 x102 h103 => ?_) ?_
  · refine ite_keeps ?_ ?_
    · exact h103
    · refine ite_keeps ?_ ?_
      · apply State.setRegFld_keeps
        exact h103
      · apply State.retireAtStart_keeps
        exact h103
  · exact h

theorem State.setIdent_keeps {q F s x1} (h : State.Keeps q F s) : State.Keeps q F (State.setIdent s x1) := by
  unfold State.setIdent
  extract_lets y101 y102 y103 y104 y105
  clear_value y101
  clear_value y102
  have h106 : State.Keeps q F y103 := by
    refine foldl_keeps (fun t107 x108 h109 => ?_) ?_
    · apply State.setReg_keeps
      exact h109
    · exact h
  clear_value y103
  clear_value y104
  have h110 : State.Keeps q F y105 := by
    apply State.setReg_keeps
    exact h106
  clear_value y105
  apply State.setRegFld_keeps
  exact h110

theorem State.judge_keeps {q F s x1} (h : State.Keeps q F s) : State.Keeps q F (State.judge s x1) := by
  unfold State.judge
  refine ite_keeps ?_ ?_
  · apply State.loadFailed_keeps
    exact h
  · extract_lets y101 y102 y103 y104 y105 y106 y107 y108 y109 y110
    have h111 : State.Keeps q F y101 := by
      apply State.dropChannels_keeps
      exact h
    clear_value y101
    clear_value y102
    have h112 : State.Keeps q F y103 := by
      refine ite_keeps ?_ ?_
      · apply State.record_keeps
        apply State.setRegBit_keeps
        exact h111
      · exact h111
    clear_value y103
    clear_value y104
    have h113 : State.Keeps q F y105 := by
      refine State.Keeps.fields (s := y103) ?_
      exact h112
    clear_value y105
    have h114 : State.Keeps q F y106 := by
      apply State.setIdent_keeps
      apply State.formPool_keeps
      exact h113
    clear_value y106
    clear_value y107
    have h115 : State.Keeps q F y108 := by
      refine State.Keeps.fields (s := y106) ?_
      exact h114
    clear_value y108
    have h116 : State.Keeps q F y109 := by
      apply State.setRegFld_keeps
      exact h115
    clear_value y109
    have h117 : State.Keeps q F y110 := by
      apply State.setRegFld_keeps
      apply State.setRegFld_keeps
      exact h116
    clear_value y110
    refine ite_keeps ?_ ?_
    · apply State.enter_keeps
      apply State.stepEnded_keeps
      apply State.setRegBit_keeps
      exact h113
    · apply State.stepEnded_keeps
      exact h117

theorem State.fullService_keeps {q F s x1} (h : State.Keeps q F s) : State.Keeps q F (State.fullService s x1) := by
  unfold State.fullService
  extract_lets y101 y102 y103 y104 y105 y106
  clear_value y101
  clear_value y102
  have h107 : State.Keeps q F y103 := by
    refine State.Keeps.fields (s := s) ?_
    exact h
  clear_value y103
  have h108 : State.Keeps q F y104 := by
    refine ite_keeps ?_ ?_
    · refine ite_keeps ?_ ?_
      · apply State.netLink_keeps
        exact h107
      · exact h107
    · exact h
  clear_value y104
  have h109 : State.Keeps q F y105 := by
    apply State.setRegBit_keeps
    apply State.stepEnded_keeps
    exact h108
  clear_value y105
  clear_value y106
  apply State.enter_keeps
  refine State.Keeps.fields (s := y105) ?_
  exact h109

theorem State.startStep_keeps {q F x0 x1 s} (h : State.Keeps q F s) : State.Keeps q F (State.startStep x0 x1 s) := by
  unfold State.startStep
  refine ite_keeps ?_ ?_
  · exact h
  · split
    next z101 =>
      refine ite_keeps ?_ ?_
      · apply State.stepEnded_keeps
        exact h
      · apply State.enter_keeps
        exact h
    next z102 =>
      apply State.bootSet_keeps
      exact h
    next z103 =>
      refine ite_keeps ?_ ?_
      · exact h
      · extract_lets y104 y105
        clear_value y104
        have h106 : State.Keeps q F y105 := by
          refine State.Keeps.fields (s := s) ?_
          exact h
        clear_value y105
        apply State.stepEnded_keeps
        apply State.applyConfig_keeps
        apply State.readCalibration_keeps
        apply State.readConfig_keeps
        apply State.openJournal_keeps
        exact h106
    next z107 =>
      apply State.clocksUp_keeps
      exact h
    next z108 =>
      apply State.fabricUp_keeps
      exact h
    next z109 =>
      apply State.memoryUp_keeps
      exact h
    next z110 =>
      apply State.stepEnded_keeps
      exact h
    next z111 =>
      apply State.stepEnded_keeps
      exact h
    next z112 =>
      apply State.judge_keeps
      exact h
    next z113 =>
      apply State.fullService_keeps
      exact h
    next z114 z115 z116 z117 z118 z119 z120 z121 z122 z123 z124 =>
      exact h

theorem State.startTo_keeps {q F s x1 x2} (h : State.Keeps q F s) : State.Keeps q F (State.startTo s x1 x2) := by
  unfold State.startTo
  refine foldl_keeps (fun t101 x102 h103 => ?_) ?_
  · apply State.startStep_keeps
    exact h103
  · exact h

theorem State.beginStart_keeps {q F s x1} (h : State.Keeps q F s) : State.Keeps q F (State.beginStart s x1) := by
  unfold State.beginStart
  extract_lets y101 y102 y103 y104
  have h105 : State.Keeps q F y101 := by
    apply State.setReg64_keeps
    exact h
  clear_value y101
  have h106 : State.Keeps q F y102 := by
    apply State.setReg64_keeps
    exact h105
  clear_value y102
  have h107 : State.Keeps q F y103 := by
    refine foldl_keeps (fun t108 x109 h110 => ?_) ?_
    · apply State.setReg_keeps
      exact h110
    · exact h106
  clear_value y103
  clear_value y104
  refine State.Keeps.fields (s := y103) ?_
  exact h107

theorem State.startup_keeps {q F s x1} (h : State.Keeps q F s) : State.Keeps q F (State.startup s x1) := by
  unfold State.startup
  extract_lets y101 y102
  clear_value y101
  have h103 : State.Keeps q F y102 := by
    refine ite_keeps ?_ ?_
    · refine State.Keeps.fields (s := s) ?_
      exact h
    · apply State.beginStart_keeps
      exact h
  clear_value y102
  apply State.startTo_keeps
  exact h103

theorem execPowerLoss_keeps {q F s} (h : State.Keeps q F s) : Out.Keeps q F (execPowerLoss s) := by
  unfold execPowerLoss
  refine ok_keeps ?_
  refine ite_keeps ?_ ?_
  · exact h
  · extract_lets y101
    have h102 : State.Keeps q F y101 := by
      apply State.discard_keeps
      apply State.stewardRestart_keeps
      exact h
    clear_value y101
    refine State.Keeps.fields (s := y101) ?_
    exact h102

theorem execPerstNAssert_keeps {q F s} (h : State.Keeps q F s) : Out.Keeps q F (execPerstNAssert s) := by
  unfold execPerstNAssert
  refine ok_keeps ?_
  refine ite_keeps ?_ ?_
  · exact h
  · extract_lets y101 y102
    have h103 : State.Keeps q F y101 := by
      apply State.moduleReset_keeps
      exact h
    clear_value y101
    clear_value y102
    refine State.Keeps.fields (s := y101) ?_
    exact h103

theorem execPerstNRelease_keeps {q F x0 s} (h : State.Keeps q F s) : Out.Keeps q F (execPerstNRelease x0 s) := by
  unfold execPerstNRelease
  refine ok_keeps ?_
  refine ite_keeps ?_ ?_
  · exact h
  · apply State.startup_keeps
    refine State.Keeps.fields (s := s) ?_
    exact h

theorem execPerstNGlitch_keeps {q F s} (h : State.Keeps q F s) : Out.Keeps q F (execPerstNGlitch s) := by
  unfold execPerstNGlitch
  refine ok_keeps ?_
  refine ite_keeps ?_ ?_
  · apply State.bump_keeps
    exact h
  · exact h

theorem execCxlHotReset_keeps {q F s} (h : State.Keeps q F s) : Out.Keeps q F (execCxlHotReset s) := by
  unfold execCxlHotReset
  refine ok_keeps ?_
  refine ite_keeps ?_ ?_
  · exact h
  · extract_lets y101 y102
    have h103 : State.Keeps q F y101 := by
      apply State.moduleReset_keeps
      exact h
    clear_value y101
    clear_value y102
    refine State.Keeps.fields (s := y101) ?_
    exact h103

theorem execLinkResetStateExit_keeps {q F x0 s} (h : State.Keeps q F s) : Out.Keeps q F (execLinkResetStateExit x0 s) := by
  unfold execLinkResetStateExit
  refine ok_keeps ?_
  refine ite_keeps ?_ ?_
  · exact h
  · apply State.startup_keeps
    refine State.Keeps.fields (s := s) ?_
    exact h

theorem execSupplyResetEnd_keeps {q F x0 s} (h : State.Keeps q F s) : Out.Keeps q F (execSupplyResetEnd x0 s) := by
  unfold execSupplyResetEnd
  refine ok_keeps ?_
  refine ite_keeps ?_ ?_
  · exact h
  · apply State.startup_keeps
    refine State.Keeps.fields (s := s) ?_
    exact h

theorem State.stewardReset_keeps {q F s x1} (h : State.Keeps q F s) : State.Keeps q F (State.stewardReset s x1) := by
  unfold State.stewardReset
  apply State.moduleReset_keeps
  apply State.stewardRestart_keeps
  exact h

theorem execModuleReset_keeps {q F x0 s} (h : State.Keeps q F s) : Out.Keeps q F (execModuleReset x0 s) := by
  unfold execModuleReset
  refine ok_keeps ?_
  refine ite_keeps ?_ ?_
  · apply State.startup_keeps
    apply State.stewardReset_keeps
    exact h
  · exact h

theorem execFirmwareWatchdog_keeps {q F x0 s} (h : State.Keeps q F s) : Out.Keeps q F (execFirmwareWatchdog x0 s) := by
  unfold execFirmwareWatchdog
  refine ok_keeps ?_
  refine ite_keeps ?_ ?_
  · exact h
  · extract_lets y101 y102
    have h103 : State.Keeps q F y101 := by
      apply State.stewardReset_keeps
      exact h
    clear_value y101
    clear_value y102
    apply State.startup_keeps
    refine State.Keeps.fields (s := y101) ?_
    exact h103

theorem State.assignBus_keeps {q F s x1} (h : State.Keeps q F s) : State.Keeps q F (State.assignBus s x1) := by
  unfold State.assignBus
  refine ite_keeps ?_ ?_
  · exact h
  · refine State.Keeps.fields (s := s) ?_
    exact h

theorem execConfigurationRequest_keeps {q F x0 s} (h : State.Keeps q F s) : Out.Keeps q F (execConfigurationRequest x0 s) := by
  unfold execConfigurationRequest
  refine ok_keeps ?_
  split
  next z101 z102 z103 z104 z105 =>
    extract_lets y106 y107
    have h108 : State.Keeps q F y106 := by
      apply State.assignBus_keeps
      exact h
    clear_value y106
    have h109 : State.Keeps q F y107 := by
      refine ite_keeps ?_ ?_
      · exact h108
      · apply State.beginStart_keeps
        exact h108
    clear_value y107
    apply State.startTo_keeps
    exact h109
  next z110 z111 z112 =>
    exact h

theorem State.stopForDown_keeps {q F s x1} (h : State.Keeps q F s) : State.Keeps q F (State.stopForDown s x1) := by
  unfold State.stopForDown
  apply State.modVd_keeps
  apply State.cancelStreams_keeps
  apply State.stopCores_keeps
  exact h

theorem State.downDrain_keeps {q F s} (h : State.Keeps q F s) : State.Keeps q F (State.downDrain s) := by
  unfold State.downDrain
  refine foldl_keeps (fun t101 x102 h103 => ?_) ?_
  · apply State.leaveDie_keeps
    refine foldl_keeps (fun t104 x105 h106 => ?_) ?_
    · apply State.sendEntry_keeps
      exact h106
    · exact h103
  · exact h

theorem State.powerDown_keeps {q F s} (h : State.Keeps q F s) : State.Keeps q F (State.powerDown s) := by
  unfold State.powerDown
  refine ite_keeps ?_ ?_
  · exact h
  · extract_lets y101 y102
    clear_value y101
    have h103 : State.Keeps q F y102 := by
      refine State.Keeps.fields (s := s) ?_
      exact h
    clear_value y102
    refine foldl_keeps (fun t104 x105 h106 => ?_) ?_
    · apply State.stopForDown_keeps
      exact h106
    · exact h103

theorem execPowerDown_keeps {q F s} (h : State.Keeps q F s) : Out.Keeps q F (execPowerDown s) := by
  unfold execPowerDown
  refine ok_keeps ?_
  apply State.powerDown_keeps
  exact h

theorem execOffReady_keeps {q F s} (h : State.Keeps q F s) : Out.Keeps q F (execOffReady s) := by
  unfold execOffReady
  refine ok_keeps ?_
  refine ite_keeps ?_ ?_
  · exact h
  · refine ite_keeps ?_ ?_
    · refine State.Keeps.fields (s := s) ?_
      exact h
    · apply State.downDrain_keeps
      exact h

theorem execCrystalFailure_keeps {q F s} (h : State.Keeps q F s) : Out.Keeps q F (execCrystalFailure s) := by
  unfold execCrystalFailure
  refine ok_keeps ?_
  refine ite_keeps ?_ ?_
  · exact h
  · extract_lets y101 y102
    clear_value y101
    have h103 : State.Keeps q F y102 := by
      refine State.Keeps.fields (s := s) ?_
      exact h
    clear_value y102
    refine ite_keeps ?_ ?_
    · exact h103
    · refine ite_keeps ?_ ?_
      · apply State.enter_keeps
        exact h103
      · apply State.fatal_keeps
        exact h103

theorem execPllLockLoss_keeps {q F s} (h : State.Keeps q F s) : Out.Keeps q F (execPllLockLoss s) := by
  unfold execPllLockLoss
  refine ok_keeps ?_
  refine ite_keeps ?_ ?_
  · exact h
  · extract_lets y101 y102
    clear_value y101
    have h103 : State.Keeps q F y102 := by
      refine State.Keeps.fields (s := s) ?_
      exact h
    clear_value y102
    refine ite_keeps ?_ ?_
    · exact h103
    · apply State.fatal_keeps
      exact h103

end Sys2Proof.Machine
end

