-- ==== Sys2Proof/Laws/KeepsFirmware.lean ====
section
/-! SUPPORT. Every operation of Firmware.lean keeps what State.Keeps says. -/

set_option maxRecDepth 20000

namespace Sys2Proof.Machine

theorem State.answer_keeps {q F s x1} (h : State.Keeps q F s) : State.Keeps q F (State.answer s x1) := by
  unfold State.answer
  refine State.Keeps.fields (s := s) ?_
  exact h

theorem State.askChunk_keeps {q F s} (h : State.Keeps q F s) : State.Keeps q F (State.askChunk s) := by
  unfold State.askChunk
  refine ite_keeps ?_ ?_
  · exact h
  · apply State.answer_keeps
    refine State.Keeps.fields (s := s) ?_
    exact h

theorem State.fwCause_keeps {q F s x1} (h : State.Keeps q F s) : State.Keeps q F (State.fwCause s x1) := by
  unfold State.fwCause
  apply State.setReg_keeps
  apply State.setRegBit_keeps
  exact h

theorem State.updateFail_keeps {q F s x1} (h : State.Keeps q F s) : State.Keeps q F (State.updateFail s x1) := by
  unfold State.updateFail
  extract_lets y101 y102 y103
  clear_value y101
  clear_value y102
  have h104 : State.Keeps q F y103 := by
    refine State.Keeps.fields (s := s) ?_
    exact h
  clear_value y103
  apply State.answer_keeps
  apply State.fwCause_keeps
  exact h104

theorem execQueryDeviceIdentifiers_keeps {q F x0 s} (h : State.Keeps q F s) : Out.Keeps q F (execQueryDeviceIdentifiers x0 s) := by
  unfold execQueryDeviceIdentifiers
  refine ok_keeps ?_
  refine ite_keeps ?_ ?_
  · apply State.answer_keeps
    exact h
  · exact h

theorem execGetFirmwareParameters_keeps {q F x0 s} (h : State.Keeps q F s) : Out.Keeps q F (execGetFirmwareParameters x0 s) := by
  unfold execGetFirmwareParameters
  refine ok_keeps ?_
  refine ite_keeps ?_ ?_
  · apply State.answer_keeps
    exact h
  · exact h

theorem execRequestUpdate_keeps {q F x0 x1 x2 s} (h : State.Keeps q F s) : Out.Keeps q F (execRequestUpdate x0 x1 x2 s) := by
  unfold execRequestUpdate
  refine ok_keeps ?_
  refine ite_keeps ?_ ?_
  · exact h
  · refine ite_keeps ?_ ?_
    · apply State.answer_keeps
      exact h
    · refine ite_keeps ?_ ?_
      · apply State.answer_keeps
        apply State.fwCause_keeps
        exact h
      · extract_lets y101 y102
        clear_value y101
        have h103 : State.Keeps q F y102 := by
          refine State.Keeps.fields (s := s) ?_
          exact h
        clear_value y102
        apply State.answer_keeps
        apply State.setRegFld_keeps
        exact h103

theorem execPassComponentTable_keeps {q F x0 x1 s} (h : State.Keeps q F s) : Out.Keeps q F (execPassComponentTable x0 x1 s) := by
  unfold execPassComponentTable
  refine ok_keeps ?_
  refine ite_keeps ?_ ?_
  · exact h
  · refine ite_keeps ?_ ?_
    · apply State.answer_keeps
      refine State.Keeps.fields (s := s) ?_
      exact h
    · apply State.answer_keeps
      exact h

theorem execUpdateComponent_keeps {q F x0 x1 x2 s} (h : State.Keeps q F s) : Out.Keeps q F (execUpdateComponent x0 x1 x2 s) := by
  unfold execUpdateComponent
  refine ok_keeps ?_
  refine ite_keeps ?_ ?_
  · exact h
  · extract_lets y101 y102 y103 y104
    clear_value y101
    clear_value y102
    clear_value y103
    have h105 : State.Keeps q F y104 := by
      refine State.Keeps.fields (s := s) ?_
      exact h
    clear_value y104
    split
    next z106 z107 z108 =>
      apply State.updateFail_keeps
      exact h
    next z109 z110 =>
      apply State.answer_keeps
      exact h105

theorem execFirmwareData_keeps {q F x0 x1 x2 s} (h : State.Keeps q F s) : Out.Keeps q F (execFirmwareData x0 x1 x2 s) := by
  unfold execFirmwareData
  refine ok_keeps ?_
  extract_lets y101 y102 y103 y104
  clear_value y101
  have h105 : State.Keeps q F y102 := by
    refine State.Keeps.fields (s := s) ?_
    exact h
  clear_value y102
  clear_value y103
  clear_value y104
  split
  next z106 z107 z108 z109 =>
    refine ite_keeps ?_ ?_
    · exact h
    · extract_lets y110
      clear_value y110
      refine ite_keeps ?_ ?_
      · apply State.askChunk_keeps
        refine State.Keeps.fields (s := s) ?_
        exact h
      · refine ite_keeps ?_ ?_
        · refine State.Keeps.fields (s := y102) ?_
          exact h105
        · refine ite_keeps ?_ ?_
          · apply State.askChunk_keeps
            refine State.Keeps.fields (s := y102) ?_
            exact h105
          · apply State.updateFail_keeps
            exact h105

theorem execUpdateTimeout_keeps {q F s} (h : State.Keeps q F s) : Out.Keeps q F (execUpdateTimeout s) := by
  unfold execUpdateTimeout
  refine ok_keeps ?_
  refine ite_keeps ?_ ?_
  · apply State.updateFail_keeps
    exact h
  · exact h

theorem execTransferComplete_keeps {q F x0 x1 s} (h : State.Keeps q F s) : Out.Keeps q F (execTransferComplete x0 x1 s) := by
  unfold execTransferComplete
  refine ok_keeps ?_
  refine ite_keeps ?_ ?_
  · exact h
  · refine ite_keeps ?_ ?_
    · apply State.answer_keeps
      refine State.Keeps.fields (s := s) ?_
      exact h
    · apply State.updateFail_keeps
      exact h

theorem execVerifyComplete_keeps {q F x0 s} (h : State.Keeps q F s) : Out.Keeps q F (execVerifyComplete x0 s) := by
  unfold execVerifyComplete
  refine ok_keeps ?_
  refine ite_keeps ?_ ?_
  · exact h
  · extract_lets y101 y102 y103
    clear_value y101
    clear_value y102
    have h104 : State.Keeps q F y103 := by
      refine State.Keeps.fields (s := s) ?_
      exact h
    clear_value y103
    apply State.answer_keeps
    exact h104

theorem State.stageSet_keeps {q F s} (h : State.Keeps q F s) : State.Keeps q F (State.stageSet s) := by
  unfold State.stageSet
  extract_lets y101 y102 y103 y104
  clear_value y101
  clear_value y102
  clear_value y103
  have h105 : State.Keeps q F y104 := by
    refine State.Keeps.fields (s := s) ?_
    exact h
  clear_value y104
  apply State.answer_keeps
  apply State.setRegBit_keeps
  exact h105

theorem execApplyComplete_keeps {q F x0 s} (h : State.Keeps q F s) : Out.Keeps q F (execApplyComplete x0 s) := by
  unfold execApplyComplete
  refine ok_keeps ?_
  refine ite_keeps ?_ ?_
  · apply State.stageSet_keeps
    exact h
  · exact h

theorem execActivateFirmware_keeps {q F x0 s} (h : State.Keeps q F s) : Out.Keeps q F (execActivateFirmware x0 s) := by
  unfold execActivateFirmware
  refine ok_keeps ?_
  refine ite_keeps ?_ ?_
  · apply State.answer_keeps
    refine State.Keeps.fields (s := s) ?_
    exact h
  · exact h

theorem execGetStatus_keeps {q F x0 s} (h : State.Keeps q F s) : Out.Keeps q F (execGetStatus x0 s) := by
  unfold execGetStatus
  refine ok_keeps ?_
  refine ite_keeps ?_ ?_
  · apply State.answer_keeps
    exact h
  · exact h

theorem execCancelUpdateComponent_keeps {q F x0 s} (h : State.Keeps q F s) : Out.Keeps q F (execCancelUpdateComponent x0 s) := by
  unfold execCancelUpdateComponent
  refine ok_keeps ?_
  refine ite_keeps ?_ ?_
  · extract_lets y101 y102
    have h103 : State.Keeps q F y101 := by
      apply State.updateFail_keeps
      exact h
    clear_value y101
    clear_value y102
    apply State.answer_keeps
    refine State.Keeps.fields (s := y101) ?_
    exact h103
  · exact h

theorem State.cancelUpdate_keeps {q F s} (h : State.Keeps q F s) : State.Keeps q F (State.cancelUpdate s) := by
  unfold State.cancelUpdate
  refine ite_keeps ?_ ?_
  · exact h
  · refine ite_keeps ?_ ?_
    · refine State.Keeps.fields (s := s) ?_
      exact h
    · apply State.updateFail_keeps
      exact h

theorem execCancelUpdate_keeps {q F x0 s} (h : State.Keeps q F s) : Out.Keeps q F (execCancelUpdate x0 s) := by
  unfold execCancelUpdate
  refine ok_keeps ?_
  refine ite_keeps ?_ ?_
  · apply State.answer_keeps
    apply State.cancelUpdate_keeps
    exact h
  · exact h

theorem execRecoveryUpdateReset_keeps {q F x0 s} (h : State.Keeps q F s) : Out.Keeps q F (execRecoveryUpdateReset x0 s) := by
  unfold execRecoveryUpdateReset
  refine ok_keeps ?_
  refine ite_keeps ?_ ?_
  · apply State.startup_keeps
    apply State.stewardReset_keeps
    exact h
  · exact h

theorem State.blockDone_keeps {q F s x1 x2} (h : State.Keeps q F s) : State.Keeps q F (State.blockDone s x1 x2) := by
  unfold State.blockDone
  extract_lets y101 y102 y103
  clear_value y101
  clear_value y102
  have h104 : State.Keeps q F y103 := by
    refine State.Keeps.fields (s := s) ?_
    exact h
  clear_value y103
  apply State.askChunk_keeps
  apply State.bumpFld_keeps
  exact h104

theorem State.flashDone_keeps {q F s x1} (h : State.Keeps q F s) : State.Keeps q F (State.flashDone s x1) := by
  unfold State.flashDone
  split
  next z101 =>
    apply State.askChunk_keeps
    refine State.Keeps.fields (s := s) ?_
    exact h
  next z102 z103 z104 =>
    apply State.blockDone_keeps
    exact h
  next z105 =>
    apply State.stageSet_keeps
    exact h
  next z106 z107 z108 =>
    refine State.Keeps.fields (s := s) ?_
    exact h
  next z109 z110 z111 =>
    apply State.calibDone_keeps
    refine State.Keeps.fields (s := s) ?_
    exact h
  next z112 z113 =>
    apply State.calibDone_keeps
    refine State.Keeps.fields (s := s) ?_
    exact h
  next z114 =>
    apply State.calibDone_keeps
    apply State.clearJournal_keeps
    exact h

theorem State.flashFailed_keeps {q F s x1} (h : State.Keeps q F s) : State.Keeps q F (State.flashFailed s x1) := by
  unfold State.flashFailed
  extract_lets y101 y102 y103 y104
  have h105 : State.Keeps q F y101 := by
    apply State.record_keeps
    exact h
  clear_value y101
  have h106 : ∀ a0, State.Keeps q F a0 → State.Keeps q F (y102 a0) := by
    intro x107
    intro h108
    unfold y102
    refine ite_keeps ?_ ?_
    · apply State.calibDone_keeps
      exact h108
    · exact h108
  clear_value y102
  clear_value y103
  clear_value y104
  split
  next z109 =>
    apply State.updateFail_keeps
    exact h105
  next z110 z111 z112 =>
    apply State.updateFail_keeps
    exact h105
  next z113 =>
    apply State.updateFail_keeps
    exact h105
  next z114 z115 z116 =>
    exact h105
  next z117 z118 z119 =>
    apply h106
    refine State.Keeps.fields (s := y101) ?_
    exact h105
  next z120 z121 =>
    apply h106
    refine State.Keeps.fields (s := y101) ?_
    exact h105
  next z122 =>
    apply h106
    refine State.Keeps.fields (s := y101) ?_
    exact h105

theorem execFlashOperationEnd_keeps {q F x0 s} (h : State.Keeps q F s) : Out.Keeps q F (execFlashOperationEnd x0 s) := by
  unfold execFlashOperationEnd
  refine ok_keeps ?_
  refine ite_keeps ?_ ?_
  · exact h
  · split
    next z101 z102 z103 =>
      refine ite_keeps ?_ ?_
      · refine State.Keeps.fields (s := s) ?_
        exact h
      · extract_lets y104 y105
        clear_value y104
        have h106 : State.Keeps q F y105 := by
          refine State.Keeps.fields (s := s) ?_
          exact h
        clear_value y105
        refine ite_keeps ?_ ?_
        · apply State.flashDone_keeps
          exact h106
        · apply State.flashFailed_keeps
          exact h106
    next z107 z108 =>
      split
      next z109 z110 =>
        exact h
      next z111 z112 z113 z114 =>
        refine ite_keeps ?_ ?_
        · apply State.programNext_keeps
          exact h
        · refine ite_keeps ?_ ?_
          · refine State.Keeps.fields (s := s) ?_
            exact h
          · extract_lets y115 y116
            clear_value y115
            have h117 : State.Keeps q F y116 := by
              refine State.Keeps.fields (s := s) ?_
              exact h
            clear_value y116
            apply State.record_keeps
            apply State.bump_keeps
            exact h117

theorem execTrialConfirmation_keeps {q F s} (h : State.Keeps q F s) : Out.Keeps q F (execTrialConfirmation s) := by
  unfold execTrialConfirmation
  refine ok_keeps ?_
  extract_lets y1
  have h1 := h.2.2.1.1
  have h2 := h.2.2.1.2
  refine ite_keeps ⟨h.1, h.2.1, ⟨?_, ?_⟩, h.2.2.2⟩ h <;> dsimp only <;> split <;> omega

theorem execTrialWatchdogExpiry_keeps {q F x0 s} (h : State.Keeps q F s) : Out.Keeps q F (execTrialWatchdogExpiry x0 s) := by
  unfold execTrialWatchdogExpiry
  refine ok_keeps ?_
  refine ite_keeps ?_ ?_
  · apply State.startup_keeps
    apply State.endTrial_keeps
    exact h
  · exact h

theorem State.acceptTrial_keeps {q F s} (h : State.Keeps q F s) : State.Keeps q F (State.acceptTrial s) := by
  unfold State.acceptTrial
  refine ite_keeps ?_ ?_
  · refine State.Keeps.fields (s := s) ?_
    exact h
  · exact h

theorem State.unstage_keeps {q F s} (h : State.Keeps q F s) : State.Keeps q F (State.unstage s) := by
  unfold State.unstage
  extract_lets y101 y102
  clear_value y101
  clear_value y102
  refine State.Keeps.fields (s := s) ?_
  exact h

theorem State.fwupdGo_keeps {q F s x1 x2} (h : State.Keeps q F s) : State.Keeps q F (State.fwupdGo s x1 x2) := by
  unfold State.fwupdGo
  refine ite_keeps ?_ ?_
  · exact h
  · extract_lets y101
    have h102 : State.Keeps q F y101 := by
      apply State.setRegFld_keeps
      exact h
    clear_value y101
    split
    next z103 =>
      apply State.acceptTrial_keeps
      exact h102
    next z104 =>
      refine ite_keeps ?_ ?_
      · apply State.endTrial_keeps
        exact h102
      · exact h102
    next z105 =>
      refine ite_keeps ?_ ?_
      · apply State.unstage_keeps
        exact h102
      · exact h102
    next z106 =>
      apply State.cancelUpdate_keeps
      exact h102
    next z107 z108 z109 z110 z111 =>
      exact h102

theorem execAcceptTrial_keeps {q F x0 s} (h : State.Keeps q F s) : Out.Keeps q F (execAcceptTrial x0 s) := by
  unfold execAcceptTrial
  refine ok_keeps ?_
  refine ite_keeps ?_ ?_
  · refine ite_keeps ?_ ?_
    · apply State.acceptTrial_keeps
      exact h
    · exact h
  · apply State.fwupdGo_keeps
    exact h

theorem execRejectTrial_keeps {q F x0 x1 s} (h : State.Keeps q F s) : Out.Keeps q F (execRejectTrial x0 x1 s) := by
  unfold execRejectTrial
  refine ok_keeps ?_
  refine ite_keeps ?_ ?_
  · apply State.startup_keeps
    apply State.fwupdGo_keeps
    exact h
  · apply State.fwupdGo_keeps
    exact h

theorem execUnstage_keeps {q F x0 s} (h : State.Keeps q F s) : Out.Keeps q F (execUnstage x0 s) := by
  unfold execUnstage
  refine ok_keeps ?_
  apply State.fwupdGo_keeps
  exact h

theorem execCancel_keeps {q F s} (h : State.Keeps q F s) : Out.Keeps q F (execCancel s) := by
  unfold execCancel
  refine ok_keeps ?_
  apply State.fwupdGo_keeps
  exact h

theorem State.mbxStart_keeps {q F s x1 x2} (h : State.Keeps q F s) : State.Keeps q F (State.mbxStart s x1 x2) := by
  unfold State.mbxStart
  refine State.Keeps.fields (s := s) ?_
  exact h

theorem State.mbxGo_keeps {q F s x1} (h : State.Keeps q F s) : State.Keeps q F (State.mbxGo s x1) := by
  unfold State.mbxGo
  refine ite_keeps ?_ ?_
  · exact h
  · extract_lets y101 y102
    have h103 : State.Keeps q F y101 := by
      apply State.setRegFld_keeps
      exact h
    clear_value y101
    clear_value y102
    refine ite_keeps ?_ ?_
    · apply State.setRegBit_keeps
      exact h103
    · split
      next z104 =>
        apply State.mbxStart_keeps
        exact h103
      next z105 =>
        refine ite_keeps ?_ ?_
        · apply State.mbxStart_keeps
          exact h103
        · apply State.mbxStart_keeps
          refine State.Keeps.fields (s := y101) ?_
          exact h103
      next z106 =>
        apply State.mbxStart_keeps
        apply State.acceptTrial_keeps
        exact h103
      next z107 z108 z109 z110 =>
        apply State.mbxStart_keeps
        exact h103

theorem execGetEndorsement_keeps {q F x0 s} (h : State.Keeps q F s) : Out.Keeps q F (execGetEndorsement x0 s) := by
  unfold execGetEndorsement
  refine ok_keeps ?_
  refine ite_keeps ?_ ?_
  · apply State.mbxGo_keeps
    exact h
  · refine ite_keeps ?_ ?_
    · apply State.answer_keeps
      exact h
    · exact h

theorem execGetReport_keeps {q F x0 x1 s} (h : State.Keeps q F s) : Out.Keeps q F (execGetReport x0 x1 s) := by
  unfold execGetReport
  refine ok_keeps ?_
  refine ite_keeps ?_ ?_
  · apply State.mbxGo_keeps
    exact h
  · refine ite_keeps ?_ ?_
    · exact h
    · refine ite_keeps ?_ ?_
      · apply State.answer_keeps
        exact h
      · refine State.Keeps.fields (s := s) ?_
        exact h

theorem execMailboxDone_keeps {q F s} (h : State.Keeps q F s) : Out.Keeps q F (execMailboxDone s) := by
  unfold execMailboxDone
  refine ok_keeps ?_
  split
  next z101 z102 =>
    exact h
  next z103 z104 z105 z106 =>
    extract_lets y107 y108 y109 y110 y111
    clear_value y107
    have h112 : State.Keeps q F y108 := by
      refine State.Keeps.fields (s := s) ?_
      exact h
    clear_value y108
    have h113 : State.Keeps q F y109 := by
      apply State.setRegs_keeps
      exact h112
    clear_value y109
    have h114 : State.Keeps q F y110 := by
      apply State.setRegFld_keeps
      exact h113
    clear_value y110
    have h115 : State.Keeps q F y111 := by
      apply State.setRegFld_keeps
      exact h114
    clear_value y111
    apply State.vecPf_keeps
    apply State.setRegBit_keeps
    exact h115

end Sys2Proof.Machine
end

