-- ==== Sys2Proof/Laws/KeepsErrors.lean ====
section
/-! SUPPORT. Every operation of Errors.lean keeps what State.Keeps says. -/

set_option maxRecDepth 20000

namespace Sys2Proof.Machine

theorem State.refetch_keeps {q F s x1 x2 x3 x4} (h : State.Keeps q F s) : State.Keeps q F (State.refetch s x1 x2 x3 x4) := by
  unfold State.refetch
  apply State.record_keeps
  apply State.modCore_keeps
  exact h

theorem State.freeCause_keeps {q F s} (h : State.Keeps q F s) : SndKeeps q F (State.freeCause s) := by
  unfold State.freeCause
  split
  next z101 z102 z103 z104 =>
    refine mk_snd_keeps ?_
    refine snd_of_eq z104 ?_
    apply State.draw_keeps
    exact h

theorem State.stagingError_keeps {q F s x1 x2} (h : State.Keeps q F s) : State.Keeps q F (State.stagingError s x1 x2) := by
  unfold State.stagingError
  split
  next z101 z102 =>
    exact h
  next z103 z104 z105 =>
    extract_lets y106 y107 y108 y109
    clear_value y106
    have h110 : State.Keeps q F y107 := by
      refine State.Keeps.fields (s := s) ?_
      exact h
    clear_value y107
    clear_value y108
    clear_value y109
    apply State.contain_keeps
    exact h110

theorem State.mergeError_keeps {q F s x1 x2} (h : State.Keeps q F s) : State.Keeps q F (State.mergeError s x1 x2) := by
  unfold State.mergeError
  split
  next z101 z102 =>
    exact h
  next z103 z104 z105 =>
    extract_lets y106 y107
    clear_value y106
    clear_value y107
    split
    next z108 z109 z110 z111 =>
      apply State.mergeDiscard_keeps
      apply State.modChan_keeps
      refine snd_of_eq z111 ?_
      apply State.draw_keeps
      exact h

theorem State.wrongRow_keeps {q F s x1 x2 x3} (h : State.Keeps q F s) : State.Keeps q F (State.wrongRow s x1 x2 x3) := by
  unfold State.wrongRow
  extract_lets y101 y102
  clear_value y101
  clear_value y102
  refine ite_keeps ?_ ?_
  · apply State.modChan_keeps
    exact h
  · refine State.Keeps.fieldsMem (s := s) ?_ (fun w103 => ?_)
    · exact h
    · exact Memory.wf_wrL _ _ _ w103

theorem State.fillError_keeps {q F s x1 x2 x3} (h : State.Keeps q F s) : State.Keeps q F (State.fillError s x1 x2 x3) := by
  unfold State.fillError
  extract_lets y101
  clear_value y101
  split
  next z102 z103 =>
    exact h
  next z104 z105 z106 =>
    split
    next z107 z108 z109 z110 =>
      extract_lets y111
      have h112 : State.Keeps q F y111 := by
        unfold y111
        split
        next z113 z114 z115 z116 =>
          apply State.modChan_keeps
          apply State.bump_keeps
          refine snd_of_eq z110 ?_
          apply State.draw_keeps
          exact h
        next z117 z118 =>
          refine snd_of_eq z110 ?_
          apply State.draw_keeps
          exact h
      clear_value y111
      apply State.fillFails_keeps
      apply State.modSlice_keeps
      exact h112

theorem State.filterError_keeps {q F s x1 x2} (h : State.Keeps q F s) : State.Keeps q F (State.filterError s x1 x2) := by
  unfold State.filterError
  apply State.record_keeps
  apply State.modSlice_keeps
  exact h

theorem State.loseSector_keeps {q F s x1 x2 x3 x4} (h : State.Keeps q F s) : OptKeeps q F (State.loseSector s x1 x2 x3 x4) := by
  unfold State.loseSector
  split
  next z101 z102 =>
    exact none_keeps
  next z103 z104 z105 =>
    refine opt_ite_keeps ?_ ?_
    · extract_lets y106
      have h107 : State.Keeps q F y106 := by
        apply State.modSlice_keeps
        exact h
      clear_value y106
      refine some_keeps ?_
      refine ite_keeps ?_ ?_
      · apply State.settleLine_keeps
        exact h107
      · apply State.afterLoss_keeps
        exact h107
    · exact none_keeps

theorem State.loseOp_keeps {q F s x1 x2} (h : State.Keeps q F s) : OptKeeps q F (State.loseOp s x1 x2) := by
  unfold State.loseOp
  extract_lets y101
  clear_value y101
  split
  next z102 z103 z104 =>
    split
    next z105 z106 z107 z108 =>
      refine some_keeps ?_
      apply State.setSlice_keeps
      exact h
    next z109 z110 =>
      exact none_keeps
  next z111 z112 =>
    exact none_keeps

theorem State.sliceError_keeps {q F s x1 x2 x3 x4} (h : State.Keeps q F s) : State.Keeps q F (State.sliceError s x1 x2 x3 x4) := by
  unfold State.sliceError
  split
  next z101 =>
    split
    next z102 z103 z104 =>
      apply State.sliceContain_keeps
      refine (?_ : OptKeeps _ _ _) _ z104
      apply State.loseSector_keeps
      exact h
    next z105 z106 =>
      exact h
  next z107 =>
    split
    next z108 z109 z110 =>
      apply State.sliceContain_keeps
      refine (?_ : OptKeeps _ _ _) _ z110
      apply State.loseSector_keeps
      exact h
    next z111 z112 =>
      exact h
  next z113 =>
    split
    next z114 z115 z116 =>
      apply State.sliceContain_keeps
      refine (?_ : OptKeeps _ _ _) _ z116
      apply State.loseOp_keeps
      exact h
    next z117 z118 =>
      exact h
  next z119 =>
    refine ite_keeps ?_ ?_
    · apply State.sliceContain_keeps
      apply State.modSlice_keeps
      exact h
    · exact h
  next z120 =>
    apply State.fillError_keeps
    exact h
  next z121 =>
    apply State.fatal_keeps
    exact h
  next z122 =>
    apply State.filterError_keeps
    exact h

theorem State.spoil_keeps {q F s x1 x2} (h : State.Keeps q F s) : State.Keeps q F (State.spoil s x1 x2) := by
  unfold State.spoil
  extract_lets y101
  clear_value y101
  apply State.modDie_keeps
  refine State.Keeps.fields (s := s) ?_
  exact h

theorem State.blockError_keeps {q F s x1 x2} (h : State.Keeps q F s) : State.Keeps q F (State.blockError s x1 x2) := by
  unfold State.blockError
  extract_lets y101 y102 y103 y104
  clear_value y101
  have h105 : State.Keeps q F y102 := by
    apply State.spoil_keeps
    apply State.modDie_keeps
    apply State.toHome_keeps
    exact h
  clear_value y102
  clear_value y103
  clear_value y104
  split
  next z106 z107 =>
    apply State.containOwner_keeps
    exact h105
  next z108 z109 =>
    apply State.record_keeps
    apply State.spoil_keeps
    apply State.putBlock_keeps
    exact h
  next z110 z111 =>
    apply State.record_keeps
    apply State.spoil_keeps
    apply State.putBlock_keeps
    exact h
  next z112 z113 z114 z115 =>
    exact h

theorem State.mergeEntryError_keeps {q F s x1 x2} (h : State.Keeps q F s) : State.Keeps q F (State.mergeEntryError s x1 x2) := by
  unfold State.mergeEntryError
  extract_lets y101 y102 y103
  clear_value y101
  clear_value y102
  clear_value y103
  apply State.containOwner_keeps
  apply State.modDie_keeps
  exact h

theorem State.coherenceError_keeps {q F s x1 x2 x3} (h : State.Keeps q F s) : State.Keeps q F (State.coherenceError s x1 x2 x3) := by
  unfold State.coherenceError
  split
  next z101 =>
    split
    next z102 z103 z104 =>
      apply State.blockError_keeps
      exact h
    next z105 z106 =>
      exact h
  next z107 =>
    split
    next z108 z109 z110 =>
      apply State.mergeEntryError_keeps
      exact h
    next z111 z112 =>
      exact h
  next z113 =>
    apply State.fatal_keeps
    exact h
  next z114 =>
    apply State.fatal_keeps
    exact h
  next z115 =>
    apply State.fatal_keeps
    exact h
  next z116 =>
    apply State.fatal_keeps
    exact h

theorem State.uncorrectable_keeps {q F s x1 x2} (h : State.Keeps q F s) : State.Keeps q F (State.uncorrectable s x1 x2) := by
  unfold State.uncorrectable
  split
  next z101 z102 =>
    apply State.modCore_keeps
    apply State.containCore_keeps
    exact h
  next z103 z104 =>
    apply State.containCore_keeps
    exact h
  next z105 z106 =>
    apply State.containCore_keeps
    exact h
  next z107 z108 =>
    apply State.containCore_keeps
    exact h
  next z109 z110 =>
    apply State.containCore_keeps
    exact h
  next z111 z112 z113 =>
    apply State.refetch_keeps
    exact h
  next z114 z115 z116 =>
    apply State.refetch_keeps
    exact h
  next z117 z118 z119 =>
    apply State.refetch_keeps
    exact h
  next z120 z121 z122 =>
    apply State.contain_keeps
    exact h
  next z123 z124 z125 =>
    apply State.contain_keeps
    exact h
  next z126 z127 z128 =>
    split
    next z129 z130 z131 z132 =>
      apply State.contain_keeps
      refine snd_of_eq z132 ?_
      apply State.freeCause_keeps
      exact h
  next z133 z134 =>
    split
    next z135 z136 z137 z138 =>
      apply State.contain_keeps
      refine snd_of_eq z138 ?_
      apply State.freeCause_keeps
      exact h
  next z139 z140 z141 =>
    apply State.containOwner_keeps
    exact h
  next z142 z143 z144 =>
    split
    next z145 z146 z147 =>
      apply State.contain_keeps
      exact h
    next z148 z149 =>
      exact h
  next z150 z151 =>
    apply State.fatal_keeps
    exact h
  next z152 z153 =>
    apply State.fatal_keeps
    exact h
  next z154 z155 =>
    apply State.fatal_keeps
    exact h
  next z156 z157 =>
    apply State.fatal_keeps
    exact h
  next z158 z159 z160 =>
    apply State.contain_keeps
    exact h
  next z161 z162 =>
    apply State.fatal_keeps
    exact h
  next z163 z164 z165 =>
    apply State.contain_keeps
    exact h
  next z166 z167 =>
    apply State.stagingError_keeps
    exact h
  next z168 =>
    apply State.fatal_keeps
    exact h
  next z169 z170 =>
    apply State.mergeError_keeps
    exact h
  next z171 z172 z173 z174 =>
    apply State.wrongRow_keeps
    exact h
  next z175 z176 z177 z178 z179 =>
    apply State.sliceError_keeps
    exact h
  next z180 z181 z182 z183 =>
    apply State.coherenceError_keeps
    exact h

theorem execUncorrectableError_keeps {q F x0 x1 s} (h : State.Keeps q F s) : Out.Keeps q F (execUncorrectableError x0 x1 s) := by
  unfold execUncorrectableError
  refine ok_keeps ?_
  refine ite_keeps ?_ ?_
  · apply State.uncorrectable_keeps
    exact h
  · exact h

theorem execBondFault_keeps {q F x0 x1 s} (h : State.Keeps q F s) : Out.Keeps q F (execBondFault x0 x1 s) := by
  unfold execBondFault
  refine ok_keeps ?_
  refine ite_keeps ?_ ?_
  · apply State.uncorrectable_keeps
    exact h
  · exact h

theorem execSliceUncorrectable_keeps {q F x0 x1 x2 x3 s} (h : State.Keeps q F s) : Out.Keeps q F (execSliceUncorrectable x0 x1 x2 x3 s) := by
  unfold execSliceUncorrectable
  refine ok_keeps ?_
  refine ite_keeps ?_ ?_
  · apply State.sliceError_keeps
    exact h
  · exact h

theorem execCoherenceUncorrectable_keeps {q F x0 x1 x2 s} (h : State.Keeps q F s) : Out.Keeps q F (execCoherenceUncorrectable x0 x1 x2 s) := by
  unfold execCoherenceUncorrectable
  refine ok_keeps ?_
  refine ite_keeps ?_ ?_
  · apply State.coherenceError_keeps
    exact h
  · exact h

theorem State.unitFault_keeps {q F s x1 x2} (h : State.Keeps q F s) : State.Keeps q F (State.unitFault s x1 x2) := by
  unfold State.unitFault
  apply State.modChan_keeps
  exact h

theorem execCorrectedError_keeps {q F x0 s} (h : State.Keeps q F s) : Out.Keeps q F (execCorrectedError x0 s) := by
  unfold execCorrectedError
  refine ok_keeps ?_
  refine ite_keeps ?_ ?_
  · exact h
  · split
    next z101 z102 z103 =>
      apply State.filterError_keeps
      exact h
    next z104 z105 =>
      exact h
    next z106 z107 z108 =>
      apply State.unitFault_keeps
      exact h
    next z109 z110 z111 =>
      apply State.unitFault_keeps
      exact h
    next z112 =>
      apply State.bump_keeps
      exact h
    next z113 =>
      apply State.bump_keeps
      exact h
    next z114 =>
      exact h

theorem State.toQueue_keeps {q F s x1} (h : State.Keeps q F s) : SndKeeps q F (State.toQueue s x1) := by
  unfold State.toQueue
  split
  next z101 z102 z103 =>
    refine mk_snd_keeps ?_
    apply State.bumpFld_keeps
    exact h
  next z104 z105 =>
    extract_lets y106 y107 y108
    clear_value y106
    have h109 : State.Keeps q F y107 := by
      apply State.nextSeq_keeps
      exact h
    clear_value y107
    have h110 : State.Keeps q F y108 := by
      apply State.setRegs_keeps
      exact h109
    clear_value y108
    refine snd_ite_keeps ?_ ?_
    · refine mk_snd_keeps ?_
      apply State.bump_keeps
      exact h109
    · refine mk_snd_keeps ?_
      apply State.setReg_keeps
      exact h110

theorem State.toErrlog_keeps {q F s x1 x2} (h : State.Keeps q F s) : State.Keeps q F (State.toErrlog s x1 x2) := by
  unfold State.toErrlog
  refine ite_keeps ?_ ?_
  · exact h
  · extract_lets y101 y102 y103 y104
    clear_value y101
    clear_value y102
    clear_value y103
    have h105 : State.Keeps q F y104 := by
      apply State.setRegs_keeps
      exact h
    clear_value y104
    refine ite_keeps ?_ ?_
    · apply State.bump_keeps
      exact h
    · apply State.vecVf_keeps
      apply State.setReg_keeps
      exact h105

theorem State.queueRecord_keeps {q F s x1} (h : State.Keeps q F s) : SndKeeps q F (State.queueRecord s x1) := by
  unfold State.queueRecord
  split
  next z101 z102 z103 z104 =>
    refine mk_snd_keeps ?_
    split
    next z105 z106 z107 =>
      apply State.toErrlog_keeps
      refine snd_of_eq z104 ?_
      refine snd_ite_keeps ?_ ?_
      · refine mk_snd_keeps ?_
        apply State.nextSeq_keeps
        exact h
      · apply State.toQueue_keeps
        exact h
    next z108 z109 =>
      refine snd_of_eq z104 ?_
      refine snd_ite_keeps ?_ ?_
      · refine mk_snd_keeps ?_
        apply State.nextSeq_keeps
        exact h
      · apply State.toQueue_keeps
        exact h

theorem State.recordVectors_keeps {q F s x1} (h : State.Keeps q F s) : State.Keeps q F (State.recordVectors s x1) := by
  unfold State.recordVectors
  refine ite_keeps ?_ ?_
  · apply State.vecPf_keeps
    exact h
  · exact h

theorem State.journalRecord_keeps {q F s x1} (h : State.Keeps q F s) : State.Keeps q F (State.journalRecord s x1) := by
  unfold State.journalRecord
  refine ite_keeps ?_ ?_
  · exact h
  · apply State.journal_keeps
    exact h

theorem State.setHandling_keeps {q F s x1} (h : State.Keeps q F s) : State.Keeps q F (State.setHandling s x1) := by
  unfold State.setHandling
  refine State.Keeps.fields (s := s) ?_
  exact h

theorem State.handleStep_keeps {q F s x1 x2 x3} (h : State.Keeps q F s) : State.Keeps q F (State.handleStep s x1 x2 x3) := by
  unfold State.handleStep
  refine ite_keeps ?_ ?_
  · split
    next z101 z102 z103 z104 =>
      apply State.setHandling_keeps
      refine snd_of_eq z104 ?_
      apply State.queueRecord_keeps
      exact h
  · refine ite_keeps ?_ ?_
    · apply State.setHandling_keeps
      apply State.recordVectors_keeps
      exact h
    · apply State.setHandling_keeps
      apply State.journalRecord_keeps
      exact h

theorem execRecordHandling_keeps {q F s} (h : State.Keeps q F s) : Out.Keeps q F (execRecordHandling s) := by
  unfold execRecordHandling
  refine ok_keeps ?_
  split
  next z101 z102 z103 z104 =>
    exact h
  next z105 z106 z107 z108 z109 z110 z111 =>
    apply State.handleStep_keeps
    exact h
  next z112 z113 z114 z115 z116 =>
    refine State.Keeps.fields (s := s) ?_
    exact h
  next z117 z118 z119 z120 z121 z122 z123 z124 =>
    refine ite_keeps ?_ ?_
    · refine State.Keeps.fields (s := s) ?_
      exact h
    · apply State.handleStep_keeps
      exact h

theorem State.releaseDone_keeps {q F s x1} (h : State.Keeps q F s) : State.Keeps q F (State.releaseDone s x1) := by
  unfold State.releaseDone
  apply State.setRegFld_keeps
  apply State.setRegFld_keeps
  exact h

theorem State.containGo_keeps {q F s x1 x2} (h : State.Keeps q F s) : State.Keeps q F (State.containGo s x1 x2) := by
  unfold State.containGo
  refine ite_keeps ?_ ?_
  · exact h
  · extract_lets y101 y102 y103 y104 y105
    have h106 : State.Keeps q F y101 := by
      apply State.setRegFld_keeps
      apply State.setRegFld_keeps
      exact h
    clear_value y101
    clear_value y102
    clear_value y103
    have h107 : State.Keeps q F y104 := by
      refine foldl_keeps (fun t108 x109 h110 => ?_) ?_
      · apply State.modExtent_keeps
        exact h110
      · exact h106
    clear_value y104
    clear_value y105
    refine ite_keeps ?_ ?_
    · apply State.setRegFld_keeps
      exact h106
    · refine ite_keeps ?_ ?_
      · apply State.releaseDone_keeps
        exact h106
      · refine ite_keeps ?_ ?_
        · apply State.releaseDone_keeps
          exact h106
        · apply State.setRegBit_keeps
          refine State.Keeps.fields (s := y104) ?_
          exact h107

theorem execRelease_keeps {q F x0 s} (h : State.Keeps q F s) : Out.Keeps q F (execRelease x0 s) := by
  unfold execRelease
  refine ok_keeps ?_
  apply State.containGo_keeps
  exact h

theorem execReleaseEnd_keeps {q F s} (h : State.Keeps q F s) : Out.Keeps q F (execReleaseEnd s) := by
  unfold execReleaseEnd
  refine ok_keeps ?_
  split
  next z101 z102 =>
    exact h
  next z103 z104 z105 =>
    extract_lets y106 y107 y108
    have h109 : State.Keeps q F y106 := by
      refine foldl_keeps (fun t110 x111 h112 => ?_) ?_
      · apply State.modExtent_keeps
        apply State.zeroExtent_keeps
        exact h112
      · exact h
    clear_value y106
    clear_value y107
    have h113 : State.Keeps q F y108 := by
      refine State.Keeps.fields (s := y106) ?_
      exact h109
    clear_value y108
    apply State.releaseDone_keeps
    apply State.modVd_keeps
    exact h113

theorem State.clearSticky_keeps {q F s} (h : State.Keeps q F s) : State.Keeps q F (State.clearSticky s) := by
  unfold State.clearSticky
  apply State.setRegs_keeps
  apply State.setReg_keeps
  exact h

theorem execStickyClear_keeps {q F s} (h : State.Keeps q F s) : Out.Keeps q F (execStickyClear s) := by
  unfold execStickyClear
  refine ok_keeps ?_
  refine ite_keeps ?_ ?_
  · apply State.clearSticky_keeps
    exact h
  · exact h

theorem State.qHeadW_keeps {q F s x1 x2} (h : State.Keeps q F s) : FstKeeps q F (State.qHeadW s x1 x2) := by
  unfold State.qHeadW
  extract_lets y101 y102
  clear_value y101
  clear_value y102
  refine fst_ite_keeps ?_ ?_
  · refine mk_fst_keeps ?_
    exact h
  · refine mk_fst_keeps ?_
    apply State.setReg_keeps
    exact h

theorem State.writeQHead_keeps {q F s x1 x2} (h : State.Keeps q F s) : State.Keeps q F (State.writeQHead s x1 x2) := by
  unfold State.writeQHead
  apply State.counted_keeps
  apply State.qHeadW_keeps
  exact h

theorem execErrorQueueHeadWrite_keeps {q F x0 x1 s} (h : State.Keeps q F s) : Out.Keeps q F (execErrorQueueHeadWrite x0 x1 s) := by
  unfold execErrorQueueHeadWrite
  refine ok_keeps ?_
  refine ite_keeps ?_ ?_
  · apply State.writeQHead_keeps
    exact h
  · exact h

end Sys2Proof.Machine
end

