-- ==== Sys2Proof/Laws/KeepsHomeOps.lean ====
section
/-! SUPPORT. Every operation of HomeOps.lean keeps what State.Keeps says. -/

set_option maxRecDepth 20000

namespace Sys2Proof.Machine

theorem State.takeOp_keeps {q F s x1 x2} (h : State.Keeps q F s) : State.Keeps q F (State.takeOp s x1 x2) := by
  unfold State.takeOp
  apply State.modSlice_keeps
  exact h

theorem State.nackOp_keeps {q F s x1 x2} (h : State.Keeps q F s) : State.Keeps q F (State.nackOp s x1 x2) := by
  unfold State.nackOp
  split
  next z101 z102 z103 =>
    apply State.sendReed_keeps
    exact h
  next z104 z105 =>
    apply State.sendHomeOp_keeps
    exact h

theorem homeOpArrival_keeps {q F x0 x1 s} (h : State.Keeps q F s) : State.Keeps q F (homeOpArrival x0 x1 s) := by
  unfold homeOpArrival
  extract_lets y101 y102
  clear_value y101
  have h103 : State.Keeps q F y102 := by
    apply State.takeOp_keeps
    exact h
  clear_value y102
  split
  next z104 z105 =>
    exact h
  next z106 z107 z108 =>
    refine ite_keeps ?_ ?_
    · exact h
    · split
      next z109 z110 =>
        exact h
      next z111 z112 z113 =>
        extract_lets y114 y115 y116
        clear_value y114
        clear_value y115
        clear_value y116
        refine ite_keeps ?_ ?_
        · exact h
        · refine ite_keeps ?_ ?_
          · exact h
          · refine ite_keeps ?_ ?_
            · apply State.openRecall_keeps
              exact h
            · refine ite_keeps ?_ ?_
              · apply State.nackOp_keeps
                exact h103
              · apply State.modSlice_keeps
                exact h103

theorem State.respond_keeps {q F s x1 x2 x3} (h : State.Keeps q F s) : State.Keeps q F (State.respond s x1 x2 x3) := by
  unfold State.respond
  split
  next z101 z102 z103 =>
    apply State.sendReed_keeps
    exact h
  next z104 z105 =>
    exact h

theorem homeOpApply_keeps {q F x0 x1 s} (h : State.Keeps q F s) : State.Keeps q F (homeOpApply x0 x1 s) := by
  unfold homeOpApply
  extract_lets y101
  clear_value y101
  split
  next z102 z103 =>
    exact h
  next z104 z105 z106 =>
    extract_lets y107
    clear_value y107
    split
    next z108 z109 =>
      exact h
    next z110 z111 z112 z113 =>
      extract_lets y114 y115 y116 y117 y118 y119 y120
      clear_value y114
      clear_value y115
      clear_value y116
      clear_value y117
      have h121 : State.Keeps q F y118 := by
        apply State.landBytes_keeps
        exact h
      clear_value y118
      have h122 : State.Keeps q F y119 := by
        apply State.modSlice_keeps
        exact h121
      clear_value y119
      have h123 : State.Keeps q F y120 := by
        apply State.respond_keeps
        exact h122
      clear_value y120
      refine ite_keeps ?_ ?_
      · exact h
      · refine ite_keeps ?_ ?_
        · apply State.openRecall_keeps
          exact h
        · refine ite_keeps ?_ ?_
          · exact h
          · refine ite_keeps ?_ ?_
            · apply State.startFill_keeps
              exact h
            · refine ite_keeps ?_ ?_
              · exact h
              · refine ite_keeps ?_ ?_
                · apply State.settleLine_keeps
                  exact h123
                · exact h123

theorem execHomeOperationArrival_keeps {q F x0 x1 s} (h : State.Keeps q F s) : Out.Keeps q F (execHomeOperationArrival x0 x1 s) := by
  unfold execHomeOperationArrival
  refine ok_keeps ?_
  apply homeOpArrival_keeps
  exact h

theorem execHomeOperationApply_keeps {q F x0 x1 s} (h : State.Keeps q F s) : Out.Keeps q F (execHomeOperationApply x0 x1 s) := by
  unfold execHomeOperationApply
  refine ok_keeps ?_
  apply homeOpApply_keeps
  exact h

theorem execHomeOperationResend_keeps {q F x0 x1 s} (h : State.Keeps q F s) : Out.Keeps q F (execHomeOperationResend x0 x1 s) := by
  unfold execHomeOperationResend
  refine ok_keeps ?_
  split
  next z101 z102 =>
    exact h
  next z103 z104 z105 =>
    apply State.sendHomeOp_keeps
    refine State.Keeps.fields (s := s) ?_
    exact h

end Sys2Proof.Machine
end

