-- ==== Sys2Proof/Laws/KeepsGroups.lean ====
section
/-! SUPPORT. Every operation of Groups.lean keeps what State.Keeps says. -/

set_option maxRecDepth 20000

namespace Sys2Proof.Machine

theorem execTgl_keeps {q F x0 x1 s} (h : State.Keeps q F s) : Out.Keeps q F (execTgl x0 x1 s) := by
  unfold execTgl
  refine ok_keeps ?_
  split
  next z101 =>
    apply State.issueOp_keeps
    · exact h
    · intro x102
      intro x103
      intro h104
      extract_lets y105 y106 y107 y108
      clear_value y105
      clear_value y106
      clear_value y107
      clear_value y108
      refine ite_keeps ?_ ?_
      · exact h
      · apply State.checked_keeps
        · exact h104
        · intro x109
          intro h110
          apply State.enqueue_keeps
          exact h110
  next z111 =>
    apply State.actHead_keeps
    · exact h
    · intro x112
      intro x113
      intro x114
      intro h115
      extract_lets y116 y117 y118 y119
      clear_value y116
      have h120 : State.Keeps q F y117 := by
        apply State.modCore_keeps
        exact h115
      clear_value y117
      clear_value y118
      clear_value y119
      refine ite_keeps ?_ ?_
      · apply State.dropEntry_keeps
        exact h120
      · apply State.modCore_keeps
        apply State.dropEntry_keeps
        exact h120

theorem execGroupPlacement_keeps {q F x0 s} (h : State.Keeps q F s) : Out.Keeps q F (execGroupPlacement x0 s) := by
  unfold execGroupPlacement
  refine ok_keeps ?_
  extract_lets y101
  clear_value y101
  split
  next z102 z103 =>
    exact h
  next z104 z105 z106 =>
    split
    next z107 z108 =>
      exact h
    next z109 z110 z111 =>
      split
      next z112 z113 =>
        exact h
      next z114 z115 z116 =>
        extract_lets y117
        clear_value y117
        apply State.modCore_keeps
        apply State.setGroup_keeps
        exact h

theorem execTgwait_keeps {q F x0 x1 s} (h : State.Keeps q F s) : Out.Keeps q F (execTgwait x0 x1 s) := by
  unfold execTgwait
  refine ok_keeps ?_
  split
  next z101 =>
    apply State.issueOp_keeps
    · exact h
    · intro x102
      intro x103
      intro h104
      refine ite_keeps ?_ ?_
      · exact h
      · apply State.checked_keeps
        · exact h104
        · intro x105
          intro h106
          apply State.enqueue_keeps
          exact h106
  next z107 =>
    apply State.actHead_keeps
    · exact h
    · intro x108
      intro x109
      intro x110
      intro h111
      refine ite_keeps ?_ ?_
      · exact h111
      · apply State.finishEntry_keeps
        exact h111

theorem execGroupKernelEnd_keeps {q F x0 x1 s} (h : State.Keeps q F s) : Out.Keeps q F (execGroupKernelEnd x0 x1 s) := by
  unfold execGroupKernelEnd
  refine ok_keeps ?_
  apply State.modCore_keeps
  exact h

theorem State.gfault_keeps {q F s x1 x2 x3} (h : State.Keeps q F s) : State.Keeps q F (State.gfault s x1 x2 x3) := by
  unfold State.gfault
  split
  next z101 z102 =>
    exact h
  next z103 z104 z105 =>
    extract_lets y106 y107
    clear_value y106
    have h108 : State.Keeps q F y107 := by
      apply State.fault_keeps
      exact h
    clear_value y107
    apply State.modCore_keeps
    exact h108

theorem State.flushSectors_keeps {q F s x1 x2 x3} (h : State.Keeps q F s) : OptKeeps q F (State.flushSectors s x1 x2 x3) := by
  unfold State.flushSectors
  extract_lets y101 y102 y103
  clear_value y101
  clear_value y102
  clear_value y103
  refine opt_ite_keeps ?_ ?_
  · exact none_keeps
  · refine some_keeps ?_
    refine foldl_keeps (fun t104 x105 h106 => ?_) ?_
    · apply State.sendEntry_keeps
      exact h106
    · exact h

theorem State.startGFetch_keeps {q F s x1 x2 x3} (h : State.Keeps q F s) : State.Keeps q F (State.startGFetch s x1 x2 x3) := by
  unfold State.startGFetch
  refine ite_keeps ?_ ?_
  · exact h
  · apply State.request_keeps
    apply State.modCore_keeps
    exact h

theorem State.gfetch_keeps {q F s x1 x2 x3} (h : State.Keeps q F s) (hx3 : ∀ a0 a1 a2 a3 a4 a5, State.Keeps q F a5 → State.Keeps q F (x3 a0 a1 a2 a3 a4 a5)) : State.Keeps q F (State.gfetch s x1 x2 x3) := by
  unfold State.gfetch
  split
  next z101 z102 z103 z104 z105 z106 z107 =>
    split
    next z108 z109 =>
      exact h
    next z110 z111 z112 =>
      refine ite_keeps ?_ ?_
      · exact h
      · refine ite_keeps ?_ ?_
        · apply State.gfault_keeps
          exact h
        · split
          next z113 z114 =>
            apply State.startGFetch_keeps
            exact h
          next z115 z116 z117 =>
            refine ite_keeps ?_ ?_
            · apply hx3
              apply State.modCore_keeps
              exact h
            · exact h
  next z118 z119 z120 =>
    exact h

theorem State.gissue_keeps {q F s x1 x2 x3 x4 x5 x6} (h : State.Keeps q F s) (hx6 : ∀ a0 a1 a2 a3 a4 a5, State.Keeps q F a5 → State.Keeps q F (x6 a0 a1 a2 a3 a4 a5)) : State.Keeps q F (State.gissue s x1 x2 x3 x4 x5 x6) := by
  unfold State.gissue
  apply State.gfetch_keeps
  · exact h
  · intro x101
    intro x102
    intro x103
    intro x104
    intro x105
    intro x106
    intro h107
    refine ite_keeps ?_ ?_
    · exact h
    · split
      next z108 z109 z110 =>
        apply State.gfault_keeps
        exact h107
      next z111 z112 =>
        apply hx6
        exact h107

theorem State.galu_keeps {q F s x1 x2 x3 x4 x5 x6 x7 x8} (h : State.Keeps q F s) : State.Keeps q F (State.galu s x1 x2 x3 x4 x5 x6 x7 x8) := by
  unfold State.galu
  apply State.gissue_keeps
  · exact h
  · intro x101
    intro x102
    intro x103
    intro x104
    intro x105
    intro x106
    intro h107
    extract_lets y108 y109 y110
    clear_value y108
    have h111 : State.Keeps q F y109 := by
      refine ite_keeps ?_ ?_
      · refine State.Keeps.fields (s := x106) ?_
        exact h107
      · exact h107
    clear_value y109
    clear_value y110
    apply State.setGroup_keeps
    exact h111

theorem execVialu_keeps {q F x0 x1 s} (h : State.Keeps q F s) : Out.Keeps q F (execVialu x0 x1 s) := by
  unfold execVialu
  refine ok_keeps ?_
  apply State.galu_keeps
  exact h

theorem execVialu64_keeps {q F x0 x1 s} (h : State.Keeps q F s) : Out.Keeps q F (execVialu64 x0 x1 s) := by
  unfold execVialu64
  refine ok_keeps ?_
  apply State.galu_keeps
  exact h

theorem execVfp32_keeps {q F x0 x1 s} (h : State.Keeps q F s) : Out.Keeps q F (execVfp32 x0 x1 s) := by
  unfold execVfp32
  refine ok_keeps ?_
  apply State.galu_keeps
  exact h

theorem execVfp64_keeps {q F x0 x1 s} (h : State.Keeps q F s) : Out.Keeps q F (execVfp64 x0 x1 s) := by
  unfold execVfp64
  refine ok_keeps ?_
  apply State.galu_keeps
  exact h

theorem execVsf_keeps {q F x0 x1 s} (h : State.Keeps q F s) : Out.Keeps q F (execVsf x0 x1 s) := by
  unfold execVsf
  refine ok_keeps ?_
  apply State.galu_keeps
  exact h

theorem execVcvt_keeps {q F x0 x1 s} (h : State.Keeps q F s) : Out.Keeps q F (execVcvt x0 x1 s) := by
  unfold execVcvt
  refine ok_keeps ?_
  apply State.galu_keeps
  exact h

theorem execVcmp_keeps {q F x0 x1 s} (h : State.Keeps q F s) : Out.Keeps q F (execVcmp x0 x1 s) := by
  unfold execVcmp
  refine ok_keeps ?_
  apply State.galu_keeps
  exact h

theorem execVsel_keeps {q F x0 x1 s} (h : State.Keeps q F s) : Out.Keeps q F (execVsel x0 x1 s) := by
  unfold execVsel
  refine ok_keeps ?_
  apply State.galu_keeps
  exact h

theorem execVshfl_keeps {q F x0 x1 s} (h : State.Keeps q F s) : Out.Keeps q F (execVshfl x0 x1 s) := by
  unfold execVshfl
  refine ok_keeps ?_
  apply State.galu_keeps
  exact h

theorem execVbr_keeps {q F x0 x1 s} (h : State.Keeps q F s) : Out.Keeps q F (execVbr x0 x1 s) := by
  unfold execVbr
  refine ok_keeps ?_
  extract_lets y101
  clear_value y101
  apply State.gissue_keeps
  · exact h
  · intro x102
    intro x103
    intro x104
    intro x105
    intro x106
    intro x107
    intro h108
    extract_lets y109 y110 y111 y112 y113
    clear_value y109
    clear_value y110
    clear_value y111
    clear_value y112
    clear_value y113
    apply State.setGroup_keeps
    exact h108

theorem State.endGroup_keeps {q F s x1 x2} (h : State.Keeps q F s) : State.Keeps q F (State.endGroup s x1 x2) := by
  unfold State.endGroup
  split
  next z101 z102 =>
    exact h
  next z103 z104 z105 =>
    refine ite_keeps ?_ ?_
    · exact h
    · apply State.modCore_keeps
      apply State.setGroup_keeps
      exact h

theorem execVend_keeps {q F x0 x1 s} (h : State.Keeps q F s) : Out.Keeps q F (execVend x0 x1 s) := by
  unfold execVend
  refine ok_keeps ?_
  apply State.gissue_keeps
  · exact h
  · intro x101
    intro x102
    intro x103
    intro x104
    intro x105
    intro x106
    intro h107
    refine ite_keeps ?_ ?_
    · exact h
    · extract_lets y108
      clear_value y108
      apply State.endGroup_keeps
      apply State.setGroup_keeps
      exact h107

theorem execGroupUndefined_keeps {q F x0 x1 s} (h : State.Keeps q F s) : Out.Keeps q F (execGroupUndefined x0 x1 s) := by
  unfold execGroupUndefined
  refine ok_keeps ?_
  apply State.gfetch_keeps
  · exact h
  · intro x101
    intro x102
    intro x103
    intro x104
    intro x105
    intro x106
    intro h107
    refine ite_keeps ?_ ?_
    · exact h
    · apply State.gfault_keeps
      exact h107

theorem execSpinWatchdog_keeps {q F x0 x1 s} (h : State.Keeps q F s) : Out.Keeps q F (execSpinWatchdog x0 x1 s) := by
  unfold execSpinWatchdog
  refine ok_keeps ?_
  split
  next z101 z102 z103 =>
    refine ite_keeps ?_ ?_
    · apply State.gfault_keeps
      exact h
    · exact h
  next z104 z105 =>
    exact h

theorem execGroupInstructionCacheFill_keeps {q F x0 s} (h : State.Keeps q F s) : Out.Keeps q F (execGroupInstructionCacheFill x0 s) := by
  unfold execGroupInstructionCacheFill
  refine ok_keeps ?_
  apply State.modCore_keeps
  exact h

theorem execVldt_keeps {q F x0 x1 s} (h : State.Keeps q F s) : Out.Keeps q F (execVldt x0 x1 s) := by
  unfold execVldt
  refine ok_keeps ?_
  extract_lets y101
  clear_value y101
  apply State.gissue_keeps
  · exact h
  · intro x102
    intro x103
    intro x104
    intro x105
    intro x106
    intro x107
    intro h108
    refine ite_keeps ?_ ?_
    · exact h
    · extract_lets y109 y110 y111 y112 y113
      clear_value y109
      clear_value y110
      have h114 : State.Keeps q F y111 := by
        refine ite_keeps ?_ ?_
        · refine State.Keeps.fields (s := x107) ?_
          exact h108
        · exact h108
      clear_value y111
      clear_value y112
      clear_value y113
      apply State.setGroup_keeps
      exact h114

theorem execVstt_keeps {q F x0 x1 s} (h : State.Keeps q F s) : Out.Keeps q F (execVstt x0 x1 s) := by
  unfold execVstt
  refine ok_keeps ?_
  extract_lets y101
  clear_value y101
  apply State.gissue_keeps
  · exact h
  · intro x102
    intro x103
    intro x104
    intro x105
    intro x106
    intro x107
    intro h108
    refine ite_keeps ?_ ?_
    · exact h
    · extract_lets y109 y110 y111
      clear_value y109
      have h112 : State.Keeps q F y110 := by
        refine State.Keeps.fields (s := x107) ?_
        exact h108
      clear_value y110
      clear_value y111
      apply State.setGroup_keeps
      apply State.modCore_keeps
      exact h112

end Sys2Proof.Machine
end

