-- ==== Sys2Proof/Laws/KeepsGroupMem.lean ====
section
/-! SUPPORT. Every operation of GroupMem.lean keeps what State.Keeps says. -/

set_option maxRecDepth 20000

namespace Sys2Proof.Machine

theorem State.addOut_keeps {q F s x1 x2 x3 x4} (h : State.Keeps q F s) : State.Keeps q F (State.addOut s x1 x2 x3 x4) := by
  unfold State.addOut
  apply State.modGroup_keeps
  exact h

theorem State.sendLoad_keeps {q F s x1 x2 x3 x4 x5 x6 x7 x8 x9} (h : State.Keeps q F s) : State.Keeps q F (State.sendLoad s x1 x2 x3 x4 x5 x6 x7 x8 x9) := by
  unfold State.sendLoad
  refine ite_keeps ?_ ?_
  · apply State.request_keeps
    exact h
  · refine ite_keeps ?_ ?_
    · extract_lets y101 y102
      clear_value y101
      clear_value y102
      split
      next z103 z104 z105 =>
        apply State.accPart_keeps
        apply State.modCore_keeps
        exact h
      next z106 z107 =>
        refine ite_keeps ?_ ?_
        · apply State.modCore_keeps
          exact h
        · apply State.request_keeps
          apply State.modCore_keeps
          exact h
    · apply State.modDie_keeps
      exact h

theorem execVld_keeps {q F x0 x1 s} (h : State.Keeps q F s) : Out.Keeps q F (execVld x0 x1 s) := by
  unfold execVld
  refine ok_keeps ?_
  extract_lets y101
  clear_value y101
  apply State.gissue_keeps
  · exact h
  · intro x102
    intro x103
    intro x104
    intro x105
    intro x106
    intro x107
    intro h108
    extract_lets y109 y110 y111 y112 y113 y114 y115 y116 y117 y118 y119 y120 y121
    clear_value y109
    clear_value y110
    clear_value y111
    clear_value y112
    clear_value y113
    clear_value y114
    clear_value y115
    clear_value y116
    clear_value y117
    clear_value y118
    clear_value y119
    have h122 : State.Keeps q F y120 := by
      apply State.addOut_keeps
      exact h108
    clear_value y120
    have h123 : State.Keeps q F y121 := by
      refine foldl_keeps (fun t124 x125 h126 => ?_) ?_
      · apply State.sendLoad_keeps
        exact h126
      · exact h122
    clear_value y121
    refine ite_keeps ?_ ?_
    · exact h
    · split
      next z127 z128 z129 =>
        refine (?_ : OptKeeps _ _ _) _ z129
        refine opt_ite_keeps ?_ ?_
        · apply State.flushSectors_keeps
          exact h
        · exact none_keeps
      next z130 z131 =>
        split
        next z132 z133 z134 =>
          apply State.request_keeps
          exact h123
        next z135 =>
          exact h123

theorem execGroupLoadReturn_keeps {q F x0 x1 x2 s} (h : State.Keeps q F s) : Out.Keeps q F (execGroupLoadReturn x0 x1 x2 s) := by
  unfold execGroupLoadReturn
  refine ok_keeps ?_
  split
  next z101 z102 =>
    exact h
  next z103 z104 z105 =>
    split
    next z106 z107 =>
      exact h
    next z108 z109 z110 =>
      refine ite_keeps ?_ ?_
      · exact h
      · extract_lets y111 y112 y113 y114 y115
        clear_value y111
        clear_value y112
        have h116 : State.Keeps q F y113 := by
          refine ite_keeps ?_ ?_
          · refine State.Keeps.fields (s := s) ?_
            exact h
          · exact h
        clear_value y113
        clear_value y115
        apply State.setGroup_keeps
        exact h116

theorem State.sendStore_keeps {q F s x1 x2 x3 x4 x5 x6} (h : State.Keeps q F s) : State.Keeps q F (State.sendStore s x1 x2 x3 x4 x5 x6) := by
  unfold State.sendStore
  apply State.modDie_keeps
  exact h

theorem State.issueStores_keeps {q F s x1 x2 x3 x4 x5 x6 x7 x8 x9} (h : State.Keeps q F s) : State.Keeps q F (State.issueStores s x1 x2 x3 x4 x5 x6 x7 x8 x9) := by
  unfold State.issueStores
  extract_lets y101 y102 y103 y104
  clear_value y101
  clear_value y102
  have h105 : State.Keeps q F y103 := by
    apply State.addOut_keeps
    exact h
  clear_value y103
  have h106 : State.Keeps q F y104 := by
    refine foldl_keeps (fun t107 x108 h109 => ?_) ?_
    · apply State.sendStore_keeps
      exact h109
    · exact h105
  clear_value y104
  split
  next z110 z111 z112 =>
    apply State.request_keeps
    exact h106
  next z113 =>
    exact h106

theorem execVst_keeps {q F x0 x1 s} (h : State.Keeps q F s) : Out.Keeps q F (execVst x0 x1 s) := by
  unfold execVst
  refine ok_keeps ?_
  extract_lets y101
  clear_value y101
  apply State.gissue_keeps
  · exact h
  · intro x102
    intro x103
    intro x104
    intro x105
    intro x106
    intro x107
    intro h108
    extract_lets y109 y110 y111 y112 y113
    clear_value y109
    clear_value y110
    clear_value y111
    clear_value y112
    have h114 : State.Keeps q F y113 := by
      refine ite_keeps ?_ ?_
      · refine State.Keeps.fields (s := x107) ?_
        exact h108
      · exact h108
    clear_value y113
    refine ite_keeps ?_ ?_
    · exact h
    · apply State.issueStores_keeps
      exact h114

theorem State.issueOps_keeps {q F s x1 x2 x3 x4 x5} (h : State.Keeps q F s) : State.Keeps q F (State.issueOps s x1 x2 x3 x4 x5) := by
  unfold State.issueOps
  extract_lets y101 y102 y103 y104
  clear_value y101
  clear_value y102
  have h105 : State.Keeps q F y103 := by
    apply State.addOut_keeps
    exact h
  clear_value y103
  have h106 : State.Keeps q F y104 := by
    refine foldl_keeps (fun t107 x108 h109 => ?_) ?_
    · apply State.sendHomeOp_keeps
      exact h109
    · exact h105
  clear_value y104
  split
  next z110 z111 z112 =>
    apply State.sendHomeOp_keeps
    exact h106
  next z113 =>
    exact h106

theorem execVatom_keeps {q F x0 x1 s} (h : State.Keeps q F s) : Out.Keeps q F (execVatom x0 x1 s) := by
  unfold execVatom
  refine ok_keeps ?_
  apply State.gissue_keeps
  · exact h
  · intro x101
    intro x102
    intro x103
    intro x104
    intro x105
    intro x106
    intro h107
    extract_lets y108 y109 y110 y111 y112 y113 y114 y115
    clear_value y108
    clear_value y109
    clear_value y110
    clear_value y111
    clear_value y112
    clear_value y113
    clear_value y114
    clear_value y115
    refine ite_keeps ?_ ?_
    · exact h
    · split
      next z116 z117 z118 =>
        refine (?_ : OptKeeps _ _ _) _ z118
        apply State.flushSectors_keeps
        exact h
      next z119 z120 =>
        apply State.issueOps_keeps
        refine State.Keeps.fields (s := x106) ?_
        exact h107

theorem State.lockAttempt_keeps {q F s x1 x2 x3 x4 x5 x6} (h : State.Keeps q F s) : State.Keeps q F (State.lockAttempt s x1 x2 x3 x4 x5 x6) := by
  unfold State.lockAttempt
  split
  next z101 z102 =>
    exact h
  next z103 z104 z105 =>
    extract_lets y106 y107 y108 y109 y110
    clear_value y106
    clear_value y107
    clear_value y108
    clear_value y109
    clear_value y110
    apply State.issueOps_keeps
    apply State.modGroup_keeps
    exact h

theorem execGlock_keeps {q F x0 x1 s} (h : State.Keeps q F s) : Out.Keeps q F (execGlock x0 x1 s) := by
  unfold execGlock
  refine ok_keeps ?_
  apply State.gissue_keeps
  · exact h
  · intro x101
    intro x102
    intro x103
    intro x104
    intro x105
    intro x106
    intro h107
    extract_lets y108 y109
    clear_value y108
    have h110 : State.Keeps q F y109 := by
      apply State.modGroup_keeps
      exact h107
    clear_value y109
    refine ite_keeps ?_ ?_
    · exact h
    · split
      next z111 z112 z113 =>
        refine (?_ : OptKeeps _ _ _) _ z113
        apply State.flushSectors_keeps
        exact h
      next z114 z115 =>
        apply State.lockAttempt_keeps
        exact h110

theorem execGlockRetry_keeps {q F x0 x1 s} (h : State.Keeps q F s) : Out.Keeps q F (execGlockRetry x0 x1 s) := by
  unfold execGlockRetry
  refine ok_keeps ?_
  split
  next z101 z102 z103 z104 z105 z106 z107 =>
    split
    next z108 z109 =>
      exact h
    next z110 z111 z112 z113 =>
      refine ite_keeps ?_ ?_
      · exact h
      · split
        next z114 z115 =>
          apply State.startGFetch_keeps
          exact h
        next z116 z117 z118 =>
          apply State.lockAttempt_keeps
          apply State.modGroup_keeps
          exact h
  next z119 z120 z121 =>
    exact h

theorem execHomeOperationResponse_keeps {q F x0 x1 s} (h : State.Keeps q F s) : Out.Keeps q F (execHomeOperationResponse x0 x1 s) := by
  unfold execHomeOperationResponse
  refine ok_keeps ?_
  split
  next z101 z102 =>
    exact h
  next z103 z104 z105 =>
    extract_lets y106 y107 y108 y109
    clear_value y106
    have h110 : State.Keeps q F y107 := by
      refine State.Keeps.fields (s := s) ?_
      exact h
    clear_value y107
    clear_value y108
    have h111 : State.Keeps q F y109 := by
      apply State.accDone_keeps
      exact h110
    clear_value y109
    split
    next z112 z113 =>
      exact h110
    next z114 z115 z116 =>
      refine ite_keeps ?_ ?_
      · exact h111
      · apply State.modGroup_keeps
        exact h111

theorem State.drainSet_keeps {q F s x1} (h : State.Keeps q F s) : SndKeeps q F (State.drainSet s x1) := by
  unfold State.drainSet
  extract_lets y101 y102 y103
  clear_value y101
  have h104 : State.Keeps q F y102 := by
    apply State.startDrain_keeps
    exact h
  clear_value y102
  clear_value y103
  refine mk_snd_keeps ?_
  apply State.modCore_keeps
  exact h104

theorem State.releaseLocks_keeps {q F s x1 x2 x3 x4} (h : State.Keeps q F s) : State.Keeps q F (State.releaseLocks s x1 x2 x3 x4) := by
  unfold State.releaseLocks
  split
  next z101 z102 =>
    exact h
  next z103 z104 z105 =>
    split
    next z106 z107 =>
      exact h
    next z108 z109 z110 z111 =>
      extract_lets y112 y113 y114 y115 y116
      clear_value y112
      clear_value y113
      clear_value y114
      clear_value y115
      have h117 : State.Keeps q F y116 := by
        apply State.modGroup_keeps
        exact h
      clear_value y116
      apply State.dropStopped_keeps
      apply State.issueStores_keeps
      exact h117

theorem execGunlock_keeps {q F x0 x1 s} (h : State.Keeps q F s) : Out.Keeps q F (execGunlock x0 x1 s) := by
  unfold execGunlock
  refine ok_keeps ?_
  split
  next z101 z102 z103 z104 z105 z106 z107 =>
    split
    next z108 z109 z110 =>
      refine ite_keeps ?_ ?_
      · apply State.releaseLocks_keeps
        exact h
      · exact h
    next z111 z112 =>
      apply State.gissue_keeps
      · exact h
      · intro x113
        intro x114
        intro x115
        intro x116
        intro x117
        intro x118
        intro h119
        refine ite_keeps ?_ ?_
        · exact h
        · extract_lets y120
          have h121 : SndKeeps q F y120 := by
            apply State.drainSet_keeps
            exact h119
          clear_value y120
          refine ite_keeps ?_ ?_
          · apply State.releaseLocks_keeps
            refine snd_keeps ?_
            exact h121
          · apply State.modGroup_keeps
            refine snd_keeps ?_
            exact h121
  next z122 z123 z124 =>
    exact h

theorem execVfence_keeps {q F x0 x1 s} (h : State.Keeps q F s) : Out.Keeps q F (execVfence x0 x1 s) := by
  unfold execVfence
  refine ok_keeps ?_
  split
  next z101 z102 =>
    exact h
  next z103 z104 z105 =>
    split
    next z106 z107 z108 z109 =>
      refine ite_keeps ?_ ?_
      · apply State.modGroup_keeps
        exact h
      · exact h
    next z110 z111 =>
      apply State.gissue_keeps
      · exact h
      · intro x112
        intro x113
        intro x114
        intro x115
        intro x116
        intro x117
        intro h118
        refine ite_keeps ?_ ?_
        · exact h
        · extract_lets y119 y120
          have h121 : SndKeeps q F y119 := by
            refine snd_ite_keeps ?_ ?_
            · refine mk_snd_keeps ?_
              exact h118
            · apply State.drainSet_keeps
              exact h118
          clear_value y119
          have h122 : State.Keeps q F y120 := by
            apply State.modGroup_keeps
            refine snd_keeps ?_
            exact h121
          clear_value y120
          refine ite_keeps ?_ ?_
          · exact h122
          · apply State.modGroup_keeps
            exact h122

end Sys2Proof.Machine
end

