-- ==== Sys2Proof/Laws/KeepsSideband.lean ====
section
/-! SUPPORT. Every operation of Sideband.lean keeps what State.Keeps says. -/

set_option maxRecDepth 20000

namespace Sys2Proof.Machine

theorem execDynamicAddressAssignment_keeps {q F x0 s} (h : State.Keeps q F s) : Out.Keeps q F (execDynamicAddressAssignment x0 s) := by
  unfold execDynamicAddressAssignment
  refine ok_keeps ?_
  refine ite_keeps ?_ ?_
  · refine State.Keeps.fields (s := s) ?_
    exact h
  · exact h

theorem execDaaReset_keeps {q F s} (h : State.Keeps q F s) : Out.Keeps q F (execDaaReset s) := by
  unfold execDaaReset
  refine ok_keeps ?_
  refine ite_keeps ?_ ?_
  · refine State.Keeps.fields (s := s) ?_
    exact h
  · exact h

theorem execBusTimeout_keeps {q F s} (h : State.Keeps q F s) : Out.Keeps q F (execBusTimeout s) := by
  unfold execBusTimeout
  refine ok_keeps ?_
  exact h

theorem execVrefSbLoss_keeps {q F s} (h : State.Keeps q F s) : Out.Keeps q F (execVrefSbLoss s) := by
  unfold execVrefSbLoss
  refine ok_keeps ?_
  refine State.Keeps.fields (s := s) ?_
  exact h

theorem execVrefSbRestore_keeps {q F s} (h : State.Keeps q F s) : Out.Keeps q F (execVrefSbRestore s) := by
  unfold execVrefSbRestore
  refine ok_keeps ?_
  refine State.Keeps.fields (s := s) ?_
  exact h

end Sys2Proof.Machine
end

