-- ==== Sys2Proof/Laws/KeepsRegisters.lean ====
section
/-! SUPPORT. Every operation of Registers.lean keeps what State.Keeps says. -/

set_option maxRecDepth 20000

namespace Sys2Proof.Machine

theorem State.captureFrom_keeps {q F s x1 x2} (h : State.Keeps q F s) : State.Keeps q F (State.captureFrom s x1 x2) := by
  unfold State.captureFrom
  refine foldl_keeps (fun t101 x102 h103 => ?_) ?_
  · refine State.Keeps.fields (s := t101) ?_
    exact h103
  · exact h

theorem State.readWord_keeps {q F s x1} (h : State.Keeps q F s) : SndKeeps q F (State.readWord s x1) := by
  unfold State.readWord
  extract_lets y101
  clear_value y101
  split
  next z102 z103 =>
    refine snd_ite_keeps ?_ ?_
    · split
      next z104 z105 z106 z107 =>
        refine mk_snd_keeps ?_
        refine snd_of_eq z107 ?_
        apply State.draw_keeps
        exact h
    · refine mk_snd_keeps ?_
      exact h
  next z108 z109 z110 z111 =>
    refine snd_ite_keeps ?_ ?_
    · extract_lets y112 y113
      have h114 : State.Keeps q F y112 := by
        refine ite_keeps ?_ ?_
        · apply State.captureFrom_keeps
          exact h
        · exact h
      clear_value y112
      clear_value y113
      refine mk_snd_keeps ?_
      refine ite_keeps ?_ ?_
      · exact h114
      · apply State.setReg_keeps
        exact h114
    · split
      next z115 z116 z117 =>
        refine mk_snd_keeps ?_
        refine State.Keeps.fields (s := s) ?_
        exact h
      next z118 z119 =>
        refine mk_snd_keeps ?_
        exact h

theorem State.returned_keeps {q F s x1} (h : State.Keeps q F s) : State.Keeps q F (State.returned s x1) := by
  unfold State.returned
  refine State.Keeps.fields (s := s) ?_
  exact h

theorem State.busRead_keeps {q F s x1 x2 x3} (h : State.Keeps q F s) : State.Keeps q F (State.busRead s x1 x2 x3) := by
  unfold State.busRead
  refine ite_keeps ?_ ?_
  · apply State.returned_keeps
    exact h
  · refine ite_keeps ?_ ?_
    · split
      next z101 z102 z103 z104 =>
        apply State.returned_keeps
        refine snd_of_eq z104 ?_
        apply State.readWord_keeps
        exact h
    · refine ite_keeps ?_ ?_
      · split
        next z105 z106 z107 z108 =>
          split
          next z109 z110 z111 z112 =>
            apply State.returned_keeps
            refine snd_of_eq z112 ?_
            apply State.readWord_keeps
            refine snd_of_eq z108 ?_
            apply State.readWord_keeps
            exact h
      · refine ite_keeps ?_ ?_
        · split
          next z113 z114 z115 z116 =>
            apply State.returned_keeps
            refine snd_of_eq z116 ?_
            apply State.draw_keeps
            exact h
        · apply State.returned_keeps
          exact h

theorem State.storeWord_keeps {q F s x1 x2 x3 x4} (h : State.Keeps q F s) : State.Keeps q F (State.storeWord s x1 x2 x3 x4) := by
  unfold State.storeWord
  apply State.setReg_keeps
  exact h

theorem State.writeReset_keeps {q F s x1} (h : State.Keeps q F s) : State.Keeps q F (State.writeReset s x1) := by
  unfold State.writeReset
  refine ite_keeps ?_ ?_
  · exact h
  · refine ite_keeps ?_ ?_
    · apply State.powerDown_keeps
      exact h
    · refine ite_keeps ?_ ?_
      · apply State.stewardReset_keeps
        exact h
      · exact h

theorem State.pfHook_keeps {q F s s1 x2 x3} (h : State.Keeps q F s) (h1 : State.Keeps q F s1) : State.Keeps q F (State.pfHook s s1 x2 x3) := by
  unfold State.pfHook
  refine ite_keeps ?_ ?_
  · refine ite_keeps ?_ ?_
    · apply State.mbxGo_keeps
      exact h1
    · exact h1
  · refine ite_keeps ?_ ?_
    · refine ite_keeps ?_ ?_
      · exact h
      · exact h1
    · refine ite_keeps ?_ ?_
      · refine ite_keeps ?_ ?_
        · apply State.composeGo_keeps
          exact h1
        · exact h1
      · refine ite_keeps ?_ ?_
        · refine ite_keeps ?_ ?_
          · apply State.schedPreempt_keeps
            exact h1
          · exact h1
        · refine ite_keeps ?_ ?_
          · refine ite_keeps ?_ ?_
            · apply State.schedSnap_keeps
              exact h1
            · exact h1
          · refine ite_keeps ?_ ?_
            · refine ite_keeps ?_ ?_
              · apply State.setReg_keeps
                exact h
              · exact h1
            · refine ite_keeps ?_ ?_
              · refine ite_keeps ?_ ?_
                · exact h1
                · refine ite_keeps ?_ ?_
                  · exact h
                  · apply startMaint_keeps
                    exact h1
              · refine ite_keeps ?_ ?_
                · apply probeCapture_keeps
                  exact h
                · refine ite_keeps ?_ ?_
                  · extract_lets y101 y102
                    clear_value y101
                    have h103 : State.Keeps q F y102 := by
                      refine ite_keeps ?_ ?_
                      · apply State.tgStart_keeps
                        exact h1
                      · exact h1
                    clear_value y102
                    refine ite_keeps ?_ ?_
                    · apply State.tgStop_keeps
                      exact h103
                    · exact h103
                  · refine ite_keeps ?_ ?_
                    · apply State.writeNetCtrl_keeps
                      exact h
                    · refine ite_keeps ?_ ?_
                      · refine ite_keeps ?_ ?_
                        · apply State.clearMax_keeps
                          exact h1
                        · exact h1
                      · refine ite_keeps ?_ ?_
                        · apply State.writePowerCtrl_keeps
                          exact h
                        · refine ite_keeps ?_ ?_
                          · apply State.writeReset_keeps
                            exact h
                          · refine ite_keeps ?_ ?_
                            · refine ite_keeps ?_ ?_
                              · apply State.clearSticky_keeps
                                exact h1
                              · exact h1
                            · refine ite_keeps ?_ ?_
                              · refine ite_keeps ?_ ?_
                                · apply State.containGo_keeps
                                  exact h1
                                · exact h1
                              · refine ite_keeps ?_ ?_
                                · refine ite_keeps ?_ ?_
                                  · apply State.fwupdGo_keeps
                                    exact h1
                                  · exact h1
                                · refine ite_keeps ?_ ?_
                                  · refine ite_keeps ?_ ?_
                                    · apply State.calibGo_keeps
                                      exact h1
                                    · exact h1
                                  · exact h1

theorem State.writeQueueCfg_keeps {q F s x1 x2 x3} (h : State.Keeps q F s) : State.Keeps q F (State.writeQueueCfg s x1 x2 x3) := by
  unfold State.writeQueueCfg
  extract_lets y101 y102 y103
  clear_value y101
  have h104 : State.Keeps q F y102 := by
    refine ite_keeps ?_ ?_
    · exact h
    · apply State.setRegFld_keeps
      exact h
  clear_value y102
  have h105 : State.Keeps q F y103 := by
    apply State.setRegBit_keeps
    exact h104
  clear_value y103
  apply State.queuePreempt_keeps
  apply State.enableQueue_keeps
  exact h105

theorem State.transportHook_keeps {q F s s1 x2 x3 x4} (h : State.Keeps q F s) (h1 : State.Keeps q F s1) : State.Keeps q F (State.transportHook s s1 x2 x3 x4) := by
  unfold State.transportHook
  extract_lets y101
  clear_value y101
  refine ite_keeps ?_ ?_
  · exact h1
  · refine ite_keeps ?_ ?_
    · exact h
    · refine ite_keeps ?_ ?_
      · refine ite_keeps ?_ ?_
        · refine ite_keeps ?_ ?_
          · apply State.armPair_keeps
            exact h1
          · apply State.resetPair_keeps
            exact h1
        · exact h1
      · exact h1

theorem State.vfHook_keeps {q F s s1 x2 x3 x4} (h : State.Keeps q F s) (h1 : State.Keeps q F s1) : State.Keeps q F (State.vfHook s s1 x2 x3 x4) := by
  unfold State.vfHook
  refine ite_keeps ?_ ?_
  · apply State.writeQueueCfg_keeps
    exact h
  · refine ite_keeps ?_ ?_
    · refine ite_keeps ?_ ?_
      · apply State.acctSnap_keeps
        exact h
      · exact h
    · refine ite_keeps ?_ ?_
      · apply State.transportHook_keeps
        · exact h
        · exact h1
      · exact h1

theorem State.ringWrite_keeps {q F s x1 x2} (h : State.Keeps q F s) : OptFstKeeps q F (State.ringWrite s x1 x2) := by
  unfold State.ringWrite
  extract_lets y101 y102 y103 y104
  clear_value y101
  clear_value y102
  clear_value y103
  clear_value y104
  refine optfst_ite_keeps ?_ ?_
  · refine optfst_ite_keeps ?_ ?_
    · refine optfst_ite_keeps ?_ ?_
      · refine some_pair_keeps ?_
        apply State.doorbellW_keeps
        exact h
      · refine optfst_ite_keeps ?_ ?_
        · refine some_pair_keeps ?_
          apply State.cqHeadW_keeps
          exact h
        · exact none_fst_keeps
    · refine optfst_ite_keeps ?_ ?_
      · refine optfst_ite_keeps ?_ ?_
        · exact none_fst_keeps
        · refine optfst_ite_keeps ?_ ?_
          · refine some_pair_keeps ?_
            apply State.ringPairW_keeps
            exact h
          · refine optfst_ite_keeps ?_ ?_
            · refine some_pair_keeps ?_
              apply State.qpHeadW_keeps
              exact h
            · refine optfst_ite_keeps ?_ ?_
              · refine some_pair_keeps ?_
                apply State.qpHeadW_keeps
                exact h
              · exact none_fst_keeps
      · exact none_fst_keeps
  · refine optfst_ite_keeps ?_ ?_
    · refine some_pair_keeps ?_
      apply State.qHeadW_keeps
      exact h
    · refine optfst_ite_keeps ?_ ?_
      · refine some_pair_keeps ?_
        apply State.qHeadW_keeps
        exact h
      · refine optfst_ite_keeps ?_ ?_
        · refine some_pair_keeps ?_
          apply State.qHeadW_keeps
          exact h
        · exact none_fst_keeps

theorem State.commitWords_keeps {q F s x1 x2 x3} (h : State.Keeps q F s) : State.Keeps q F (State.commitWords s x1 x2 x3) := by
  unfold State.commitWords
  extract_lets y101 y102 y103
  clear_value y101
  clear_value y102
  have h104 : State.Keeps q F y103 := by
    refine foldl_keeps (fun t105 x106 h107 => ?_) ?_
    · split
      next z108 z109 z110 =>
        apply State.storeWord_keeps
        exact h107
      next z111 z112 =>
        exact h107
    · exact h
  clear_value y103
  refine State.Keeps.fields (s := y103) ?_
  exact h104

theorem State.writeWord_keeps {q F s x1 x2} (h : State.Keeps q F s) : FstKeeps q F (State.writeWord s x1 x2) := by
  unfold State.writeWord
  split
  next z101 z102 z103 =>
    refine pair_keeps z103 ?_
    apply State.ringWrite_keeps
    exact h
  next z104 z105 =>
    extract_lets y106
    clear_value y106
    split
    next z107 z108 =>
      refine mk_fst_keeps ?_
      exact h
    next z109 z110 z111 z112 =>
      refine fst_ite_keeps ?_ ?_
      · extract_lets y113
        have h114 : State.Keeps q F y113 := by
          apply State.storeWord_keeps
          exact h
        clear_value y113
        refine mk_fst_keeps ?_
        refine ite_keeps ?_ ?_
        · exact h114
        · refine ite_keeps ?_ ?_
          · apply State.vfHook_keeps
            · exact h
            · exact h114
          · apply State.pfHook_keeps
            · exact h
            · exact h114
      · refine fst_ite_keeps ?_ ?_
        · refine mk_fst_keeps ?_
          exact h
        · refine fst_ite_keeps ?_ ?_
          · refine mk_fst_keeps ?_
            refine State.Keeps.fields (s := s) ?_
            exact h
          · refine mk_fst_keeps ?_
            apply State.commitWords_keeps
            exact h

theorem State.msixNarrow_keeps {q F s x1} (h : State.Keeps q F s) : State.Keeps q F (State.msixNarrow s x1) := by
  unfold State.msixNarrow
  split
  next z101 z102 z103 z104 =>
    split
    next z105 z106 z107 z108 =>
      apply State.storeWord_keeps
      refine snd_of_eq z108 ?_
      apply State.draw_keeps
      exact h
  next z109 z110 =>
    exact h

theorem State.busWrite_keeps {q F s x1 x2 x3 x4} (h : State.Keeps q F s) : State.Keeps q F (State.busWrite s x1 x2 x3 x4) := by
  unfold State.busWrite
  extract_lets y101 y102 y103
  clear_value y101
  clear_value y102
  clear_value y103
  refine ite_keeps ?_ ?_
  · exact h
  · refine ite_keeps ?_ ?_
    · split
      next z104 z105 z106 z107 =>
        refine ite_keeps ?_ ?_
        · apply State.bump_keeps
          refine fst_of_eq z107 ?_
          apply State.writeWord_keeps
          exact h
        · refine fst_of_eq z107 ?_
          apply State.writeWord_keeps
          exact h
    · refine ite_keeps ?_ ?_
      · split
        next z108 z109 z110 z111 =>
          split
          next z112 z113 z114 z115 =>
            refine ite_keeps ?_ ?_
            · apply State.bump_keeps
              refine fst_of_eq z115 ?_
              apply State.writeWord_keeps
              refine fst_of_eq z111 ?_
              apply State.writeWord_keeps
              exact h
            · refine ite_keeps ?_ ?_
              · apply State.bump_keeps
                refine fst_of_eq z115 ?_
                apply State.writeWord_keeps
                refine fst_of_eq z111 ?_
                apply State.writeWord_keeps
                exact h
              · refine fst_of_eq z115 ?_
                apply State.writeWord_keeps
                refine fst_of_eq z111 ?_
                apply State.writeWord_keeps
                exact h
      · refine ite_keeps ?_ ?_
        · refine ite_keeps ?_ ?_
          · exact h
          · apply State.msixNarrow_keeps
            exact h
        · apply State.bump_keeps
          exact h

theorem access_keeps {q F x0 x1 x2 s} (h : State.Keeps q F s) : Out.Keeps q F (access x0 x1 x2 s) := by
  unfold access
  refine out_ite_keeps ?_ ?_
  · refine ok_keeps ?_
    exact h
  · exact trivial

theorem execRegisterWrite_keeps {q F x0 x1 x2 x3 s} (h : State.Keeps q F s) : Out.Keeps q F (execRegisterWrite x0 x1 x2 x3 s) := by
  unfold execRegisterWrite
  apply access_keeps
  apply State.busWrite_keeps
  exact h

theorem execLowWordWrite_keeps {q F x0 x1 x2 s} (h : State.Keeps q F s) : Out.Keeps q F (execLowWordWrite x0 x1 x2 s) := by
  unfold execLowWordWrite
  apply access_keeps
  apply State.busWrite_keeps
  exact h

theorem execHighWordWrite_keeps {q F x0 x1 x2 s} (h : State.Keeps q F s) : Out.Keeps q F (execHighWordWrite x0 x1 x2 s) := by
  unfold execHighWordWrite
  apply access_keeps
  apply State.busWrite_keeps
  exact h

theorem execLowWordRead_keeps {q F x0 x1 s} (h : State.Keeps q F s) : Out.Keeps q F (execLowWordRead x0 x1 s) := by
  unfold execLowWordRead
  apply access_keeps
  apply State.busRead_keeps
  exact h

theorem execWord3Write_keeps {q F x0 x1 x2 s} (h : State.Keeps q F s) : Out.Keeps q F (execWord3Write x0 x1 x2 s) := by
  unfold execWord3Write
  apply access_keeps
  apply State.busWrite_keeps
  exact h

theorem execWord0Read_keeps {q F x0 x1 s} (h : State.Keeps q F s) : Out.Keeps q F (execWord0Read x0 x1 s) := by
  unfold execWord0Read
  apply access_keeps
  apply State.busRead_keeps
  exact h

theorem execCounterRead_keeps {q F x0 x1 x2 s} (h : State.Keeps q F s) : Out.Keeps q F (execCounterRead x0 x1 x2 s) := by
  unfold execCounterRead
  apply access_keeps
  apply State.busRead_keeps
  exact h

end Sys2Proof.Machine
end

