-- ==== Sys2Proof/Laws/KeepsStep.lean ====
section
/-! SUPPORT. The two operations that move the time base: the tick of an empty queue and a power-on. -/

namespace Sys2Proof.Machine

/-- A tick with power counts the time base by one and leaves memory, registers and the queue canonical and alone. -/
theorem State.tick_keeps_powered {q : List Instr × W64} {F : Factory} {s : State} (h : s.Keeps q F)
    (hp : s.clock.powered = true) : s.tick.Keeps (q.1, s.time + 1) F := by
  unfold State.tick
  rw [if_pos hp]
  apply State.tickFabric_keeps
  obtain ⟨hc, hq, hf⟩ := State.tickAclk_keeps h
  generalize s.tickAclk = u at hc hq hf ⊢
  subst hq
  unfold State.canonical at hc
  unfold State.Keeps State.canonical State.fixed
  exact ⟨hc, rfl, hf⟩

/-- The time base counts while the steward's domain has power (R451). -/
theorem State.tick_time {s : State} (hc : s.canonical = true) (hp : s.clock.powered = true) :
    s.tick.time = s.time + 1 :=
  congrArg Prod.snd (State.tick_keeps_powered (State.Keeps.self hc) hp).2.1

/-- A tick leaves memory, registers and the queue. -/
theorem State.tick_keeps {q : List Instr × W64} {F : Factory} {s : State} (h : s.Keeps q F) :
    s.tick.Keeps (q.1, s.tick.time) F := by
  by_cases hp : s.clock.powered = true
  · rw [State.tick_time h.1 hp]; exact State.tick_keeps_powered h hp
  · have ht : s.tick = s := by unfold State.tick; rw [if_neg hp]
    rw [ht]
    obtain ⟨hc, hq, hf⟩ := h
    exact ⟨hc, by unfold State.fixed at *; rw [← hq], hf⟩

/-- A power-on starts the time base at zero; with power it does nothing. -/
theorem execPowerOn_keeps {q : List Instr × W64} {F : Factory} {s : State} {p : PowerGood} {e : StartEnv} (h : s.Keeps q F) :
    Out.Keeps (q.1, if s.clock.powered then q.2 else 0) F (execPowerOn p e s) := by
  unfold execPowerOn
  refine ok_keeps ?_
  split
  · exact h
  · apply State.startup_keeps
    obtain ⟨hc, hq, hf⟩ := State.discard_keeps (x1 := 0) (x2 := fun _ => false) h
    unfold State.Keeps State.canonical State.fixed at *
    exact ⟨hc, by rw [← hq], hf⟩

end Sys2Proof.Machine
end

