-- ==== Sys2Proof/Laws/State.lean ====
section
/-! SUPPORT. One lemma per field per update of the state: what an update of one unit leaves as it was. -/

namespace Sys2Proof.Machine

variable {s : State}

@[simp] theorem State.setReg_pending {k : Nat} {v : W32} : (s.setReg k v).pending = s.pending := rfl
@[simp] theorem State.setReg_time {k : Nat} {v : W32} : (s.setReg k v).time = s.time := rfl
@[simp] theorem State.setReg_held {k : Nat} {v : W32} : (s.setReg k v).held = s.held := rfl
@[simp] theorem State.setReg_captured {k : Nat} {v : W32} : (s.setReg k v).captured = s.captured := rfl
@[simp] theorem State.setReg_readBack {k : Nat} {v : W32} : (s.setReg k v).readBack = s.readBack := rfl
@[simp] theorem State.setReg_fac {k : Nat} {v : W32} : (s.setReg k v).fac = s.fac := rfl
@[simp] theorem State.setReg_cores {k : Nat} {v : W32} : (s.setReg k v).cores = s.cores := rfl
@[simp] theorem State.setReg_fab {k : Nat} {v : W32} : (s.setReg k v).fab = s.fab := rfl
@[simp] theorem State.setReg_slices {k : Nat} {v : W32} : (s.setReg k v).slices = s.slices := rfl
@[simp] theorem State.setReg_dies {k : Nat} {v : W32} : (s.setReg k v).dies = s.dies := rfl
@[simp] theorem State.setReg_msgs {k : Nat} {v : W32} : (s.setReg k v).msgs = s.msgs := rfl
@[simp] theorem State.setReg_nacked {k : Nat} {v : W32} : (s.setReg k v).nacked = s.nacked := rfl
@[simp] theorem State.setReg_opRsps {k : Nat} {v : W32} : (s.setReg k v).opRsps = s.opRsps := rfl
@[simp] theorem State.setReg_maint {k : Nat} {v : W32} : (s.setReg k v).maint = s.maint := rfl
@[simp] theorem State.setReg_mem {k : Nat} {v : W32} : (s.setReg k v).mem = s.mem := rfl
@[simp] theorem State.setReg_chans {k : Nat} {v : W32} : (s.setReg k v).chans = s.chans := rfl
@[simp] theorem State.setReg_pool {k : Nat} {v : W32} : (s.setReg k v).pool = s.pool := rfl
@[simp] theorem State.setReg_vds {k : Nat} {v : W32} : (s.setReg k v).vds = s.vds := rfl
@[simp] theorem State.setReg_sets {k : Nat} {v : W32} : (s.setReg k v).sets = s.sets := rfl
@[simp] theorem State.setReg_binder {k : Nat} {v : W32} : (s.setReg k v).binder = s.binder := rfl
@[simp] theorem State.setReg_host {k : Nat} {v : W32} : (s.setReg k v).host = s.host := rfl
@[simp] theorem State.setReg_net {k : Nat} {v : W32} : (s.setReg k v).net = s.net := rfl
@[simp] theorem State.setReg_power {k : Nat} {v : W32} : (s.setReg k v).power = s.power := rfl
@[simp] theorem State.setReg_clock {k : Nat} {v : W32} : (s.setReg k v).clock = s.clock := rfl
@[simp] theorem State.setReg_peat {k : Nat} {v : W32} : (s.setReg k v).peat = s.peat := rfl
@[simp] theorem State.setReg_fw {k : Nat} {v : W32} : (s.setReg k v).fw = s.fw := rfl
@[simp] theorem State.setReg_err {k : Nat} {v : W32} : (s.setReg k v).err = s.err := rfl
@[simp] theorem State.setReg_side {k : Nat} {v : W32} : (s.setReg k v).side = s.side := rfl
@[simp] theorem State.setReg_vectors {k : Nat} {v : W32} : (s.setReg k v).vectors = s.vectors := rfl
@[simp] theorem State.setReg_freeCtr {k : Nat} {v : W32} : (s.setReg k v).freeCtr = s.freeCtr := rfl

@[simp] theorem State.setRegFld_pending {k lo len v : Nat} : (s.setRegFld k lo len v).pending = s.pending := rfl
@[simp] theorem State.setRegFld_time {k lo len v : Nat} : (s.setRegFld k lo len v).time = s.time := rfl
@[simp] theorem State.setRegFld_held {k lo len v : Nat} : (s.setRegFld k lo len v).held = s.held := rfl
@[simp] theorem State.setRegFld_captured {k lo len v : Nat} : (s.setRegFld k lo len v).captured = s.captured := rfl
@[simp] theorem State.setRegFld_readBack {k lo len v : Nat} : (s.setRegFld k lo len v).readBack = s.readBack := rfl
@[simp] theorem State.setRegFld_fac {k lo len v : Nat} : (s.setRegFld k lo len v).fac = s.fac := rfl
@[simp] theorem State.setRegFld_cores {k lo len v : Nat} : (s.setRegFld k lo len v).cores = s.cores := rfl
@[simp] theorem State.setRegFld_fab {k lo len v : Nat} : (s.setRegFld k lo len v).fab = s.fab := rfl
@[simp] theorem State.setRegFld_slices {k lo len v : Nat} : (s.setRegFld k lo len v).slices = s.slices := rfl
@[simp] theorem State.setRegFld_dies {k lo len v : Nat} : (s.setRegFld k lo len v).dies = s.dies := rfl
@[simp] theorem State.setRegFld_msgs {k lo len v : Nat} : (s.setRegFld k lo len v).msgs = s.msgs := rfl
@[simp] theorem State.setRegFld_nacked {k lo len v : Nat} : (s.setRegFld k lo len v).nacked = s.nacked := rfl
@[simp] theorem State.setRegFld_opRsps {k lo len v : Nat} : (s.setRegFld k lo len v).opRsps = s.opRsps := rfl
@[simp] theorem State.setRegFld_maint {k lo len v : Nat} : (s.setRegFld k lo len v).maint = s.maint := rfl
@[simp] theorem State.setRegFld_mem {k lo len v : Nat} : (s.setRegFld k lo len v).mem = s.mem := rfl
@[simp] theorem State.setRegFld_chans {k lo len v : Nat} : (s.setRegFld k lo len v).chans = s.chans := rfl
@[simp] theorem State.setRegFld_pool {k lo len v : Nat} : (s.setRegFld k lo len v).pool = s.pool := rfl
@[simp] theorem State.setRegFld_vds {k lo len v : Nat} : (s.setRegFld k lo len v).vds = s.vds := rfl
@[simp] theorem State.setRegFld_sets {k lo len v : Nat} : (s.setRegFld k lo len v).sets = s.sets := rfl
@[simp] theorem State.setRegFld_binder {k lo len v : Nat} : (s.setRegFld k lo len v).binder = s.binder := rfl
@[simp] theorem State.setRegFld_host {k lo len v : Nat} : (s.setRegFld k lo len v).host = s.host := rfl
@[simp] theorem State.setRegFld_net {k lo len v : Nat} : (s.setRegFld k lo len v).net = s.net := rfl
@[simp] theorem State.setRegFld_power {k lo len v : Nat} : (s.setRegFld k lo len v).power = s.power := rfl
@[simp] theorem State.setRegFld_clock {k lo len v : Nat} : (s.setRegFld k lo len v).clock = s.clock := rfl
@[simp] theorem State.setRegFld_peat {k lo len v : Nat} : (s.setRegFld k lo len v).peat = s.peat := rfl
@[simp] theorem State.setRegFld_fw {k lo len v : Nat} : (s.setRegFld k lo len v).fw = s.fw := rfl
@[simp] theorem State.setRegFld_err {k lo len v : Nat} : (s.setRegFld k lo len v).err = s.err := rfl
@[simp] theorem State.setRegFld_side {k lo len v : Nat} : (s.setRegFld k lo len v).side = s.side := rfl
@[simp] theorem State.setRegFld_vectors {k lo len v : Nat} : (s.setRegFld k lo len v).vectors = s.vectors := rfl
@[simp] theorem State.setRegFld_freeCtr {k lo len v : Nat} : (s.setRegFld k lo len v).freeCtr = s.freeCtr := rfl

@[simp] theorem State.setRegBit_pending {k i : Nat} {b : Bool} : (s.setRegBit k i b).pending = s.pending := rfl
@[simp] theorem State.setRegBit_time {k i : Nat} {b : Bool} : (s.setRegBit k i b).time = s.time := rfl
@[simp] theorem State.setRegBit_held {k i : Nat} {b : Bool} : (s.setRegBit k i b).held = s.held := rfl
@[simp] theorem State.setRegBit_captured {k i : Nat} {b : Bool} : (s.setRegBit k i b).captured = s.captured := rfl
@[simp] theorem State.setRegBit_readBack {k i : Nat} {b : Bool} : (s.setRegBit k i b).readBack = s.readBack := rfl
@[simp] theorem State.setRegBit_fac {k i : Nat} {b : Bool} : (s.setRegBit k i b).fac = s.fac := rfl
@[simp] theorem State.setRegBit_cores {k i : Nat} {b : Bool} : (s.setRegBit k i b).cores = s.cores := rfl
@[simp] theorem State.setRegBit_fab {k i : Nat} {b : Bool} : (s.setRegBit k i b).fab = s.fab := rfl
@[simp] theorem State.setRegBit_slices {k i : Nat} {b : Bool} : (s.setRegBit k i b).slices = s.slices := rfl
@[simp] theorem State.setRegBit_dies {k i : Nat} {b : Bool} : (s.setRegBit k i b).dies = s.dies := rfl
@[simp] theorem State.setRegBit_msgs {k i : Nat} {b : Bool} : (s.setRegBit k i b).msgs = s.msgs := rfl
@[simp] theorem State.setRegBit_nacked {k i : Nat} {b : Bool} : (s.setRegBit k i b).nacked = s.nacked := rfl
@[simp] theorem State.setRegBit_opRsps {k i : Nat} {b : Bool} : (s.setRegBit k i b).opRsps = s.opRsps := rfl
@[simp] theorem State.setRegBit_maint {k i : Nat} {b : Bool} : (s.setRegBit k i b).maint = s.maint := rfl
@[simp] theorem State.setRegBit_mem {k i : Nat} {b : Bool} : (s.setRegBit k i b).mem = s.mem := rfl
@[simp] theorem State.setRegBit_chans {k i : Nat} {b : Bool} : (s.setRegBit k i b).chans = s.chans := rfl
@[simp] theorem State.setRegBit_pool {k i : Nat} {b : Bool} : (s.setRegBit k i b).pool = s.pool := rfl
@[simp] theorem State.setRegBit_vds {k i : Nat} {b : Bool} : (s.setRegBit k i b).vds = s.vds := rfl
@[simp] theorem State.setRegBit_sets {k i : Nat} {b : Bool} : (s.setRegBit k i b).sets = s.sets := rfl
@[simp] theorem State.setRegBit_binder {k i : Nat} {b : Bool} : (s.setRegBit k i b).binder = s.binder := rfl
@[simp] theorem State.setRegBit_host {k i : Nat} {b : Bool} : (s.setRegBit k i b).host = s.host := rfl
@[simp] theorem State.setRegBit_net {k i : Nat} {b : Bool} : (s.setRegBit k i b).net = s.net := rfl
@[simp] theorem State.setRegBit_power {k i : Nat} {b : Bool} : (s.setRegBit k i b).power = s.power := rfl
@[simp] theorem State.setRegBit_clock {k i : Nat} {b : Bool} : (s.setRegBit k i b).clock = s.clock := rfl
@[simp] theorem State.setRegBit_peat {k i : Nat} {b : Bool} : (s.setRegBit k i b).peat = s.peat := rfl
@[simp] theorem State.setRegBit_fw {k i : Nat} {b : Bool} : (s.setRegBit k i b).fw = s.fw := rfl
@[simp] theorem State.setRegBit_err {k i : Nat} {b : Bool} : (s.setRegBit k i b).err = s.err := rfl
@[simp] theorem State.setRegBit_side {k i : Nat} {b : Bool} : (s.setRegBit k i b).side = s.side := rfl
@[simp] theorem State.setRegBit_vectors {k i : Nat} {b : Bool} : (s.setRegBit k i b).vectors = s.vectors := rfl
@[simp] theorem State.setRegBit_freeCtr {k i : Nat} {b : Bool} : (s.setRegBit k i b).freeCtr = s.freeCtr := rfl

@[simp] theorem State.bump_pending {k : Nat} : (s.bump k).pending = s.pending := rfl
@[simp] theorem State.bump_time {k : Nat} : (s.bump k).time = s.time := rfl
@[simp] theorem State.bump_held {k : Nat} : (s.bump k).held = s.held := rfl
@[simp] theorem State.bump_captured {k : Nat} : (s.bump k).captured = s.captured := rfl
@[simp] theorem State.bump_readBack {k : Nat} : (s.bump k).readBack = s.readBack := rfl
@[simp] theorem State.bump_fac {k : Nat} : (s.bump k).fac = s.fac := rfl
@[simp] theorem State.bump_cores {k : Nat} : (s.bump k).cores = s.cores := rfl
@[simp] theorem State.bump_fab {k : Nat} : (s.bump k).fab = s.fab := rfl
@[simp] theorem State.bump_slices {k : Nat} : (s.bump k).slices = s.slices := rfl
@[simp] theorem State.bump_dies {k : Nat} : (s.bump k).dies = s.dies := rfl
@[simp] theorem State.bump_msgs {k : Nat} : (s.bump k).msgs = s.msgs := rfl
@[simp] theorem State.bump_nacked {k : Nat} : (s.bump k).nacked = s.nacked := rfl
@[simp] theorem State.bump_opRsps {k : Nat} : (s.bump k).opRsps = s.opRsps := rfl
@[simp] theorem State.bump_maint {k : Nat} : (s.bump k).maint = s.maint := rfl
@[simp] theorem State.bump_mem {k : Nat} : (s.bump k).mem = s.mem := rfl
@[simp] theorem State.bump_chans {k : Nat} : (s.bump k).chans = s.chans := rfl
@[simp] theorem State.bump_pool {k : Nat} : (s.bump k).pool = s.pool := rfl
@[simp] theorem State.bump_vds {k : Nat} : (s.bump k).vds = s.vds := rfl
@[simp] theorem State.bump_sets {k : Nat} : (s.bump k).sets = s.sets := rfl
@[simp] theorem State.bump_binder {k : Nat} : (s.bump k).binder = s.binder := rfl
@[simp] theorem State.bump_host {k : Nat} : (s.bump k).host = s.host := rfl
@[simp] theorem State.bump_net {k : Nat} : (s.bump k).net = s.net := rfl
@[simp] theorem State.bump_power {k : Nat} : (s.bump k).power = s.power := rfl
@[simp] theorem State.bump_clock {k : Nat} : (s.bump k).clock = s.clock := rfl
@[simp] theorem State.bump_peat {k : Nat} : (s.bump k).peat = s.peat := rfl
@[simp] theorem State.bump_fw {k : Nat} : (s.bump k).fw = s.fw := rfl
@[simp] theorem State.bump_err {k : Nat} : (s.bump k).err = s.err := rfl
@[simp] theorem State.bump_side {k : Nat} : (s.bump k).side = s.side := rfl
@[simp] theorem State.bump_vectors {k : Nat} : (s.bump k).vectors = s.vectors := rfl
@[simp] theorem State.bump_freeCtr {k : Nat} : (s.bump k).freeCtr = s.freeCtr := rfl

@[simp] theorem State.bumpFld_pending {k lo len n : Nat} : (s.bumpFld k lo len n).pending = s.pending := rfl
@[simp] theorem State.bumpFld_time {k lo len n : Nat} : (s.bumpFld k lo len n).time = s.time := rfl
@[simp] theorem State.bumpFld_held {k lo len n : Nat} : (s.bumpFld k lo len n).held = s.held := rfl
@[simp] theorem State.bumpFld_captured {k lo len n : Nat} : (s.bumpFld k lo len n).captured = s.captured := rfl
@[simp] theorem State.bumpFld_readBack {k lo len n : Nat} : (s.bumpFld k lo len n).readBack = s.readBack := rfl
@[simp] theorem State.bumpFld_fac {k lo len n : Nat} : (s.bumpFld k lo len n).fac = s.fac := rfl
@[simp] theorem State.bumpFld_cores {k lo len n : Nat} : (s.bumpFld k lo len n).cores = s.cores := rfl
@[simp] theorem State.bumpFld_fab {k lo len n : Nat} : (s.bumpFld k lo len n).fab = s.fab := rfl
@[simp] theorem State.bumpFld_slices {k lo len n : Nat} : (s.bumpFld k lo len n).slices = s.slices := rfl
@[simp] theorem State.bumpFld_dies {k lo len n : Nat} : (s.bumpFld k lo len n).dies = s.dies := rfl
@[simp] theorem State.bumpFld_msgs {k lo len n : Nat} : (s.bumpFld k lo len n).msgs = s.msgs := rfl
@[simp] theorem State.bumpFld_nacked {k lo len n : Nat} : (s.bumpFld k lo len n).nacked = s.nacked := rfl
@[simp] theorem State.bumpFld_opRsps {k lo len n : Nat} : (s.bumpFld k lo len n).opRsps = s.opRsps := rfl
@[simp] theorem State.bumpFld_maint {k lo len n : Nat} : (s.bumpFld k lo len n).maint = s.maint := rfl
@[simp] theorem State.bumpFld_mem {k lo len n : Nat} : (s.bumpFld k lo len n).mem = s.mem := rfl
@[simp] theorem State.bumpFld_chans {k lo len n : Nat} : (s.bumpFld k lo len n).chans = s.chans := rfl
@[simp] theorem State.bumpFld_pool {k lo len n : Nat} : (s.bumpFld k lo len n).pool = s.pool := rfl
@[simp] theorem State.bumpFld_vds {k lo len n : Nat} : (s.bumpFld k lo len n).vds = s.vds := rfl
@[simp] theorem State.bumpFld_sets {k lo len n : Nat} : (s.bumpFld k lo len n).sets = s.sets := rfl
@[simp] theorem State.bumpFld_binder {k lo len n : Nat} : (s.bumpFld k lo len n).binder = s.binder := rfl
@[simp] theorem State.bumpFld_host {k lo len n : Nat} : (s.bumpFld k lo len n).host = s.host := rfl
@[simp] theorem State.bumpFld_net {k lo len n : Nat} : (s.bumpFld k lo len n).net = s.net := rfl
@[simp] theorem State.bumpFld_power {k lo len n : Nat} : (s.bumpFld k lo len n).power = s.power := rfl
@[simp] theorem State.bumpFld_clock {k lo len n : Nat} : (s.bumpFld k lo len n).clock = s.clock := rfl
@[simp] theorem State.bumpFld_peat {k lo len n : Nat} : (s.bumpFld k lo len n).peat = s.peat := rfl
@[simp] theorem State.bumpFld_fw {k lo len n : Nat} : (s.bumpFld k lo len n).fw = s.fw := rfl
@[simp] theorem State.bumpFld_err {k lo len n : Nat} : (s.bumpFld k lo len n).err = s.err := rfl
@[simp] theorem State.bumpFld_side {k lo len n : Nat} : (s.bumpFld k lo len n).side = s.side := rfl
@[simp] theorem State.bumpFld_vectors {k lo len n : Nat} : (s.bumpFld k lo len n).vectors = s.vectors := rfl
@[simp] theorem State.bumpFld_freeCtr {k lo len n : Nat} : (s.bumpFld k lo len n).freeCtr = s.freeCtr := rfl

@[simp] theorem State.modCore_pending {c : Nat} {f : Core → Core} : (s.modCore c f).pending = s.pending := rfl
@[simp] theorem State.modCore_time {c : Nat} {f : Core → Core} : (s.modCore c f).time = s.time := rfl
@[simp] theorem State.modCore_regs {c : Nat} {f : Core → Core} : (s.modCore c f).regs = s.regs := rfl
@[simp] theorem State.modCore_held {c : Nat} {f : Core → Core} : (s.modCore c f).held = s.held := rfl
@[simp] theorem State.modCore_captured {c : Nat} {f : Core → Core} : (s.modCore c f).captured = s.captured := rfl
@[simp] theorem State.modCore_readBack {c : Nat} {f : Core → Core} : (s.modCore c f).readBack = s.readBack := rfl
@[simp] theorem State.modCore_fac {c : Nat} {f : Core → Core} : (s.modCore c f).fac = s.fac := rfl
@[simp] theorem State.modCore_fab {c : Nat} {f : Core → Core} : (s.modCore c f).fab = s.fab := rfl
@[simp] theorem State.modCore_slices {c : Nat} {f : Core → Core} : (s.modCore c f).slices = s.slices := rfl
@[simp] theorem State.modCore_dies {c : Nat} {f : Core → Core} : (s.modCore c f).dies = s.dies := rfl
@[simp] theorem State.modCore_msgs {c : Nat} {f : Core → Core} : (s.modCore c f).msgs = s.msgs := rfl
@[simp] theorem State.modCore_nacked {c : Nat} {f : Core → Core} : (s.modCore c f).nacked = s.nacked := rfl
@[simp] theorem State.modCore_opRsps {c : Nat} {f : Core → Core} : (s.modCore c f).opRsps = s.opRsps := rfl
@[simp] theorem State.modCore_maint {c : Nat} {f : Core → Core} : (s.modCore c f).maint = s.maint := rfl
@[simp] theorem State.modCore_mem {c : Nat} {f : Core → Core} : (s.modCore c f).mem = s.mem := rfl
@[simp] theorem State.modCore_chans {c : Nat} {f : Core → Core} : (s.modCore c f).chans = s.chans := rfl
@[simp] theorem State.modCore_pool {c : Nat} {f : Core → Core} : (s.modCore c f).pool = s.pool := rfl
@[simp] theorem State.modCore_vds {c : Nat} {f : Core → Core} : (s.modCore c f).vds = s.vds := rfl
@[simp] theorem State.modCore_sets {c : Nat} {f : Core → Core} : (s.modCore c f).sets = s.sets := rfl
@[simp] theorem State.modCore_binder {c : Nat} {f : Core → Core} : (s.modCore c f).binder = s.binder := rfl
@[simp] theorem State.modCore_host {c : Nat} {f : Core → Core} : (s.modCore c f).host = s.host := rfl
@[simp] theorem State.modCore_net {c : Nat} {f : Core → Core} : (s.modCore c f).net = s.net := rfl
@[simp] theorem State.modCore_power {c : Nat} {f : Core → Core} : (s.modCore c f).power = s.power := rfl
@[simp] theorem State.modCore_clock {c : Nat} {f : Core → Core} : (s.modCore c f).clock = s.clock := rfl
@[simp] theorem State.modCore_peat {c : Nat} {f : Core → Core} : (s.modCore c f).peat = s.peat := rfl
@[simp] theorem State.modCore_fw {c : Nat} {f : Core → Core} : (s.modCore c f).fw = s.fw := rfl
@[simp] theorem State.modCore_err {c : Nat} {f : Core → Core} : (s.modCore c f).err = s.err := rfl
@[simp] theorem State.modCore_side {c : Nat} {f : Core → Core} : (s.modCore c f).side = s.side := rfl
@[simp] theorem State.modCore_vectors {c : Nat} {f : Core → Core} : (s.modCore c f).vectors = s.vectors := rfl
@[simp] theorem State.modCore_freeCtr {c : Nat} {f : Core → Core} : (s.modCore c f).freeCtr = s.freeCtr := rfl

@[simp] theorem State.modSlice_pending {i : Nat} {f : Slice → Slice} : (s.modSlice i f).pending = s.pending := rfl
@[simp] theorem State.modSlice_time {i : Nat} {f : Slice → Slice} : (s.modSlice i f).time = s.time := rfl
@[simp] theorem State.modSlice_regs {i : Nat} {f : Slice → Slice} : (s.modSlice i f).regs = s.regs := rfl
@[simp] theorem State.modSlice_held {i : Nat} {f : Slice → Slice} : (s.modSlice i f).held = s.held := rfl
@[simp] theorem State.modSlice_captured {i : Nat} {f : Slice → Slice} : (s.modSlice i f).captured = s.captured := rfl
@[simp] theorem State.modSlice_readBack {i : Nat} {f : Slice → Slice} : (s.modSlice i f).readBack = s.readBack := rfl
@[simp] theorem State.modSlice_fac {i : Nat} {f : Slice → Slice} : (s.modSlice i f).fac = s.fac := rfl
@[simp] theorem State.modSlice_cores {i : Nat} {f : Slice → Slice} : (s.modSlice i f).cores = s.cores := rfl
@[simp] theorem State.modSlice_fab {i : Nat} {f : Slice → Slice} : (s.modSlice i f).fab = s.fab := rfl
@[simp] theorem State.modSlice_dies {i : Nat} {f : Slice → Slice} : (s.modSlice i f).dies = s.dies := rfl
@[simp] theorem State.modSlice_msgs {i : Nat} {f : Slice → Slice} : (s.modSlice i f).msgs = s.msgs := rfl
@[simp] theorem State.modSlice_nacked {i : Nat} {f : Slice → Slice} : (s.modSlice i f).nacked = s.nacked := rfl
@[simp] theorem State.modSlice_opRsps {i : Nat} {f : Slice → Slice} : (s.modSlice i f).opRsps = s.opRsps := rfl
@[simp] theorem State.modSlice_maint {i : Nat} {f : Slice → Slice} : (s.modSlice i f).maint = s.maint := rfl
@[simp] theorem State.modSlice_mem {i : Nat} {f : Slice → Slice} : (s.modSlice i f).mem = s.mem := rfl
@[simp] theorem State.modSlice_chans {i : Nat} {f : Slice → Slice} : (s.modSlice i f).chans = s.chans := rfl
@[simp] theorem State.modSlice_pool {i : Nat} {f : Slice → Slice} : (s.modSlice i f).pool = s.pool := rfl
@[simp] theorem State.modSlice_vds {i : Nat} {f : Slice → Slice} : (s.modSlice i f).vds = s.vds := rfl
@[simp] theorem State.modSlice_sets {i : Nat} {f : Slice → Slice} : (s.modSlice i f).sets = s.sets := rfl
@[simp] theorem State.modSlice_binder {i : Nat} {f : Slice → Slice} : (s.modSlice i f).binder = s.binder := rfl
@[simp] theorem State.modSlice_host {i : Nat} {f : Slice → Slice} : (s.modSlice i f).host = s.host := rfl
@[simp] theorem State.modSlice_net {i : Nat} {f : Slice → Slice} : (s.modSlice i f).net = s.net := rfl
@[simp] theorem State.modSlice_power {i : Nat} {f : Slice → Slice} : (s.modSlice i f).power = s.power := rfl
@[simp] theorem State.modSlice_clock {i : Nat} {f : Slice → Slice} : (s.modSlice i f).clock = s.clock := rfl
@[simp] theorem State.modSlice_peat {i : Nat} {f : Slice → Slice} : (s.modSlice i f).peat = s.peat := rfl
@[simp] theorem State.modSlice_fw {i : Nat} {f : Slice → Slice} : (s.modSlice i f).fw = s.fw := rfl
@[simp] theorem State.modSlice_err {i : Nat} {f : Slice → Slice} : (s.modSlice i f).err = s.err := rfl
@[simp] theorem State.modSlice_side {i : Nat} {f : Slice → Slice} : (s.modSlice i f).side = s.side := rfl
@[simp] theorem State.modSlice_vectors {i : Nat} {f : Slice → Slice} : (s.modSlice i f).vectors = s.vectors := rfl
@[simp] theorem State.modSlice_freeCtr {i : Nat} {f : Slice → Slice} : (s.modSlice i f).freeCtr = s.freeCtr := rfl

@[simp] theorem State.modDie_pending {d : Nat} {f : Die → Die} : (s.modDie d f).pending = s.pending := rfl
@[simp] theorem State.modDie_time {d : Nat} {f : Die → Die} : (s.modDie d f).time = s.time := rfl
@[simp] theorem State.modDie_regs {d : Nat} {f : Die → Die} : (s.modDie d f).regs = s.regs := rfl
@[simp] theorem State.modDie_held {d : Nat} {f : Die → Die} : (s.modDie d f).held = s.held := rfl
@[simp] theorem State.modDie_captured {d : Nat} {f : Die → Die} : (s.modDie d f).captured = s.captured := rfl
@[simp] theorem State.modDie_readBack {d : Nat} {f : Die → Die} : (s.modDie d f).readBack = s.readBack := rfl
@[simp] theorem State.modDie_fac {d : Nat} {f : Die → Die} : (s.modDie d f).fac = s.fac := rfl
@[simp] theorem State.modDie_cores {d : Nat} {f : Die → Die} : (s.modDie d f).cores = s.cores := rfl
@[simp] theorem State.modDie_fab {d : Nat} {f : Die → Die} : (s.modDie d f).fab = s.fab := rfl
@[simp] theorem State.modDie_slices {d : Nat} {f : Die → Die} : (s.modDie d f).slices = s.slices := rfl
@[simp] theorem State.modDie_msgs {d : Nat} {f : Die → Die} : (s.modDie d f).msgs = s.msgs := rfl
@[simp] theorem State.modDie_nacked {d : Nat} {f : Die → Die} : (s.modDie d f).nacked = s.nacked := rfl
@[simp] theorem State.modDie_opRsps {d : Nat} {f : Die → Die} : (s.modDie d f).opRsps = s.opRsps := rfl
@[simp] theorem State.modDie_maint {d : Nat} {f : Die → Die} : (s.modDie d f).maint = s.maint := rfl
@[simp] theorem State.modDie_mem {d : Nat} {f : Die → Die} : (s.modDie d f).mem = s.mem := rfl
@[simp] theorem State.modDie_chans {d : Nat} {f : Die → Die} : (s.modDie d f).chans = s.chans := rfl
@[simp] theorem State.modDie_pool {d : Nat} {f : Die → Die} : (s.modDie d f).pool = s.pool := rfl
@[simp] theorem State.modDie_vds {d : Nat} {f : Die → Die} : (s.modDie d f).vds = s.vds := rfl
@[simp] theorem State.modDie_sets {d : Nat} {f : Die → Die} : (s.modDie d f).sets = s.sets := rfl
@[simp] theorem State.modDie_binder {d : Nat} {f : Die → Die} : (s.modDie d f).binder = s.binder := rfl
@[simp] theorem State.modDie_host {d : Nat} {f : Die → Die} : (s.modDie d f).host = s.host := rfl
@[simp] theorem State.modDie_net {d : Nat} {f : Die → Die} : (s.modDie d f).net = s.net := rfl
@[simp] theorem State.modDie_power {d : Nat} {f : Die → Die} : (s.modDie d f).power = s.power := rfl
@[simp] theorem State.modDie_clock {d : Nat} {f : Die → Die} : (s.modDie d f).clock = s.clock := rfl
@[simp] theorem State.modDie_peat {d : Nat} {f : Die → Die} : (s.modDie d f).peat = s.peat := rfl
@[simp] theorem State.modDie_fw {d : Nat} {f : Die → Die} : (s.modDie d f).fw = s.fw := rfl
@[simp] theorem State.modDie_err {d : Nat} {f : Die → Die} : (s.modDie d f).err = s.err := rfl
@[simp] theorem State.modDie_side {d : Nat} {f : Die → Die} : (s.modDie d f).side = s.side := rfl
@[simp] theorem State.modDie_vectors {d : Nat} {f : Die → Die} : (s.modDie d f).vectors = s.vectors := rfl
@[simp] theorem State.modDie_freeCtr {d : Nat} {f : Die → Die} : (s.modDie d f).freeCtr = s.freeCtr := rfl

@[simp] theorem State.modChan_pending {ch : Nat} {f : Channel → Channel} : (s.modChan ch f).pending = s.pending := rfl
@[simp] theorem State.modChan_time {ch : Nat} {f : Channel → Channel} : (s.modChan ch f).time = s.time := rfl
@[simp] theorem State.modChan_regs {ch : Nat} {f : Channel → Channel} : (s.modChan ch f).regs = s.regs := rfl
@[simp] theorem State.modChan_held {ch : Nat} {f : Channel → Channel} : (s.modChan ch f).held = s.held := rfl
@[simp] theorem State.modChan_captured {ch : Nat} {f : Channel → Channel} : (s.modChan ch f).captured = s.captured := rfl
@[simp] theorem State.modChan_readBack {ch : Nat} {f : Channel → Channel} : (s.modChan ch f).readBack = s.readBack := rfl
@[simp] theorem State.modChan_fac {ch : Nat} {f : Channel → Channel} : (s.modChan ch f).fac = s.fac := rfl
@[simp] theorem State.modChan_cores {ch : Nat} {f : Channel → Channel} : (s.modChan ch f).cores = s.cores := rfl
@[simp] theorem State.modChan_fab {ch : Nat} {f : Channel → Channel} : (s.modChan ch f).fab = s.fab := rfl
@[simp] theorem State.modChan_slices {ch : Nat} {f : Channel → Channel} : (s.modChan ch f).slices = s.slices := rfl
@[simp] theorem State.modChan_dies {ch : Nat} {f : Channel → Channel} : (s.modChan ch f).dies = s.dies := rfl
@[simp] theorem State.modChan_msgs {ch : Nat} {f : Channel → Channel} : (s.modChan ch f).msgs = s.msgs := rfl
@[simp] theorem State.modChan_nacked {ch : Nat} {f : Channel → Channel} : (s.modChan ch f).nacked = s.nacked := rfl
@[simp] theorem State.modChan_opRsps {ch : Nat} {f : Channel → Channel} : (s.modChan ch f).opRsps = s.opRsps := rfl
@[simp] theorem State.modChan_maint {ch : Nat} {f : Channel → Channel} : (s.modChan ch f).maint = s.maint := rfl
@[simp] theorem State.modChan_mem {ch : Nat} {f : Channel → Channel} : (s.modChan ch f).mem = s.mem := rfl
@[simp] theorem State.modChan_pool {ch : Nat} {f : Channel → Channel} : (s.modChan ch f).pool = s.pool := rfl
@[simp] theorem State.modChan_vds {ch : Nat} {f : Channel → Channel} : (s.modChan ch f).vds = s.vds := rfl
@[simp] theorem State.modChan_sets {ch : Nat} {f : Channel → Channel} : (s.modChan ch f).sets = s.sets := rfl
@[simp] theorem State.modChan_binder {ch : Nat} {f : Channel → Channel} : (s.modChan ch f).binder = s.binder := rfl
@[simp] theorem State.modChan_host {ch : Nat} {f : Channel → Channel} : (s.modChan ch f).host = s.host := rfl
@[simp] theorem State.modChan_net {ch : Nat} {f : Channel → Channel} : (s.modChan ch f).net = s.net := rfl
@[simp] theorem State.modChan_power {ch : Nat} {f : Channel → Channel} : (s.modChan ch f).power = s.power := rfl
@[simp] theorem State.modChan_clock {ch : Nat} {f : Channel → Channel} : (s.modChan ch f).clock = s.clock := rfl
@[simp] theorem State.modChan_peat {ch : Nat} {f : Channel → Channel} : (s.modChan ch f).peat = s.peat := rfl
@[simp] theorem State.modChan_fw {ch : Nat} {f : Channel → Channel} : (s.modChan ch f).fw = s.fw := rfl
@[simp] theorem State.modChan_err {ch : Nat} {f : Channel → Channel} : (s.modChan ch f).err = s.err := rfl
@[simp] theorem State.modChan_side {ch : Nat} {f : Channel → Channel} : (s.modChan ch f).side = s.side := rfl
@[simp] theorem State.modChan_vectors {ch : Nat} {f : Channel → Channel} : (s.modChan ch f).vectors = s.vectors := rfl
@[simp] theorem State.modChan_freeCtr {ch : Nat} {f : Channel → Channel} : (s.modChan ch f).freeCtr = s.freeCtr := rfl

@[simp] theorem State.modVd_pending {n : Nat} {f : VDev → VDev} : (s.modVd n f).pending = s.pending := rfl
@[simp] theorem State.modVd_time {n : Nat} {f : VDev → VDev} : (s.modVd n f).time = s.time := rfl
@[simp] theorem State.modVd_regs {n : Nat} {f : VDev → VDev} : (s.modVd n f).regs = s.regs := rfl
@[simp] theorem State.modVd_held {n : Nat} {f : VDev → VDev} : (s.modVd n f).held = s.held := rfl
@[simp] theorem State.modVd_captured {n : Nat} {f : VDev → VDev} : (s.modVd n f).captured = s.captured := rfl
@[simp] theorem State.modVd_readBack {n : Nat} {f : VDev → VDev} : (s.modVd n f).readBack = s.readBack := rfl
@[simp] theorem State.modVd_fac {n : Nat} {f : VDev → VDev} : (s.modVd n f).fac = s.fac := rfl
@[simp] theorem State.modVd_cores {n : Nat} {f : VDev → VDev} : (s.modVd n f).cores = s.cores := rfl
@[simp] theorem State.modVd_fab {n : Nat} {f : VDev → VDev} : (s.modVd n f).fab = s.fab := rfl
@[simp] theorem State.modVd_slices {n : Nat} {f : VDev → VDev} : (s.modVd n f).slices = s.slices := rfl
@[simp] theorem State.modVd_dies {n : Nat} {f : VDev → VDev} : (s.modVd n f).dies = s.dies := rfl
@[simp] theorem State.modVd_msgs {n : Nat} {f : VDev → VDev} : (s.modVd n f).msgs = s.msgs := rfl
@[simp] theorem State.modVd_nacked {n : Nat} {f : VDev → VDev} : (s.modVd n f).nacked = s.nacked := rfl
@[simp] theorem State.modVd_opRsps {n : Nat} {f : VDev → VDev} : (s.modVd n f).opRsps = s.opRsps := rfl
@[simp] theorem State.modVd_maint {n : Nat} {f : VDev → VDev} : (s.modVd n f).maint = s.maint := rfl
@[simp] theorem State.modVd_mem {n : Nat} {f : VDev → VDev} : (s.modVd n f).mem = s.mem := rfl
@[simp] theorem State.modVd_chans {n : Nat} {f : VDev → VDev} : (s.modVd n f).chans = s.chans := rfl
@[simp] theorem State.modVd_pool {n : Nat} {f : VDev → VDev} : (s.modVd n f).pool = s.pool := rfl
@[simp] theorem State.modVd_sets {n : Nat} {f : VDev → VDev} : (s.modVd n f).sets = s.sets := rfl
@[simp] theorem State.modVd_binder {n : Nat} {f : VDev → VDev} : (s.modVd n f).binder = s.binder := rfl
@[simp] theorem State.modVd_host {n : Nat} {f : VDev → VDev} : (s.modVd n f).host = s.host := rfl
@[simp] theorem State.modVd_net {n : Nat} {f : VDev → VDev} : (s.modVd n f).net = s.net := rfl
@[simp] theorem State.modVd_power {n : Nat} {f : VDev → VDev} : (s.modVd n f).power = s.power := rfl
@[simp] theorem State.modVd_clock {n : Nat} {f : VDev → VDev} : (s.modVd n f).clock = s.clock := rfl
@[simp] theorem State.modVd_peat {n : Nat} {f : VDev → VDev} : (s.modVd n f).peat = s.peat := rfl
@[simp] theorem State.modVd_fw {n : Nat} {f : VDev → VDev} : (s.modVd n f).fw = s.fw := rfl
@[simp] theorem State.modVd_err {n : Nat} {f : VDev → VDev} : (s.modVd n f).err = s.err := rfl
@[simp] theorem State.modVd_side {n : Nat} {f : VDev → VDev} : (s.modVd n f).side = s.side := rfl
@[simp] theorem State.modVd_vectors {n : Nat} {f : VDev → VDev} : (s.modVd n f).vectors = s.vectors := rfl
@[simp] theorem State.modVd_freeCtr {n : Nat} {f : VDev → VDev} : (s.modVd n f).freeCtr = s.freeCtr := rfl

@[simp] theorem State.modSet_pending {k : Nat} {f : SetSt → SetSt} : (s.modSet k f).pending = s.pending := rfl
@[simp] theorem State.modSet_time {k : Nat} {f : SetSt → SetSt} : (s.modSet k f).time = s.time := rfl
@[simp] theorem State.modSet_regs {k : Nat} {f : SetSt → SetSt} : (s.modSet k f).regs = s.regs := rfl
@[simp] theorem State.modSet_held {k : Nat} {f : SetSt → SetSt} : (s.modSet k f).held = s.held := rfl
@[simp] theorem State.modSet_captured {k : Nat} {f : SetSt → SetSt} : (s.modSet k f).captured = s.captured := rfl
@[simp] theorem State.modSet_readBack {k : Nat} {f : SetSt → SetSt} : (s.modSet k f).readBack = s.readBack := rfl
@[simp] theorem State.modSet_fac {k : Nat} {f : SetSt → SetSt} : (s.modSet k f).fac = s.fac := rfl
@[simp] theorem State.modSet_cores {k : Nat} {f : SetSt → SetSt} : (s.modSet k f).cores = s.cores := rfl
@[simp] theorem State.modSet_fab {k : Nat} {f : SetSt → SetSt} : (s.modSet k f).fab = s.fab := rfl
@[simp] theorem State.modSet_slices {k : Nat} {f : SetSt → SetSt} : (s.modSet k f).slices = s.slices := rfl
@[simp] theorem State.modSet_dies {k : Nat} {f : SetSt → SetSt} : (s.modSet k f).dies = s.dies := rfl
@[simp] theorem State.modSet_msgs {k : Nat} {f : SetSt → SetSt} : (s.modSet k f).msgs = s.msgs := rfl
@[simp] theorem State.modSet_nacked {k : Nat} {f : SetSt → SetSt} : (s.modSet k f).nacked = s.nacked := rfl
@[simp] theorem State.modSet_opRsps {k : Nat} {f : SetSt → SetSt} : (s.modSet k f).opRsps = s.opRsps := rfl
@[simp] theorem State.modSet_maint {k : Nat} {f : SetSt → SetSt} : (s.modSet k f).maint = s.maint := rfl
@[simp] theorem State.modSet_mem {k : Nat} {f : SetSt → SetSt} : (s.modSet k f).mem = s.mem := rfl
@[simp] theorem State.modSet_chans {k : Nat} {f : SetSt → SetSt} : (s.modSet k f).chans = s.chans := rfl
@[simp] theorem State.modSet_pool {k : Nat} {f : SetSt → SetSt} : (s.modSet k f).pool = s.pool := rfl
@[simp] theorem State.modSet_vds {k : Nat} {f : SetSt → SetSt} : (s.modSet k f).vds = s.vds := rfl
@[simp] theorem State.modSet_binder {k : Nat} {f : SetSt → SetSt} : (s.modSet k f).binder = s.binder := rfl
@[simp] theorem State.modSet_host {k : Nat} {f : SetSt → SetSt} : (s.modSet k f).host = s.host := rfl
@[simp] theorem State.modSet_net {k : Nat} {f : SetSt → SetSt} : (s.modSet k f).net = s.net := rfl
@[simp] theorem State.modSet_power {k : Nat} {f : SetSt → SetSt} : (s.modSet k f).power = s.power := rfl
@[simp] theorem State.modSet_clock {k : Nat} {f : SetSt → SetSt} : (s.modSet k f).clock = s.clock := rfl
@[simp] theorem State.modSet_peat {k : Nat} {f : SetSt → SetSt} : (s.modSet k f).peat = s.peat := rfl
@[simp] theorem State.modSet_fw {k : Nat} {f : SetSt → SetSt} : (s.modSet k f).fw = s.fw := rfl
@[simp] theorem State.modSet_err {k : Nat} {f : SetSt → SetSt} : (s.modSet k f).err = s.err := rfl
@[simp] theorem State.modSet_side {k : Nat} {f : SetSt → SetSt} : (s.modSet k f).side = s.side := rfl
@[simp] theorem State.modSet_vectors {k : Nat} {f : SetSt → SetSt} : (s.modSet k f).vectors = s.vectors := rfl
@[simp] theorem State.modSet_freeCtr {k : Nat} {f : SetSt → SetSt} : (s.modSet k f).freeCtr = s.freeCtr := rfl

@[simp] theorem State.modExtent_pending {e : Nat} {f : Extent → Extent} : (s.modExtent e f).pending = s.pending := rfl
@[simp] theorem State.modExtent_time {e : Nat} {f : Extent → Extent} : (s.modExtent e f).time = s.time := rfl
@[simp] theorem State.modExtent_regs {e : Nat} {f : Extent → Extent} : (s.modExtent e f).regs = s.regs := rfl
@[simp] theorem State.modExtent_held {e : Nat} {f : Extent → Extent} : (s.modExtent e f).held = s.held := rfl
@[simp] theorem State.modExtent_captured {e : Nat} {f : Extent → Extent} : (s.modExtent e f).captured = s.captured := rfl
@[simp] theorem State.modExtent_readBack {e : Nat} {f : Extent → Extent} : (s.modExtent e f).readBack = s.readBack := rfl
@[simp] theorem State.modExtent_fac {e : Nat} {f : Extent → Extent} : (s.modExtent e f).fac = s.fac := rfl
@[simp] theorem State.modExtent_cores {e : Nat} {f : Extent → Extent} : (s.modExtent e f).cores = s.cores := rfl
@[simp] theorem State.modExtent_fab {e : Nat} {f : Extent → Extent} : (s.modExtent e f).fab = s.fab := rfl
@[simp] theorem State.modExtent_slices {e : Nat} {f : Extent → Extent} : (s.modExtent e f).slices = s.slices := rfl
@[simp] theorem State.modExtent_dies {e : Nat} {f : Extent → Extent} : (s.modExtent e f).dies = s.dies := rfl
@[simp] theorem State.modExtent_msgs {e : Nat} {f : Extent → Extent} : (s.modExtent e f).msgs = s.msgs := rfl
@[simp] theorem State.modExtent_nacked {e : Nat} {f : Extent → Extent} : (s.modExtent e f).nacked = s.nacked := rfl
@[simp] theorem State.modExtent_opRsps {e : Nat} {f : Extent → Extent} : (s.modExtent e f).opRsps = s.opRsps := rfl
@[simp] theorem State.modExtent_maint {e : Nat} {f : Extent → Extent} : (s.modExtent e f).maint = s.maint := rfl
@[simp] theorem State.modExtent_mem {e : Nat} {f : Extent → Extent} : (s.modExtent e f).mem = s.mem := rfl
@[simp] theorem State.modExtent_chans {e : Nat} {f : Extent → Extent} : (s.modExtent e f).chans = s.chans := rfl
@[simp] theorem State.modExtent_vds {e : Nat} {f : Extent → Extent} : (s.modExtent e f).vds = s.vds := rfl
@[simp] theorem State.modExtent_sets {e : Nat} {f : Extent → Extent} : (s.modExtent e f).sets = s.sets := rfl
@[simp] theorem State.modExtent_binder {e : Nat} {f : Extent → Extent} : (s.modExtent e f).binder = s.binder := rfl
@[simp] theorem State.modExtent_host {e : Nat} {f : Extent → Extent} : (s.modExtent e f).host = s.host := rfl
@[simp] theorem State.modExtent_net {e : Nat} {f : Extent → Extent} : (s.modExtent e f).net = s.net := rfl
@[simp] theorem State.modExtent_power {e : Nat} {f : Extent → Extent} : (s.modExtent e f).power = s.power := rfl
@[simp] theorem State.modExtent_clock {e : Nat} {f : Extent → Extent} : (s.modExtent e f).clock = s.clock := rfl
@[simp] theorem State.modExtent_peat {e : Nat} {f : Extent → Extent} : (s.modExtent e f).peat = s.peat := rfl
@[simp] theorem State.modExtent_fw {e : Nat} {f : Extent → Extent} : (s.modExtent e f).fw = s.fw := rfl
@[simp] theorem State.modExtent_err {e : Nat} {f : Extent → Extent} : (s.modExtent e f).err = s.err := rfl
@[simp] theorem State.modExtent_side {e : Nat} {f : Extent → Extent} : (s.modExtent e f).side = s.side := rfl
@[simp] theorem State.modExtent_vectors {e : Nat} {f : Extent → Extent} : (s.modExtent e f).vectors = s.vectors := rfl
@[simp] theorem State.modExtent_freeCtr {e : Nat} {f : Extent → Extent} : (s.modExtent e f).freeCtr = s.freeCtr := rfl

@[simp] theorem State.modEngine_pending {e : Nat} {f : EngineSt → EngineSt} : (s.modEngine e f).pending = s.pending := rfl
@[simp] theorem State.modEngine_time {e : Nat} {f : EngineSt → EngineSt} : (s.modEngine e f).time = s.time := rfl
@[simp] theorem State.modEngine_regs {e : Nat} {f : EngineSt → EngineSt} : (s.modEngine e f).regs = s.regs := rfl
@[simp] theorem State.modEngine_held {e : Nat} {f : EngineSt → EngineSt} : (s.modEngine e f).held = s.held := rfl
@[simp] theorem State.modEngine_captured {e : Nat} {f : EngineSt → EngineSt} : (s.modEngine e f).captured = s.captured := rfl
@[simp] theorem State.modEngine_readBack {e : Nat} {f : EngineSt → EngineSt} : (s.modEngine e f).readBack = s.readBack := rfl
@[simp] theorem State.modEngine_fac {e : Nat} {f : EngineSt → EngineSt} : (s.modEngine e f).fac = s.fac := rfl
@[simp] theorem State.modEngine_cores {e : Nat} {f : EngineSt → EngineSt} : (s.modEngine e f).cores = s.cores := rfl
@[simp] theorem State.modEngine_slices {e : Nat} {f : EngineSt → EngineSt} : (s.modEngine e f).slices = s.slices := rfl
@[simp] theorem State.modEngine_dies {e : Nat} {f : EngineSt → EngineSt} : (s.modEngine e f).dies = s.dies := rfl
@[simp] theorem State.modEngine_msgs {e : Nat} {f : EngineSt → EngineSt} : (s.modEngine e f).msgs = s.msgs := rfl
@[simp] theorem State.modEngine_nacked {e : Nat} {f : EngineSt → EngineSt} : (s.modEngine e f).nacked = s.nacked := rfl
@[simp] theorem State.modEngine_opRsps {e : Nat} {f : EngineSt → EngineSt} : (s.modEngine e f).opRsps = s.opRsps := rfl
@[simp] theorem State.modEngine_maint {e : Nat} {f : EngineSt → EngineSt} : (s.modEngine e f).maint = s.maint := rfl
@[simp] theorem State.modEngine_mem {e : Nat} {f : EngineSt → EngineSt} : (s.modEngine e f).mem = s.mem := rfl
@[simp] theorem State.modEngine_chans {e : Nat} {f : EngineSt → EngineSt} : (s.modEngine e f).chans = s.chans := rfl
@[simp] theorem State.modEngine_pool {e : Nat} {f : EngineSt → EngineSt} : (s.modEngine e f).pool = s.pool := rfl
@[simp] theorem State.modEngine_vds {e : Nat} {f : EngineSt → EngineSt} : (s.modEngine e f).vds = s.vds := rfl
@[simp] theorem State.modEngine_sets {e : Nat} {f : EngineSt → EngineSt} : (s.modEngine e f).sets = s.sets := rfl
@[simp] theorem State.modEngine_binder {e : Nat} {f : EngineSt → EngineSt} : (s.modEngine e f).binder = s.binder := rfl
@[simp] theorem State.modEngine_host {e : Nat} {f : EngineSt → EngineSt} : (s.modEngine e f).host = s.host := rfl
@[simp] theorem State.modEngine_net {e : Nat} {f : EngineSt → EngineSt} : (s.modEngine e f).net = s.net := rfl
@[simp] theorem State.modEngine_power {e : Nat} {f : EngineSt → EngineSt} : (s.modEngine e f).power = s.power := rfl
@[simp] theorem State.modEngine_clock {e : Nat} {f : EngineSt → EngineSt} : (s.modEngine e f).clock = s.clock := rfl
@[simp] theorem State.modEngine_peat {e : Nat} {f : EngineSt → EngineSt} : (s.modEngine e f).peat = s.peat := rfl
@[simp] theorem State.modEngine_fw {e : Nat} {f : EngineSt → EngineSt} : (s.modEngine e f).fw = s.fw := rfl
@[simp] theorem State.modEngine_err {e : Nat} {f : EngineSt → EngineSt} : (s.modEngine e f).err = s.err := rfl
@[simp] theorem State.modEngine_side {e : Nat} {f : EngineSt → EngineSt} : (s.modEngine e f).side = s.side := rfl
@[simp] theorem State.modEngine_vectors {e : Nat} {f : EngineSt → EngineSt} : (s.modEngine e f).vectors = s.vectors := rfl
@[simp] theorem State.modEngine_freeCtr {e : Nat} {f : EngineSt → EngineSt} : (s.modEngine e f).freeCtr = s.freeCtr := rfl

@[simp] theorem State.modLink_pending {l : Nat} {f : ReedLink → ReedLink} : (s.modLink l f).pending = s.pending := rfl
@[simp] theorem State.modLink_time {l : Nat} {f : ReedLink → ReedLink} : (s.modLink l f).time = s.time := rfl
@[simp] theorem State.modLink_regs {l : Nat} {f : ReedLink → ReedLink} : (s.modLink l f).regs = s.regs := rfl
@[simp] theorem State.modLink_held {l : Nat} {f : ReedLink → ReedLink} : (s.modLink l f).held = s.held := rfl
@[simp] theorem State.modLink_captured {l : Nat} {f : ReedLink → ReedLink} : (s.modLink l f).captured = s.captured := rfl
@[simp] theorem State.modLink_readBack {l : Nat} {f : ReedLink → ReedLink} : (s.modLink l f).readBack = s.readBack := rfl
@[simp] theorem State.modLink_fac {l : Nat} {f : ReedLink → ReedLink} : (s.modLink l f).fac = s.fac := rfl
@[simp] theorem State.modLink_cores {l : Nat} {f : ReedLink → ReedLink} : (s.modLink l f).cores = s.cores := rfl
@[simp] theorem State.modLink_slices {l : Nat} {f : ReedLink → ReedLink} : (s.modLink l f).slices = s.slices := rfl
@[simp] theorem State.modLink_dies {l : Nat} {f : ReedLink → ReedLink} : (s.modLink l f).dies = s.dies := rfl
@[simp] theorem State.modLink_msgs {l : Nat} {f : ReedLink → ReedLink} : (s.modLink l f).msgs = s.msgs := rfl
@[simp] theorem State.modLink_nacked {l : Nat} {f : ReedLink → ReedLink} : (s.modLink l f).nacked = s.nacked := rfl
@[simp] theorem State.modLink_opRsps {l : Nat} {f : ReedLink → ReedLink} : (s.modLink l f).opRsps = s.opRsps := rfl
@[simp] theorem State.modLink_maint {l : Nat} {f : ReedLink → ReedLink} : (s.modLink l f).maint = s.maint := rfl
@[simp] theorem State.modLink_mem {l : Nat} {f : ReedLink → ReedLink} : (s.modLink l f).mem = s.mem := rfl
@[simp] theorem State.modLink_chans {l : Nat} {f : ReedLink → ReedLink} : (s.modLink l f).chans = s.chans := rfl
@[simp] theorem State.modLink_pool {l : Nat} {f : ReedLink → ReedLink} : (s.modLink l f).pool = s.pool := rfl
@[simp] theorem State.modLink_vds {l : Nat} {f : ReedLink → ReedLink} : (s.modLink l f).vds = s.vds := rfl
@[simp] theorem State.modLink_sets {l : Nat} {f : ReedLink → ReedLink} : (s.modLink l f).sets = s.sets := rfl
@[simp] theorem State.modLink_binder {l : Nat} {f : ReedLink → ReedLink} : (s.modLink l f).binder = s.binder := rfl
@[simp] theorem State.modLink_host {l : Nat} {f : ReedLink → ReedLink} : (s.modLink l f).host = s.host := rfl
@[simp] theorem State.modLink_net {l : Nat} {f : ReedLink → ReedLink} : (s.modLink l f).net = s.net := rfl
@[simp] theorem State.modLink_power {l : Nat} {f : ReedLink → ReedLink} : (s.modLink l f).power = s.power := rfl
@[simp] theorem State.modLink_clock {l : Nat} {f : ReedLink → ReedLink} : (s.modLink l f).clock = s.clock := rfl
@[simp] theorem State.modLink_peat {l : Nat} {f : ReedLink → ReedLink} : (s.modLink l f).peat = s.peat := rfl
@[simp] theorem State.modLink_fw {l : Nat} {f : ReedLink → ReedLink} : (s.modLink l f).fw = s.fw := rfl
@[simp] theorem State.modLink_err {l : Nat} {f : ReedLink → ReedLink} : (s.modLink l f).err = s.err := rfl
@[simp] theorem State.modLink_side {l : Nat} {f : ReedLink → ReedLink} : (s.modLink l f).side = s.side := rfl
@[simp] theorem State.modLink_vectors {l : Nat} {f : ReedLink → ReedLink} : (s.modLink l f).vectors = s.vectors := rfl
@[simp] theorem State.modLink_freeCtr {l : Nat} {f : ReedLink → ReedLink} : (s.modLink l f).freeCtr = s.freeCtr := rfl

@[simp] theorem State.modQp_pending {n q : Nat} {f : Qp → Qp} : (s.modQp n q f).pending = s.pending := rfl
@[simp] theorem State.modQp_time {n q : Nat} {f : Qp → Qp} : (s.modQp n q f).time = s.time := rfl
@[simp] theorem State.modQp_regs {n q : Nat} {f : Qp → Qp} : (s.modQp n q f).regs = s.regs := rfl
@[simp] theorem State.modQp_held {n q : Nat} {f : Qp → Qp} : (s.modQp n q f).held = s.held := rfl
@[simp] theorem State.modQp_captured {n q : Nat} {f : Qp → Qp} : (s.modQp n q f).captured = s.captured := rfl
@[simp] theorem State.modQp_readBack {n q : Nat} {f : Qp → Qp} : (s.modQp n q f).readBack = s.readBack := rfl
@[simp] theorem State.modQp_fac {n q : Nat} {f : Qp → Qp} : (s.modQp n q f).fac = s.fac := rfl
@[simp] theorem State.modQp_cores {n q : Nat} {f : Qp → Qp} : (s.modQp n q f).cores = s.cores := rfl
@[simp] theorem State.modQp_fab {n q : Nat} {f : Qp → Qp} : (s.modQp n q f).fab = s.fab := rfl
@[simp] theorem State.modQp_slices {n q : Nat} {f : Qp → Qp} : (s.modQp n q f).slices = s.slices := rfl
@[simp] theorem State.modQp_dies {n q : Nat} {f : Qp → Qp} : (s.modQp n q f).dies = s.dies := rfl
@[simp] theorem State.modQp_msgs {n q : Nat} {f : Qp → Qp} : (s.modQp n q f).msgs = s.msgs := rfl
@[simp] theorem State.modQp_nacked {n q : Nat} {f : Qp → Qp} : (s.modQp n q f).nacked = s.nacked := rfl
@[simp] theorem State.modQp_opRsps {n q : Nat} {f : Qp → Qp} : (s.modQp n q f).opRsps = s.opRsps := rfl
@[simp] theorem State.modQp_maint {n q : Nat} {f : Qp → Qp} : (s.modQp n q f).maint = s.maint := rfl
@[simp] theorem State.modQp_mem {n q : Nat} {f : Qp → Qp} : (s.modQp n q f).mem = s.mem := rfl
@[simp] theorem State.modQp_chans {n q : Nat} {f : Qp → Qp} : (s.modQp n q f).chans = s.chans := rfl
@[simp] theorem State.modQp_pool {n q : Nat} {f : Qp → Qp} : (s.modQp n q f).pool = s.pool := rfl
@[simp] theorem State.modQp_vds {n q : Nat} {f : Qp → Qp} : (s.modQp n q f).vds = s.vds := rfl
@[simp] theorem State.modQp_sets {n q : Nat} {f : Qp → Qp} : (s.modQp n q f).sets = s.sets := rfl
@[simp] theorem State.modQp_binder {n q : Nat} {f : Qp → Qp} : (s.modQp n q f).binder = s.binder := rfl
@[simp] theorem State.modQp_host {n q : Nat} {f : Qp → Qp} : (s.modQp n q f).host = s.host := rfl
@[simp] theorem State.modQp_power {n q : Nat} {f : Qp → Qp} : (s.modQp n q f).power = s.power := rfl
@[simp] theorem State.modQp_clock {n q : Nat} {f : Qp → Qp} : (s.modQp n q f).clock = s.clock := rfl
@[simp] theorem State.modQp_peat {n q : Nat} {f : Qp → Qp} : (s.modQp n q f).peat = s.peat := rfl
@[simp] theorem State.modQp_fw {n q : Nat} {f : Qp → Qp} : (s.modQp n q f).fw = s.fw := rfl
@[simp] theorem State.modQp_err {n q : Nat} {f : Qp → Qp} : (s.modQp n q f).err = s.err := rfl
@[simp] theorem State.modQp_side {n q : Nat} {f : Qp → Qp} : (s.modQp n q f).side = s.side := rfl
@[simp] theorem State.modQp_vectors {n q : Nat} {f : Qp → Qp} : (s.modQp n q f).vectors = s.vectors := rfl
@[simp] theorem State.modQp_freeCtr {n q : Nat} {f : Qp → Qp} : (s.modQp n q f).freeCtr = s.freeCtr := rfl

@[simp] theorem State.modPdie_pending {d : Nat} {f : DieBudget → DieBudget} : (s.modPdie d f).pending = s.pending := rfl
@[simp] theorem State.modPdie_time {d : Nat} {f : DieBudget → DieBudget} : (s.modPdie d f).time = s.time := rfl
@[simp] theorem State.modPdie_regs {d : Nat} {f : DieBudget → DieBudget} : (s.modPdie d f).regs = s.regs := rfl
@[simp] theorem State.modPdie_held {d : Nat} {f : DieBudget → DieBudget} : (s.modPdie d f).held = s.held := rfl
@[simp] theorem State.modPdie_captured {d : Nat} {f : DieBudget → DieBudget} : (s.modPdie d f).captured = s.captured := rfl
@[simp] theorem State.modPdie_readBack {d : Nat} {f : DieBudget → DieBudget} : (s.modPdie d f).readBack = s.readBack := rfl
@[simp] theorem State.modPdie_fac {d : Nat} {f : DieBudget → DieBudget} : (s.modPdie d f).fac = s.fac := rfl
@[simp] theorem State.modPdie_cores {d : Nat} {f : DieBudget → DieBudget} : (s.modPdie d f).cores = s.cores := rfl
@[simp] theorem State.modPdie_fab {d : Nat} {f : DieBudget → DieBudget} : (s.modPdie d f).fab = s.fab := rfl
@[simp] theorem State.modPdie_slices {d : Nat} {f : DieBudget → DieBudget} : (s.modPdie d f).slices = s.slices := rfl
@[simp] theorem State.modPdie_dies {d : Nat} {f : DieBudget → DieBudget} : (s.modPdie d f).dies = s.dies := rfl
@[simp] theorem State.modPdie_msgs {d : Nat} {f : DieBudget → DieBudget} : (s.modPdie d f).msgs = s.msgs := rfl
@[simp] theorem State.modPdie_nacked {d : Nat} {f : DieBudget → DieBudget} : (s.modPdie d f).nacked = s.nacked := rfl
@[simp] theorem State.modPdie_opRsps {d : Nat} {f : DieBudget → DieBudget} : (s.modPdie d f).opRsps = s.opRsps := rfl
@[simp] theorem State.modPdie_maint {d : Nat} {f : DieBudget → DieBudget} : (s.modPdie d f).maint = s.maint := rfl
@[simp] theorem State.modPdie_mem {d : Nat} {f : DieBudget → DieBudget} : (s.modPdie d f).mem = s.mem := rfl
@[simp] theorem State.modPdie_chans {d : Nat} {f : DieBudget → DieBudget} : (s.modPdie d f).chans = s.chans := rfl
@[simp] theorem State.modPdie_pool {d : Nat} {f : DieBudget → DieBudget} : (s.modPdie d f).pool = s.pool := rfl
@[simp] theorem State.modPdie_vds {d : Nat} {f : DieBudget → DieBudget} : (s.modPdie d f).vds = s.vds := rfl
@[simp] theorem State.modPdie_sets {d : Nat} {f : DieBudget → DieBudget} : (s.modPdie d f).sets = s.sets := rfl
@[simp] theorem State.modPdie_binder {d : Nat} {f : DieBudget → DieBudget} : (s.modPdie d f).binder = s.binder := rfl
@[simp] theorem State.modPdie_host {d : Nat} {f : DieBudget → DieBudget} : (s.modPdie d f).host = s.host := rfl
@[simp] theorem State.modPdie_net {d : Nat} {f : DieBudget → DieBudget} : (s.modPdie d f).net = s.net := rfl
@[simp] theorem State.modPdie_clock {d : Nat} {f : DieBudget → DieBudget} : (s.modPdie d f).clock = s.clock := rfl
@[simp] theorem State.modPdie_peat {d : Nat} {f : DieBudget → DieBudget} : (s.modPdie d f).peat = s.peat := rfl
@[simp] theorem State.modPdie_fw {d : Nat} {f : DieBudget → DieBudget} : (s.modPdie d f).fw = s.fw := rfl
@[simp] theorem State.modPdie_err {d : Nat} {f : DieBudget → DieBudget} : (s.modPdie d f).err = s.err := rfl
@[simp] theorem State.modPdie_side {d : Nat} {f : DieBudget → DieBudget} : (s.modPdie d f).side = s.side := rfl
@[simp] theorem State.modPdie_vectors {d : Nat} {f : DieBudget → DieBudget} : (s.modPdie d f).vectors = s.vectors := rfl
@[simp] theorem State.modPdie_freeCtr {d : Nat} {f : DieBudget → DieBudget} : (s.modPdie d f).freeCtr = s.freeCtr := rfl

@[simp] theorem State.vecPf_pending {k : Nat} : (s.vecPf k).pending = s.pending := rfl
@[simp] theorem State.vecPf_time {k : Nat} : (s.vecPf k).time = s.time := rfl
@[simp] theorem State.vecPf_regs {k : Nat} : (s.vecPf k).regs = s.regs := rfl
@[simp] theorem State.vecPf_held {k : Nat} : (s.vecPf k).held = s.held := rfl
@[simp] theorem State.vecPf_captured {k : Nat} : (s.vecPf k).captured = s.captured := rfl
@[simp] theorem State.vecPf_readBack {k : Nat} : (s.vecPf k).readBack = s.readBack := rfl
@[simp] theorem State.vecPf_fac {k : Nat} : (s.vecPf k).fac = s.fac := rfl
@[simp] theorem State.vecPf_cores {k : Nat} : (s.vecPf k).cores = s.cores := rfl
@[simp] theorem State.vecPf_fab {k : Nat} : (s.vecPf k).fab = s.fab := rfl
@[simp] theorem State.vecPf_slices {k : Nat} : (s.vecPf k).slices = s.slices := rfl
@[simp] theorem State.vecPf_dies {k : Nat} : (s.vecPf k).dies = s.dies := rfl
@[simp] theorem State.vecPf_msgs {k : Nat} : (s.vecPf k).msgs = s.msgs := rfl
@[simp] theorem State.vecPf_nacked {k : Nat} : (s.vecPf k).nacked = s.nacked := rfl
@[simp] theorem State.vecPf_opRsps {k : Nat} : (s.vecPf k).opRsps = s.opRsps := rfl
@[simp] theorem State.vecPf_maint {k : Nat} : (s.vecPf k).maint = s.maint := rfl
@[simp] theorem State.vecPf_mem {k : Nat} : (s.vecPf k).mem = s.mem := rfl
@[simp] theorem State.vecPf_chans {k : Nat} : (s.vecPf k).chans = s.chans := rfl
@[simp] theorem State.vecPf_pool {k : Nat} : (s.vecPf k).pool = s.pool := rfl
@[simp] theorem State.vecPf_vds {k : Nat} : (s.vecPf k).vds = s.vds := rfl
@[simp] theorem State.vecPf_sets {k : Nat} : (s.vecPf k).sets = s.sets := rfl
@[simp] theorem State.vecPf_binder {k : Nat} : (s.vecPf k).binder = s.binder := rfl
@[simp] theorem State.vecPf_host {k : Nat} : (s.vecPf k).host = s.host := rfl
@[simp] theorem State.vecPf_net {k : Nat} : (s.vecPf k).net = s.net := rfl
@[simp] theorem State.vecPf_power {k : Nat} : (s.vecPf k).power = s.power := rfl
@[simp] theorem State.vecPf_clock {k : Nat} : (s.vecPf k).clock = s.clock := rfl
@[simp] theorem State.vecPf_peat {k : Nat} : (s.vecPf k).peat = s.peat := rfl
@[simp] theorem State.vecPf_fw {k : Nat} : (s.vecPf k).fw = s.fw := rfl
@[simp] theorem State.vecPf_err {k : Nat} : (s.vecPf k).err = s.err := rfl
@[simp] theorem State.vecPf_side {k : Nat} : (s.vecPf k).side = s.side := rfl
@[simp] theorem State.vecPf_freeCtr {k : Nat} : (s.vecPf k).freeCtr = s.freeCtr := rfl

end Sys2Proof.Machine
end

