-- ==== Sys2Proof/WellFormed.lean ====
section
/-! DEFINITION. Which operands a command may have: the limits that the bus, the packet or the message it names
puts on them. -/

namespace Sys2Proof

/-- Bytes of a BAR (R3, R522, R523). -/
def barSize : Bar → Nat
  | .pf => 0x4000000
  | .vf _ => 0x100000

/-- An aligned word access inside a BAR. -/
def wordAccess (bar : Bar) (off : Nat) : Bool := decide (off % 4 = 0) && decide (off < barSize bar)

/-- An access of 1, 2, 4 or 8 bytes inside a BAR. -/
def sizedAccess (bar : Bar) (off size : Nat) : Bool :=
  decide (size ∈ [1, 2, 4, 8]) && decide (off + size ≤ barSize bar)

/-- A 64-byte line of CXL.mem (R391). -/
def lineAccess (dpa : Nat) : Bool := decide (dpa % 64 = 0)

/-- A packet within the limits of the header's fields (R408) and a payload of its length. -/
def packetOk (p : Packet) : Bool :=
  decide (p.psn < 2 ^ 24) && decide (p.msg < 2 ^ 16) && decide (p.length ≤ 4096)
  && decide (p.dstQp < 16384) && decide (p.srcQp < 16384) && decide (p.ackPsn < 2 ^ 24)
  && decide (p.aux < 2 ^ 32) && decide (p.payload.length ≤ 4096)

/-- The operands of a start are within their ranges (R456). -/
def startOk (e : StartEnv) : Bool :=
  decide (e.lastStep ≤ 10) && e.coreFail.all (fun c => decide (c < 96))
  && e.sliceFail.all (fun i => decide (i < 512)) && e.dieCacheFail.all (fun d => decide (d < 12))
  && e.channelFail.all (fun f => decide (f.1 < 80)) && decide (e.trimAllowed.length ≤ 17)

/-- Well-formed commands. -/
def Instr.wellFormed : Instr → Bool
  | .registerWrite bar off size _ => sizedAccess bar off size
  | .counterRead bar off size => sizedAccess bar off size
  | .lowWordWrite bar off _ => wordAccess bar off
  | .highWordWrite bar off _ => wordAccess bar off
  | .lowWordRead bar off => wordAccess bar off
  | .word3Write bar off _ => wordAccess bar off
  | .word0Read bar off => wordAccess bar off
  | .memrd a => lineAccess a
  | .memwr a bs => lineAccess a && decide (bs.length = 64)
  | .memwrptl a bs _ => lineAccess a && decide (bs.length = 64)
  | .memspecrd a => lineAccess a
  | .meminv a => lineAccess a
  | .mr4Read _ t => decide (t < 256)
  | .write p => packetOk p
  | .reduce p => packetOk p
  | .readReq p => packetOk p
  | .readResp p => packetOk p
  | .ack p => packetOk p
  | .nak p => packetOk p
  | .cnp p => packetOk p
  | .powerOn _ e => startOk e
  | .supplyResetEnd e => startOk e
  | .perstNRelease e => startOk e
  | .linkResetStateExit e => startOk e
  | .moduleReset e => startOk e
  | .recoveryUpdateReset e => startOk e
  | .trialWatchdogExpiry e => startOk e
  | .firmwareWatchdog e => startOk e
  | .rejectTrial _ e => startOk e
  | .getReport false n => decide (n.length = 32)
  | _ => true

end Sys2Proof
end

