-- ==== Sys2Proof/Tests/Slice0.lean ====
section
/-! SUPPORT. Tests: ill-formed terms that each check of WellFormed refuses, and for every statement of Obligations.lean states and
operands that meet its hypotheses (theorems witness_…), small states all. -/

set_option Elab.async false

namespace Sys2Proof.Tests

open Sys2Proof Sys2Proof.Machine

/-! WellFormed -/

/-- A WRITE packet of one segment without data. -/
def pkt : Packet :=
  ⟨true, 0, 0xFFFF0A000002, none, 0, false, 0, 0, 0, true, true, false, false, false, 0, 0, 5, 1, 0, 0, 0, 0x1000, 7, 0, 0, 0, []⟩

/-- A start in which everything passes. -/
def env : StartEnv := ⟨true, true, true, true, 16, 64, true, false, true, [], [], [], [], [], true, [], 10⟩

theorem test_wellformed_access_size : (Instr.registerWrite .pf 0 3 0).wellFormed = false
    ∧ (Instr.counterRead .pf 0x3FFFFFD 4).wellFormed = false ∧ (Instr.registerWrite .pf 0x3FFFFFC 4 0).wellFormed = true := by decide
theorem test_wellformed_word_access : (Instr.lowWordWrite .pf 2 0).wellFormed = false
    ∧ (Instr.highWordWrite (.vf 0) 0x100000 0).wellFormed = false ∧ (Instr.lowWordRead .pf 1).wellFormed = false
    ∧ (Instr.word3Write .pf 3 0).wellFormed = false ∧ (Instr.word0Read .pf 2).wellFormed = false := by decide
theorem test_wellformed_lines : (Instr.memrd 1).wellFormed = false ∧ (Instr.memwr 0 []).wellFormed = false
    ∧ (Instr.memwrptl 64 [] 1).wellFormed = false ∧ (Instr.memspecrd 32).wellFormed = false
    ∧ (Instr.meminv 63).wellFormed = false ∧ (Instr.memrd 64).wellFormed = true := by decide
theorem test_wellformed_temperature : (Instr.mr4Read 0 256).wellFormed = false ∧ (Instr.mr4Read 0 255).wellFormed = true := by
  decide
theorem test_wellformed_packets : (Instr.write { pkt with psn := 2 ^ 24 }).wellFormed = false
    ∧ (Instr.reduce { pkt with msg := 2 ^ 16 }).wellFormed = false ∧ (Instr.readReq { pkt with length := 4097 }).wellFormed = false
    ∧ (Instr.readResp { pkt with dstQp := 16384 }).wellFormed = false ∧ (Instr.ack { pkt with srcQp := 16384 }).wellFormed = false
    ∧ (Instr.nak { pkt with ackPsn := 2 ^ 24 }).wellFormed = false ∧ (Instr.cnp { pkt with aux := 2 ^ 32 }).wellFormed = false
    ∧ (Instr.write pkt).wellFormed = true := by decide
theorem test_wellformed_starts : (Instr.powerOn ⟨true, true⟩ { env with lastStep := 11 }).wellFormed = false
    ∧ (Instr.supplyResetEnd { env with coreFail := [96] }).wellFormed = false
    ∧ (Instr.perstNRelease { env with sliceFail := [512] }).wellFormed = false
    ∧ (Instr.linkResetStateExit { env with dieCacheFail := [12] }).wellFormed = false
    ∧ (Instr.moduleReset { env with channelFail := [(80, 10)] }).wellFormed = false
    ∧ (Instr.firmwareWatchdog { env with trimAllowed := List.replicate 18 0 }).wellFormed = false
    ∧ (Instr.rejectTrial 0xF5 { env with lastStep := 11 }).wellFormed = false
    ∧ (Instr.trialWatchdogExpiry { env with lastStep := 11 }).wellFormed = false
    ∧ (Instr.recoveryUpdateReset { env with lastStep := 11 }).wellFormed = false
    ∧ (Instr.powerOn ⟨true, true⟩ env).wellFormed = true := by decide
theorem test_wellformed_nonce : (Instr.getReport false [0]).wellFormed = false
    ∧ (Instr.getReport false (List.replicate 32 0)).wellFormed = true := by decide

/-! States -/

/-- The module in full service, its link up, every VF enabled, frame 0 at tick 0. -/
def on : State :=
  { State.reset with
    regs := [(Reg.hostportLink, 0x80100040)]
    clock := { ClockSt.rest with powered := true, mode := .full, step := 10, pllLock := true, begun := true, phys := some env }
    host := { HostSt.rest with vfEnable := true, memEnable := true, committed := true, crs := false }
    fab := { Fabric.reset with started := true } }

/-- The same in another mode and step of start-up. -/
def at_ (m : ModuleMode) (k : Nat) : State := { on with clock := { on.clock with mode := m, step := k } }

/-- With a device. -/
def withVd (s : State) (n : Nat) (v : VDev) : State := { s with vds := [(n, v)] }

/-- A descriptor of one core, core 0, and one slice, slice 0, with 64 flag words, a queue pair and memory extent 0. -/
def desc : Desc :=
  { Desc.zero with nc := 1, ns := 1, flags := [64, 0, 0, 0], red := [4, 0, 0, 0], netWeight := 1, qps := 2, credits := 8
                   runs := [⟨true, 0, 1, 0⟩], coreMap := [0], sliceMap := [0] }

/-- An active device of that composition. -/
def dev : VDev := { VDev.absent with st := .active, desc := desc, flagMap := List.range 64, qpMap := [0, 1], redHeld := [4, 0, 0, 0] }

/-- A job description whose code lies at 0x100000. -/
def jdesc : JobDesc := ⟨1, false, true, false, false, 4, 9, 0x100000, 0x1000, 1, 0, 5, 0, 0, 0x2000, 0, false⟩

/-- That job, running. -/
def job : Job := ⟨0, 0, jdesc, none, false, false, 0, 0, 0, 0, [⟨0, 0xFFFFF, false, 0⟩], true, .running, 0, 0, 0, 0, 0, [], false, none⟩

/-- Full service with device 0, its job, its pool units and extent. -/
def run : State :=
  { withVd on 0 { dev with running := some job } with
    pool := ⟨[(0, .owned 0 (some 0))], [(0, .owned 0 (some 0))], [(0, ⟨.owned, 0, 0, some 0, [0], [0], [0]⟩)], [], []⟩ }

/-- With core 0 as given. -/
def withCore (s : State) (k : Core) : State := { s with cores := [(0, k)] }

/-- A line of an instruction buffer that holds one word at its beginning. -/
def cline (w : Nat) : CLine := ⟨0x1000, 0, 0, leBytes 16 w ++ List.replicate 240 0⟩

/-- Core 0 about to issue a word. -/
def issuing (w : Nat) : State := withCore run { Core.rest with seq := .running, pc := 0x100000, ibuf := [cline w] }

/-! The step, the queue and the state -/

theorem witness_EmptyQueueTicksTheTimeBase : on.pending = [] ∧ on.clock.powered = true ∧ State.reset.clock.powered = false
    ∧ on.tick.time = 1 := by decide +kernel
/-- Gated clocks; an empty fabric within a frame. -/
theorem witness_EmptyQueueTicksTheTimeBase_quiet :
    ({ on with clock := { on.clock with gated := true } } : State).clock.gated = true
    ∧ (on.clock.gated = false ∧ on.fab.chunks = [] ∧ on.fab.engines = [] ∧ on.fab.dem = []
      ∧ State.frame { on with time := on.time + 1 } = on.frame) := by decide +kernel
theorem witness_EveryStepKeepsCanonicalForm :
    on.canonical = true ∧ step { on with pending := [.d3hot] } = .next on := ⟨by decide +kernel, rfl⟩
theorem witness_CommandsLeaveQueueAndTimeAlone :
    on.canonical = true ∧ exec .d3hot on = .next on := ⟨by decide +kernel, rfl⟩

/-! Registers -/

theorem witness_LowWordIsHeldUntilTheHighWord :
    barKey .pf Reg.cacheOpAddr % 4 = 0 ∧ inBar .pf Reg.cacheOpAddr 8 = true
    ∧ (∃ r, rowOfKey Reg.cacheOpAddr = some (r, 0) ∧ rowOfKey (Reg.cacheOpAddr + 4) = some (r, 1) ∧ r.words = 2)
    ∧ on.takesWrites .pf Reg.cacheOpAddr = true ∧ on.takesWrites .pf (Reg.cacheOpAddr + 4) = true
    ∧ on.ringWrite Reg.cacheOpAddr 0 = none ∧ on.ringWrite (Reg.cacheOpAddr + 4) 0 = none
    ∧ on.commitIgnored Reg.cacheOpAddr = false ∧ on.commitIgnored (Reg.cacheOpAddr + 4) = false ∧ on.canonical = true
    ∧ SMap.get (fun _ => none) ({ on with held := [(Reg.cacheOpAddr, some 0x5000)] } : State).held Reg.cacheOpAddr = some (0x5000 : W32)
    ∧ SMap.get (fun _ => (none : Option W32)) on.held Reg.cacheOpAddr = none :=
  ⟨by decide +kernel, by decide +kernel, ⟨⟨0x80018, 1, 0, 1, 0, 2, 0xfffffffff000, 0, 0, 0, 0, 0xffff000000000fff, 0⟩, by decide +kernel⟩,
    by decide +kernel⟩
theorem witness_LowWordReadCapturesTheHighWord :
    inBar .pf Reg.cacheOpAddr 8 = true ∧ on.answers .pf Reg.cacheOpAddr = true ∧ on.answers .pf (Reg.cacheOpAddr + 4) = true
    ∧ (SMap.get (fun _ => none) on.captured (Reg.cacheOpAddr + 4) = (none : Option W32))
    ∧ SMap.get (fun _ => none) ({ on with captured := [(Reg.cacheOpAddr + 4, some 7)] } : State).captured (Reg.cacheOpAddr + 4)
      = some (7 : W32)
    ∧ inCxlRegs (Reg.cacheOpAddr + 5) = false ∧ on.answers .pf (Reg.cacheOpAddr + 5) = true := by decide +kernel
theorem witness_FourWordsCommitTogether :
    0x101FF0 % 16 = 0 ∧ inBar .pf 0x101FF0 16 = true
    ∧ (∃ r, (∀ w, w < 4 → rowOfKey (0x101FF0 + 4 * w) = some (r, w)) ∧ r.words = 4 ∧ wordOf r.rc 0 = 0)
    ∧ (∀ w, w < 4 → on.takesWrites .pf (0x101FF0 + 4 * w) = true ∧ on.answers .pf (0x101FF0 + 4 * w) = true
      ∧ on.ringWrite (0x101FF0 + 4 * w) 1 = none ∧ on.commitIgnored (0x101FF0 + 4 * w) = false) ∧ on.canonical = true
    ∧ SMap.get (fun _ => none) ({ on with held := [(0x101FF8, some 7)] } : State).held (0x101FF0 + 4 * 2) = some (7 : W32)
    ∧ SMap.get (fun _ => none) ({ on with captured := [(0x101FFC, some 7)] } : State).captured (0x101FF0 + 4 * 3) = some (7 : W32) :=
  ⟨by decide +kernel, by decide +kernel,
    ⟨⟨0x101000, 256, 0x10, 1, 0, 4, 0xffffffffffffffffffffffffffffffff, 0, 0, 0, 0, 0, 0⟩, by decide +kernel⟩, by decide +kernel⟩
/-- A counter (CLOCKTIME_PERST_GLITCH), a byte write to it, an unassigned offset, COMPOSE_TIMEOUT, an access past a BAR. -/
theorem witness_RegisterWordsFollowTheirAccessCodes :
    (inBar .pf Reg.clocktimePerstGlitch 4 = true ∧ Reg.clocktimePerstGlitch % 4 = 0 ∧ on.answers .pf Reg.clocktimePerstGlitch = true
      ∧ (rowOfKey Reg.clocktimePerstGlitch).any (fun r => r.2 == 0 && r.1.words == 1 && r.1.rc != 0) = true)
    ∧ (on.takesWrites .pf Reg.clocktimePerstGlitch = true ∧ uncounted Reg.clocktimePerstGlitch = false)
    ∧ (rowOfKey 0xFF8 = none ∧ on.takesWrites .pf 0xFF8 = true ∧ on.ringWrite 0xFF8 1 = none ∧ uncounted 0xFF8 = false)
    ∧ (on.pfServed Reg.composeTimeout = true ∧ (rowOfKey Reg.composeTimeout).any (fun r => r.2 == 0) = true)
    ∧ inBar (.vf 255) 0xFFFFD 4 = false ∧ on.canonical = true := by decide +kernel

/-! The cores -/

/-- A word of an opcode with further bits. -/
def opw (op rest : Nat) : Nat := op * 2 ^ 120 + rest

theorem atIssue_issuing (w : Nat) (s : State) (h : s.coreJob 0 = some (0, job)) (h1 : (s.core 0).seq = .running)
    (h2 : (s.core 0).pc = 0x100000) (h3 : Machine.cacheWord (s.core 0).ibuf 0 0x100000 = some w) : s.atIssue 0 0 w :=
  ⟨job, h, h1, rfl, by rw [h2]; decide, by rw [h2]; exact h3⟩

/-- What makes a word the next instruction of core 0. -/
def ready (s : State) (w : Nat) : Bool :=
  decide (s.coreJob 0 = some (0, job)) && decide ((s.core 0).seq = .running) && decide ((s.core 0).pc = 0x100000)
  && decide (Machine.cacheWord (s.core 0).ibuf 0 0x100000 = some w)

theorem atIssue_of_ready {s : State} {w : Nat} (h : ready s w = true) : s.atIssue 0 0 w := by
  simp only [ready, Bool.and_eq_true, decide_eq_true_eq] at h
  exact atIssue_issuing w s h.1.1.1 h.1.1.2 h.1.2 h.2

/-- SALU s1 = s0 + 5, SLI, SBR (equal), END; SLDT and SSTT of the last word of the tile store. -/
theorem witness_ScalarInstructionsComplete :
    (∀ w ∈ [opw 1 (2 ^ 115 + 2 ^ 104 + 5), opw 2 (2 ^ 115 + 9), opw 3 (2 ^ 100 + 4), opw 7 0, opw 5 (2 ^ 115 + 0x7FFFF8), opw 6 0x7FFFF8],
      (issuing w).atIssue 0 0 w ∧ scalarResv w = false)
    ∧ saluOp (bitsOf (opw 1 (2 ^ 115 + 2 ^ 104 + 5)) 100 4) (Core.rest.sreg 0) (Core.rest.saluX (opw 1 (2 ^ 115 + 2 ^ 104 + 5))) = some 5
    ∧ sbrCond (sfunct (opw 3 (2 ^ 100 + 4))) (Core.rest.sreg 0) (Core.rest.sreg 0) = some true
    ∧ Core.rest.tileAddr (opw 5 (2 ^ 115 + 0x7FFFF8)) = 0x7FFFF8 ∧ Core.rest.tileAddr (opw 6 0x7FFFF8) = 0x7FFFF8 := by
  refine ⟨?_, by decide +kernel⟩
  have h : ∀ w ∈ [opw 1 (2 ^ 115 + 2 ^ 104 + 5), opw 2 (2 ^ 115 + 9), opw 3 (2 ^ 100 + 4), opw 7 0, opw 5 (2 ^ 115 + 0x7FFFF8),
      opw 6 0x7FFFF8], ready (issuing w) w = true ∧ scalarResv w = false := by decide +kernel
  exact fun w hw => ⟨atIssue_of_ready (h w hw).1, (h w hw).2⟩
/-- A TGWAIT that has issued and has not completed holds SLDT and SSTT back. -/
theorem witness_ScalarInstructionsComplete_waits :
    Core.rest.tgwaits = false ∧ ({ Core.rest with qg := [⟨opw 0x21 (2 ^ 112), 0x100000, 0, 0, 0, some 0, true, 0⟩] } : Core).tgwaits = true := by
  decide +kernel
theorem witness_RegisterZeroReadsZero : 1 ≠ 0 ∧ SMap.wf (fun _ => (0 : W64)) Core.rest.sregs = true ∧ 0 ≠ 1 := by decide +kernel

/-- MMA of E4M3 formats with one step and Z, and without Z; with a reserved bit it faults. ACCZ of FP64 pairs, ACCLD to accumulator
15 from the last image of the tile store, ACCST of accumulator 0. -/
def wMma : Nat := opw 0x10 (1 * 2 ^ 116 + 1 * 2 ^ 112 + 15 * 2 ^ 108 + 2 ^ 107)
def wAccz : Nat := opw 0x18 (3 * 2 ^ 104 + 2 * 2 ^ 102)
def wAccld : Nat := opw 0x19 (0xA * 2 ^ 116 + 15 * 2 ^ 112 + 0x7FF0 * 2 ^ 97)
def wAccst : Nat := opw 0x1A (8 * 2 ^ 116)

/-- An entry of a queue that has started. -/
def qe (w : Nat) : QEntry := ⟨w, 0x100000, 0, 0, 0, some 0, true, 0⟩

theorem issuing_atIssue {w : Nat} (h : ready (issuing w) w = true) : (issuing w).atIssue 0 0 w := atIssue_of_ready h

theorem witness_MatrixInstructionsIssue :
    ((issuing wMma).atIssue 0 0 wMma ∧ opcodeOf wMma = 0x10 ∧ ((issuing wMma).core 0).stalls .matrix = false
      ∧ lowestCause (mmaCauses ((issuing wMma).core 0) wMma) = none ∧ (parseMma wMma).zero = true)
    ∧ ((issuing (wMma + 1)).atIssue 0 0 (wMma + 1) ∧ lowestCause (mmaCauses ((issuing (wMma + 1)).core 0) (wMma + 1)) = some 0x02)
    ∧ ({ Core.rest with qm := List.replicate 16 (qe wMma) } : Core).stalls .matrix = true
    ∧ ((issuing wAccz).atIssue 0 0 wAccz ∧ ((issuing wAccz).core 0).stalls .accumulator = false ∧ bitsOf wAccz 0 102 = 0
      ∧ acczTag wAccz = .fp64 ∧ pairedMask (bitsOf wAccz 104 16) = true)
    ∧ ((issuing wAccld).atIssue 0 0 wAccld ∧ bitsOf wAccld 0 97 = 0 ∧ bitsOf wAccld 116 4 = 0xA
      ∧ 256 * bitsOf wAccld 97 15 + 1024 * (accldTag wAccld).bytes = 0x800000)
    ∧ ((issuing wAccst).atIssue 0 0 wAccst ∧ lowestCause (accstCauses ((issuing wAccst).core 0) wAccst) = none) :=
  ⟨⟨issuing_atIssue (by decide +kernel), by decide +kernel⟩, ⟨issuing_atIssue (by decide +kernel), by decide +kernel⟩,
    by decide +kernel, ⟨issuing_atIssue (by decide +kernel), by decide +kernel⟩,
    ⟨issuing_atIssue (by decide +kernel), by decide +kernel⟩, ⟨issuing_atIssue (by decide +kernel), by decide +kernel⟩⟩

/-- Core 0 with entries in a queue. -/
def queued (q : QueueName) (l : List QEntry) : State := withCore run (Core.rest.setQueue q l)

theorem witness_QueueHeadsActInTurn :
    (queued .matrix [qe wMma]).headActs 0 .matrix 0 (qe wMma)
    ∧ (∀ w ∈ [wAccz, wAccld, wAccst], (queued .accumulator [qe w]).headActs 0 .accumulator 0 (qe w))
    ∧ (headIdx [{ qe wAccz with started := false }] = some 0 ∧ Core.rest.mayStart { qe wAccz with started := false } = true
      ∧ Core.rest.tglWaits (qe wAccz).word = false ∧ opcodeOf (qe wAccz).word ≠ 0x10)
    ∧ ({ Core.rest with board := [⟨0, 0, 1, [], []⟩, ⟨1, 1, 1, [], []⟩] } : Core).mayStart
        { qe wAccz with started := false, sb_ := some 1 } = false
    ∧ ({ qe wAccz with done := 1 } : QEntry).over = true ∧ (qe wAccz).over = false
    ∧ ({ Core.rest with qa := [qe wAccz] } : Core).queue .accumulator = qe wAccz :: []
    ∧ ({ Core.rest with ibFill := some ⟨0x1000, 0, some [], false, []⟩ } : Core).ibFill = some ⟨0x1000, 0, some [], false, []⟩
    ∧ ({ Core.rest with rocFills := [⟨0x1000, 0, some [], false, []⟩] } : Core).rocFills[0]? = some ⟨0x1000, 0, some [], false, []⟩
    ∧ ((issuing (opw 0xFF 0)).atIssue 0 0 (opw 0xFF 0) ∧ opcodeOf (opw 0xFF 0) ∉ coreOpcodes)
    ∧ (withCore run { Core.rest with seq := .ending, drain := some ⟨[], []⟩ }).drainIsOver 0 2
    ∧ ({ Core.rest with board := [⟨0, 0, 1, [], []⟩] } : Core).board ≠ [] := by
  refine ⟨⟨by decide +kernel, by decide +kernel, rfl⟩, ?_, by decide +kernel, by decide +kernel, by decide +kernel, by decide +kernel, by decide +kernel, by decide +kernel,
    by decide +kernel, ⟨issuing_atIssue (by decide +kernel), by decide +kernel⟩, ⟨by decide +kernel, ⟨[], []⟩, by decide +kernel, by decide +kernel⟩,
    by decide +kernel⟩
  intro w hw
  simp only [List.mem_cons, List.not_mem_nil, or_false] at hw
  rcases hw with rfl | rfl | rfl <;> exact ⟨by decide +kernel, by decide +kernel, rfl⟩
/-- A step within the limit of its window; one beyond it, which waits. -/
theorem witness_QueueHeadsActInTurn_sluice :
    (Core.rest.atWindow (run.sluiceWindow 0)).winSteps + (parseMma wMma).cost ≤ (Core.rest.atWindow (run.sluiceWindow 0)).sluice
    ∧ (({ Core.rest with sluice := 1, winSteps := 1 } : Core).atWindow 0).sluice
        < (({ Core.rest with sluice := 1, winSteps := 1 } : Core).atWindow 0).winSteps + (parseMma wMma).cost
    ∧ (parseMma wMma).cost ≤ (({ Core.rest with sluice := 1, winSteps := 1 } : Core).atWindow 0).sluice := by decide +kernel
theorem witness_MatrixStepUpdatesEveryPosition :
    SMap.wf (fun _ => (0 : W32)) Core.rest.acc = true ∧ (parseMma wMma).tag ≠ .fp64 ∧ 14 ≠ (parseMma wMma).acc
    ∧ (parseMma wMma).mode = 0 ∧ (parseMma (wMma + 2 ^ 105)).mode ≠ 0 := by decide +kernel

def wFlagset (op : Nat) : Nat := opw 0x30 (op * 2 ^ 118 + 63 * 2 ^ 96 + 1)
def wFlagwait : Nat := opw 0x31 (63 * 2 ^ 96 + 1)

theorem witness_SyncInstructionsIssueAndAct_issue :
    (∀ w ∈ [wFlagset 0, wFlagset 1, wFlagset 2, wFlagset 3, wFlagwait, opw 0x38 (2 ^ 118), opw 0x39 0, opw 0x3F (4095 * 2 ^ 108),
      opw 0x30 (64 * 2 ^ 96)], (issuing w).atIssue 0 0 w ∧ ((issuing w).core 0).stalls .sync = false)
    ∧ (bitsOf (wFlagset 3) 32 64 = 0 ∧ flagNo (wFlagset 3) < (issuing 0).flagCount 0 ∧ flagOp (wFlagset 3) = 3)
    ∧ (bitsOf (opw 0x30 (64 * 2 ^ 96)) 32 64 = 0 ∧ (issuing 0).flagCount 0 ≤ flagNo (opw 0x30 (64 * 2 ^ 96))
      ∧ flagOp (opw 0x30 (64 * 2 ^ 96)) = 0)
    ∧ (flagOp wFlagwait ≠ 3 ∧ flagOrder wFlagwait = false ∧ bitsOf wFlagwait 32 64 = 0 ∧ flagNo wFlagwait < (issuing 0).flagCount 0)
    ∧ (bitsOf (opw 0x38 (2 ^ 118)) 118 2 ≠ 0 ∧ bitsOf (opw 0x38 (2 ^ 118)) 0 118 = 0) ∧ bitsOf (opw 0x39 0) 0 120 = 0
    ∧ bitsOf (opw 0x3F (4095 * 2 ^ 108)) 0 108 = 0 := by
  refine ⟨?_, by decide +kernel⟩
  have h : ∀ w ∈ [wFlagset 0, wFlagset 1, wFlagset 2, wFlagset 3, wFlagwait, opw 0x38 (2 ^ 118), opw 0x39 0, opw 0x3F (4095 * 2 ^ 108),
      opw 0x30 (64 * 2 ^ 96)], ready (issuing w) w = true ∧ ((issuing w).core 0).stalls .sync = false := by decide +kernel
  exact fun w hw => ⟨atIssue_of_ready (h w hw).1, (h w hw).2⟩

/-- A core with one started entry in its sync queue and a drain that is over. -/
def synced (w : Nat) : State := withCore run { Core.rest with qs := [qe w], drain := some ⟨[], []⟩ }

theorem witness_SyncInstructionsIssueAndAct_act :
    (∀ w ∈ [wFlagset 0, wFlagset 3 + 2 ^ 117, wFlagset 2 + 2 ^ 117, wFlagwait, opw 0x38 (2 ^ 118), opw 0x38 (2 ^ 119), opw 0x39 0, opw 0x3F 0],
      (synced w).headActs 0 .sync 0 (qe w) ∧ (synced w).coreVd 0 = some 0 ∧ (synced w).drainIsOver 0 4
      ∧ ((synced w).core 0).olderDone (qe w) true = true)
    ∧ flagOrder (wFlagset 2 + 2 ^ 117) = true ∧ flagOrder (wFlagset 0) = false
    ∧ ({ Core.rest with board := [⟨0, 0, 0, [], []⟩] } : Core).olderDone { qe (wFlagset 0) with sb_ := some 1 } false = false
    ∧ flagHolds 0 (1 : W32) 1 = true ∧ flagHolds 0 (0 : W32) 1 = false
    ∧ (synced (wFlagset 0)).flagsetWaits 0 = false ∧ ((synced (wFlagset 0)).sendFlag ⟨0, 0, .add 1, 0⟩ (.core 0)).flagsetWaits 0 = true
    ∧ ((synced wFlagwait).core 0).flagWait = none ∧ (synced wFlagwait).wakeOut 0 = false ∧ ((synced wFlagwait).core 0).kernels = []
    ∧ (0 ∈ ({ run with fab := { run.fab with wakes := [0] } } : State).fab.wakes
      ∧ ({ Core.rest with flagWait := some ⟨0, 0, 1, 0, 0x100000⟩ } : Core).flagWait.isSome = true)
    ∧ (run.regFld Reg.fabricFlagTimeout 0 24 ≠ 0 ∨ (run.setReg Reg.fabricFlagTimeout 1).regFld Reg.fabricFlagTimeout 0 24 = 1)
    ∧ (run.setReg Reg.fabricFlagTimeout 1).regFld Reg.fabricFlagTimeout 0 24
        < State.frame { run.setReg Reg.fabricFlagTimeout 1 with time := 256 } - 0 := by
  refine ⟨?_, by decide +kernel⟩
  intro w hw
  simp only [List.mem_cons, List.not_mem_nil, or_false] at hw
  rcases hw with rfl | rfl | rfl | rfl | rfl | rfl | rfl | rfl <;>
    exact ⟨⟨by decide +kernel, by decide +kernel, rfl⟩, by decide +kernel, ⟨by decide +kernel, ⟨[], []⟩, by decide +kernel, by decide +kernel⟩, by decide +kernel⟩
/-! The group engine -/

/-- TGL of width 32 with 8 registers and 1,024 granules written; TGWAIT for tag 0. -/
def wTgl : Nat := opw 0x20 (2 ^ 108)

/-- A kernel of one group of 32 lanes with 16 registers. -/
def gk : GKernel := ⟨0, 32, 16, true, 0, 0x100000, 1, 0, 1, 0, some 0⟩

/-- A group about to issue the first word of a line: all 32 lanes active, registers zero. -/
def grp : Group := ⟨0, 0, 32, 0, [], 0x100000, 2 ^ 32 - 1, 2 ^ 32 - 1, [], 0, [], 0, [], 0, .ready, false⟩

/-- Core 0 with that group in slot 0. -/
def gcore (g : Group) (w : Nat) : State :=
  withCore run { Core.rest with kernels := [gk], gslots := [(0, some g)], gic := [cline w] }

/-- A group instruction that names registers and a 64-bit immediate. -/
def gw (op dst a rest imm : Nat) : Nat := op * 2 ^ 120 + dst * 2 ^ 112 + a * 2 ^ 104 + rest + imm

theorem gissues (g : Group) (w : Nat)
    (h : (decide ((gcore g w).group 0 0 = some g) && decide ((gcore g w).coreJob 0 = some (0, job))
      && decide (((gcore g w).core 0).kernelOf g.tag = some gk) && g.runs && job.inCode g.pc
      && decide (Machine.cacheWord ((gcore g w).core 0).gic 0 g.pc = some w) && (gcore g w).inTurn 0 0 g (parseG w).ofMemory) = true) :
    (gcore g w).groupIssues 0 0 0 job gk g w := by
  simp only [Bool.and_eq_true, decide_eq_true_eq] at h
  exact ⟨h.1.1.1.1.1.1, h.1.1.1.1.1.2, h.1.1.1.1.2, h.1.1.1.2, h.1.1.2, h.1.2, h.2⟩

theorem witness_GroupKernelsLaunchAndEnd :
    ((issuing wTgl).atIssue 0 0 wTgl ∧ ((issuing wTgl).core 0).stalls .group = false ∧ bitsOf wTgl 88 5 = 0 ∧ bitsOf wTgl 0 32 = 0
      ∧ bitsOf wTgl 108 6 = 1 ∧ bitOf wTgl 117 = false)
    ∧ ((issuing (opw 0x21 (2 ^ 112))).atIssue 0 0 (opw 0x21 (2 ^ 112)) ∧ bitsOf (opw 0x21 (2 ^ 112)) 0 112 = 0)
    ∧ ((queued .group [qe wTgl]).headActs 0 .group 0 (qe wTgl) ∧ fld (qe wTgl).sa 0 24 = 0)
    ∧ ((queued .group [{ qe wTgl with sa := 1 }]).headActs 0 .group 0 { qe wTgl with sa := 1 } ∧ fld (1 : W64) 0 24 ≠ 0)
    ∧ ((queued .group [qe (opw 0x21 (2 ^ 112))]).headActs 0 .group 0 (qe (opw 0x21 (2 ^ 112)))
      ∧ Core.rest.kernels.any (fun g => bitOf (bitsOf (qe (opw 0x21 (2 ^ 112))).word 112 8) g.tag) = false)
    ∧ (({ Core.rest with kernels := [{ gk with placed := 0 }] } : Core).kernels.find? (fun g => decide (g.placed < g.count))
        = some { gk with placed := 0 } ∧ Core.rest.placeAt gk = some 0 ∧ Core.rest.freeSlot 0 = some 0)
    ∧ (({ Core.rest with kernels := [{ gk with ended := 1 }] } : Core).kernelOf 0 = some { gk with ended := 1 } ∧ gk.count ≤ 1) :=
  ⟨⟨issuing_atIssue (by decide +kernel), by decide +kernel⟩, ⟨issuing_atIssue (by decide +kernel), by decide +kernel⟩,
    ⟨⟨by decide +kernel, by decide +kernel, rfl⟩, by decide +kernel⟩, ⟨⟨by decide +kernel, by decide +kernel, rfl⟩, by decide +kernel⟩,
    ⟨⟨by decide +kernel, by decide +kernel, rfl⟩, by decide +kernel⟩, by decide +kernel, by decide +kernel⟩
theorem witness_GroupKernelsLaunchAndEnd_faults :
    ((gcore grp (opw 0x82 0)).groupIssues 0 0 0 job gk grp (opw 0x82 0) ∧ (parseG (opw 0x82 0)).op ∉ groupOpcodes)
    ∧ ((gcore grp (opw 0x80 (2 ^ 64))).groupIssues 0 0 0 job gk grp (opw 0x80 (2 ^ 64)) ∧ (parseG (opw 0x80 (2 ^ 64))).resv ≠ 0
      ∧ (parseG (opw 0x80 (2 ^ 64))).reservedCode = true ∧ grp.hazard ((parseG (opw 0x80 (2 ^ 64))).names2 1) = false)
    ∧ (parseG (gw 0x80 0 0 (0xB * 2 ^ 69) 0)).reservedCode = true ∧ (parseG (gw 0x80 0 0 (5 * 2 ^ 66) 0)).reservedCode = true
    ∧ grp.stopped = false ∧ (⟨0x1000, 0, some [], false, []⟩ : CFill).stale = false
    ∧ (2 ^ 20 ≤ ({ grp with watchdog := 2 ^ 20 } : Group).watchdog ∧ ({ grp with watchdog := 2 ^ 20 - 1 } : Group).watchdog < 2 ^ 20
      ∧ (gcore { grp with watchdog := 2 ^ 20 } 0).group 0 0 = some { grp with watchdog := 2 ^ 20 }) :=
  ⟨⟨gissues _ _ (by decide +kernel), by decide +kernel⟩, ⟨gissues _ _ (by decide +kernel), by decide +kernel⟩, by decide +kernel,
    by decide +kernel, by decide +kernel⟩

/-- Arithmetic words: VIALU ADD of an immediate, VIALU64, VFP32, VFP64, VSF, VCVT, VCMP, VSEL and VSHFL. -/
def alus : List Nat :=
  [gw 0x80 2 4 (2 ^ 76) 5, gw 0x81 2 4 (2 ^ 76) 5, gw 0x84 2 4 (6 * 2 ^ 96) 0, gw 0x85 2 4 (6 * 2 ^ 96) 0, gw 0x86 2 4 0 0,
   gw 0x88 2 4 (5 * 2 ^ 80 + 5 * 2 ^ 69) 0, gw 0x8A 2 4 (2 ^ 76) 5, gw 0x8B 2 4 (2 ^ 76) 5, gw 0x8C 2 4 (2 ^ 76) 31]

theorem witness_GroupArithmeticCompletes :
    (∀ w ∈ alus, (gcore grp w).groupIssues 0 0 0 job gk grp w ∧ (parseG w).reservedCode = false ∧ (parseG w).funct ≤ 5
      ∧ (parseG w).round ≠ 3 ∧ (∀ n ∈ [1, 2], regsOk gk.regs ((parseG w).names2 n) = true
        ∧ regsOk gk.regs ((parseG w).namesF n) = true ∧ regsOk gk.regs ((parseG w).names2 n ++ [((parseG w).c, n)]) = true
        ∧ regsOk gk.regs [((parseG w).dst, n), ((parseG w).a, n)] = true)
      ∧ grp.out = [])
    ∧ (∀ ns, grp.hazard ns = false)
    ∧ (∀ l, vialuOp 32 (parseG (gw 0x80 2 4 (2 ^ 76) 5)).funct (grp.val 4 l 1) ((parseG (gw 0x80 2 4 (2 ^ 76) 5)).opB grp l 1) = some 5)
    ∧ (∀ l, vialuOp 64 (parseG (gw 0x81 2 4 (2 ^ 76) 5)).funct (grp.val 4 l 2) ((parseG (gw 0x81 2 4 (2 ^ 76) 5)).opB grp l 2) = some 5)
    ∧ (∀ l, vfpOp .fp32 0 0 (grp.val 4 l 1) (grp.val 0 l 1) (grp.val 6 l 1) = some 0)
    ∧ (∀ l, vfpOp .fp64 0 0 (grp.val 4 l 2) (grp.val 0 l 2) (grp.val 6 l 2) = some 0)
    ∧ ∃ x, ∀ l, vsfOp 0 0 (grp.reg 4 l) = some x := by
  refine ⟨?_, fun _ => rfl, fun _ => (by decide +kernel : vialuOp 32 0 0 5 = some 5), fun _ => (by decide +kernel : vialuOp 64 0 0 5 = some 5),
    fun _ => (by decide +kernel : vfpOp .fp32 0 0 0 0 0 = some 0), fun _ => (by decide +kernel : vfpOp .fp64 0 0 0 0 0 = some 0),
    ⟨_, fun _ => (by rfl : vsfOp 0 0 0 = some _)⟩⟩
  intro w hw
  simp only [alus, List.mem_cons, List.not_mem_nil, or_false] at hw
  rcases hw with rfl | rfl | rfl | rfl | rfl | rfl | rfl | rfl | rfl <;> exact ⟨gissues _ _ (by decide +kernel), by decide +kernel⟩
theorem witness_ArithmeticWritesTheActiveLanesAlone :
    SMap.wf (fun _ => (0 : W32)) grp.regs = true ∧ grp.width ≤ 256 ∧ bitOf grp.active 31 = true
    ∧ bitOf ({ grp with active := 1 } : Group).active 31 = false ∧ grp.stack = [] ∧ grp.locks = [] := by decide +kernel

/-- Branches: taken by all lanes, by none, and by lane 0 alone. -/
def g1 : Group := { grp with regs := [(256 * 4, 1)] }

theorem witness_GroupControlAndTileAccessesComplete_control :
    ((gcore grp (gw 0x90 0 4 (2 * 2 ^ 80) 0)).groupIssues 0 0 0 job gk grp (gw 0x90 0 4 (2 * 2 ^ 80) 0)
      ∧ branchTaken (parseG (gw 0x90 0 4 (2 * 2 ^ 80) 0)) grp = grp.active)
    ∧ ((gcore grp (gw 0x90 0 4 0 0)).groupIssues 0 0 0 job gk grp (gw 0x90 0 4 0 0) ∧ branchTaken (parseG (gw 0x90 0 4 0 0)) grp = 0
      ∧ regsOk gk.regs [((parseG (gw 0x90 0 4 0 0)).a, 1)] = true)
    ∧ ((gcore g1 (gw 0x90 0 4 0 0)).groupIssues 0 0 0 job gk g1 (gw 0x90 0 4 0 0) ∧ branchTaken (parseG (gw 0x90 0 4 0 0)) g1 = 1
      ∧ 1 ≠ g1.active ∧ g1.stack.length < 32)
    ∧ ((gcore grp (opw 0x91 0)).groupIssues 0 0 0 job gk grp (opw 0x91 0)
      ∧ grp.locks.any (fun l => decide (l.holding &&& grp.active ≠ 0)) = false)
    ∧ (∀ w ∈ [gw 0xA2 2 4 (2 * 2 ^ 66) 0x7FFFFC, gw 0xA3 0 4 (2 * 2 ^ 66 + 2 ^ 76) 0x7FFFFC],
      (gcore grp w).groupIssues 0 0 0 job gk grp w ∧ (parseG w).size = 2
      ∧ (grp.lanes grp.active).any (fun l => decide ((parseG w).tileAt grp l < 0)
          || decide (0x800000 < (parseG w).tileAt grp l + sizeBytes (parseG w).size)) = false
      ∧ regsOk gk.regs [((parseG w).dst, 1), ((parseG w).a, 1)] = true ∧ (parseG w).reservedCode = false)
    ∧ (∀ w ∈ [gw 0x90 0 4 (2 * 2 ^ 80) 0, gw 0x90 0 4 0 0, opw 0x91 0], (parseG w).reservedCode = false)
    ∧ grp.hazard [(4, 1)] = false ∧ grp.out.any OutAcc.unsent = false ∧ grp.tileWaits gk true = false ∧ grp.tileWaits gk false = false
    ∧ ({ grp with out := [⟨0, .load, 2, 2, [], [], [], 1, false, false, [], [], []⟩] } : Group).tileWaits { gk with priv := false } false = true := by
  refine ⟨⟨gissues _ _ (by decide +kernel), by decide +kernel⟩, ⟨gissues _ _ (by decide +kernel), by decide +kernel⟩, ⟨gissues _ _ (by decide +kernel), by decide +kernel⟩,
    ⟨gissues _ _ (by decide +kernel), by decide +kernel⟩, ?_, by decide +kernel, by decide +kernel⟩
  intro w hw
  simp only [List.mem_cons, List.not_mem_nil, or_false] at hw
  rcases hw with rfl | rfl <;> exact ⟨gissues _ _ (by decide +kernel), by decide +kernel⟩

/-- An outstanding load of one lane that has all its parts, and an atomic with a returned match. -/
def oacc (kind : AccKind) (size : Nat) (ws : List Nat) : OutAcc := ⟨0, kind, 2, size, [(0, 0x8000)], [], ws, 0, false, false, [], [], []⟩

/-- A group that waits with a level of locks. -/
def glocked (w : GWait) : Group := { grp with wait := w, locks := [⟨0x100000, 1, 1, 0, [], 0, false⟩] }

theorem witness_GroupControlAndTileAccessesComplete_answers :
    ((gcore { grp with out := [oacc .load 2 [2]] } 0).group 0 0 = some { grp with out := [oacc .load 2 [2]] }
      ∧ (oacc .load 2 [2]).left = 0 ∧ (oacc .load 2 [2]).kind = .load)
    ∧ ((oacc .atomicRet 2 [2, 3]).kind = .atomicRet ∧ 2 ≤ (oacc .atomicRet 2 [2, 3]).size
      ∧ sizeRegs (oacc .atomicRet 2 [2, 3]).size < (oacc .atomicRet 2 [2, 3]).writes.length)
    ∧ (({ on with opRsps := [⟨.load 0 0 0, [0], [[0]], true⟩] } : State).opRsps.find? (fun r => r.src.ofGroup 0 0)
        = some ⟨.load 0 0 0, [0], [[0]], true⟩
      ∧ [oacc .atomic 2 []].find? (fun o => decide (o.id = 0 / 2)) = some (oacc .atomic 2 []) ∧ (oacc .atomic 2 []).kind ≠ .lock)
    ∧ ((gcore grp (gw 0xA8 0 4 0 0x8000)).groupIssues 0 0 0 job gk grp (gw 0xA8 0 4 0 0x8000)
      ∧ lowestCause (lockCauses (gcore grp (gw 0xA8 0 4 0 0x8000)) 0 job gk grp (parseG (gw 0xA8 0 4 0 0x8000))) = none
      ∧ grp.performed = true ∧ grp.out.length < 8 ∧ (parseG (gw 0xA8 0 4 0 0x8000)).reservedCode = false ∧ grp.hazard [(4, 2)] = false
      ∧ (gcore grp (gw 0xA8 0 4 0 0x8000)).flushSectors 0 0 [0x80] = none)
    ∧ (({ grp with locks := [⟨0x100000, 1, 1, 0, [], 0, true⟩] } : Group).locks.any (fun l => l.again) = true)
    ∧ ((gcore grp (opw 0xA9 0)).groupIssues 0 0 0 job gk grp (opw 0xA9 0) ∧ grp.locks = [])
    ∧ (∀ f ∈ [0, 1, 2, 4], (gcore grp (gw 0xAC 0 0 (f * 2 ^ 80) 0)).groupIssues 0 0 0 job gk grp (gw 0xAC 0 0 (f * 2 ^ 80) 0)
      ∧ (parseG (gw 0xAC 0 0 (f * 2 ^ 80) 0)).funct = f ∧ gk.priv = true
      ∧ (parseG (gw 0xAC 0 0 (f * 2 ^ 80) 0)).reservedCode = false)
    ∧ ({ grp with out := [{ oacc .store 2 [] with left := 1 }] } : Group).performed = false
    ∧ ((gcore (glocked .parked) 0).group 0 0 = some (glocked .parked) ∧ (gcore (glocked .parked) 0).coreJob 0 = some (0, job)
      ∧ (glocked .parked).stopped = false ∧ (glocked .parked).watchdog < 2 ^ 20
      ∧ Machine.cacheWord ((gcore (glocked .parked) 0).core 0).gic 0 0x100000 = some 0)
    ∧ ((gcore (glocked (.unlock ⟨[], []⟩)) 0).group 0 0 = some (glocked (.unlock ⟨[], []⟩))
      ∧ (gcore (glocked (.unlock ⟨[], []⟩)) 0).drainOver 0 ⟨[], []⟩ 2 = true
      ∧ (withCore { run with dies := [(0, { Die.empty with merge := [⟨0, 0, 0x80, [], 0, 1, 0, true, true, false⟩] })] } Core.rest).drainOver
          0 ⟨[0], []⟩ 2 = false)
    ∧ (gcore { grp with wait := .fence 2 ⟨[], []⟩ } 0).fenceOver 0 { grp with wait := .fence 2 ⟨[], []⟩ } 2 ⟨[], []⟩ = true := by
  refine ⟨by decide +kernel, by decide +kernel, by decide +kernel, ⟨gissues _ _ (by decide +kernel), by decide +kernel⟩, by decide +kernel, ⟨gissues _ _ (by decide +kernel), by decide +kernel⟩, ?_,
    by decide +kernel⟩
  intro f hf
  simp only [List.mem_cons, List.not_mem_nil, or_false] at hf
  rcases hf with rfl | rfl | rfl | rfl <;> exact ⟨gissues _ _ (by decide +kernel), by decide +kernel⟩

/-- A load, a store and an atomic of four bytes at 0x8000 of the device, which its region and extent hold. -/
theorem witness_DeviceMemoryAccessesIssue :
    (∀ w ∈ [gw 0xA0 2 4 (2 * 2 ^ 66) 0x8000, gw 0xA1 0 4 (2 * 2 ^ 66 + 2 ^ 76) 0, gw 0xA4 2 4 (2 ^ 73 + 2 ^ 76 + 0xA * 2 ^ 69) 8],
      (gcore grp w).groupIssues 0 0 0 job gk grp w ∧ (parseG w).reservedCode = false
      ∧ ((gcore grp w).gFetched 0 0 0 grp.pc).goesHome 0 job grp (parseG w) = false)
    ∧ ((gcore grp 0).gFetched 0 0 0 grp.pc).goesHome 0 job grp (parseG (gw 0xA0 2 4 (2 * 2 ^ 66 + 2 ^ 75) 0x8000)) = true
    ∧ (∀ ns, grp.hazard ns = false)
    ∧ lowestCause (devCauses (gcore grp 0) (fun i => sizeBytes i.size) (fun i => decide (4 < i.size)) (fun _ => false)
        (fun i => [(i.dst, sizeRegs i.size), (i.a, 2)]) false 0 job gk grp (parseG (gw 0xA0 2 4 (2 * 2 ^ 66) 0x8000))) = none
    ∧ lowestCause (devCauses (gcore grp 0) (fun i => sizeBytes i.size) (fun i => decide (4 < i.size)) (fun _ => false)
        (fun i => [(i.a, 2)] ++ (if i.immB then [] else [(i.b, sizeRegs i.size)])) true 0 job gk grp
        (parseG (gw 0xA1 0 4 (2 * 2 ^ 66 + 2 ^ 76) 0))) = none
    ∧ lowestCause (devCauses (gcore grp 0) atomBytes (fun i => decide (7 < i.funct) || decide (0xA < i.fmt) || decide (4 < i.size))
        (fun i => !atomOk i) atomNames true 0 job gk grp (parseG (gw 0xA4 2 4 (2 ^ 73 + 2 ^ 76 + 0xA * 2 ^ 69) 8))) = none
    ∧ grp.mayAccess gk true false false [(0x8000, 4)] = true ∧ grp.mayAccess gk true true true [(0x8000, 4)] = true
    ∧ grp.mayAccess gk false true true [(0x8000, 4)] = true ∧ grp.mayAccess gk false false true [(0x8000, 4)] = true
    ∧ ({ grp with out := List.replicate 8 (oacc .load 2 []) } : Group).mayAccess gk true false false [(0x8000, 4)] = false
    ∧ ({ grp with out := [{ oacc .store 2 [] with left := 1 }] } : Group).mayAccess { gk with priv := false } false false true [(0x8000, 4)]
        = false
    ∧ (gcore grp 0).flushSectors 0 0 [0x80] = none := by
  refine ⟨?_, by decide +kernel, fun _ => rfl, by decide +kernel⟩
  intro w hw
  simp only [List.mem_cons, List.not_mem_nil, or_false] at hw
  rcases hw with rfl | rfl | rfl <;> exact ⟨gissues _ _ (by decide +kernel), by decide +kernel⟩
/-! The unified cache and coherence -/

/-- Line 8 with its first sector valid. -/
def ln : Line := { Line.none with valid := true, line := 8, secs := [(0, ⟨.v, false, 0, 0⟩)] }

/-- A request of 64 bytes of that line. -/
def hreq (k : ReqKind) (bytes : List (Nat × Byte)) (acc : Bool) : HReq := ⟨k, 0, 0x8000, 64, bytes, false, .nobody, acc, false, false⟩

/-- Slice 0 with a line and requests. -/
def slc (l : Line) (rs : List HReq) : Slice := { Slice.empty with lines := [(0, l)], reqs := rs }
def withSlice (s : State) (x : Slice) : State := { s with slices := [(0, x)] }

theorem homeTurn_of {s : State} {q k : Nat} {r : HReq}
    (h : (decide (firstOver (s.slice 0).reqs q = some r) && decide ((s.slice 0).find (lineOf r.addr) = some k)
      && !((s.slice 0).way k).held && !(((s.slice 0).way k).sec (secIdx r.addr)).filling) = true) : s.homeTurn 0 q k r := by
  simp only [Bool.and_eq_true, decide_eq_true_eq, Bool.not_eq_true'] at h
  exact ⟨h.1.1.1, h.1.1.2, h.1.2, h.2⟩

theorem witness_HomeRequestsAndMaintenanceComplete_admits :
    (∀ k ∈ [ReqKind.plain, .coherent, .write], (withSlice run (slc ln [])).homeAdmits (hreq k [] false))
    ∧ (ln.evicting || ln.dropping || ln.discarding) = false ∧ (hreq .write [] false).early = false
    ∧ (ln.sec (secIdx 0x8000)).filling = false ∧ (hreq .write [] true).accepted = true ∧ (hreq .plain [] false).missed = false
    ∧ (⟨8, 0, [], false⟩ : FillData).bad = false
    ∧ (({ ln with secs := [(0, ⟨.i, true, 0, 0⟩)] } : Line).sec 0).filling = true := by
  refine ⟨?_, by decide +kernel⟩
  intro k hk
  simp only [List.mem_cons, List.not_mem_nil, or_false] at hk
  rcases hk with rfl | rfl | rfl <;> exact ⟨by decide +kernel, by decide +kernel, by decide +kernel⟩
theorem witness_HomeRequestsAndMaintenanceComplete_requests :
    ((withSlice run (slc ln [hreq .plain [] false])).homeTurn 0 0 0 (hreq .plain [] false) ∧ ln.full (secIdx 0x8000) = true)
    ∧ ((withSlice run (slc ln [hreq .write [(0x8000, 1)] false])).homeTurn 0 0 0 (hreq .write [(0x8000, 1)] false)
      ∧ ln.dir (secIdx 0x8000) = Dir.none ∧ ln.needsMask (secIdx 0x8000) [(0, 1)] = false)
    ∧ ((withSlice run (slc ln [hreq .write [(0x8000, 1)] true])).homeTurn 0 0 0 (hreq .write [(0x8000, 1)] true)
      ∧ (slc ln []).masksUsed ≤ 1008)
    ∧ (firstOver [hreq .plain [] false] 0 = some (hreq .plain [] false) ∧ (slc { ln with line := 9 } []).find (lineOf 0x8000) = none)
    ∧ ((slc ln []).find 8 = some 0 ∧ [(⟨8, 0, [], false⟩ : FillData)][0]? = some ⟨8, 0, [], false⟩) :=
  ⟨⟨homeTurn_of (by decide +kernel), by decide +kernel⟩, ⟨homeTurn_of (by decide +kernel), by decide +kernel⟩,
    ⟨homeTurn_of (by decide +kernel), by decide +kernel⟩, by decide +kernel, by decide +kernel⟩
/-- A free way for line 8; a line in the write-back buffer; a dead line; GO of an operation, its work and its end; an operation
refused for scope 3; a probe of the last slice. -/
theorem witness_HomeRequestsAndMaintenanceComplete_maintenance :
    (run.sliceVd 0 = some 0 ∧ (run.slice 0).find 8 = none ∧ run.homeSlice 0 8 = some 0 ∧ run.committing 0 = false
      ∧ run.lineWanted 0 8 = false
      ∧ (withSlice run { Slice.empty with reqs := [hreq .plain [] false] }).lineWanted 0 8 = true
      ∧ (((setKeys (homeSet (run.slicesOf 0).length 8)).filter (run.slice 0).eligible).find?
          (fun k => ((run.slice 0).way k).allI && ((run.slice 0).way k).noCopies)).isSome = true)
    ∧ ((run.lineKey 0 8).isSome = true ∧ (run.chan 0).writes.length + [(0, (⟨.d, false, 0, 0⟩ : Sector))].length ≤ 32)
    ∧ (({ ln with deadpend := true, dead := 15 } : Line).deadpend = true ∧ ln.ops = [] ∧ ({ ln with dead := 15 } : Line).isDead = true
      ∧ ln.held = false ∧ (slc ln []).reqs.any (fun r => decide (r.kind = .write) && decide (lineOf r.addr = 8)) = false)
    ∧ (run.pfServed Reg.cacheOpCmd = true ∧ run.maint = none)
    ∧ (({ run with maint := some ⟨0, 1, 0, [(0, 9)], false⟩ } : State).maint = some ⟨0, 1, 0, [(0, 9)], false⟩ ∧ (slc ln []).find 9 = none)
    ∧ maintRefused (run.setRegFld Reg.cacheOpCmd 24 2 3) 3 (run.regFld Reg.cacheOpCmd 22 2) = true ∧ run.canonical = true
    ∧ (run.pfServed Reg.cacheProbeSel = true ∧ (BitVec.ofNat 32 (511 * 2 ^ 20)).toNat &&& resvBits Reg.cacheProbeSel = 0
      ∧ fld (BitVec.ofNat 32 (511 * 2 ^ 20)) 20 10 < 512) := by decide +kernel

/-- A home operation: the add of lane 0. -/
def hop (fn : HomeFn) (ty : HomeType) (v : Nat) : HomeOp :=
  ⟨0, 0x8000, fn, ty, false, leBytes (if ty = .int32 then 4 else 8) v, leBytes (if ty = .int32 then 4 else 8) 7, .load 0 0 0, [0]⟩

theorem witness_HomeOperationsAreAppliedInOrder :
    ({ Slice.empty with opsIn := [hop .add .int32 5] } : Slice).opsIn[0]? = some (hop .add .int32 5)
    ∧ ((slc ln []).find (lineOf 0x8000) = some 0 ∧ ln.held = false ∧ ln.dir (secIdx 0x8000) = Dir.none ∧ ln.ops.length < 32
      ∧ (slc ln []).busyLines < 64 ∧ 32 ≤ ({ ln with ops := List.replicate 32 (hop .add .int32 5) } : Line).ops.length)
    ∧ (({ ln with ops := [hop .add .int32 5] } : Line).ops = [hop .add .int32 5] ∧ (ln.sec (secIdx 0x8000)).filling = false
      ∧ ln.full (secIdx 0x8000) = true ∧ ln.discarding = false)
    ∧ (run.refuses 0 (.load 0 0 0) = false ∧ (slc ln [hreq .plain [] false]).reqs.any (run.beforeOps ln (secIdx 0x8000)) = true
      ∧ (slc ln []).reqs.any (run.beforeOps ln (secIdx 0x8000)) = false)
    ∧ [hop .add .int32 5].find? (fun o => o.src.ofGroup 0 0) = some (hop .add .int32 5)
    ∧ ((hop .add .int32 5).fn = .add ∧ (hop .add .int32 5).ty = .int32 ∧ (hop .add .int32 5).operand = leBytes 4 5)
    ∧ ((hop .cas .int64 5).fn = .cas ∧ (hop .cas .int64 5).ty = .int64 ∧ (hop .cas .int64 5).operand = leBytes 8 5
      ∧ leNat (hop .cas .int64 5).cmp = 7) := by decide +kernel

/-- A load or store of core 0 at a die cache, and a block. -/
def dacc (store : Bool) : DAccess := ⟨0, 0, 0, 0, 0x8000, 4, store, [], false, false, false⟩
def blk (st : BSt) : Block := ⟨0, 0x80, 0, st, 0, 0, List.replicate 256 0, .none, false, false, false⟩
def dcache (acc : List DAccess) (bs : List Block) (ms : List MergeEntry) : Die := ⟨bs, acc, ms, 1, [], [], [], 0, []⟩
def ment : MergeEntry := ⟨0, 0, 0x80, [], 0, 1, 0, true, true, false⟩

theorem witness_DieCacheAccessesComplete :
    (firstAcc (dcache [dacc false] [] []).acc 0 = some (dacc false) ∧ (dacc false).store = false
      ∧ (dcache [] [] []).merge.find? (fun m => decide (m.vd = 0) && decide (m.sector = 0x8000 / 256)) = none)
    ∧ ((dcache [] [blk .s] []).block 0 (0x8000 / 256) = some (blk .s) ∧ (blk .s).st.loadHits = true ∧ (blk .isD).st.loadHits = false)
    ∧ (blk .isD).st ≠ .isDI ∧ (blk .isDI).st = .isDI ∧ (blk .s).bad = false ∧ (dcache [] [] []).room = true ∧ (blk .isD).nacked = false
    ∧ ((dcache [] [] []).block 0 (0x8000 / 256) = none ∧ (run.takeWay 0 0 0x80 .isD).isSome = true)
    ∧ (firstAcc (dcache [dacc true] [] []).acc 0 = some (dacc true) ∧ (blk .m).st = .m ∧ (dcache [] [blk .m] []).block 0 0x80 = some (blk .m))
    ∧ (dcache [] [] [ment]).merge[0]? = some ment
    ∧ ({ dcache [] [] [ment] with ackIn := [(0, true), (0, false)] } : Die).ackIn[1]? = some (0, false)
    ∧ ({ dcache [] [] [ment] with ackIn := [(0, true), (0, false)] } : Die).ackIn[0]? = some (0, true)
    ∧ [ment].find? (fun m => decide (m.id = 0)) = some ment
    ∧ ({ blk .imD with nacked := true } : Block).nacked = true ∧ (blk .imD).st = .imD := by decide +kernel

/-- A message between die 0 and home 0 about sector 0x80. -/
def msg (k : CohKind) (toHome : Bool) : CohMsg :=
  ⟨k, if toHome then .die 0 else .home 0, if toHome then .home 0 else .die 0, 0, 0x80, some 1, List.replicate 256 0, 0, true, true, false⟩

theorem homeHears_of {s : State} {kd : CohKind} {j k : Nat} {m : CohMsg}
    (h : (decide (nextMsg s.msgs (fun m => decide (m.kind = kd) && decide (m.src = .die 0) && decide (m.dst = .home 0)) = some (j, m))
      && decide ((s.slice 0).find (m.sector / 16) = some k)) = true) : s.homeHears kd 0 0 j k m := by
  simp only [Bool.and_eq_true, decide_eq_true_eq] at h; exact h

theorem dieHears_of {s : State} {kd : CohKind} {j : Nat} {m : CohMsg} {b : Block}
    (h : (decide (nextMsg s.msgs (fun m => decide (m.kind = kd) && decide (m.src = .home 0) && decide (m.dst = .die 0)) = some (j, m))
      && decide ((s.die 0).block m.vd m.sector = some b)) = true) : s.dieHears kd 0 0 j m b := by
  simp only [Bool.and_eq_true, decide_eq_true_eq] at h; exact h

/-- Home 0 and die 0 with a message on its way. -/
def talk (m : CohMsg) (d : DState) (vec : Nat) (b : List Block) : State :=
  { withSlice run (slc { ln with dirs := [(0, ⟨d, vec⟩)] } []) with msgs := [m], dies := [(0, dcache [] b [])] }

theorem witness_CoherenceMessagesAreAnswered_home :
    (∀ k ∈ [CohKind.getS, .getM, .putS, .putE, .putM, .invAck, .dataM], (talk (msg k true) .s 2 []).homeHears k 0 0 0 0 (msg k true)
      ∧ (talk (msg k true) .s 2 []).dirAt 0 0 0x80 = ⟨.s, 2⟩)
    ∧ (((talk (msg .getS true) .tr 0 []).dirAt 0 0 0x80).st = .tr)
    ∧ (ln.held = false ∧ (ln.sec (0x80 % 16)).filling = false ∧ (slc ln []).acceptedIn 0x80 = false ∧ ln.full (0x80 % 16) = true)
    ∧ ((talk (msg .getM true) .em 2 []).dirAt 0 0 0x80).st = .em ∧ (vecDies 2).headD 0 = 1 ∧ (slc ln []).trRoom = true
    ∧ setBits 1 0 1 0 = 0 ∧ setBits 3 0 1 0 = 2 ∧ ((talk (msg .getS true) .i 0 []).dirAt 0 0 0x80).st = .i
    ∧ ({ slc ln [] with trans := [⟨8, 0, .emsD, some 0, some 0, 0, false, false, false, []⟩] } : Slice).tr 8 (0x80 % 16)
      = some ⟨8, 0, .emsD, some 0, some 0, 0, false, false, false, []⟩ := by
  refine ⟨?_, by decide +kernel⟩
  intro k hk
  simp only [List.mem_cons, List.not_mem_nil, or_false] at hk
  rcases hk with rfl | rfl | rfl | rfl | rfl | rfl | rfl <;> exact ⟨homeHears_of (by decide +kernel), by decide +kernel⟩
theorem witness_CoherenceMessagesAreAnswered_die :
    (talk (msg .inv false) .s 1 [blk .s]).dieHears .inv 0 0 0 (msg .inv false) (blk .s)
    ∧ (talk (msg .inv false) .s 1 [blk .m]).dieHears .inv 0 0 0 (msg .inv false) (blk .m)
    ∧ (talk (msg .fwdGetS false) .em 1 [blk .m]).dieHears .fwdGetS 0 0 0 (msg .fwdGetS false) (blk .m) ∧ (msg .fwdGetS false).r = some 1
    ∧ (talk (msg .fwdGetM false) .em 1 [blk .m]).dieHears .fwdGetM 0 0 0 (msg .fwdGetM false) (blk .m)
    ∧ (talk (msg .dataE false) .em 1 [blk .isD]).dieHears .dataE 0 0 0 (msg .dataE false) (blk .isD)
    ∧ (talk (msg .putAck false) .em 1 [blk .miA]).dieHears .putAck 0 0 0 (msg .putAck false) (blk .miA)
    ∧ (talk (msg .nack false) .em 1 [blk .imD]).dieHears .nack 0 0 0 (msg .nack false) (blk .imD)
    ∧ nextMsg [msg .data false] (fun m => decide (m.kind = .data) && decide (m.dst = .die 0)) = some (0, msg .data false)
    ∧ nextMsg [msg .dataM false] (fun m => decide (m.kind = .dataM) && decide (m.dst = .die 0)) = some (0, msg .dataM false) :=
  ⟨dieHears_of (by decide +kernel), dieHears_of (by decide +kernel), dieHears_of (by decide +kernel), by decide +kernel, dieHears_of (by decide +kernel),
    dieHears_of (by decide +kernel), dieHears_of (by decide +kernel), dieHears_of (by decide +kernel), by decide +kernel, by decide +kernel⟩
/-! The fabric -/

/-- Descriptors: one chunk from core 0's tile store to itself in beat 0, and one from slice 0. -/
def sd : StreamDesc :=
  { parseStream 0x8000 [] with kind := 1, chunks := 1, perBeat := 1, beatmask := 1, flagEn := true, flagAdd := 1 }
def sdm : StreamDesc := { sd with kind := 3, srcAddr := 0x8000 }

/-- The first of them in memory form: KIND, FLAG_EN, CHUNKS, PER_BEAT, FLAG_ADD, BEATMASK. -/
def sdBytes : List Byte := leBytes 64 (2 ^ 508 + 2 ^ 503 + 2 ^ 452 + 2 ^ 422 + 2 ^ 368 + 2 ^ 256)

/-- Core 0's engine with streams, its send class 8, the ports of core 0 and slice 0 its device's. -/
def stream (e : EngineSt) : State :=
  let s := (((run.setReg Reg.fabricStatus 0x08080000).setReg (Reg.fabricSlotCore 0) 0x10000).setReg (Reg.fabricSlotSlice 0) 0x10000)
  { withSlice s (slc { ln with data := wrL [] 0 sdBytes } []) with fab := { s.fab with engines := [(0, e)] } }

def st0 (d : StreamDesc) : Stream := ⟨d, 0, false, false, 0, false, 0⟩
def eng (nextAddr : Nat) (ss : List Stream) (el : List (Nat × Nat × List Byte) := []) : EngineSt := ⟨0, 0, nextAddr, false, ss, el⟩

/-- What of a send position a statement names: the epoch, the tick, the chunk in the elastic buffer. -/
theorem witness_StreamsFetchAndSend_positions :
    ((stream (eng 0 [st0 sd])).schedJob 0 = some job ∧ ((stream (eng 0 [st0 sd])).engine 0).ended = false)
    ∧ ((stream (eng 0 [st0 sd])).streamEpoch 0 = some 0 ∧ ((stream (eng 0 [st0 sd])).engine 0).streams[0]? = some (st0 sd)
      ∧ (st0 sd).stopped = false)
    ∧ ((stream (eng 0 [st0 sd])).fabTick = portTick sd.fromMem (sd.sendBeat 0 0 false) ((stream (eng 0 [st0 sd])).sendPos 0 sd 0)
      ∧ portTick sd.fromMem (sd.sendBeat 0 0 false) ((stream (eng 0 [st0 sd])).sendPos 0 sd 0)
        < ({ stream (eng 0 [st0 sd]) with time := 1 } : State).fabTick
      ∧ (stream (eng 0 [st0 { sd with frame0 := 1 }])).fabTick
        < portTick sd.fromMem (StreamDesc.sendBeat { sd with frame0 := 1 } 0 0 false)
            ((stream (eng 0 [st0 sd])).sendPos 0 { sd with frame0 := 1 } 0))
    ∧ ((stream (eng 0 [st0 sd])).commitDue = false
      ∧ ({ run with time := 128, fab := { run.fab with pending := [(0, .slot false 0 none)] } } : State).commitDue = true)
    ∧ ((eng 0 [st0 sd] [(sd.addr, 0, [])]).elastic.find? (fun y => decide (y.1 = sd.addr) && decide (y.2.1 = 0)) = some (sd.addr, 0, [])
      ∧ (eng 0 [st0 sd]).elastic.find? (fun y => decide (y.1 = sd.addr) && decide (y.2.1 = 0)) = none)
    ∧ (stream (eng 0 [st0 sd])).losesPosition 0 0 1 [st0 sd, st0 { sd with addr := 0x8040 }] (st0 { sd with addr := 0x8040 }) = true := by
  decide +kernel

/-- A fetch of the end descriptor, of a good one and of one with no destination port class; a stream ahead of its beat, with a shut
gate, with its port and without, from a slice and without its line. -/
theorem witness_StreamsFetchAndSend :
    (((stream (eng 0x8100 [])).engineKeys (.core 0)).find? (stream (eng 0x8100 [])).fetches = some 0
      ∧ (parseStream 0x8100 ((stream (eng 0x8100 [])).devRead 0 0x8100 64)).kind = 0)
    ∧ (parseStream 0x8000 ((stream (eng 0x8000 [])).devRead 0 0x8000 64) = sd
      ∧ (stream (eng 0x8000 [])).streamOk 0 0 job.regions sd = true ∧ (withSlice run (slc ln [])).streamOk 0 0 job.regions sd = false)
    ∧ ((stream (eng 0 [st0 sd])).streamAt (.core 0) 0 = some (0, 0) ∧ (st0 sd).next < sd.chunks
      ∧ (stream (eng 0 [st0 sd])).gateOpen 0 { sd with gateEn := true, gateValue := 1 } = false
      ∧ (stream (eng 0 [st0 sd])).gateOpen 0 sd = true
      ∧ (stream (eng 0 [st0 sd])).losesPosition 0 0 0 [st0 sd] (st0 sd) = false)
    ∧ ((stream (eng 0 [st0 sd])).ownsCorePort 0 0 = true ∧ run.ownsCorePort 0 0 = false ∧ sd.fromMem = false ∧ sdm.fromMem = true
      ∧ (stream (eng 0 [st0 sdm])).ownsSlicePort 0 0 = true ∧ (stream (eng 0 [st0 sdm])).sourceLine 0 sdm 0 = some (0, 0, 0x8000)
      ∧ run.sourceLine 0 sdm 0 = none) := by decide +kernel

/-- A chunk for core 0's tile store, for slice 0, and one to be added at router 0. -/
def chunk (dst : ChunkDst) (held : Bool) (red : Option (Nat × Nat × Nat)) : Chunk :=
  ⟨0, 0, 0x8000, 0, List.replicate 64 1, dst, 1, 0, red, [], held, 0, 1, 0, [], 0, false⟩
def flying (cs : List Chunk) (t : W64) : State := { run with time := t, fab := { run.fab with chunks := cs } }

theorem witness_ChunksLandAndCount :
    ((chunkIdx (flying [chunk (.tile 0 0x7FFFC0) false none] 127).fab.chunks (fun c => c.atPort (.core 0) && !c.held))[0]? = some 0
      ∧ (chunk (.tile 0 0x7FFFC0) false none).bad = false ∧ (flying [] 127).commitDue = false
      ∧ (flying [] 127).fabTick < portTick false (1 * 64 + 0) 0 ∧ portTick false (1 * 64 + 0) 0 ≤ (flying [] 128).fabTick
      ∧ run.ownsDst (chunk (.tile 0 0x7FFFC0) false none) = false
      ∧ (stream (eng 0 [])).ownsDst (chunk (.tile 0 0x7FFFC0) false none) = true)
    ∧ ((chunkIdx [chunk (.slice 0 0x8000) false none] (fun c => c.atPort (.slice 0) && !c.held))[0]? = some 0
      ∧ 128 ≤ ((List.replicate 128 (chunk (.slice 0 0x8000) true none)).filter (fun o => o.red.isNone && decide (o.id ≠ 1)
        && decide (o.arrives ≤ 0) && o.dst.atSlice 0)).length)
    ∧ (chunkIdx (flying [chunk (.slice 0 0x8000) true none] 128).fab.chunks (fun c => c.atPort (.slice 0) && c.held)).find? (fun x =>
        decide ((((flying [chunk (.slice 0 0x8000) true none] 128).fab.chunks[x]?).elim (flying [] 128)
          ((flying [chunk (.slice 0 0x8000) true none] 128).land x)).fab.chunks.length < 1)) = some 0
    ∧ ((stream (eng 0 [{ st0 sd with next := 1, written := 1 }])).flagReady[0]? = some (0, 0)
      ∧ ((stream (eng 0 [{ st0 sd with next := 1, written := 1 }])).engine 0).streams[0]? = some { st0 sd with next := 1, written := 1 }) := by
  decide +kernel

/-- A reduction entry at router 0 that has two of three, and one that has two of two still to come. -/
def rede (contrib : Nat) : RedEntry := ⟨0, 0, .tile 0 0, List.replicate 64 1, 1, contrib, 0, 0x8000, 0, 1, 0, 0, 1, []⟩
def reducing (es : List RedEntry) (rs : List RedRes) (cs : List Chunk) (t : W64) : State :=
  { run with time := t, fab := { run.fab with redEntries := es, redRes := rs, chunks := cs } }

theorem witness_ReductionsAndLinksComplete :
    ((chunkIdx [chunk (.tile 0 0) false (some (0, 2, 0))] (fun c => c.addsAt 0))[0]? = some 0
      ∧ (chunk (.tile 0 0) false (some (0, 2, 0))).red = some (0, 2, 0))
    ∧ ((reducing [rede 2] [] [] 0).redPlace (chunk (.tile 0 0) false (some (0, 2, 0))) = some 0 ∧ (rede 2).contrib ≤ (rede 2).count + 1
      ∧ (rede 3).count + 1 < (rede 3).contrib)
    ∧ ((reducing [] [⟨0, 0, [1, 0, 0, 0]⟩] [] 0).redPlace (chunk (.tile 0 0) false (some (0, 2, 0))) = none
      ∧ (reducing [] [⟨0, 0, [1, 0, 0, 0]⟩] [] 0).redReserved 0 0 = 1 ∧ (reducing [] [] [] 0).redReserved 0 0 = 0)
    ∧ ((reducing [] [] [] 0).liveJob 0).isSome = true ∧ ((withVd on 0 dev).liveJob 0).isSome = false
    ∧ (chunk (.tile 0 0) false (some (0, 2, 0))).bad = false ∧ (chunk (.tile 0 0) false (some (0, 2, 0))).arrives < (reducing [] [] [] 0).fclk + 16
    ∧ (reducing [] [] [] 0).fclk + 16 ≤ ({ chunk (.tile 0 0) false (some (0, 2, 0)) with arrives := 16 } : Chunk).arrives
    ∧ ((reducing [rede 2] [] [] 0).redAt 0)[0]? = some 0 ∧ (reducing [rede 2] [] [] 383).frame < (rede 2).due + 2
    ∧ (rede 2).due + 2 ≤ (reducing [rede 2] [] [] 384).frame := by decide +kernel

/-- A flit of causeway 0 towards its second end, and a flag message with two outputs still to leave by, the first core 0's. -/
def fl (k : FlitKind) : Flit := ⟨k, 0, 0, 0⟩
def rm (hold : Option Nat) : ReedMsg := ⟨7, 0, .flag ⟨0, 5, .add 1, 0⟩, [(0, 0), (1216, 0)], hold, false⟩
def linked (f : Fabric → Fabric) : State := { run with fab := f run.fab }

theorem witness_ReductionsAndLinksComplete_links :
    (([⟨otherWay (linkNo (.coreSend 0)), fl .reed, 7, false⟩] : List Replay).find?
        (fun r => !r.asked && decide (otherWay r.link = linkNo (.causeway 0 true))) = none
      ∧ ([⟨causewayLink 0 false, fl .reed, 7, false⟩] : List Replay).find?
        (fun r => !r.asked && decide (otherWay r.link = linkNo (.causeway 0 true))) = some ⟨causewayLink 0 false, fl .reed, 7, false⟩)
    ∧ (run.fab.replays = [] ∧ (run.link (linkNo (.coreSend 0))).credits ≠ 0 ∧ run.reedHead (linkNo (.coreSend 0)) = none
      ∧ ((linked (fun x => { x with links := [(0, ⟨0, 1⟩)] })).link (linkNo (.coreSend 0))).credits = 0)
    ∧ ((linked (fun x => { x with reed := [rm (some 96)] })).reedHead (linkNo (.coreSend 0)) = some (0, rm (some 96))
      ∧ (rm (some 96)).path.tail ≠ [] ∧ (rm (some 96)).hold = some (linkNo (.coreRecv 0))
      ∧ (rm (some 96)).hold ≠ (some (Link.coreSend 1)).map linkNo ∧ (rm none).hold = (none : Option Link).map linkNo ∧ Link.coreRecv 0 ≠ .coreSend 0
      ∧ SMap.wf (fun _ => ReedLink.rest) run.fab.links = true)
    ∧ (∀ b ∈ [true, false], ([⟨causewayLink 0 false, fl .reed, [], 7, 0, b⟩] : List SentFlit).reverse.find?
        (fun x => decide (x.link = causewayLink 0 false) && decide (x.flit = fl .reed)) = some ⟨causewayLink 0 false, fl .reed, [], 7, 0, b⟩)
    ∧ run.fab.replays.any (fun r => decide (r.link = causewayLink 0 false) && decide (r.flit = fl .reed)) = false
    ∧ ((fl .reed).kind = .reed ∧ (fl .demand).kind ≠ .reed ∧ (fl .demand).kind ≠ .idle)
    ∧ ([⟨causewayLink 0 false, fl .reed, 7, true⟩] : List Replay).find? (fun r => r.asked && decide (r.link = causewayLink 0 false)
        && (decide (r.flit.kind = .reed) == true)) = some ⟨causewayLink 0 false, fl .reed, 7, true⟩
    ∧ (run.commitDue = false ∧ 0 < ({ run with time := 128 } : State).frame
      ∧ (linked (fun x => { x with pending := [(0, .slot false 0 none)] })).fab.pending = [(0, .slot false 0 none)]) := by decide +kernel

theorem witness_RoutersApplyFlagMessagesWhole :
    (({ run with fab := { run.fab with flagMsgs := [⟨0, 5, .add 0, 3⟩, ⟨0, 5, .add 1, 3⟩] } } : State).routerMsg 0 1 = some ⟨0, 5, .add 1, 3⟩
      ∧ [(⟨0, 5, .add 0, 3⟩ : FlagMsg), ⟨0, 5, .add 1, 3⟩].find? (fun x => decide (x.word = 5) && decide (x.sender = 3)) = some ⟨0, 5, .add 0, 3⟩
      ∧ flagApply (run.flag 5) (.add 0) = run.flag 5)
    ∧ fld (0x3FE : W32) 10 10 + 1 < (if fld (0x3FE : W32) 0 10 = 0 then 1024 else fld (0x3FE : W32) 0 10)
    ∧ (if fld (0xFFC00 : W32) 0 10 = 0 then 1024 else fld (0xFFC00 : W32) 0 10) ≤ fld (0xFFC00 : W32) 10 10 + 1 := by decide +kernel

/-! Memory -/

/-- Channel 0 in service with requests. -/
def chanOn (c : Channel) : State := { run.setReg (Reg.memctlChStatus 0) 0x40000000 with chans := [(0, c)] }
def chw : ChWrite := ⟨0, 8, 0, 0x8000, 3, [1, 2, 3], 0⟩

theorem witness_ChannelsServeRefreshAndRetrain :
    ((chanOn { Channel.rest with reads := [⟨0, 0, 8, 0, 1⟩] }).chServes 0 = true
      ∧ (chanOn { Channel.rest with reads := [⟨0, 0, 8, 0, 1⟩] }).fillReady 0 ⟨0, 0, 8, 0, 1⟩ = true
      ∧ (chanOn { Channel.rest with reads := [⟨0, 0, 8, 0, 1⟩] }).hostFirst 0 0 8 0 = false
      ∧ (chanOn { Channel.rest with reads := [⟨0, 0, 8, 0, 1⟩] }).turnOf 0 false (0, 8) = true
      ∧ (chanOn { Channel.rest with reads := [⟨0, 0, 8, 0, 1⟩] }).inWindow 0 = false
      ∧ (chanOn { Channel.rest with windowEnd := 1 }).inWindow 0 = true
      ∧ (chanOn { Channel.rest with reads := [⟨0, 0, 8, 0, 1⟩], writes := [chw] }).fillReady 0 ⟨0, 0, 8, 0, 1⟩ = false)
    ∧ (((chanOn { Channel.rest with writes := [chw] }).chan 0).writes[0]? = some chw
      ∧ (chanOn { Channel.rest with writes := [chw] }).writeReady 0 chw = true
      ∧ (chanOn { Channel.rest with writes := [chw] }).hostFirst 0 0 8 0 = false
      ∧ (chanOn { Channel.rest with writes := [chw] }).turnOf 0 true (0, 8) = true
      ∧ Channel.rest.mergeFails chw.key chw.mask = false
      ∧ ({ Channel.rest with faults := [(unitOf chw.key, .uncorrectable)] } : Channel).mergeFails chw.key chw.mask = true)
    ∧ ((chanOn { Channel.rest with postponed := 7 }).chan 0).postponed < 8 ∧ 8 ≤ ((chanOn { Channel.rest with postponed := 8 }).chan 0).postponed
    ∧ (chanOn Channel.rest).chState 0 = 1 ∧ (chanOn Channel.rest).canonical = true
    ∧ ((chanOn Channel.rest).chan 0).retry = false ∧ ((chanOn { Channel.rest with retry := true }).chan 0).retry = true
    ∧ (chanOn Channel.rest).windowFree 0 = true ∧ (chanOn { Channel.rest with windowEnd := 1 }).windowFree 0 = false
    ∧ (chanOn Channel.rest).retrainDue 0 = false ∧ (chanOn { Channel.rest with trainTemp := 11 }).retrainDue 0 = true
    ∧ ((chanOn { Channel.rest with retry := true }).chan 0).retryAt ≤ (chanOn Channel.rest).time.toNat
    ∧ (chanOn Channel.rest).time.toNat < ((chanOn { Channel.rest with retryAt := 1 }).chan 0).retryAt
    ∧ ((at_ .starting 5).clock.mode = .starting ∧ (at_ .starting 5).clock.step = 5 ∧ (at_ .starting 5).chState 0 = 0) := by decide +kernel
theorem witness_TrafficGeneratorRuns :
    (run.canonical = true ∧ run.pfServed (Reg.memctlChTgCtrl 0) = true ∧ run.regBit (Reg.memctlChTgStatus 0) 29 = false
      ∧ run.tgRefused 0 = true)
    ∧ ((run.setReg (Reg.memctlChStatus 0) 0x80000000).tgRefused 0 = false)
    ∧ (run.setRegBit (Reg.memctlChTgStatus 0) 29 true).regBit (Reg.memctlChTgStatus 0) 29 = true
    ∧ ((chanOn { Channel.rest with tg := some (run.tgRunOf 0 0) }).chan 0).tg = some (run.tgRunOf 0 0)
    ∧ (run.tgRunOf 0 0).passes = 0 ∧ ({ run.tgRunOf 0 0 with passes := 1 } : TgRun).passes ≠ 0 := by decide +kernel
theorem witness_ChannelWritesChangeTheirBytesAlone :
    (chanOn { Channel.rest with writes := [chw] }).canonical = true ∧ ((chanOn { Channel.rest with writes := [chw] }).chan 0).writes[0]? = some chw
    ∧ (chanOn { Channel.rest with writes := [chw] }).chServes 0 = true ∧ (chanOn { Channel.rest with writes := [chw] }).inWindow 0 = false
    ∧ bitOf chw.mask 1 = true ∧ bitOf chw.mask 2 = false ∧ (run.extent 0).covers 0 = true ∧ (run.extent 0).covers (2 ^ 33) = false := by decide +kernel
/-! The binder -/

/-- A descriptor of core 0, slice 0 and one extent that passes every check, its number 0. -/
def cdesc : Desc :=
  { desc with coreShape := 1, sliceShape := 1, lbdMap := 0xE4, runs := ⟨true, 0, 1, 0⟩ :: List.replicate 7 ⟨false, 0, 0, 0⟩ }

/-- Core 1 in place of core 0. -/
def cmove : Desc := { cdesc with coreMap := [1] }

/-- One extent, free or owned. -/
def exts (x : Extent) : Pool := { Pool.empty with cores := [(0, .free), (1, .free)], slices := [(0, .free)], extents := [(0, x)] }
def efree : Extent := ⟨.free, 0, 0, none, [0], [0], [0]⟩

/-- Full service with a descriptor staged and OP written: no device, and device 0 of `cdesc`. -/
def staged (s : State) (op : Nat) (d : Desc) : State := (s.setRegs (Reg.composeDesc 0) d.words).setRegFld Reg.composeCmd 0 4 op
def vacant : State := { on with pool := exts efree }
def made : State :=
  { run with
    vds := [(0, { dev with desc := cdesc })]
    pool := { run.pool with cores := [(0, .owned 0 (some 0)), (1, .free)], flagOwner := (List.range 64).map (fun i => (i, 1)), qpOwner := [(0, 1), (1, 1)] } }
def ws (d : Desc) : List W32 := (staged on 0 d).regList (Reg.composeDesc 0) 320

/-- The words read back, CREATE and its refusal for a duplicate core, MOVE of core 0 to core 1, RESIZE. -/
theorem witness_ComposeOperationsComplete_checks :
    (vacant.clock.mode = .full ∧ vacant.binder.pending = none ∧ vacant.binderBusy = false ∧ made.binder.pending = none ∧ made.binderBusy = false
      ∧ parseDesc (ws cdesc) false = cdesc ∧ parseDesc (ws cmove) false = cmove)
    ∧ (staged vacant 0 cdesc).regList (Reg.composeDesc 0) 320 = ws cdesc
    ∧ (staged vacant 0 cdesc).checkDesc 0 (ws cdesc) cdesc = none
    ∧ (staged made 0 cdesc).checkDesc 0 (ws cdesc) cdesc = some 2
    ∧ (staged made 2 cmove).checkDesc 2 (ws cmove) cmove = none
    ∧ (staged made 3 cmove).checkDesc 3 (ws cmove) cmove = none := by decide +kernel
/-- A rebind of device 0 in a state. -/
def bop (st : BindState) : BindOp := ⟨true, st, 0, cmove, 0, 0, false, false, [], [], []⟩
def binding (s : State) (st : BindState) : State := { s with binder := { s.binder with running := some (bop st) } }

/-- DESTROY, READ, SET_DESTROY of set 1; a busy binder and a held request. -/
theorem witness_ComposeOperationsComplete_rest :
    (descReserved (ws cdesc) = false ∧ (staged made 1 cdesc).badState opDestroy 0 = false ∧ dfld (ws cdesc) 0 16 4 = 0
      ∧ ((staged made 4 cdesc).vd 0).st ≠ .absent)
    ∧ (descReserved (ws { cdesc with sharedSet := 1 }) = false ∧ dfld (ws { cdesc with sharedSet := 1 }) 0 16 4 = 1
      ∧ (({ vacant with sets := [(1, ⟨true, 0xE4, 1, [0], none, none, 255, 0⟩)] } : State).set_ 1).valid = true
      ∧ SMap.wf (fun _ => SetSt.absent) [(1, ⟨true, 0xE4, 1, [0], none, none, 255, 0⟩)] = true ∧ vacant.setUsers 1 = [])
    ∧ ((binding made .moving).binderBusy = true
      ∧ ({ binding made .moving with binder := { running := some (bop .moving), pending := some (0, []) } } : State).binder.pending = some (0, [])
      ∧ ({ made with binder := { made.binder with pending := some (0, []) } } : State).binderBusy = false) := by decide +kernel

theorem witness_RebindsStepThrough :
    (∀ st ∈ [BindState.quiescing, .gaining, .moving, .committing, .resuming],
      (binding made st).binder.running = some (bop st) ∧ (bop st).st = st ∧ (bop st).abandoned = false)
    ∧ ((binding made .quiescing).quiescent (bop .quiescing) = true ∧ (binding run .quiescing).quiescent (bop .quiescing) = false
      ∧ ((binding run .quiescing).setReg Reg.composeTimeout 0).quiescent (bop .quiescing) = false
      ∧ (((binding run .quiescing).setReg Reg.composeTimeout 1).regFld Reg.composeTimeout 0 24 ≠ 0
        ∧ 0 + ((binding run .quiescing).setReg Reg.composeTimeout 1).regFld Reg.composeTimeout 0 24
          ≤ State.frame { binding run .quiescing with time := 128 })
      ∧ (run.setReg Reg.composeTimeout 0).regFld Reg.composeTimeout 0 24 = 0)
    ∧ (binding made .moving).quietVd (bop .moving) = true
    ∧ ((binding made .quiescing).onBoundary = true ∧ ({ binding made .quiescing with time := 1 } : State).onBoundary = false)
    ∧ ((binding made .gaining).commitDue = false ∧ (binding made .gaining).gainPending (bop .gaining) = false
      ∧ ({ binding made .gaining with fab := { on.fab with pending := [(0, .slot false 1 (some 0))] } } : State).gainPending (bop .gaining) = true)
    ∧ ((if (binding made .moving).onBoundary then (binding made .moving).frame else (binding made .moving).frame + 1)
        < 0 + (binding (made.setReg Reg.fabricStatus 0x08080000) .moving).moveFrames (bop .moving)
      ∧ 0 + (binding made .moving).moveFrames (bop .moving) ≤ State.frame { binding made .moving with time := 512 })
    ∧ ((binding made .resuming).frame ≤ (bop .resuming).since ∧ (bop .resuming).since < State.frame { binding made .resuming with time := 128 })
    ∧ ({ binding made .moving with msgs := [msg .getS true] } : State).quietVd (bop .moving) = false
    ∧ (({ on with pool := exts { efree with st := .scrubbing } } : State).extent 0).st = .scrubbing
    ∧ (({ on with pool := exts { efree with st := .scrubbing } } : State).extent 0).covers 0 = true
    ∧ (vacant.extent 0).st ≠ .scrubbing := by decide +kernel
/-! Jobs -/

/-- Device 0 idle, its queue 0 of 16 entries enabled with one descriptor, and a save area at 0x3000. -/
def qcfg (en : Bool) (size : Nat) : W32 := BitVec.ofNat 32 (b2n en * 2 ^ 31 + size * 2 ^ 16)
def queue (s : State) : State :=
  ((s.setReg (Reg.queueSqCfg 0 0) (qcfg true 4)).setReg (Reg.queueSqTail 0 0) 1).setReg (Reg.queueSave 0 0) 0x3000
def devq : VDev := { dev with tails := [1, 0, 0, 0] }
def idle : State := queue { run with vds := [(0, devq)] }

theorem witness_QueueWritesComplete :
    (run.canonical = true ∧ run.vfHere 0 = true ∧ run.qOn 0 0 = false)
    ∧ (idle.canonical = true ∧ idle.vfHere 0 = true ∧ idle.qOn 0 0 = true ∧ idle.clock.downBusy = false ∧ idle.clock.offReady = false
      ∧ idle.qSize 0 0 = 16 ∧ idle.sqTail 0 0 = 1 ∧ idle.sqHead 0 0 = 0
      ∧ (1 + 16 - 0) % 16 + (15 + 16 - 1) % 16 ≤ 16 - 1 ∧ fld (15 : W32) 0 16 < 16 ∧ 16 ≤ fld (16 : W32) 0 16
      ∧ 16 - 1 < (1 + 16 - 0) % 16 + (0 + 16 - 1) % 16)
    ∧ (idle.cqHead 0 0 = 0 ∧ idle.cqTail 0 0 = 0 ∧ (fld (0 : W32) 0 16 + 16 - 0) % 16 ≤ (0 + 16 - 0) % 16
      ∧ (0 + 16 - 0) % 16 < (fld (1 : W32) 0 16 + 16 - 0) % 16)
    ∧ ((run.setReg (Reg.queueSqCfg 0 0) (qcfg false 4)).regFld (Reg.queueSqCfg 0 0) 16 5 = 4
      ∧ (run.setReg (Reg.queueSqCfg 0 0) (qcfg false 16)).regFld (Reg.queueSqCfg 0 0) 16 5 = 16
      ∧ (run.setReg (Reg.queueSqCfg 0 0) (qcfg false 16)).qOn 0 0 = false
      ∧ (run.setReg (Reg.queueSqCfg 0 0) (qcfg false 3)).regFld (Reg.queueSqCfg 0 0) 16 5 < 4
      ∧ 16 < (run.setReg (Reg.queueSqCfg 0 0) (qcfg false 17)).regFld (Reg.queueSqCfg 0 0) 16 5) := by decide +kernel

/-- Device 0 with a job, core 0 as given. -/
def jobIs (j : Job) (k : Core) : State := withCore (queue { run with vds := [(0, { dev with running := some j })] }) k

/-- A core that has ended and whose stores are complete. -/
def kend : Core := { Core.rest with seq := .ended, drain := some ⟨[], []⟩ }

theorem witness_JobsAreTakenStartedAndEnded :
    (idle.mayTake 0 = true ∧ idle.nextQueue 0 = some 0 ∧ (idle.vd 0).desc.sharedSet = 0 ∧ idle.preemptedHead 0 0 = false
      ∧ run.mayTake 0 = false)
    ∧ ((jobIs { job with phase := .taken, started := false } Core.rest).liveJob 0 = some { job with phase := .taken, started := false }
      ∧ (jobIs { job with phase := .taken } Core.rest).liveJob 0 = some { job with phase := .taken }
      ∧ (jobIs { job with phase := .taken } Core.rest).epochDue 0 { job with phase := .taken } = true
      ∧ (jobIs { job with phase := .taken, started := false } Core.rest).epochDue 0 { job with phase := .taken, started := false } = true
      ∧ (jobIs { job with phase := .taken, epoch := 1 } Core.rest).epochDue 0 { job with phase := .taken, epoch := 1 } = false)
    ∧ ((jobIs job kend).cancelling 0 = false ∧ (jobIs job kend).coresStopped 0 = true ∧ ((jobIs job kend).vd 0).st ≠ .contained)
    ∧ (((jobIs job kend).vd 0).running = some job ∧ job.ended = none ∧ job.phase = .running ∧ (jobIs job kend).streamsDone 0 = true
      ∧ ((jobIs job kend).coresOf 0).all (fun c => decide (((jobIs job kend).core c).seq = .ended)) = true
      ∧ (jobIs job kend).coresOver 0 (if job.cur.windowOut then 3 else 2) = true
      ∧ (jobIs job { kend with drain := none }).coresOver 0 (if job.cur.windowOut then 3 else 2) = false)
    ∧ (({ job with ended := some ⟨2, 5, 0⟩ } : Job).ended = some ⟨2, 5, 0⟩
      ∧ (jobIs { job with ended := some ⟨2, 5, 0⟩ } kend).coresOver 0 (if job.cur.windowOut then 3 else 2) = true)
    ∧ ((jobIs { job with desc := { jdesc with limit := 1 }, runTicks := 1001 } kend).liveJob 0 = some { job with desc := { jdesc with limit := 1 }, runTicks := 1001 }
      ∧ (1 : Nat) * 1000 < 1001 ∧ (jobIs job kend).liveJob 0 = some job ∧ job.runTicks ≤ job.desc.limit * 1000) := by decide +kernel

/-- A core waiting at checkpoint 1, and jobs at it. -/
def kck : Core := { kend with seq := .ckpt 1 }
def jlimit : Job := { job with desc := { jdesc with limit := 1 }, runTicks := 1001 }
def jdead : Job := { job with desc := { jdesc with deadlineEn := true, deadline := 1, costAddr := 0x2000 }, fallback := some jdesc, runTicks := 1000 }

theorem witness_CheckpointsAndPreemptionComplete_checkpoints :
    (∀ j ∈ [job, jlimit, jdead], (jobIs j kck).liveJob 0 = some j ∧ (jobIs j kck).coresOf 0 = [0] ∧ j.phase = .running)
    ∧ (kck.ckptAt = some 1 ∧ jlimit.overLimit = true ∧ job.overLimit = false ∧ job.desc.deadlineEn = false ∧ jdead.overLimit = false
      ∧ jdead.desc.deadlineEn = true ∧ jdead.fellBack = false ∧ 1 ≤ jdead.desc.nckpt ∧ jdead.fallback.isSome = true)
    ∧ ((jobIs job kck).ckptWanted 0 = false
      ∧ ({ jobIs job kck with vds := [(0, { dev with running := some job, preemptReq := true })] } : State).ckptWanted 0 = true)
    ∧ projectsLate ((({ jobIs jdead kck with time := 1000 } : State).time.toNat : Int) - 0) 1000
        (({ jobIs jdead kck with time := 1000 } : State).devLE 0 0x2000 4 : Nat) (({ jobIs jdead kck with time := 1000 } : State).devLE 0 (0x2000 + 4 * 1) 4 : Nat)
        1 0 = true := by decide +kernel
/-- A checkpoint that is not clean, one that a rebind takes, one that a preemption takes; a save that ends and one that starts its
drains; a job that resumes, and one whose save area has moved. -/
theorem witness_CheckpointsAndPreemptionComplete_saves :
    ((jobIs { job with phase := .ckpt } kck).liveJob 0 = some { job with phase := .ckpt }
      ∧ (jobIs { job with phase := .ckpt } kck).cleanAt 0 { job with phase := .ckpt } = true
      ∧ (stream (eng 0 [st0 sd])).cleanAt 0 { job with phase := .ckpt } = false)
    ∧ ((jobIs { job with phase := .ckpt } kck).onBoundary = true ∧ (jobIs { job with phase := .ckpt } kck).frame ≤ job.stopped
      ∧ job.stopped < State.frame { jobIs { job with phase := .ckpt } kck with time := 128 }
      ∧ State.onBoundary { jobIs { job with phase := .ckpt } kck with time := 128 } = true)
    ∧ ((binding (jobIs { job with phase := .ckpt } kck) .quiescing).binder.running = some (bop .quiescing)
      ∧ (bop .quiescing).vd = 0 ∧ (bop .quiescing).isMove = true)
    ∧ (((jobIs { job with phase := .saving } kend).liveJob 0 = some { job with phase := .saving })
      ∧ (jobIs { job with phase := .saving } kend).coresOver 0 2 = true
      ∧ (jobIs { job with phase := .saving } { kend with drain := none }).coresOver 0 2 = false)
    ∧ (∀ base ∈ [0x3000, 0x4000],
      ({ idle with vds := [(0, { devq with preempted := [{ job with phase := .preempted, saveBase := base }] })] } : State).mayTake 0 = true
      ∧ ({ idle with vds := [(0, { devq with preempted := [{ job with phase := .preempted, saveBase := base }] })] } : State).nextQueue 0 = some 0
      ∧ (({ idle with vds := [(0, { devq with preempted := [{ job with phase := .preempted, saveBase := base }] })] } : State).vd 0).preemptedIn 0
        = some { job with phase := .preempted, saveBase := base })
    ∧ (idle.saveAt 0 0 = 0x3000 ∧ idle.saveAt 0 0 ≠ 0x4000
      ∧ idle.saveOk 0 job.regions 0x3000 ((idle.coresOf 0).length * ctxSize) = true) := by decide +kernel

theorem witness_CheckpointsAndPreemptionComplete_savingTime :
    (jobIs { job with phase := .saving } kend).frame < job.saved + (jobIs { job with phase := .saving } kend).saveFrames 0 job.saveBase true
    ∧ job.saved + (jobIs { job with phase := .saving } kend).saveFrames 0 job.saveBase true
      ≤ State.frame { jobIs { job with phase := .saving } kend with time := 12800000 } := by decide +kernel
theorem witness_CheckpointsAndPreemptionComplete_savingLines :
    ((jobIs { job with phase := .saving } kend).saveLines 0 job.saveBase).any ((jobIs { job with phase := .saving } kend).lineBusy 0) = false := by
  decide +kernel
theorem witness_CheckpointsAndPreemptionComplete_restoring :
    (jobIs { job with phase := .restoring } kend).liveJob 0 = some { job with phase := .restoring }
    ∧ job.saved + (jobIs { job with phase := .restoring } kend).saveFrames 0 job.saveBase false
      ≤ State.frame { jobIs { job with phase := .restoring } kend with time := 12800000 }
    ∧ State.onBoundary { jobIs { job with phase := .restoring } kend with time := 12800000 } = true := by decide +kernel

/-- Set 1 of core 0 with device 0 next. -/
def shared (sw : Option Nat) (k : Core) : State :=
  { withCore idle k with
    vds := [(0, { devq with desc := { desc with sharedSet := 1 } })]
    sets := [(1, ⟨true, 0xE4, 1, [0], sw, some 0, 255, 0⟩)] }

theorem witness_SharesFencesAndAccountsComplete :
    (((shared none Core.rest).set_ 1).valid = true ∧ (shared none Core.rest).setHeld 1 = false
      ∧ ((shared none Core.rest).set_ 1).next = some 0 ∧ ((shared none Core.rest).setReady 1).contains 0 = true
      ∧ ((shared none Core.rest).set_ 1).switched ≠ some 0
      ∧ (shared none Core.rest).switching 1 = false
      ∧ ({ shared none Core.rest with fab := { on.fab with pending := [(0, .switch 1 0)] } } : State).switching 1 = true)
    ∧ (((shared none kend).core 0).drain = some ⟨[], []⟩ ∧ (shared none kend).drainOver 0 ⟨[], []⟩ 2 = true)
    ∧ ((({ idle with vds := [(0, { dev with fence := some ⟨0, 0, 0, false, []⟩ })] } : State).vd 0).fence = some ⟨0, 0, 0, false, []⟩
      ∧ idle.windowsDone 0 = true ∧ (idle.hostAccepted 0).any (fun id => ([] : List Nat).contains id) = false
      ∧ ({ idle with dies := [(0, dcache [] [] [{ ment with window := true }])] } : State).windowsDone 0 = false)
    ∧ (run.time.toNat % 1000 = 0 ∧ run.vds = [(0, { dev with running := some job })] ∧ dev.desc.sharedSet = 0
      ∧ ({ run with time := 1 } : State).time.toNat % 1000 ≠ 0)
    ∧ (run.vfHere 0 = true ∧ run.pfServed Reg.schedAcctSnap = true ∧ run.pfServed Reg.schedPreempt = true
      ∧ ((jobIs job kend).vd 0).running = some job ∧ job.ended = none
      ∧ ((jobIs job kend).setRegFld Reg.schedPreempt 0 8 0).hasSave 0 0 = true) := by decide +kernel
/-! The host port -/

/-- Device 0 with a window of extent 0. -/
def windowed : State := { run with vds := [(0, { dev with desc := { cdesc with winCount := 1 } })] }
def hrq (read : Bool) : HostReq := ⟨0, read, 0x40, some 0, 0, some (List.replicate 64 0)⟩

theorem witness_WindowAccessesAreAnswered :
    (windowed.linkUp = true ∧ windowed.windowHit 0x3FFFFFC0 = some (0, 0x3FFFFFC0) ∧ (1 : W64) ≠ 0
      ∧ windowed.homeSlice 0 (lineOf (0x3FFFFFC0 / 64 * 64)) = some 0)
    ∧ (on.canonical = true ∧ on.linkUp = true ∧ on.windowHit 0x40000000 = none ∧ on.regBit (Reg.hostportMissAddr + 4) 31 = false
      ∧ (on.setRegBit (Reg.hostportMissAddr + 4) 31 true).regBit (Reg.hostportMissAddr + 4) 31 = true) := by decide +kernel
theorem witness_HostMessagesAndResponsesComplete :
    (on.linkUp = true ∧ [hrq true][0]? = some (hrq true) ∧ (hrq true).resp = some (List.replicate 64 0)
      ∧ ({ on with time := 150 } : State).time.toNat = (hrq true).arrived + 150 ∧ 150 ≤ (if (hrq true).read then 150 else 100)
      ∧ ({ on with time := 100 } : State).time.toNat = (hrq false).arrived + 100 ∧ 100 ≤ (if (hrq false).read then 150 else 100))
    ∧ (on.canonical = true ∧ (if (hrq true).read then 150 else 100) < 151 ∧ ({ on with time := 151 } : State).time.toNat = (hrq true).arrived + 151
      ∧ (if (hrq false).read then 150 else 100) < 101 ∧ ({ on with time := 101 } : State).time.toNat = (hrq false).arrived + 101
      ∧ on.err.waiting.length < 256 ∧ on.regBit Reg.hostportCtrl 0 = false) := by decide +kernel
theorem witness_HostConfigurationAndFunctionResets :
    ((State.reset.host.committed = false ∧ on.host.committed = true ∧ on.pfServed Reg.hostportCtrl = true
        ∧ on.pfServed Reg.hostportMissAddr = true ∧ on.clock.powered = true ∧ 4 ≤ on.clock.step ∧ on.clock.mode = .full
        ∧ on.monitors = true ∧ on.clock.phys = some env ∧ on.clock.begun = true ∧ on.host.crs = false)
      ∧ (1 ≠ 2 ∨ 640 < 640) ∧ (1 ≠ 1 ∨ 640 < 641) ∧ 640 ≤ 640)
    ∧ (on.canonical = true ∧ (15 < 16 ∨ 64 < 64) ∧ (16 < 16 ∨ 63 < 64) ∧ on.err.waiting.length < 256)
    ∧ (run.host.vfEnable = true ∧ (run.vd 0).st ≠ .absent ∧ run.vfReached 0 = true
      ∧ ({ run with host := { run.host with nextBus := false } } : State).vfReached 255 = false
      ∧ ({ run with host := { run.host with nextBus := true } } : State).vfReached 255 = true) := by decide +kernel
/-! The network port -/

/-- The port up, device 0 with an IPv4 address and one NORMAL region. -/
def netOn (s : State) : State :=
  { (((s.setReg64 (Reg.netportIp 0) 0xFFFF0A000001).setReg64 (Reg.regionLimit 0 0) 0x3FFFF000).setReg (Reg.regionAttr 0 0) 0x80000000) with net := { s.net with up := true, training := true } }

/-- A context that allows everything below 2^30 under key 7, and a pair armed with it. -/
def ctx : QpCtx := { Qp.rest.ctx with peerIp := 0xFFFF0A000002, permW := true, permR := true, permRed := true, rkey := 7, udpSrc0 := 1, log2n := 4, raLimit := 0x3FFFFFFF }
def qpa : Qp := { Qp.rest with st := .armed, ctx := ctx }
def paired (r : Qp) : State := let s := netOn run; { s with net := { s.net with qps := [(0, r)] } }
def pk (len : Nat) : Packet := { pkt with length := len, aux := len, payload := List.replicate len 1 }

theorem forPair_of {s : State} {p : Packet} {q : Nat}
    (h : (s.net.up && p.wellFormed && decide (s.netIp p.vd.val ≠ 0) && decide (s.ctlPair p = some q)) = true) : s.forPair p q := by
  simp only [Bool.and_eq_true, decide_eq_true_eq] at h; exact ⟨h.1.1.1, h.1.1.2, h.1.2, h.2⟩

theorem accepts_of {s : State} {op : Nat} {p : Packet} {q : Nat} (hf : s.forPair p q)
    (h : (decide ((s.vd p.vd.val).st ≠ .contained) && !(s.qp p.vd.val q).seen p.psn && decide (psnSub p.psn (s.qp p.vd.val q).epsn ≤ 1023)
      && !s.accessBad p.vd.val q op p && s.stageRoom p.prio.val p.length) = true) : s.accepts op p q := by
  simp only [Bool.and_eq_true, decide_eq_true_eq, Bool.not_eq_true'] at h
  exact ⟨hf, h.1.1.1.1, h.1.1.1.2, h.1.1.2, h.1.2, h.2⟩

theorem witness_PortFramesAndSegmentsComplete_frames :
    ((netOn run).net.up = true ∧ (netOn run).netIp 0 ≠ 0 ∧ isV4 ((netOn run).netIp 0) = true)
    ∧ ((run.setReg64 (Reg.netportIp 0) 1).netIp 0 ≠ 0 ∧ isV4 ((run.setReg64 (Reg.netportIp 0) 1).netIp 0) = false)
    ∧ (bitOf ((run.setReg Reg.netportPfc 1).regFld Reg.netportPfc 0 8) 0 = true ∧ bitOf ((run.setReg Reg.netportPfc 1).regFld Reg.netportPfc 0 8) 1 = false)
    ∧ ((0 : Fin 8).val ∈ ({ run.net with paused := [0] } : NetSt).paused)
    ∧ ((run.setReg Reg.netportCtrl 0).canonical = true ∧ (run.setReg Reg.netportCtrl 0).pfServed Reg.netportCtrl = true
      ∧ (run.setReg Reg.netportCtrl 0).regBit Reg.netportCtrl 31 = false
      ∧ fld (0x80000000 : W32) 31 1 = 1 ∧ (0x80000000 : W32).toNat &&& resvBits Reg.netportCtrl = 0)
    ∧ (({ run with net := { run.net with training := true } } : State).canonical = true ∧ run.net.up = false) := by decide +kernel
theorem witness_PortFramesAndSegmentsComplete_segments :
    (∀ len ∈ [0, 64], (paired qpa).accepts 0 (pk len) 0 ∧ (paired qpa).accepts 1 (pk len) 0 ∧ (paired qpa).accepts 2 (pk len) 0)
    ∧ ((∀ len ∈ [0, 64], (paired { qpa with reads := [⟨0, [5], 0x1000, 0, 64, [(0, 64)], false⟩] }).forPair (pk len) 0
        ∧ ({ qpa with reads := [⟨0, [5], 0x1000, 0, 64, [(0, 64)], false⟩] } : Qp).readOf (pk len) = some ⟨0, [5], 0x1000, 0, 64, [(0, 64)], false⟩)
      ∧ qpa.readOf pkt = none)
    ∧ ((({ run with vds := [(0, { dev with st := .contained })] } : State).vd 0).st = .contained
      ∧ ({ qpa with epsn := 6 } : Qp).seen 5 = true ∧ qpa.seen 1023 = false ∧ psnSub 1023 qpa.epsn ≤ 1023 ∧ qpa.seen 1024 = false
      ∧ 1023 < psnSub 1024 qpa.epsn ∧ (paired { qpa with ctx := { ctx with rkey := 8 } }).accessBad 0 0 0 pkt = true
      ∧ ({ pkt with wellFormed := false } : Packet).wellFormed = false) := by
  refine ⟨?_, ⟨?_, by decide +kernel⟩, by decide +kernel⟩ <;>
  · intro len hl
    simp only [List.mem_cons, List.not_mem_nil, or_false] at hl
    rcases hl with rfl | rfl <;>
    first
    | exact ⟨accepts_of (forPair_of (by decide +kernel)) (by decide +kernel), accepts_of (forPair_of (by decide +kernel)) (by decide +kernel),
        accepts_of (forPair_of (by decide +kernel)) (by decide +kernel)⟩
    | exact ⟨forPair_of (by decide +kernel), by decide +kernel⟩

/-- A staged segment of two parts, one sent and answered. -/
def seg : Staged := ⟨3, 0, 0, pk 64, 0x1000, false, false, 2, 1, 0, 0, 0⟩
def nakTx : TxFrame := .ctl 0 5 1 5 2 0

theorem witness_DeliveryAndAcknowledgementComplete :
    ([seg][0]? = some seg ∧ run.deliveryPaused 0 = false ∧ (binding made .moving).deliveryPaused 0 = true
      ∧ run.nacked.find? (fun o => decide (o.src = .net 3)) = none ∧ seg.sent < seg.parts
      ∧ ([seg].take 0).any (fun y => decide (y.vd = seg.vd) && decide (y.q = seg.q) && decide (y.sent < y.parts)) = false
      ∧ seg.reduce = false ∧ ({ seg with reduce := true } : Staged).reduce = true)
    ∧ [{ hop .add .int32 5 with src := .net 3 }].find? (fun o => decide (o.src = .net 3)) = some { hop .add .int32 5 with src := .net 3 }
    ∧ ([(3, false), (3, true)][0]? = some (seg.id, false) ∧ [(3, false), (3, true)][1]? = some (seg.id, true)
      ∧ [seg].find? (fun y => decide (y.id = seg.id)) = some seg ∧ ({ seg with acked := seg.acked + 1 } : Staged).acked < seg.parts
      ∧ seg.notices < ({ seg with early := 1 } : Staged).early
      ∧ ({ seg with acked := 1 + 1 } : Staged).parts ≤ ({ seg with acked := 1 + 1 } : Staged).acked ∧ seg.early ≤ seg.notices
      ∧ seg.resp = false ∧ ({ seg with resp := true } : Staged).resp = true)
    ∧ (run.net.naks.find? (fun y => decide (y.1 = 0) && decide (y.2.1 = 0)) = none ∧ ({ qpa with ackPending := true } : Qp).ackPending = true
      ∧ 200 ≤ 200 ∧ 200 < 201)
    ∧ (∀ code ∈ [1, 5], ([(0, 0, .ctl 0 5 1 5 code 0)] : List (Nat × Nat × TxFrame)).find? (fun y => decide (y.1 = 0) && decide (y.2.1 = 0))
      = some (0, 0, .ctl 0 5 1 5 code 0)) := by decide +kernel

/-- A pair with a segment to send again. -/
def oseg : OutSeg := ⟨5, 0, pk 64, false, true, 0⟩

theorem witness_PairsSendAndFollowTheirPeers_send :
    ((netOn run).net.up = true ∧ (netOn run).clock.offReady = false)
    ∧ ([nakTx].find? (netOn run).ctlFree = some nakTx ∧ (paired { qpa with segs := [oseg] }).net.tx.find? (netOn run).ctlFree = none)
    ∧ (((netOn run).vd 0).desc.netWeight ≠ 0 ∧ (SMap.get (fun _ => 0) run.net.turn 0 + 1 + 63) % 64 = 0)
    ∧ (∀ j, j < 63 → (paired { qpa with segs := [oseg] }).trySend 0 ((SMap.get (fun _ => 0) run.net.turn 0 + 1 + j) % 64) = none)
    ∧ ((paired { qpa with segs := [oseg] }).trySend 0 0).isSome = true
    ∧ (∀ q, q < 64 → (paired Qp.rest).trySend 0 q = none) := by decide +kernel
/-- The pair's frame is the next of the port, now and with a deficit that covers it. -/
theorem witness_PairsSendAndFollowTheirPeers_turn :
    ((paired { qpa with segs := [oseg] }).drrNext.map (fun x => x.1) = some 0
      ∧ ((paired { qpa with segs := [oseg] }).nextSend 0).map (fun x => x.1) = some 0
      ∧ (paired { qpa with segs := [oseg] }).net.lineFree < (paired { qpa with segs := [oseg] }).lineNow + 2000)
    ∧ (paired { qpa with segs := [oseg] }).net.rrVd = 0
    ∧ (((paired { qpa with segs := [oseg] }).nextSend 0).any (fun x => decide (x.2.1 ≤ 4202))) = true
    ∧ ((paired { qpa with segs := [oseg] }).trySend 0 0).any (fun t => decide (t.net.sent = [.data 0 0 oseg.op { oseg.pkt with retx := true }]))
        = true := by decide +kernel
theorem witness_PairsSendAndFollowTheirPeers_peers :
    (∀ code ∈ [1, 2, 3, 4, 5], (paired { qpa with segs := [oseg] }).forPair { pkt with ackPsn := 5, nakCode := code } 0
      ∧ ({ qpa with segs := [oseg] } : Qp).segs.find? (fun y => decide (y.psn = 5)) = some oseg)
    ∧ ((paired { qpa with lastCut := 0 }).time.toNat < 0 + 1000 ∧ 0 + 1000 ≤ ({ paired qpa with time := 1000 } : State).time.toNat
      ∧ ((paired qpa).qp 0 0).st = .armed ∧ 0 + 2000 ≤ ({ paired qpa with time := 2000 } : State).time.toNat)
    ∧ ((paired { qpa with segs := [oseg], expiries := 6 }).timerRuns 0 0 = true ∧ (paired { qpa with segs := [oseg], expiries := 7 }).timerRuns 0 0 = true
      ∧ (∀ at' ∈ ({ qpa with timer := some 5 } : Qp).timer, at' ≤ ({ paired qpa with time := 5 } : State).time.toNat)
      ∧ qpa.path = 0 ∧ ({ ctx with udpSrc1 := 1 } : QpCtx).udpSrc1 ≠ 0 ∧ ctx.udpSrc1 = 0)
    ∧ ((paired qpa).clock.downBusy = false ∧ (paired qpa).clock.offReady = false
      ∧ ((paired qpa).setReg (Reg.transportQpSqTail 0 0) 1).qpSqHead 0 0 ≠ ((paired qpa).setReg (Reg.transportQpSqTail 0 0) 1).qpSqTail 0 0
      ∧ qpa.wrs.any (fun w => !w.allCut) = false ∧ qpa.wrs.length < (paired qpa).cqRoom 0 0
      ∧ ((paired qpa).vd 0).st ≠ .contained) := by
  refine ⟨?_, by decide +kernel⟩
  intro code hc
  simp only [List.mem_cons, List.not_mem_nil, or_false] at hc
  rcases hc with rfl | rfl | rfl | rfl | rfl <;> exact ⟨forPair_of (by decide +kernel), by decide +kernel⟩

/-- The bytes of a context of 16 entries with a UDP source port and an IPv4 peer, at 0x8000. -/
def ctxBytes : List Byte := leBytes 128 (2 ^ 514 + 2 ^ 96 + 0xFFFF * 2 ^ 160)
def arming : State := (withSlice (netOn run) (slc { ln with data := wrL [] 0 ctxBytes } [])).setReg64 (Reg.transportQpCtx 0 0) 0x8000

theorem witness_PairsArmPostAndReset :
    (run.pairHere 0 0 = true ∧ arming.pairHere 0 0 = true ∧ arming.canonical = true ∧ arming.reg64 (Reg.transportQpCtx 0 0) % 2 ^ 48 / 128 * 128 = 0x8000
      ∧ (arming.qp 0 0).st = .reset ∧ arming.ownsAddr 0 0x8000 = true ∧ arming.armRefused 0 (arming.devRead 0 0x8000 128) = false)
    ∧ (((paired qpa).qp 0 0).st ≠ .reset ∧ (paired qpa).postRefused 0 0 (fld (16 : W32) 0 16) = true
      ∧ (paired qpa).postRefused 0 0 (fld (15 : W32) 0 16) = false ∧ (15 : W32).toNat < 2 ^ 16 ∧ qpa.size = 16)
    ∧ ((0 : W32).toNat < 16 ∧ (0 + 16 - (paired qpa).qpCqHead 0 0) % 16 ≤ ((paired qpa).qpCqTail 0 0 + 16 - (paired qpa).qpCqHead 0 0) % 16
      ∧ (paired qpa).regFld (Reg.transportQpRcqHead 0 0) 0 16 = 0 ∧ (paired qpa).regFld (Reg.transportQpRcqTail 0 0) 0 16 = 0) := by
  decide +kernel
/-! Power -/

/-- Compute die 0 with a budget. -/
def die (b : DieBudget) : State := { run with power := { run.power with dies := [(0, b)] } }
def grantMsg (f : Bool) : GrantMsg := ⟨800, f, 50, 1⟩
def bud : DieBudget := { DieBudget.rest with msgs := [grantMsg false], dieGrant := some 800, eta := 50, missed := 3, sent := some 900 }

theorem witness_GrantsStayWithinThePool :
    (run.clocksOn = true ∧ ((die bud).pdie 0).msgs = grantMsg false :: [] ∧ (grantMsg false).floor = false ∧ (grantMsg true).floor = true
      ∧ msgCrc (run.reportBody 0 ⟨80, 90, ⟨0, 1⟩⟩ ^^^ 0) ≠ msgCrc (run.reportBody 0 ⟨80, 90, ⟨0, 1⟩⟩) ^^^ 1
      ∧ msgCrc ((grantMsg false).body 0 ^^^ 0) ≠ msgCrc ((grantMsg false).body 0) ^^^ 1
      ∧ (die bud).clocksOn = true ∧ 3 ≤ ((die bud).pdie 0).missed)
    ∧ (run.setRegFld Reg.powerFloor 16 12 4095).budgetPool ≤ (12 * (run.setRegFld Reg.powerFloor 16 12 4095).floorGrant : Nat)
    ∧ (12 * (run.setRegFld Reg.powerFloor 16 12 100).floorGrant : Nat) < (run.setRegFld Reg.powerFloor 16 12 100).budgetPool := by decide +kernel
theorem witness_RaisedGrantsWaitForLoweredOnes :
    (die bud).clocksOn = true ∧ ((die bud).pdie 0).sent = some 900 := by decide +kernel
theorem witness_BudgetTermFollowsTheGrant :
    (1 ≤ 1 ∧ 64 ≤ 64) ∧ 799 < 800 ∧ 1 < 64 ∧ (1 ≤ 64 ∧ 1 ≤ 64 - 64 / 64) ∧ (64 ≤ 64 ∧ 64 - 64 / 64 < 64) := by decide +kernel
theorem witness_SluiceSettingIsTheLeastTerm :
    ((die bud).clocksOn = true ∧ 105 ≤ 105 ∧ ((die bud).pdie 0).hot = false ∧ ((die bud).pdie 0).dieGrant = some 800 ∧ ((die bud).pdie 0).eta ≠ 0)
    ∧ (1 ≤ bud.nb ∧ 1 ≤ bud.nt ∧ bud.nb ≤ 64 ∧ bud.dieFloor = false ∧ bud.droop = false
      ∧ ({ bud with dieFloor := true } : DieBudget).dieFloor = true ∧ ({ bud with droop := true } : DieBudget).droop = true) := by decide +kernel
theorem witness_PowerEventsComplete_dies :
    (run.clocksOn = true ∧ (run.pdie 0).stretched = false ∧ ((die { bud with stretched := true }).pdie 0).stretched = true)
    ∧ ((die { bud with nb := 1 }).clocksOn = true
      ∧ (∀ d, d < 12 → (die { bud with nb := 1 }).cdInService d = true → ((die { bud with nb := 1 }).pdie d).nb = 1)
      ∧ (0 : Nat) + 100000 ≤ ({ run with time := 100000 } : State).time.toNat
      ∧ ({ run.power with capOver := some (0, false) } : PowerSt).capOver = some (0, false)
      ∧ run.power.trimAt + 360000000000 ≤ ({ run with time := 360000000000 } : State).time.toNat
      ∧ run.capWatts * 8 < (run.setRegFld Reg.powerInput 0 16 65535).regFld Reg.powerInput 0 16)
    ∧ (run.canonical = true ∧ run.portServes = true ∧ run.power.floor = false ∧ ({ run.power with floor := true } : PowerSt).floor = true) := by
  decide +kernel
theorem witness_PowerEventsComplete_supply :
    (on.monitors = true ∧ ({ on with host := HostSt.rest } : State).host.vfEnable = false)
    ∧ (on.power.supplyWarn = false ∧ 419 < on.warnLevel ∧ ({ on.power with supplyWarn := true } : PowerSt).supplyWarn = true ∧ on.warnLevel + 10 ≤ 470)
    ∧ (({ on.side with vrefGood := true } : SideSt).vrefGood = true ∧ on.power.throttle = false ∧ on.clock.mode ≠ .recovery
      ∧ ({ on.power with throttle := true } : PowerSt).throttle = true
      ∧ (0 : Nat) + 5000 ≤ ({ on with time := 5000 } : State).time.toNat ∧ 0 + 100000000 ≤ ({ on with time := 100000000 } : State).time.toNat)
    ∧ (399 < 400 ∧ on.power.supplyReset = false ∧ 115 ≤ 115) := by decide +kernel

/-! Clocks, resets and start-up -/

theorem witness_PowerOnAndStartRunInOrder :
    (State.reset.clock.powered = false ∧ ({ env with lastStep := 0 } : StartEnv).lastStep = 0 ∧ on.clock.powered = true
      ∧ flashNow on.peat.ops = none)
    ∧ ((at_ .full 10).clock.mode ≠ .starting ∧ (at_ .starting 5).clock.step + 1 ≠ 7
      ∧ ({ (at_ .starting 2).clock with held := true } : ClockSt).held = true
      ∧ (at_ .starting 9).clock.mode = .starting ∧ (at_ .starting 9).clock.step = 9 ∧ (at_ .starting 0).clock.step = 0
      ∧ (at_ .starting 3).clock.step = 3 ∧ ({ env with selfTestOk := false } : StartEnv).selfTestOk = false
      ∧ ({ env with pllOk := false } : StartEnv).pllOk = false) := by decide +kernel
theorem witness_ResetsDiscardEverythingVolatile :
    (on.monitors = true ∧ on.clock.held = false ∧ on.clock.mode ≠ .recovery ∧ ({ on.clock with held := true } : ClockSt).held = true
      ∧ on.linkUp = true ∧ on.clock.linkReset = false ∧ ({ on.clock with linkReset := true } : ClockSt).linkReset = true
      ∧ ({ on.power with supplyReset := true } : PowerSt).supplyReset = true ∧ on.portServes = true ∧ 2 ≤ on.clock.step
      ∧ on.clock.begun = true ∧ on.clock.phys = some env ∧ 10 ≤ 10) ∧ 7 < 8 := by decide +kernel
theorem witness_PowerDownDrainsThenGates :
    on.portServes = true ∧ on.clock.downBusy = false ∧ on.clock.offReady = false ∧ ({ on.clock with downBusy := true } : ClockSt).downBusy = true
    ∧ on.downDrained = true ∧ on.monitors = true ∧ ({ on with dies := [(0, dcache [] [] [ment])] } : State).downDrained = false := by decide +kernel
/-! Errors -/

theorem witness_FatalErrorsEndInAStewardReset :
    on.monitors = true ∧ on.clock.mode ≠ .recovery ∧ (at_ .starting 3).clock.step < 4 ∧ 4 ≤ (at_ .starting 4).clock.step ∧ on.canonical = true
    ∧ (on.setReg Reg.errorStickyStatus 0x80000000).regBit Reg.errorStickyStatus 31 = true := by decide +kernel

def contained : State := { run with vds := [(0, { dev with st := .contained })] }
def releasing : State := { contained with err := { contained.err with release := some ⟨0, []⟩ } }

theorem witness_DetectedErrorsActByStructure :
    (run.clocksOn = true ∧ onBond 0 (.tileStore 0) = true
      ∧ ((withSlice run (slc ln [])).loseSector 0 8 0 (fun y => decide (y ≠ .i))).isSome = true
      ∧ (({ run with dies := [(0, dcache [] [] [ment])] } : State).die 0).merge[0]? = some ment
      ∧ (run.chan 0).fault 5 ≠ .uncorrectable ∧ ({ Channel.rest with faults := [(5, .uncorrectable)] } : Channel).fault 5 = .uncorrectable)
    ∧ (run.canonical = true ∧ run.portServes = true ∧ (run.vd 0).st ≠ .contained ∧ run.err.release = none
      ∧ contained.canonical = true ∧ contained.portServes = true ∧ (contained.vd 0).st = .contained ∧ contained.suspectsOf 0 = []
      ∧ releasing.err.release = some ⟨0, []⟩
      ∧ (0 : W32).toNat < 128 ∧ ((0 : W32).toNat + 128 - run.qHead 0) % 128 ≤ (run.qTail 0 + 128 - run.qHead 0) % 128
      ∧ (run.qTail 0 + 128 - run.qHead 0) % 128 < (fld (1 : W32) 0 7 + 128 - run.qHead 0) % 128) := by decide +kernel
theorem witness_ContainmentFencesItsDevice :
    (run.vd 0).st = .active ∧ run.err.waiting.length < 256 ∧ (run.extent 0).st = .owned := by decide +kernel

def erec : ErrRec := ErrRec.mk0 0 5 1 3
/-- Corrected records in queue 0, the newest like `erec`. -/
def recorded (tail : W32) : State :=
  ((run.setReg (Reg.errorQTail 0) tail).setReg (qRec 0 0) 0x501).setReg (qRec 0 0 + 4) 0x30001

theorem witness_RecordsGoToTheQueueOfTheirSeverity :
    (run.canonical = true ∧ erec.sev < 3 ∧ ({ run with err := { run.err with waiting := [erec] } } : State).nextRecord = some erec ∧ erec.cls ≠ 1
      ∧ run.err.handling = [] ∧ run.nextRecord = none
      ∧ ({ run with err := { run.err with waiting := [{ erec with sev := 2 }], handling := [(erec, 1)] } } : State).nextRecord
        = some { erec with sev := 2 } ∧ erec.sev < 2 ∧ erec.vd = none ∧ ({ erec with vd := some 3 } : ErrRec).vd = some 3
      ∧ (ErrRec.mk0 1 1 1 3).cls = 1 ∧ (ErrRec.mk0 1 5 1 3).sev ≠ 0)
    ∧ ((recorded 1).canonical = true ∧ (recorded 1).mergeInto erec = some 0)
    ∧ (run.mergeInto erec = none ∧ (run.qTail 0 + 128 - run.qHead 0) % 128 ≠ 64)
    ∧ ((recorded 64).canonical = true ∧ (recorded 64).mergeInto erec = none
      ∧ ((recorded 64).qTail 0 + 128 - (recorded 64).qHead 0) % 128 = 64) := by decide +kernel

/-! The peat store, the firmware, the sideband -/

/-- A record that asks for no change of any field, a calibration set of zeros, an image in the buffer of CALIB_CMD. -/
def conf : List Byte :=
  let b := leBytes 508 (0x4B434647 + (512 * 65536 + 1) * 2 ^ 32)
  b ++ leBytes 4 0x4a8830ec
def calib : List Byte := leBytes 8 (0x4B43414C + (2048 * 65536 + 1) * 2 ^ 32) ++ List.replicate 1972 0 ++ leBytes 4 0x2e323c94 ++ List.replicate 64 0

/-- The CRC with its value at hand after every byte. -/
def crcGo : List Byte → Nat → Nat
  | [], c => c
  | b :: l, 0 => crcGo l (crcBit (crcBit (crcBit (crcBit (crcBit (crcBit (crcBit (crcBit (0 ^^^ b.toNat)))))))))
  | b :: l, c + 1 => crcGo l (crcBit (crcBit (crcBit (crcBit (crcBit (crcBit (crcBit (crcBit ((c + 1) ^^^ b.toNat)))))))))

theorem crcGo_eq (l : List Byte) : ∀ c, l.foldl (fun c b =>
    let c0 := c ^^^ b.toNat
    crcBit (crcBit (crcBit (crcBit (crcBit (crcBit (crcBit (crcBit c0)))))))) c = crcGo l c := by
  induction l with
  | nil => exact fun c => by cases c <;> rfl
  | cons b l ih => intro c; cases c <;> exact ih _

theorem crc32c_eq (bs : List Byte) : crc32c bs = crcGo bs 0xFFFFFFFF ^^^ 0xFFFFFFFF := by
  unfold crc32c; rw [crcGo_eq]

/-- The check value of CRC-32C, that of the ASCII digits 1 to 9. -/
theorem test_crc32c_check : crc32c ((List.range 9).map (fun i => BitVec.ofNat 8 (0x31 + i))) = 0xE3069283 := by
  rw [crc32c_eq]; decide +kernel

theorem recordValid_conf : recordValid conf = true := by
  unfold recordValid; rw [crc32c_eq]; decide +kernel

theorem crcGo_append (a b : List Byte) (c : Nat) : crcGo (a ++ b) c = crcGo b (crcGo a c) := by
  rw [← crcGo_eq, ← crcGo_eq, ← crcGo_eq, List.foldl_append]
theorem crc_calib_head : crcGo (leBytes 8 (0x4B43414C + (2048 * 65536 + 1) * 2 ^ 32)) 0xFFFFFFFF = 3479476431 := by decide +kernel
theorem crc_calib_1 : crcGo (List.replicate 493 0) 3479476431 = 4140585680 := by decide +kernel
theorem crc_calib_2 : crcGo (List.replicate 493 0) 4140585680 = 3169658470 := by decide +kernel
theorem crc_calib_3 : crcGo (List.replicate 493 0) 3169658470 = 3400045852 := by decide +kernel
theorem crc_calib_4 : crcGo (List.replicate 493 0) 3400045852 = 3519923051 := by decide +kernel
theorem calib_take : calib.take 0x7BC = leBytes 8 (0x4B43414C + (2048 * 65536 + 1) * 2 ^ 32) ++ (List.replicate 493 0 ++ (List.replicate 493 0
    ++ (List.replicate 493 0 ++ List.replicate 493 0))) := by decide +kernel
theorem crc_calib : crc32c (calib.take 0x7BC) = 0x2e323c94 := by
  rw [crc32c_eq, calib_take, crcGo_append, crc_calib_head, crcGo_append, crc_calib_1, crcGo_append, crc_calib_2, crcGo_append, crc_calib_3,
    crc_calib_4]
  decide
theorem calValid_calib : calValid calib = true := by
  unfold calValid
  rw [crc_calib]
  decide +kernel

def imageConf : State :=
  { on with regs := [(Reg.hostportLink, 0x80100040), (Reg.calibBuf 0, 0x4B434647), (Reg.calibBuf 1, 0x2000001), (Reg.calibBuf 127, 0x4a8830ec)] }
def imageCalib : State :=
  { on with regs := [(Reg.hostportLink, 0x80100040), (Reg.calibBuf 0, 0x4B43414C), (Reg.calibBuf 1, 0x8000001), (Reg.calibBuf 495, 0x2e323c94)] }

theorem wordAt_within {r : RegRow} {off w : Nat} (h : r.wordAt off = some w) :
    r.base ≤ off ∧ off < r.base + r.n1 * r.s1 + r.n2 * r.s2 + 4 * r.words := by
  unfold RegRow.wordAt at h
  split at h
  · cases h
  · simp only at h
    generalize (if r.n1 ≤ 1 then 0 else (off - r.base) / r.s1) = i at h
    generalize (if r.n2 ≤ 1 then 0 else (off - r.base - i * r.s1) / r.s2) = j at h
    split at h
    · rename_i hb hc
      obtain ⟨hi, hj, -, ho⟩ := hc
      have a := Nat.mul_le_mul_right r.s1 (Nat.le_of_lt hi)
      have b := Nat.mul_le_mul_right r.s2 (Nat.le_of_lt hj)
      omega
    · cases h

/-- Keys that no row with a reset value other than zero covers read as zero. -/
theorem findRow_reset {rs : List RegRow} {lo hi k : Nat} (hl : lo ≤ k) (hh : k < hi)
    (h : rs.all (fun r => r.reset == 0 || decide (hi ≤ r.base) || decide (r.base + r.n1 * r.s1 + r.n2 * r.s2 + 4 * r.words ≤ lo)) = true) :
    ∀ r w, findRow rs k = some (r, w) → r.reset = 0 := by
  induction rs with
  | nil => intro r w e; cases e
  | cons x rs ih =>
    intro r w e
    simp only [List.all_cons, Bool.and_eq_true, Bool.or_eq_true, beq_iff_eq, decide_eq_true_eq] at h
    unfold findRow at e
    split at e
    · rename_i v hv
      have hw := wordAt_within hv
      cases e
      omega
    · exact ih h.2 r w e

theorem calibBuf_reset {k : Nat} (hl : Reg.calibBuf 0 ≤ k) (hh : k < Reg.calibBuf 512) : regReset k = 0 := by
  have key := findRow_reset (rs := pfRows) hl hh (by decide +kernel)
  have hv : isVfKey k = false := by
    simp only [isVfKey, decide_eq_false_iff_not, Reg.calibBuf] at *
    omega
  unfold regReset rowOfKey
  rw [hv]
  simp only [Bool.false_eq_true, if_false]
  split
  · rename_i r w e
    rw [key r w e]
    simp only [wordOf, bitsOf, Nat.zero_shiftRight, Nat.zero_mod]
    rfl
  · rfl

theorem regList_append (s : State) (k m n : Nat) : s.regList k (m + n) = s.regList k m ++ s.regList (k + 4 * m) n := by
  induction m generalizing k with
  | zero => simp [State.regList]
  | succ m ih =>
    rw [Nat.succ_add, State.regList, State.regList, ih, List.cons_append]
    congr 3
    omega

/-- Words of the buffer that are not listed read as zero. -/
theorem regList_zero (s : State) (n : Nat) : ∀ k, Reg.calibBuf 0 ≤ k → k + 4 * n ≤ Reg.calibBuf 512 →
    (∀ e ∈ s.regs, e.1 < k ∨ k + 4 * n ≤ e.1) → s.regList k n = List.replicate n 0 := by
  induction n with
  | zero => intros; rfl
  | succ n ih =>
    intro k hk hn he
    have hr : s.reg k = 0 := by
      have hg : ∀ m : SMap W32, (∀ e ∈ m, e.1 < k ∨ k + 4 * (n + 1) ≤ e.1) → SMap.get regReset m k = 0 := by
        intro m
        induction m with
        | nil => intro _; exact calibBuf_reset hk (by omega)
        | cons e m ih2 =>
          intro h
          obtain ⟨j, v⟩ := e
          have hj := h (j, v) (List.mem_cons_self ..)
          have hne : j ≠ k := by simp only at hj; omega
          simp only [SMap.get, hne, if_false]
          exact ih2 (fun e' h' => h e' (List.mem_cons_of_mem _ h'))
      exact hg s.regs he
    rw [State.regList, hr, ih (k + 4) (by omega) (by omega) (fun e h => by have := he e h; omega), List.replicate_succ]

theorem imageConf_eq : imageConf.calibImage 512 = conf := by
  have e : imageConf.regList (Reg.calibBuf 0) 128 = [0x4B434647, 0x2000001] ++ (List.replicate 125 0 ++ [0x4a8830ec]) := by
    rw [show 128 = 2 + (125 + 1) from rfl, regList_append, regList_append, regList_zero imageConf 125 _ (by decide) (by decide) (by decide)]
    rfl
  unfold State.calibImage
  rw [show 512 / 4 = 128 from rfl, e]
  decide +kernel
theorem imageCalib_eq : imageCalib.calibImage 2048 = calib := by
  have e : imageCalib.regList (Reg.calibBuf 0) 512
      = [0x4B43414C, 0x8000001] ++ (List.replicate 493 0 ++ ([0x2e323c94] ++ List.replicate 16 0)) := by
    rw [show 512 = 2 + (493 + (1 + 16)) from rfl, regList_append, regList_append, regList_append,
      regList_zero imageCalib 493 _ (by decide) (by decide) (by decide), regList_zero imageCalib 16 _ (by decide) (by decide) (by decide)]
    rfl
  unfold State.calibImage
  rw [show 2048 / 4 = 512 from rfl, e]
  decide +kernel
def entry : JEntry := ⟨0, 1, 0, 2, 0, []⟩

theorem laterCopy_one {a : List Byte} (h : recordValid a = true) : laterCopy [a, []] = some 0 := by
  have e : recordValid [] = false := by decide +kernel
  unfold laterCopy
  change (match recordValid a, recordValid [] with
    | true, true => if laterSeq (word32 [] 8) (word32 a 8) then some 1 else some 0
    | true, false => some 0
    | false, true => some 1
    | false, false => none) = some 0
  rw [h, e]
theorem witness_PeatStoreAndTrialsComplete_copies : laterCopy [conf, []] = some 0 ∧ calValid calib = true :=
  ⟨laterCopy_one recordValid_conf, calValid_calib⟩
theorem witness_PeatStoreAndTrialsComplete_reads :
    on.portServes = true ∧ on.peat.cmd = none ∧ on.canonical = true
    ∧ [entry].find? (fun x => decide (x.seq = (on.reg Reg.calibJournalSel).toNat)) = some entry
    ∧ ({ on.peat with cmd := some 1 } : PeatSt).cmd.isSome = true := by decide +kernel
theorem witness_PeatStoreAndTrialsComplete_writes :
    (recordValid (on.calibImage 512) = false ∧ recordValid (imageConf.calibImage 512) = true
      ∧ (confFields (imageConf.calibImage 512) imageConf.fac.mac).any (·.bad) = false ∧ confStray (imageConf.calibImage 512) = []
      ∧ imageConf.canonical = true ∧ imageConf.portServes = true)
    ∧ (calValid (imageCalib.calibImage 2048) = true ∧ imageCalib.canonical = true ∧ imageCalib.portServes = true)
    ∧ (on.clock.powered = true ∧ on.peat.ops = [] ∧ ([(5, 3)] : List (Nat × Nat)) ≠ []
      ∧ (0 : Nat) + 100000000 ≤ ({ on with time := 100000000 } : State).time.toNat) := by
  rw [imageConf_eq, imageCalib_eq]
  exact ⟨⟨by decide +kernel, recordValid_conf, by decide +kernel⟩, ⟨calValid_calib, by decide +kernel⟩, by decide +kernel⟩
theorem witness_PeatStoreAndTrialsComplete_trials :
    on.stewardServes = true ∧ on.clock.mode ≠ .recovery ∧ on.fw.trial = false ∧ ({ on.fw with trial := true } : FwSt).trial = true ∧ on.portServes = true
    ∧ on.clock.powered = true ∧ (0 : Nat) + 60000000000 ≤ ({ on with time := 60000000000 } : State).time.toNat
    ∧ (at_ .recovery 2).clock.mode = .recovery
    ∧ (at_ .recovery 2).fw.askedAt + 100000000 ≤ ({ at_ .recovery 2 with time := 100000000 } : State).time.toNat
    ∧ (FwSt.fwset { on.fw with setB := { FwSet.empty with magic := true, staged := true }, target := 1 } 1).state = 1
    ∧ flashNow [.clear] = some .clear ∧ ({ on.peat with retried := true } : PeatSt).retried = true ∧ on.peat.retried = false := by decide +kernel

/-- The steward in update mode with agent 1 over SMBus. -/
def updating (ph : FwPhase) : State :=
  { on with fw := { on.fw with phase := ph, agent := 1, binding := .smbus }, side := { on.side with vrefGood := true, i3c := false } }

/-- A boot header with seven empty parts, and one whose part 1 has 100 bytes. -/
def bootHeader : List Byte := leBytes 64 0 ++ (List.range 7).flatMap (fun i => leBytes 64 (i + 1))
def partHeader : List Byte := leBytes 64 0 ++ leBytes 64 (1 + 100 * 2 ^ 64)

theorem witness_UpdatesTransferAndStage_exchange :
    (∀ ph ∈ [FwPhase.idle, .learn, .ready, .header, .transfer, .verify, .apply, .activate], (updating ph).bindingUp .smbus = true
      ∧ (updating ph).bindingUp (updating ph).fw.binding = true ∧ (updating ph).fw.agent = 1 ∧ (updating ph).fw.phase = ph)
    ∧ (updating .idle).fw.trial = false
    ∧ (([] : List Byte).length ≠ 0x4CE0 ∧ partsFit bootHeader = true)
    ∧ (min 64 (blockLen partHeader 0 - ([] : List Byte).length) ≤ (List.replicate 64 (0 : Byte)).length
      ∧ (List.replicate 64 (0 : Byte)).length < blockLen partHeader 0
      ∧ blockLen partHeader 0 ≤ (List.replicate 100 (0 : Byte)).length)
    ∧ (0 : Nat) + 6000000000 ≤ ({ on with time := 6000000000 } : State).time.toNat
    ∧ (updating .transfer).fwFlash = false ∧ 511 < 512 ∧ 512 ≤ 512 ∧ 2 < 3 ∧ 3 ≤ 3 ∧ flashNow [.fwStage] = some .fwStage := by decide +kernel

/-- A block that matches its CRC in the header, and one that does not. -/
theorem witness_UpdatesTransferAndStage_block :
    blockMatches [] 0 [] = true ∧ blockMatches (List.replicate 0x240 0 ++ leBytes 4 1) 0 [] = false
    ∧ blockLen [] 0 ≤ ([] : List Byte).length := by decide +kernel

theorem witness_SecurityFloorIsNeverLowered :
    exec .d3hot on = .next on ∧ on.fac.svnFloor ≤ 64 ∧ on.clock.mode = .full ∧ ({ on.fw with trial := true } : FwSt).trial = true
    ∧ ({ on.fw with accepted := true } : FwSt).accepted = true ∧ (FwSt.fwset on.fw on.fw.active).raiseSvn = false
    ∧ (FwSt.fwset { on.fw with setA := { FwSet.empty with raiseSvn := true, svn := 64, auto := true }, active := 0 } 0).raiseSvn = true
    ∧ on.fac.svnFloor ≤ (FwSt.fwset { on.fw with setA := { FwSet.empty with svn := 64, auto := true }, active := 0 } 0).svn
    ∧ (FwSt.fwset { on.fw with setA := { FwSet.empty with svn := 64, auto := true }, active := 0 } 0).auto = true :=
  ⟨rfl, by decide +kernel⟩
theorem witness_AlertAndSidebandFollowTheirCauses :
    ((updating .idle).stewardServes = true ∧ (updating .idle).side.vrefGood = true ∧ (updating .idle).clock.mode ≠ .recovery
      ∧ (updating .idle).reporting = false ∧ (updating .idle).portServes = true ∧ (updating .idle).fw.mbx = none)
    ∧ (({ updating .idle with fw := { (updating .idle).fw with report := some (0, []) } } : State).reporting = true
      ∧ ({ updating .idle with fw := { (updating .idle).fw with mbx := some (1, [0, 1, 2, 3]) } } : State).canonical = true
      ∧ ([0, 1, 2, 3] : List Byte).length ≤ 20480)
    ∧ ((updating .idle).clock.powered = true ∧ (updating .idle).power.tripped = false) := by decide +kernel

/-! Numbers: values worked out by hand from the formats of 03_number_formats.md -/

theorem test_formats_max : (Fmt.e4m3.dec 0x7E).eqv (FVal.ofInt 448) = true ∧ (Fmt.e5m2.dec 0x7B).eqv (FVal.ofInt 57344) = true
    ∧ (Fmt.fp4.dec 7).eqv (FVal.ofInt 6) = true ∧ (Fmt.e3m2.dec 0x1F).eqv (FVal.ofInt 28) = true := by decide +kernel
theorem test_fp32_ties_to_even : Fmt.fp32.addc 0x3F800000 0x33800000 = 0x3F800000 ∧ Fmt.fp32.addc 0x3F800001 0x33800000 = 0x3F800002 := by
  decide +kernel
theorem test_fp32_overflow : Fmt.fp32.mulc 0x7F7FFFFF 0x40000000 = 0x7F800000 ∧ Fmt.fp32.mulc 0xFF7FFFFF 0x40000000 = 0xFF800000 := by
  decide +kernel
theorem test_fp64_zeros : Fmt.fp64.addc 0x8000000000000000 0 = 0 ∧ Fmt.fp64.mulc 0x8000000000000000 0x3FF0000000000000 = 0x8000000000000000 := by
  decide +kernel
/-- E4M3 saturates in a conversion that saturates and gives its NaN in one that does not. -/
theorem test_e4m3_saturation : Fmt.e4m3.enc .rne true (FVal.ofInt 500) = 0x7E ∧ Fmt.e4m3.enc .rne false (FVal.ofInt 500) = 0x7F := by
  decide +kernel

end Sys2Proof.Tests
end

/-! PROOFS, 00_scope.md. The invariant: every command and every step keeps the canonical form of memory and register file. -/

namespace Sys2Proof.Machine

section
variable {q : List Instr × W64} {F : Factory} {s t : State}

/-- The state that a keeping outcome goes on in. -/
theorem Out.Keeps.next {o : Out} (h : Out.Keeps q F o) (he : o = .next t) : t.Keeps q F := by
  subst he; exact h

/-- Every command but a power-on, which sets the time base, keeps all that State.Keeps says. -/
theorem exec_keeps {c : Instr} (hc : ∀ p e, c ≠ .powerOn p e) (h : s.Keeps q F) : Out.Keeps q F (exec c s) := by
  cases c with
  | registerWrite => exact execRegisterWrite_keeps h
  | lowWordWrite => exact execLowWordWrite_keeps h
  | highWordWrite => exact execHighWordWrite_keeps h
  | lowWordRead => exact execLowWordRead_keeps h
  | word3Write => exact execWord3Write_keeps h
  | word0Read => exact execWord0Read_keeps h
  | counterRead => exact execCounterRead_keeps h
  | slotTableCommit => exact execSlotTableCommit_keeps h
  | bondFault => exact execBondFault_keeps h
  | salu => exact execSalu_keeps h
  | sli => exact execSli_keeps h
  | sbr => exact execSbr_keeps h
  | sldt => exact execSldt_keeps h
  | sstt => exact execSstt_keeps h
  | endKernel => exact execEndKernel_keeps h
  | coreKernelEnd => exact execCoreKernelEnd_keeps h
  | mma => exact execMma_keeps h
  | queueHeadStart => exact execQueueHeadStart_keeps h
  | mmaStep => exact execMmaStep_keeps h
  | scoreboardRelease => exact execScoreboardRelease_keeps h
  | accz => exact execAccz_keeps h
  | accld => exact execAccld_keeps h
  | accst => exact execAccst_keeps h
  | instructionBufferFill => exact execInstructionBufferFill_keeps h
  | readOnlyCacheFill => exact execReadOnlyCacheFill_keeps h
  | tgl => exact execTgl_keeps h
  | groupPlacement => exact execGroupPlacement_keeps h
  | tgwait => exact execTgwait_keeps h
  | groupKernelEnd => exact execGroupKernelEnd_keeps h
  | vialu => exact execVialu_keeps h
  | vialu64 => exact execVialu64_keeps h
  | vfp32 => exact execVfp32_keeps h
  | vfp64 => exact execVfp64_keeps h
  | vsf => exact execVsf_keeps h
  | vcvt => exact execVcvt_keeps h
  | vcmp => exact execVcmp_keeps h
  | vsel => exact execVsel_keeps h
  | vshfl => exact execVshfl_keeps h
  | vbr => exact execVbr_keeps h
  | vend => exact execVend_keeps h
  | vld => exact execVld_keeps h
  | groupLoadReturn => exact execGroupLoadReturn_keeps h
  | vst => exact execVst_keeps h
  | vldt => exact execVldt_keeps h
  | vstt => exact execVstt_keeps h
  | vatom => exact execVatom_keeps h
  | glock => exact execGlock_keeps h
  | glockRetry => exact execGlockRetry_keeps h
  | gunlock => exact execGunlock_keeps h
  | vfence => exact execVfence_keeps h
  | spinWatchdog => exact execSpinWatchdog_keeps h
  | homeOperationResponse => exact execHomeOperationResponse_keeps h
  | flagsetAdd => exact execFlagsetAdd_keeps h
  | flagsetWrite => exact execFlagsetWrite_keeps h
  | flagsetArrive => exact execFlagsetArrive_keeps h
  | flagsetArm => exact execFlagsetArm_keeps h
  | flagwait => exact execFlagwait_keeps h
  | flagwaitWake => exact execFlagwaitWake_keeps h
  | flagTimeout => exact execFlagTimeout_keeps h
  | flagOperation => exact execFlagOperation_keeps h
  | fence => exact execFence_keeps h
  | waitc => exact execWaitc_keeps h
  | descriptorFetch => exact execDescriptorFetch_keeps h
  | streamChunkSend => exact execStreamChunkSend_keeps h
  | chunkLanding => exact execChunkLanding_keeps h
  | landingRetry => exact execLandingRetry_keeps h
  | streamFlagAdd => exact execStreamFlagAdd_keeps h
  | reductionChunkArrival => exact execReductionChunkArrival_keeps h
  | reductionEntryExpiry => exact execReductionEntryExpiry_keeps h
  | reedMessageForward => exact execReedMessageForward_keeps h
  | causewayCrcMismatch => exact execCausewayCrcMismatch_keeps h
  | retryRequest => exact execRetryRequest_keeps h
  | homeRead => exact execHomeRead_keeps h
  | homeWrite => exact execHomeWrite_keeps h
  | writeCompletion => exact execWriteCompletion_keeps h
  | fillComplete => exact execFillComplete_keeps h
  | lineAllocation => exact execLineAllocation_keeps h
  | writeBack => exact execWriteBack_keeps h
  | homeOperationArrival => exact execHomeOperationArrival_keeps h
  | homeOperationResend => exact execHomeOperationResend_keeps h
  | homeOperationApply => exact execHomeOperationApply_keeps h
  | deadpendDrop => exact execDeadpendDrop_keeps h
  | cacheOpWriteBack => exact execCacheOpWriteBack_keeps h
  | cacheOpFlush => exact execCacheOpFlush_keeps h
  | cacheOpDiscard => exact execCacheOpDiscard_keeps h
  | cacheOpEnd => exact execCacheOpEnd_keeps h
  | cacheProbeCapture => exact execCacheProbeCapture_keeps h
  | dieCacheLoad => exact execDieCacheLoad_keeps h
  | dieCacheStore => exact execDieCacheStore_keeps h
  | mergeEntryAgeExpiry => exact execMergeEntryAgeExpiry_keeps h
  | writeAcknowledgement => exact execWriteAcknowledgement_keeps h
  | gets => exact execGets_keeps h
  | getm => exact execGetm_keeps h
  | puts => exact execPuts_keeps h
  | pute => exact execPute_keeps h
  | putm => exact execPutm_keeps h
  | invack => exact execInvack_keeps h
  | datam => exact execDatam_keeps h
  | inv => exact execInv_keeps h
  | fwdgets => exact execFwdgets_keeps h
  | fwdgetm => exact execFwdgetm_keeps h
  | data => exact execData_keeps h
  | datae => exact execDatae_keeps h
  | putack => exact execPutack_keeps h
  | nack => exact execNack_keeps h
  | coherenceResend => exact execCoherenceResend_keeps h
  | channelRead => exact execChannelRead_keeps h
  | channelWrite => exact execChannelWrite_keeps h
  | refpb => exact execRefpb_keeps h
  | mr4Read => exact execMr4Read_keeps h
  | retrainingWindow => exact execRetrainingWindow_keeps h
  | retrainingRetry => exact execRetrainingRetry_keeps h
  | trainingTimeout => exact execTrainingTimeout_keeps h
  | tgGo => exact execTgGo_keeps h
  | tgStop => exact execTgStop_keeps h
  | tgRunEnd => exact execTgRunEnd_keeps h
  | create => exact execCreate_keeps h
  | destroy => exact execDestroy_keeps h
  | move => exact execMove_keeps h
  | resize => exact execResize_keeps h
  | readDesc => exact execReadDesc_keeps h
  | setCreate => exact execSetCreate_keeps h
  | setDestroy => exact execSetDestroy_keeps h
  | composePendingStart => exact execComposePendingStart_keeps h
  | quiescePoint => exact execQuiescePoint_keeps h
  | composeTimeout => exact execComposeTimeout_keeps h
  | gainingEnd => exact execGainingEnd_keeps h
  | movingEnd => exact execMovingEnd_keeps h
  | committingEnd => exact execCommittingEnd_keeps h
  | resumingEnd => exact execResumingEnd_keeps h
  | scrubEnd => exact execScrubEnd_keeps h
  | sharedSetSwitch => exact execSharedSetSwitch_keeps h
  | doorbell => exact execDoorbell_keeps h
  | cqHeadWrite => exact execCqHeadWrite_keeps h
  | queueEnable => exact execQueueEnable_keeps h
  | jobTake => exact execJobTake_keeps h
  | jobEpoch => exact execJobEpoch_keeps h
  | jobEnd => exact execJobEnd_keeps h
  | runLimit => exact execRunLimit_keeps h
  | ckpt => exact execCkpt_keeps h
  | checkpoint => exact execCheckpoint_keeps h
  | checkpointClean => exact execCheckpointClean_keeps h
  | preemptionSaveEnd => exact execPreemptionSaveEnd_keeps h
  | jobResume => exact execJobResume_keeps h
  | fenceRecord => exact execFenceRecord_keeps h
  | engineTimeAttribution => exact execEngineTimeAttribution_keeps h
  | acctSnap => exact execAcctSnap_keeps h
  | schedAcctSnap => exact execSchedAcctSnap_keeps h
  | schedPreempt => exact execSchedPreempt_keeps h
  | memrd => exact execMemrd_keeps h
  | memwr => exact execMemwr_keeps h
  | memwrptl => exact execMemwrptl_keeps h
  | memspecrd dpa => exact execMemspecrd_keeps (x0 := dpa) h
  | meminv => exact execMeminv_keeps h
  | unsupportedMessage code => exact execUnsupportedMessage_keeps (x0 := code) h
  | hostResponse => exact execHostResponse_keeps h
  | hdmDecoderCommit => exact execHdmDecoderCommit_keeps h
  | maxClear => exact execMaxClear_keeps h
  | missAddrClear => exact execMissAddrClear_keeps h
  | hostLinkRetrain => exact execHostLinkRetrain_keeps h
  | linkDown => exact execLinkDown_keeps h
  | d3hot => exact execD3hot_keeps h
  | pfFlr => exact execPfFlr_keeps h
  | vfEnableClear => exact execVfEnableClear_keeps h
  | vfFlr => exact execVfFlr_keeps h
  | write => exact execWrite_keeps h
  | reduce => exact execReduce_keeps h
  | readReq => exact execReadReq_keeps h
  | readResp => exact execReadResp_keeps h
  | ack => exact execAck_keeps h
  | nak => exact execNak_keeps h
  | cnp => exact execCnp_keeps h
  | arpRequest => exact execArpRequest_keeps h
  | neighbourSolicitation => exact execNeighbourSolicitation_keeps h
  | pfcFrame => exact execPfcFrame_keeps h
  | pauseFrame => exact execPauseFrame_keeps h
  | segmentDelivery => exact execSegmentDelivery_keeps h
  | networkWriteAck => exact execNetworkWriteAck_keeps h
  | ackSend => exact execAckSend_keeps h
  | rateIncrease => exact execRateIncrease_keeps h
  | retransmissionTimeout => exact execRetransmissionTimeout_keeps h
  | segmentSend => exact execSegmentSend_keeps h
  | workRequestFetch => exact execWorkRequestFetch_keeps h
  | arm => exact execArm_keeps h
  | reset => exact execReset_keeps h
  | qpDoorbell => exact execQpDoorbell_keeps h
  | qpCqHeadWrite => exact execQpCqHeadWrite_keeps h
  | netportEnable => exact execNetportEnable_keeps h
  | netportLinkChange => exact execNetportLinkChange_keeps h
  | budgetExchange => exact execBudgetExchange_keeps h
  | report => exact execReport_keeps h
  | grant => exact execGrant_keeps h
  | grantTimeout => exact execGrantTimeout_keeps h
  | sluiceLoop => exact execSluiceLoop_keeps h
  | capUnmet => exact execCapUnmet_keeps h
  | forceFloor => exact execForceFloor_keeps h
  | droop d detector => exact execDroop_keeps (x0 := d) (x1 := detector) h
  | stretchEnd => exact execStretchEnd_keeps h
  | stretchLimit => exact execStretchLimit_keeps h
  | ageingTrim => exact execAgeingTrim_keeps h
  | thermalTrip => exact execThermalTrip_keeps h
  | supplyWarn => exact execSupplyWarn_keeps h
  | supplyOk => exact execSupplyOk_keeps h
  | supplyReset => exact execSupplyReset_keeps h
  | supplyResetEnd => exact execSupplyResetEnd_keeps h
  | throttle => exact execThrottle_keeps h
  | throttleRelease => exact execThrottleRelease_keeps h
  | throttleRepeat => exact execThrottleRepeat_keeps h
  | crystalFailure => exact execCrystalFailure_keeps h
  | pllLockLoss => exact execPllLockLoss_keeps h
  | powerOn p e => exact absurd rfl (hc p e)
  | powerLoss => exact execPowerLoss_keeps h
  | perstNAssert => exact execPerstNAssert_keeps h
  | perstNRelease => exact execPerstNRelease_keeps h
  | perstNGlitch => exact execPerstNGlitch_keeps h
  | cxlHotReset => exact execCxlHotReset_keeps h
  | moduleReset => exact execModuleReset_keeps h
  | powerDown => exact execPowerDown_keeps h
  | offReady => exact execOffReady_keeps h
  | readRecord => exact execReadRecord_keeps h
  | writeRecord => exact execWriteRecord_keeps h
  | readCal => exact execReadCal_keeps h
  | writeCal => exact execWriteCal_keeps h
  | readJournal => exact execReadJournal_keeps h
  | readActive => exact execReadActive_keeps h
  | clearJournal => exact execClearJournal_keeps h
  | flashOperationEnd => exact execFlashOperationEnd_keeps h
  | journalEntry => exact execJournalEntry_keeps h
  | suppressedEntry => exact execSuppressedEntry_keeps h
  | queryDeviceIdentifiers => exact execQueryDeviceIdentifiers_keeps h
  | getFirmwareParameters => exact execGetFirmwareParameters_keeps h
  | requestUpdate => exact execRequestUpdate_keeps h
  | passComponentTable => exact execPassComponentTable_keeps h
  | updateComponent => exact execUpdateComponent_keeps h
  | firmwareData => exact execFirmwareData_keeps h
  | updateTimeout => exact execUpdateTimeout_keeps h
  | transferComplete => exact execTransferComplete_keeps h
  | verifyComplete => exact execVerifyComplete_keeps h
  | applyComplete => exact execApplyComplete_keeps h
  | activateFirmware => exact execActivateFirmware_keeps h
  | getStatus => exact execGetStatus_keeps h
  | cancelUpdateComponent => exact execCancelUpdateComponent_keeps h
  | cancelUpdate => exact execCancelUpdate_keeps h
  | recoveryUpdateReset => exact execRecoveryUpdateReset_keeps h
  | trialConfirmation => exact execTrialConfirmation_keeps h
  | trialWatchdogExpiry => exact execTrialWatchdogExpiry_keeps h
  | firmwareWatchdog => exact execFirmwareWatchdog_keeps h
  | acceptTrial => exact execAcceptTrial_keeps h
  | rejectTrial => exact execRejectTrial_keeps h
  | unstage => exact execUnstage_keeps h
  | cancel => exact execCancel_keeps h
  | getEndorsement => exact execGetEndorsement_keeps h
  | getReport => exact execGetReport_keeps h
  | mailboxDone => exact execMailboxDone_keeps h
  | correctedError => exact execCorrectedError_keeps h
  | uncorrectableError => exact execUncorrectableError_keeps h
  | sliceUncorrectable => exact execSliceUncorrectable_keeps h
  | coherenceUncorrectable => exact execCoherenceUncorrectable_keeps h
  | recordHandling => exact execRecordHandling_keeps h
  | release => exact execRelease_keeps h
  | releaseEnd => exact execReleaseEnd_keeps h
  | stickyClear => exact execStickyClear_keeps h
  | errorQueueHeadWrite => exact execErrorQueueHeadWrite_keeps h
  | dynamicAddressAssignment => exact execDynamicAddressAssignment_keeps h
  | daaReset => exact execDaaReset_keeps h
  | busTimeout => exact execBusTimeout_keeps h
  | vrefSbLoss => exact execVrefSbLoss_keeps h
  | undefinedOpcode => exact execUndefinedOpcode_keeps h
  | groupUndefined => exact execGroupUndefined_keeps h
  | groupInstructionCacheFill => exact execGroupInstructionCacheFill_keeps h
  | nonTuilinFrame => exact execNonTuilinFrame_keeps h
  | pfcPauseExpiry => exact execPfcPauseExpiry_keeps h
  | linkResetStateExit => exact execLinkResetStateExit_keeps h
  | vfEnableSet => exact execVfEnableSet_keeps h
  | configurationRequest => exact execConfigurationRequest_keeps h
  | vrefSbRestore => exact execVrefSbRestore_keeps h

/-- Every command keeps the canonical form, a power-on too. -/
theorem exec_canonical {c : Instr} (h : s.canonical = true) (he : exec c s = .next t) : t.canonical = true := by
  by_cases hp : ∃ p e, c = .powerOn p e
  · obtain ⟨p, e, rfl⟩ := hp
    exact ((execPowerOn_keeps (State.Keeps.self h)).next he).1
  · exact ((exec_keeps (fun p e hpe => hp ⟨p, e, hpe⟩) (State.Keeps.self h)).next he).1

theorem State.tick_canonical (h : s.canonical = true) : s.tick.canonical = true :=
  (State.tick_keeps (State.Keeps.self h)).1

/-- The canonical form does not speak of the queue of waiting commands. -/
theorem State.canonical_pending {cs : List Instr} (h : s.canonical = true) : State.canonical { s with pending := cs } = true := h

end

/-- Settles O4, by the two cases of a step: a tick, or the command at the front of the queue. -/
theorem everyStepKeepsCanonicalForm : Obligations.EveryStepKeepsCanonicalForm := by
  intro s t hs ht
  unfold step at ht
  split at ht
  · cases ht
    exact State.tick_canonical hs
  · exact exec_canonical (State.canonical_pending hs) ht

/-- Settles O3: the maps are empty at reset, and an empty map reads as the reset value everywhere. -/
theorem resetStateIsCanonical : Obligations.ResetStateIsCanonical := by
  have hmem : Memory.wf State.reset.mem = true := rfl
  have hregs : SMap.wf regReset State.reset.regs = true := rfl
  have hfac : State.reset.fac.ok = true := by decide
  refine ⟨?_, rfl, rfl, rfl, SMap.get_nil regReset⟩
  unfold State.canonical
  rw [hmem, hregs, hfac]
  rfl

end Sys2Proof.Machine

/-! PROOFS, 00_scope.md. Accesses of the two BARs: what a full read or write of a word of a wider register does (R4 to R6). -/

namespace Sys2Proof.Machine

section access
variable {bar : Bar} {off size : Nat} {s : State}

theorem barKey_add (bar : Bar) (off i : Nat) : barKey bar (off + i) = barKey bar off + i := by
  cases bar with
  | pf => rfl
  | vf n => exact (Nat.add_assoc _ off i).symm

/-- An access inside another one lies in the BAR where that one does. -/
theorem inBar_add {n i : Nat} (h : inBar bar off n = true) (hi : i + size ≤ n) : inBar bar (off + i) size = true := by
  unfold inBar at *
  rw [decide_eq_true_eq] at *
  omega

theorem access_eq (h : inBar bar off size = true) (t : State) : access bar off size t = .next t := if_pos h

/-! Writes (R4, R6) -/

theorem exec_lowWordWrite (data : W32) :
    exec (.lowWordWrite bar off data) s = exec (.registerWrite bar off 4 (data.setWidth 64)) s := by
  rw [← BitVec.ofNat_toNat]; rfl

theorem exec_highWordWrite (data : W32) :
    exec (.highWordWrite bar off data) s = exec (.registerWrite bar off 4 (data.setWidth 64)) s := by
  rw [← BitVec.ofNat_toNat]; rfl

theorem exec_word3Write (data : W32) :
    exec (.word3Write bar off data) s = exec (.registerWrite bar off 4 (data.setWidth 64)) s := by
  rw [← BitVec.ofNat_toNat]; rfl

/-- An aligned write of four bytes is the write of its word, and is counted beside it (R10). -/
theorem exec_registerWrite_word {data : W32} {u : State} {c : Bool} (h4 : off % 4 = 0) (hin : inBar bar off 4 = true)
    (ht : s.takesWrites bar off = true) (hw : s.writeWord (barKey bar off) data = (u, c)) :
    exec (.registerWrite bar off 4 (data.setWidth 64)) s = .next (if c then u.bump (rsvdCounter (barKey bar off)) else u) := by
  have hd : BitVec.ofNat 32 (data.setWidth 64).toNat = data := by
    rw [BitVec.ofNat_toNat, BitVec.setWidth_setWidth_of_le _ (by decide), BitVec.setWidth_eq]
  refine (access_eq hin _).trans (congrArg _ ?_)
  unfold State.busWrite
  rw [if_neg (not_not_intro ht), if_pos ⟨h4, rfl⟩, hd, hw]

end access

/-- What is read after a range was dropped: its keys read as their defaults, every other key as before. -/
theorem SMap.get_clearRange {α : Type} (d : Nat → α) (m : SMap α) (lo hi k : Nat) :
    SMap.get d (SMap.clearRange m lo hi) k = if lo ≤ k ∧ k < hi then d k else SMap.get d m k := by
  induction m with
  | nil => exact (ite_self _).symm
  | cons e m ih =>
    obtain ⟨j, v⟩ := e
    by_cases hj : lo ≤ j ∧ j < hi
    · have : SMap.clearRange ((j, v) :: m) lo hi = SMap.clearRange m lo hi := by simp [SMap.clearRange, hj]
      rw [this, ih, SMap.get_cons]
      grind
    · have : SMap.clearRange ((j, v) :: m) lo hi = (j, v) :: SMap.clearRange m lo hi := by
        simp only [SMap.clearRange, List.filter_cons]
        grind
      rw [this, SMap.get_cons, SMap.get_cons, ih]
      grind

/-- What is read after a value was put in at a key of a map whose default is none, whatever the form of the map. -/
theorem SMap.get_set_some {α : Type} [DecidableEq α] (m : SMap (Option α)) (k : Nat) (a : α) (i : Nat) :
    SMap.get (fun _ => none) (SMap.set (fun _ => none) m k (some a)) i
      = if i = k then some a else SMap.get (fun _ => none) m i := by
  rw [SMap.set, if_neg (Option.some_ne_none a), SMap.get_ins]

section wide
variable {s : State} {k w : Nat} {r : RegRow}

/-- A word of a wider register other than its last is held (R4, R6). -/
theorem State.writeWord_held {data : W32} (hring : s.ringWrite k data = none) (hrow : rowOfKey k = some (r, w))
    (hw : w + 1 < r.words) (hig : s.commitIgnored k = false) :
    s.writeWord k data
      = ({ s with held := SMap.set (fun _ => none) s.held k (some data) }, rsvdWrite k data && !uncounted k) := by
  unfold State.writeWord
  simp [hring, hrow, hig, hw, show r.words ≠ 1 by omega]

/-- The last word of a wider register commits them all (R4, R6). -/
theorem State.writeWord_last {data : W32} (hring : s.ringWrite k data = none) (hrow : rowOfKey k = some (r, w))
    (hw : w + 1 = r.words) (h0 : 0 < w) (hig : s.commitIgnored k = false) :
    s.writeWord k data = (s.commitWords (k - 4 * w) r data, rsvdWrite k data && !uncounted k) := by
  unfold State.writeWord
  simp [hring, hrow, hig, show r.words ≠ 1 by omega, show ¬ w + 1 < r.words by omega]

/-- The words of a register among `ws` for which `f` has a value, stored one after the other. -/
def State.storeWords (s : State) (k : Nat) (r : RegRow) (f : Nat → Option W32) (ws : List Nat) : State :=
  ws.foldl (fun t w => match f w with
    | some x => t.storeWord (k + 4 * w) r w x
    | none => t) s

section storeWords
variable {f : Nat → Option W32} {ws : List Nat}

theorem State.storeWords_cons_none (hf : f w = none) : s.storeWords k r f (w :: ws) = s.storeWords k r f ws := by
  simp [State.storeWords, hf]

theorem State.storeWords_cons_some {x : W32} (hf : f w = some x) : s.storeWords k r f (w :: ws)
    = (s.setReg (k + 4 * w) (accessWrite r w (s.reg (k + 4 * w)) x)).storeWords k r f ws := by
  simp [State.storeWords, hf, State.storeWord]

theorem State.storeWords_fields : s.storeWords k r f ws = { s with regs := (s.storeWords k r f ws).regs } := by
  induction ws generalizing s with
  | nil => rfl
  | cons w ws ih =>
    cases hf : f w with
    | none => rw [State.storeWords_cons_none hf]; exact ih
    | some x => rw [State.storeWords_cons_some hf]; exact ih

/-- A key of no word among them reads as before. -/
theorem State.reg_storeWords_ne {j : Nat} (hj : ∀ w ∈ ws, j ≠ k + 4 * w) : (s.storeWords k r f ws).reg j = s.reg j := by
  induction ws generalizing s with
  | nil => rfl
  | cons w ws ih =>
    have ih' := fun t => ih (s := t) (fun v hv => hj v (List.mem_cons_of_mem w hv))
    cases hf : f w with
    | none => rw [State.storeWords_cons_none hf, ih']
    | some x => rw [State.storeWords_cons_some hf, ih', State.reg_setReg_ne (hj w List.mem_cons_self)]

/-- Each word among them takes its value under its access codes, or stays where it has none. -/
theorem State.reg_storeWords (hc : s.canonical = true) (hd : ws.Nodup) (hw : w ∈ ws) :
    (s.storeWords k r f ws).reg (k + 4 * w) = (f w).elim (s.reg (k + 4 * w)) (accessWrite r w (s.reg (k + 4 * w))) := by
  induction ws generalizing s with
  | nil => cases hw
  | cons v ws ih =>
    obtain ⟨hv, hd⟩ := List.nodup_cons.mp hd
    by_cases hwv : w = v
    · subst hwv
      have hrest : ∀ u ∈ ws, k + 4 * w ≠ k + 4 * u := fun u hu e => hv (by rwa [show w = u by omega])
      cases hf : f w with
      | none => rw [State.storeWords_cons_none hf, State.reg_storeWords_ne hrest]; rfl
      | some x => rw [State.storeWords_cons_some hf, State.reg_storeWords_ne hrest, State.reg_setReg hc, if_pos rfl]; rfl
    · have hw : w ∈ ws := (List.mem_cons.mp hw).resolve_left hwv
      cases hf : f v with
      | none => rw [State.storeWords_cons_none hf, ih hc hd hw]
      | some x =>
        rw [State.storeWords_cons_some hf, ih (State.canonical_setReg hc) hd hw, State.reg_setReg_ne (by omega)]

end storeWords

/-- The value that word `w` of a register commits with: the last word's is `v`, every other's what is held (R4, R6). -/
def State.commitValue (s : State) (k : Nat) (r : RegRow) (v : W32) (w : Nat) : Option W32 :=
  if w = r.words - 1 then some v else SMap.get (fun _ => none) s.held (k + 4 * w)

section commitWords
variable {v : W32}

/-- A commit stores the words that have a value and drops what was held of the register. -/
theorem State.commitWords_eq : s.commitWords k r v
    = { s.storeWords k r (s.commitValue k r v) (List.range r.words) with
        held := SMap.clearRange (s.storeWords k r (s.commitValue k r v) (List.range r.words)).held k (k + 4 * r.words) } :=
  rfl

theorem State.commitWords_fields :
    s.commitWords k r v = { s with held := (s.commitWords k r v).held, regs := (s.commitWords k r v).regs } := by
  rw [State.commitWords_eq, State.storeWords_fields]

theorem State.reg_commitWords (hc : s.canonical = true) (hw : w < r.words) : (s.commitWords k r v).reg (k + 4 * w)
    = (s.commitValue k r v w).elim (s.reg (k + 4 * w)) (accessWrite r w (s.reg (k + 4 * w))) :=
  State.reg_storeWords hc List.nodup_range (List.mem_range.mpr hw)

theorem State.reg_commitWords_last (hc : s.canonical = true) (hw : w + 1 = r.words) :
    (s.commitWords k r v).reg (k + 4 * w) = accessWrite r w (s.reg (k + 4 * w)) v := by
  rw [State.reg_commitWords hc (by omega), State.commitValue, if_pos (by omega)]
  rfl

/-- A word before the last takes what was held of it, or stays as it is. -/
theorem State.reg_commitWords_held (hc : s.canonical = true) (hw : w + 1 < r.words) :
    (s.commitWords k r v).reg (k + 4 * w)
      = (SMap.get (fun _ => none) s.held (k + 4 * w)).elim (s.reg (k + 4 * w)) (accessWrite r w (s.reg (k + 4 * w))) := by
  rw [State.reg_commitWords hc (by omega), State.commitValue, if_neg (by omega)]

theorem State.reg_commitWords_ne {j : Nat} (hj : ∀ w, w < r.words → j ≠ k + 4 * w) :
    (s.commitWords k r v).reg j = s.reg j :=
  State.reg_storeWords_ne fun w hw => hj w (List.mem_range.mp hw)

theorem State.held_commitWords (hw : w < r.words) :
    SMap.get (fun _ => none) (s.commitWords k r v).held (k + 4 * w) = none := by
  rw [State.commitWords_eq]
  exact (SMap.get_clearRange _ _ _ _ _).trans (if_pos (by omega))

end commitWords

end wide

/-! Reads (R5, R6) -/

section reads
variable {bar : Bar} {off size : Nat} {s : State}

/-- An aligned read of four bytes is the read of its word. -/
theorem exec_counterRead_word {v : W32} {t : State} (h4 : off % 4 = 0) (hin : inBar bar off 4 = true)
    (ha : s.answers bar off = true) (hr : s.readWord (barKey bar off) = (v, t)) :
    exec (.counterRead bar off 4) s = .next { t with readBack := some (BitVec.ofNat 64 v.toNat) } := by
  refine (access_eq hin _).trans (congrArg _ ?_)
  unfold State.busRead
  rw [if_neg (not_not_intro ha), if_pos ⟨h4, rfl⟩, hr]
  rfl

/-- An aligned read of eight bytes is the read of its low word followed by that of its high word (R5). -/
theorem exec_counterRead_words {lo hi : W32} {t u : State} (h4 : off % 4 = 0) (hin : inBar bar off 8 = true)
    (ha : s.answers bar off = true) (hl : s.readWord (barKey bar off) = (lo, t))
    (hh : t.readWord (barKey bar (off + 4)) = (hi, u)) :
    exec (.counterRead bar off 8) s
      = .next { u with readBack := some (BitVec.ofNat 64 (lo.toNat + 2 ^ 32 * hi.toNat)) } := by
  refine (access_eq hin _).trans (congrArg _ ?_)
  unfold State.busRead
  rw [if_neg (not_not_intro ha), if_neg (by omega), if_pos ⟨h4, rfl⟩, hl]
  dsimp only
  rw [hh]
  rfl

/-- A read narrower than a word gives the live bytes and changes nothing else, outside the CXL component registers (R5). -/
theorem exec_counterRead_narrow (hs : size < 4) (hin : inBar bar off size = true) (ha : s.answers bar off = true)
    (hx : bar = .pf → inCxlRegs off = false) :
    exec (.counterRead bar off size) s = .next { s with readBack := some (BitVec.ofNat 64
      (sumN ((List.range size).map (fun b => s.liveByte bar (off + b) * 2 ^ (8 * b))))) } := by
  have hn : ¬ (bar = .pf ∧ inCxlRegs off = true) := fun h => by simp [hx h.1] at h
  refine (access_eq hin _).trans (congrArg _ ?_)
  unfold State.busRead
  rw [if_neg (not_not_intro ha), if_neg (by omega), if_neg (by omega), if_neg hn]
  rfl

end reads

section capture
variable {s : State} {k w : Nat} {r : RegRow}

/-- The words whose numbers are `ws` captured one after the other (R5, R6). -/
def State.captureWords (s : State) (k : Nat) (ws : List Nat) : State :=
  ws.foldl (fun s i =>
    { s with captured := SMap.set (fun _ => none) s.captured (k + 4 * (i + 1)) (some (s.liveWord (k + 4 * (i + 1)))) }) s

/-- What a word reads does not depend on what is captured of any. -/
theorem State.liveWord_captured (c : SMap (Option W32)) : State.liveWord { s with captured := c } k = s.liveWord k := rfl

theorem State.captureWords_fields {ws : List Nat} :
    s.captureWords k ws = { s with captured := (s.captureWords k ws).captured } := by
  induction ws generalizing s with
  | nil => rfl
  | cons i ws ih => exact ih

theorem State.captured_captureWords {ws : List Nat} {j : Nat} :
    SMap.get (fun _ => none) (s.captureWords k ws).captured j
      = if ∃ i ∈ ws, j = k + 4 * (i + 1) then some (s.liveWord j) else SMap.get (fun _ => none) s.captured j := by
  induction ws generalizing s with
  | nil => simp [State.captureWords]
  | cons i ws ih =>
    refine (ih (s := { s with captured := _ })).trans ?_
    have hmem : (∃ n ∈ i :: ws, j = k + 4 * (n + 1)) ↔ j = k + 4 * (i + 1) ∨ ∃ n ∈ ws, j = k + 4 * (n + 1) := by simp
    rw [State.liveWord_captured, SMap.get_set_some, if_congr hmem rfl rfl]
    by_cases hws : ∃ n ∈ ws, j = k + 4 * (n + 1)
    · rw [if_pos hws, if_pos (.inr hws)]
    · rw [if_neg hws, if_congr (or_iff_left hws) rfl rfl]
      by_cases hj : j = k + 4 * (i + 1)
      · rw [if_pos hj, if_pos hj, hj]
      · rw [if_neg hj, if_neg hj]

/-- The state after a full read of word 0 of a wider register: the other words are captured, an RC field is clear
(R5 to R7). -/
def State.firstRead (s : State) (k : Nat) (r : RegRow) : State :=
  if BitVec.ofNat 32 (wordOf r.rc 0) = 0 then s.captureWords k (List.range (r.words - 1))
  else (s.captureWords k (List.range (r.words - 1))).setReg k (s.reg k &&& ~~~BitVec.ofNat 32 (wordOf r.rc 0))

theorem State.firstRead_fields :
    s.firstRead k r = { s with regs := (s.firstRead k r).regs, captured := (s.firstRead k r).captured } := by
  unfold State.firstRead
  rw [State.captureWords_fields]
  split <;> rfl

theorem State.firstRead_of_rc_zero (h : wordOf r.rc 0 = 0) :
    s.firstRead k r = { s with captured := (s.firstRead k r).captured } := by
  unfold State.firstRead
  rw [if_pos (by rw [h]; rfl), ← State.captureWords_fields]

/-- Every word but word 0 is captured, all at the same instant. -/
theorem State.captured_firstRead (h0 : 0 < w) (hw : w < r.words) :
    SMap.get (fun _ => none) (s.firstRead k r).captured (k + 4 * w) = some (s.liveWord (k + 4 * w)) := by
  have hc : (s.firstRead k r).captured = (s.captureWords k (List.range (r.words - 1))).captured := by
    unfold State.firstRead
    split <;> rfl
  rw [hc, State.captured_captureWords, if_pos ⟨w - 1, List.mem_range.mpr (by omega), by omega⟩]

theorem State.readWord_first (hrow : rowOfKey k = some (r, 0)) (hw : 1 < r.words) :
    s.readWord k = (s.liveWord k, s.firstRead k r) := by
  have hreg : (s.captureWords k (List.range (r.words - 1))).reg k = s.reg k := by
    rw [State.captureWords_fields]; rfl
  unfold State.readWord State.firstRead
  rw [hrow]
  dsimp only
  rw [if_pos rfl, if_pos hw, ← hreg]
  rfl

theorem State.readWord_captured {v : W32} (hrow : rowOfKey k = some (r, w)) (hw : w ≠ 0)
    (hv : SMap.get (fun _ => none) s.captured k = some v) :
    s.readWord k = (v, { s with captured := SMap.set (fun _ => none) s.captured k none }) := by
  unfold State.readWord
  rw [hrow]
  dsimp only
  rw [if_neg hw, hv]

theorem State.readWord_live (hrow : rowOfKey k = some (r, w)) (hw : w ≠ 0)
    (hv : SMap.get (fun _ => none) s.captured k = none) : s.readWord k = (s.liveWord k, s) := by
  unfold State.readWord
  rw [hrow]
  dsimp only
  rw [if_neg hw, hv]

end capture

section
variable {bar : Bar} {off w : Nat} {r : RegRow} {s : State}

/-- A full read of word 0 of a wider register (R5, R6). -/
theorem exec_counterRead_first (h4 : off % 4 = 0) (hin : inBar bar off 4 = true) (ha : s.answers bar off = true)
    (hrow : rowOfKey (barKey bar off) = some (r, 0)) (hw : 1 < r.words) :
    exec (.counterRead bar off 4) s = .next { s.firstRead (barKey bar off) r with
      readBack := some (BitVec.ofNat 64 (s.liveWord (barKey bar off)).toNat) } :=
  exec_counterRead_word h4 hin ha (State.readWord_first hrow hw)

/-- A full read of another word returns what is captured of it, once (R5, R6). -/
theorem exec_counterRead_captured {v : W32} (h4 : off % 4 = 0) (hin : inBar bar off 4 = true) (ha : s.answers bar off = true)
    (hrow : rowOfKey (barKey bar off) = some (r, w)) (hw : w ≠ 0)
    (hv : SMap.get (fun _ => none) s.captured (barKey bar off) = some v) :
    exec (.counterRead bar off 4) s = .next { s with
      readBack := some (BitVec.ofNat 64 v.toNat)
      captured := SMap.set (fun _ => none) s.captured (barKey bar off) none } :=
  exec_counterRead_word h4 hin ha (State.readWord_captured hrow hw hv)

/-- With no capture pending it returns the live word. -/
theorem exec_counterRead_live (h4 : off % 4 = 0) (hin : inBar bar off 4 = true) (ha : s.answers bar off = true)
    (hrow : rowOfKey (barKey bar off) = some (r, w)) (hw : w ≠ 0)
    (hv : SMap.get (fun _ => none) s.captured (barKey bar off) = none) :
    exec (.counterRead bar off 4) s
      = .next { s with readBack := some (BitVec.ofNat 64 (s.liveWord (barKey bar off)).toNat) } :=
  exec_counterRead_word h4 hin ha (State.readWord_live hrow hw hv)

end

/-- Settles O6: the low word is held, and the write of the high word commits both. -/
theorem lowWordIsHeldUntilTheHighWord : Obligations.LowWordIsHeldUntilTheHighWord := by
  rintro bar off k data r s rfl h4 hin hlo hhi hw htl hth hrl hrh hil hih
  have hadd : barKey bar (off + 4) = barKey bar off + 4 := barKey_add bar off 4
  have hin0 : inBar bar (off + 0) 4 = true := inBar_add hin (by decide)
  have hin4 : inBar bar (off + 4) 4 = true := inBar_add hin (by decide)
  refine ⟨⟨{ s with held := SMap.set (fun _ => none) s.held (barKey bar off) (some data) }, ?_, rfl, ?_, fun j hj => ?_⟩,
    fun hc => ?_⟩
  · rw [exec_lowWordWrite]
    exact exec_registerWrite_word h4 hin0 htl (State.writeWord_held hrl hlo (by omega) hil)
  · rw [SMap.get_set_some, if_pos rfl]
  · rw [SMap.get_set_some, if_neg hj]
  · have hlow := State.reg_commitWords_held (k := barKey bar off) (w := 0) (v := data) hc (by omega : 0 + 1 < r.words)
    rw [Nat.mul_zero, Nat.add_zero] at hlow
    refine ⟨s.commitWords (barKey bar off) r data, ?_, State.commitWords_fields, State.reg_commitWords_last hc hw.symm,
      fun v hv => ?_, fun hv => ?_, State.held_commitWords (w := 0) (by omega), fun j hj hj' =>
        State.reg_commitWords_ne fun w hwr => ?_⟩
    · rw [exec_highWordWrite, ← hadd]
      refine exec_registerWrite_word (by omega) hin4 hth ?_
      rw [hadd]
      exact State.writeWord_last hrh hhi hw.symm (by decide) hih
    · rw [hlow, hv]; rfl
    · rw [hlow, hv]; rfl
    · obtain rfl | rfl : w = 0 ∨ w = 1 := by omega
      · exact hj
      · exact hj'

/-- Settles O7: the read of the low word captures, the read of the high word takes what is captured, a narrower read does
neither. -/
theorem lowWordReadCapturesTheHighWord : Obligations.LowWordReadCapturesTheHighWord := by
  rintro bar off k r s rfl h4 hin hlo hhi hw hal hah
  have hadd : barKey bar (off + 4) = barKey bar off + 4 := barKey_add bar off 4
  have hin0 : inBar bar (off + 0) 4 = true := inBar_add hin (by decide)
  have hin4 : inBar bar (off + 4) 4 = true := inBar_add hin (by decide)
  have h44 : (off + 4) % 4 = 0 := by omega
  rw [← hadd] at hhi
  refine ⟨?_, fun hv => ?_, fun v hv => ?_, fun i size hi hs hx hsum hai => ?_⟩
  · have hcap : SMap.get (fun _ => none) (s.firstRead (barKey bar off) r).captured (barKey bar (off + 4))
        = some (s.liveWord (barKey bar (off + 4))) := by
      rw [hadd]
      exact State.captured_firstRead (w := 1) (by decide) (by omega)
    have hah' : (s.firstRead (barKey bar off) r).answers bar (off + 4) = true := by
      rw [State.firstRead_fields]; exact hah
    refine ⟨_, exec_counterRead_first h4 hin0 hal hlo (by omega), rfl, hadd ▸ hcap, ?_, fun hrc => ?_,
      _, exec_counterRead_captured (w := 1) h44 hin4 hah' hhi (by decide) hcap, ?_, ?_⟩
    · rw [State.firstRead_fields]
    · rw [State.firstRead_of_rc_zero hrc]
    · rw [hadd]
    · rw [← hadd]
      exact (exec_counterRead_words h4 hin hal (State.readWord_first hlo (by omega))
        (State.readWord_captured hhi (by decide) hcap)).trans rfl
  · rw [← hadd] at hv ⊢
    exact exec_counterRead_live h44 hin4 hah hhi (by decide) hv
  · rw [← hadd] at hv ⊢
    exact exec_counterRead_captured h44 hin4 hah hhi (by decide) hv
  · exact exec_counterRead_narrow hs (inBar_add hin hsum) hai hx

/-- Settles O8: words 0 to 2 are held, the write of word 3 commits all four, the read of word 0 captures the others. -/
theorem fourWordsCommitTogether : Obligations.FourWordsCommitTogether := by
  rintro bar off k data r s rfl h16 hin hw hrow hserves
  have hadd := barKey_add bar off
  have hin4 : ∀ w, w < 4 → inBar bar (off + 4 * w) 4 = true := fun w hw4 => inBar_add hin (by omega)
  have h4 : ∀ w, (off + 4 * w) % 4 = 0 := fun w => by omega
  refine ⟨fun w hw3 => ?_, fun hc => ?_, fun hrc => ?_, fun w h0 hw4 => ⟨fun hv => ?_, fun v hv => ?_⟩,
    fun i size hi hs hx hsum hai => exec_counterRead_narrow hs (inBar_add hin hsum) hai hx⟩
  · obtain ⟨ht, -, hring, hig⟩ := hserves w (by omega)
    have hr := hrow w (by omega)
    rw [← hadd] at hring hig hr ⊢
    refine ⟨_, exec_registerWrite_word (h4 w) (hin4 w (by omega)) ht (State.writeWord_held hring hr (by omega) hig), rfl, ?_⟩
    rw [SMap.get_set_some, if_pos rfl]
  · obtain ⟨ht, -, hring, hig⟩ := hserves 3 (by decide)
    refine ⟨s.commitWords (barKey bar off) r data, ?_, State.commitWords_fields, State.reg_commitWords_last hc hw.symm,
      fun w hw3 => ⟨State.held_commitWords (by omega), fun v hv => ?_, fun hv => ?_⟩⟩
    · have hwr := State.writeWord_last hring (hrow 3 (by decide)) hw.symm (by decide) hig
      rw [Nat.add_sub_cancel, ← hadd] at hwr
      rw [exec_word3Write, ← hadd]
      exact exec_registerWrite_word (h4 3) (hin4 3 (by decide)) ht hwr
    · rw [State.reg_commitWords_held hc (by omega), hv]; rfl
    · rw [State.reg_commitWords_held hc (by omega), hv]; rfl
  · obtain ⟨-, ha, -, -⟩ := hserves 0 (by decide)
    refine ⟨_, exec_counterRead_first (by omega) (hin4 0 (by decide)) ha (hrow 0 (by decide)) (by omega), ?_,
      fun w h0 hw4 => State.captured_firstRead h0 (by omega)⟩
    rw [State.firstRead_of_rc_zero hrc]
  · obtain ⟨-, ha, -, -⟩ := hserves w hw4
    have hr := hrow w hw4
    rw [← hadd] at hv hr ⊢
    exact exec_counterRead_live (h4 w) (hin4 w hw4) ha hr (by omega) hv
  · obtain ⟨-, ha, -, -⟩ := hserves w hw4
    have hr := hrow w hw4
    rw [← hadd] at hv hr ⊢
    exact exec_counterRead_captured (h4 w) (hin4 w hw4) ha hr (by omega) hv

end Sys2Proof.Machine

/-! PROOFS, 00_scope.md. Fields of register words: what is read of a field after a store to it or to another one. -/

namespace Sys2Proof.Machine

section fields
variable {n lo len v lo' len' : Nat}

/-- A field is replaced between the bits above it and those below it. -/
theorem setBits_eq (n lo len v : Nat) :
    setBits n lo len v = 2 ^ lo * (2 ^ len * (n >>> (lo + len)) + v % 2 ^ len) + n % 2 ^ lo := by
  have hhi : n >>> lo = 2 ^ len * (n >>> (lo + len)) + bitsOf n lo len := by
    rw [bitsOf, Nat.shiftRight_add, Nat.shiftRight_eq_div_pow _ len, Nat.div_add_mod]
  have hn : n = 2 ^ lo * (n >>> lo) + n % 2 ^ lo := by
    rw [Nat.shiftRight_eq_div_pow, Nat.div_add_mod]
  rw [setBits, Nat.shiftLeft_eq, Nat.shiftLeft_eq]
  rw [hhi] at hn
  simp only [Nat.mul_add] at hn ⊢
  rw [Nat.mul_comm _ (2 ^ lo), Nat.mul_comm _ (2 ^ lo)]
  omega

theorem testBit_setBits (i : Nat) :
    (setBits n lo len v).testBit i = if lo ≤ i ∧ i < lo + len then v.testBit (i - lo) else n.testBit i := by
  rw [setBits_eq, Nat.testBit_two_pow_mul_add _ (Nat.mod_lt _ (Nat.two_pow_pos lo)),
    Nat.testBit_two_pow_mul_add _ (Nat.mod_lt _ (Nat.two_pow_pos len))]
  by_cases hlo : i < lo
  · rw [if_pos hlo, if_neg (by omega), Nat.testBit_mod_two_pow, decide_eq_true hlo, Bool.true_and]
  · rw [if_neg hlo]
    by_cases hhi : i - lo < len
    · rw [if_pos hhi, if_pos (by omega), Nat.testBit_mod_two_pow, decide_eq_true hhi, Bool.true_and]
    · rw [if_neg hhi, if_neg (by omega), Nat.testBit_shiftRight, show lo + len + (i - lo - len) = i by omega]

theorem testBit_bitsOf (i : Nat) : (bitsOf n lo len).testBit i = (decide (i < len) && n.testBit (lo + i)) := by
  rw [bitsOf, Nat.testBit_mod_two_pow, Nat.testBit_shiftRight]

theorem bitsOf_setBits : bitsOf (setBits n lo len v) lo len = v % 2 ^ len := by
  apply Nat.eq_of_testBit_eq
  intro i
  rw [testBit_bitsOf, testBit_setBits, Nat.testBit_mod_two_pow]
  grind

/-- The bits of another field stay. -/
theorem bitsOf_setBits_of_disjoint (h : lo' + len' ≤ lo ∨ lo + len ≤ lo') :
    bitsOf (setBits n lo len v) lo' len' = bitsOf n lo' len' := by
  apply Nat.eq_of_testBit_eq
  intro i
  rw [testBit_bitsOf, testBit_bitsOf, testBit_setBits]
  grind

theorem setBits_lt {w : Nat} (hn : n < 2 ^ w) (h : lo + len ≤ w) : setBits n lo len v < 2 ^ w := by
  apply Nat.lt_pow_two_of_testBit
  intro i hi
  rw [testBit_setBits, if_neg (by omega)]
  exact Nat.testBit_lt_two_pow (hn.trans_le (Nat.pow_le_pow_right (by decide) hi))

end fields

section
variable {s : State} {k lo len v lo' len' : Nat}

theorem State.toNat_reg_setRegFld (hc : s.canonical = true) (h : lo + len ≤ 32) :
    ((s.setRegFld k lo len v).reg k).toNat = setBits (s.reg k).toNat lo len v := by
  rw [State.setRegFld, State.reg_setReg hc, if_pos rfl, BitVec.toNat_ofNat,
    Nat.mod_eq_of_lt (setBits_lt (s.reg k).isLt h)]

/-- A field that was stored. -/
theorem State.regFld_setRegFld (hc : s.canonical = true) (h : lo + len ≤ 32) :
    (s.setRegFld k lo len v).regFld k lo len = v % 2 ^ len := by
  rw [State.regFld, fld, State.toNat_reg_setRegFld hc h, bitsOf_setBits]

/-- Another field of the register. -/
theorem State.regFld_setRegFld_of_disjoint (hc : s.canonical = true) (h : lo + len ≤ 32)
    (hd : lo' + len' ≤ lo ∨ lo + len ≤ lo') : (s.setRegFld k lo len v).regFld k lo' len' = s.regFld k lo' len' := by
  rw [State.regFld, fld, State.toNat_reg_setRegFld hc h, bitsOf_setBits_of_disjoint hd]
  rfl

end

end Sys2Proof.Machine

/-! PROOFS, 00_scope.md. The memory channels: one lemma per command and outcome, then the statement. -/

namespace Sys2Proof.Machine

section channels
variable {s : State} {ch : Fin 80} {i : Nat}

/-- Two changes that agree on the channel as it is are the same change. -/
theorem State.modChan_congr {c : Nat} {f g : Channel → Channel} (h : f (s.chan c) = g (s.chan c)) :
    s.modChan c f = s.modChan c g := by
  unfold State.modChan; rw [h]

/-- The state in which queued read `i` of a channel has been read from its row, with the errors found in its units (R299,
R315). -/
def State.fillRead (s : State) (ch i : Nat) (units : List Nat) : State :=
  (((s.refreshFirst ch).correct ch units).countBad ch units).modChan ch (fun c => { c with reads := delNth c.reads i })

/-- A fill that cannot be performed waits (R306, R312). -/
theorem exec_channelRead_waits {r : ChRead} (hr : (s.chan ch.val).reads[i]? = some r)
    (h : s.chServes ch.val = false ∨ s.inWindow ch.val = true ∨ s.fillReady ch.val r = false) :
    exec (.channelRead ch i) s = .next s := by
  change execChannelRead ch i s = _
  unfold execChannelRead
  rw [hr]
  dsimp only
  rw [if_pos (by simpa using h)]
  rfl

/-- A fill in its turn, or one that a host read needs, is answered (R306, R398); it fails where a unit cannot be corrected (R315). -/
theorem exec_channelRead_answers {r : ChRead} {units : List Nat} {bad : Bool} (hr : (s.chan ch.val).reads[i]? = some r)
    (hs : s.chServes ch.val = true) (hw : s.inWindow ch.val = false) (hf : s.fillReady ch.val r = true)
    (ht : s.hostFill r = true ∨ (s.hostFirst ch.val r.vd r.line r.sector = false
      ∧ s.turnOf ch.val false (r.vd, r.line) = true))
    (hu : units = s.readUnits r) (hb : bad = units.any (fun x => decide ((s.chan ch.val).fault x = .uncorrectable))) :
    exec (.channelRead ch i) s = .next (((s.fillRead ch.val i units).sendDem r.vd (.fill r.slice ⟨r.line, r.sector,
        if bad then List.replicate 256 0 else s.memSector r.vd r.line r.sector, bad⟩) 4 (.bd (bdOfChan ch.val))
        (.slice r.slice)).served ch.val false (r.vd, r.line)) := by
  subst hu hb
  change execChannelRead ch i s = _
  unfold execChannelRead
  rw [hr]
  dsimp only
  rw [if_neg (by simp [hs, hw, hf]), if_neg (by rcases ht with h | ⟨h1, h2⟩ <;> simp [*])]
  rfl

/-- A queued write in its turn takes effect on memory where the units it merges with can be read, and is discarded where one cannot
(R306, R307, R315). -/
theorem exec_channelWrite_serves {w : ChWrite} (hr : (s.chan ch.val).writes[i]? = some w)
    (hs : s.chServes ch.val = true) (hw : s.inWindow ch.val = false) (hf : s.writeReady ch.val w = true)
    (hh : s.hostFirst ch.val w.vd w.line w.sector = false) (ht : s.turnOf ch.val true (w.vd, w.line) = true)
    {u : State} (hu : u = (s.refreshFirst ch.val).correct ch.val (mergeUnits w.key w.mask)) :
    exec (.channelWrite ch i) s = .next ((if (u.chan ch.val).mergeFails w.key w.mask then u.mergeDiscard ch.val i w 0
      else (u.modChan ch.val (fun c => { c with writes := delNth c.writes i })).memWrite ch.val w.key w.mask w.data).served
        ch.val true (w.vd, w.line)) := by
  subst hu
  change execChannelWrite ch i s = _
  unfold execChannelWrite
  rw [hr]
  dsimp only
  rw [if_neg (by simp [hs, hw, hf, hh, ht])]
  rfl

/-- The state in which a refresh has fallen due (R309): outside a window the interval that MR4 asked for begins. -/
def State.refreshDue (s : State) (ch : Nat) : State :=
  if s.inWindow ch then s else s.setRegBit (Reg.memctlChStatus ch) 15 (s.chan ch).hotNext

theorem State.chan_refreshDue {c d : Nat} : (s.refreshDue c).chan d = s.chan d := by
  unfold State.refreshDue State.chan
  split
  · rfl
  · rw [State.setRegBit_chans]

/-- A refresh that has to wait is postponed, or issued where eight are outstanding; else it and those postponed are issued
(R309, R318). -/
theorem exec_refpb {during wait : Bool} (hs : s.chServes ch.val = true)
    (hw : wait = (s.inWindow ch.val || (during && (s.chan ch.val).busy))) :
    exec (.refpb ch during) s = .next ((s.refreshDue ch.val).modChan ch.val (fun c =>
      if wait = true ∧ c.postponed < 8 then { c with postponed := c.postponed + 1 }
      else if wait then { c with pair := (c.pair + 1) % 8 }
      else { c with postponed := c.postponed + 1 }.refresh)) := by
  subst hw
  change execRefpb ch during s = _
  unfold execRefpb
  rw [if_neg (not_not_intro hs)]
  rfl

@[simp] theorem State.reg_modChan {c k : Nat} {f : Channel → Channel} : (s.modChan c f).reg k = s.reg k := by
  unfold State.reg; rw [State.modChan_regs]

@[simp] theorem State.regFld_modChan {c k lo len : Nat} {f : Channel → Channel} :
    (s.modChan c f).regFld k lo len = s.regFld k lo len := by
  unfold State.regFld; rw [State.reg_modChan]

/-- A field store with a change of a channel touches the register file and that channel alone. -/
theorem State.setRegFld_modChan_fields {c k lo len v : Nat} {f : Channel → Channel} : (s.setRegFld k lo len v).modChan c f
    = State.modChan { s with regs := ((s.setRegFld k lo len v).modChan c f).regs } c f := by
  rw [State.modChan_regs]; rfl

/-- MR4 notes the temperature and, for the next refresh, the interval it asks for (R309). -/
theorem exec_mr4Read {temp : Nat} (h : s.chState ch.val = 1) : exec (.mr4Read ch temp) s
    = .next ((s.setRegFld (Reg.memctlChStatus ch.val) 16 8 temp).modChan ch.val (fun c =>
      { c with hotNext := decide (85 < temp) })) := by
  change execMr4Read ch temp s = _
  unfold execMr4Read
  rw [if_neg (not_not_intro h)]
  rfl

end channels

section retraining
variable {s : State} {ch : Fin 80} {inRange : Bool}

/-- A window of a channel opens only where one is due and may open, and is no retry (R312). -/
theorem exec_retrainingWindow_waits
    (h : (s.chan ch.val).retry = true ∨ s.retrainDue ch.val = false ∨ s.windowFree ch.val = false) :
    exec (.retrainingWindow ch inRange) s = .next s := by
  change execRetrainingWindow ch inRange s = _
  unfold execRetrainingWindow
  rw [if_pos (by simpa using .inr h)]
  rfl

theorem exec_retrainingWindow_opens (hs : s.chServes ch.val = true) (hf : s.windowFree ch.val = true)
    (hr : (s.chan ch.val).retry = false) (hd : s.retrainDue ch.val = true) :
    exec (.retrainingWindow ch inRange) s = .next (s.window ch.val (!inRange)) := by
  change execRetrainingWindow ch inRange s = _
  unfold execRetrainingWindow
  rw [if_neg (by simp [hs, hf, hr, hd])]
  rfl

/-- A retry comes only after a failed window, 1 ms later (R312). -/
theorem exec_retrainingRetry_waits
    (h : (s.chan ch.val).retry = false ∨ s.time.toNat < (s.chan ch.val).retryAt ∨ s.windowFree ch.val = false) :
    exec (.retrainingRetry ch inRange) s = .next s := by
  change execRetrainingRetry ch inRange s = _
  unfold execRetrainingRetry
  rw [if_pos (by simpa using .inr h)]
  rfl

/-- The retry opens a window; beyond the correctable range again, the channel is retired (R312, R313). -/
theorem exec_retrainingRetry_due (hs : s.chServes ch.val = true) (hf : s.windowFree ch.val = true)
    (hr : (s.chan ch.val).retry = true) (hd : (s.chan ch.val).retryAt ≤ s.time.toNat) :
    exec (.retrainingRetry ch inRange) s = .next (if inRange then s.window ch.val false
      else (s.bump (Reg.memctlChRetrains ch.val)).retire ch.val 9) := by
  change execRetrainingRetry ch inRange s = _
  unfold execRetrainingRetry
  rw [if_neg (by simp [hs, hf, hr, hd])]
  rfl

theorem exec_trainingTimeout (hm : s.clock.mode = .starting) (hs : s.clock.step = 5) (h : s.chState ch.val = 0) :
    exec (.trainingTimeout ch) s = .next
      (((s.setRegFld (Reg.memctlChStatus ch.val) 30 2 2).setRegFld (Reg.memctlChStatus ch.val) 8 4 10).record
        (ErrRec.mk0 1 5 3 ch.val)) :=
  congrArg ok (if_pos ⟨hm, hs, h⟩)

end retraining

/-- Settles O29, command by command: reads, writes, refresh, MR4, then the window, its retry and the training timeout. -/
theorem channelsServeRefreshAndRetrain : Obligations.ChannelsServeRefreshAndRetrain := by
  refine ⟨fun s u ch i temp r w units bad => ⟨fun hr => ⟨exec_channelRead_waits hr, ?_⟩, ?_, ?_, ?_⟩,
    fun s u ch inRange hu => ⟨fun hs hf => ⟨fun hr hd => ⟨?_, ?_⟩, fun hr hd => ⟨?_, ?_⟩⟩, exec_retrainingWindow_waits,
      exec_retrainingRetry_waits, exec_trainingTimeout⟩⟩
  · rintro hs hw hf ht hu hb rfl
    exact exec_channelRead_answers hr hs hw hf ht hu hb
  · intro hr hs hw hf hh ht hu
    rw [exec_channelWrite_serves hr hs hw hf hh ht hu]
    refine ⟨fun h => by rw [h]; rfl, fun h => by rw [h]; rfl⟩
  · intro during wait hs hwait hu
    have hu' : u = s.refreshDue ch.val := hu
    have hp : (u.chan ch.val).postponed = (s.chan ch.val).postponed := by rw [hu', State.chan_refreshDue]
    rw [exec_refpb hs hwait, ← hu']
    refine ⟨fun hw h8 => ?_, fun hw h8 => ?_, fun hw => ?_⟩
    · exact congrArg _ (State.modChan_congr (if_pos ⟨hw, hp ▸ h8⟩))
    · exact congrArg _ (State.modChan_congr ((if_neg (by omega)).trans (if_pos hw)))
    · exact congrArg _ (State.modChan_congr ((if_neg (by simp [hw])).trans (if_neg (by simp [hw]))))
  · intro hc h1 ht
    have hfld := State.regFld_setRegFld (k := Reg.memctlChStatus ch.val) (lo := 16) (len := 8) (v := temp) hc (by decide)
    have hst := State.regFld_setRegFld_of_disjoint (k := Reg.memctlChStatus ch.val) (lo := 16) (len := 8) (v := temp)
      (lo' := 30) (len' := 2) hc (by decide) (by decide)
    refine ⟨_, exec_mr4Read h1, State.setRegFld_modChan_fields, ?_, ?_, fun k hk => ?_⟩
    · rw [State.regFld_modChan, hfld]; exact Nat.mod_eq_of_lt ht
    · rw [State.chState, State.regFld_modChan, hst]; exact h1
    · rw [State.reg_modChan, State.reg_setRegFld_ne hk]
  · rw [exec_retrainingWindow_opens hs hf hr hd, hu]; rfl
  · rw [exec_retrainingWindow_opens hs hf hr hd, hu]; rfl
  · exact exec_retrainingRetry_due hs hf hr hd
  · rw [exec_retrainingRetry_due hs hf hr hd, hu]; rfl

end Sys2Proof.Machine

/-! PROOFS, 01_module_and_planes.md. Register words: several words stored one after the other, and single bits. -/

namespace Sys2Proof.Machine

section words
variable {s : State} {k i v lo len : Nat}

theorem State.canonical_setRegFld (hc : s.canonical = true) : (s.setRegFld k lo len v).canonical = true :=
  State.canonical_setReg hc

theorem State.setRegFld_fields : s.setRegFld k lo len v = { s with regs := (s.setRegFld k lo len v).regs } := rfl

theorem State.setRegBit_fields {b : Bool} : s.setRegBit k i b = { s with regs := (s.setRegBit k i b).regs } := rfl

/-- Two updates of the register file alone, one after the other, are one. -/
theorem State.regs_fields_trans {t u : State} (ht : t = { s with regs := t.regs }) (hu : u = { t with regs := u.regs }) :
    u = { s with regs := u.regs } :=
  hu.trans (by rw [ht])

theorem State.reg_setReg64_ne (hlo : i ≠ k) (hhi : i ≠ k + 4) : (s.setReg64 k v).reg i = s.reg i :=
  (State.reg_setReg_ne hhi).trans (State.reg_setReg_ne hlo)

theorem State.reg64_setReg64 (hc : s.canonical = true) (hv : v < 2 ^ 64) : (s.setReg64 k v).reg64 k = v := by
  unfold State.reg64 State.setReg64
  rw [State.reg_setReg_ne (by omega), State.reg_setReg hc, if_pos rfl, State.reg_setReg (State.canonical_setReg hc),
    if_pos rfl, BitVec.toNat_ofNat, BitVec.toNat_ofNat]
  omega

theorem State.setRegs_fields {ws : List W32} : s.setRegs k ws = { s with regs := (s.setRegs k ws).regs } := by
  induction ws generalizing s k with
  | nil => rfl
  | cons w ws ih => exact ih

theorem State.reg_setRegs_below {ws : List W32} (h : i < k) : (s.setRegs k ws).reg i = s.reg i := by
  induction ws generalizing s k with
  | nil => rfl
  | cons w ws ih => exact (ih (by omega)).trans (State.reg_setReg_ne (by omega))

theorem State.reg_setRegs {ws : List W32} (hc : s.canonical = true) (hi : i < ws.length) :
    (s.setRegs k ws).reg (k + 4 * i) = ws[i] := by
  induction ws generalizing s k i with
  | nil => cases hi
  | cons w ws ih =>
    cases i with
    | zero =>
      rw [Nat.mul_zero, Nat.add_zero, State.setRegs, State.reg_setRegs_below (by omega), State.reg_setReg hc, if_pos rfl]
      rfl
    | succ i =>
      rw [show k + 4 * (i + 1) = k + 4 + 4 * i by omega]
      exact ih (State.canonical_setReg hc) (Nat.lt_of_succ_lt_succ hi)

/-- A field of one bit is the bit. -/
theorem fld_one_eq_getLsbD {w : Nat} (x : BitVec w) (i : Nat) : (fld x i 1 == 1) = x.getLsbD i := by
  rw [fld, bitsOf, BitVec.getLsbD, Nat.testBit_eq_decide_div_mod_eq, Nat.shiftRight_eq_div_pow, Nat.pow_one]
  rfl

end words

end Sys2Proof.Machine

/-! PROOFS, 01_module_and_planes.md. Accesses of the CXL window: hits go to their home, misses are answered at the port. -/

namespace Sys2Proof.Machine

section hits
variable {s : State} {r : HReq} {i x : Nat}

/-- A request of the host port other than a write goes to its home as a reed message (R391). -/
theorem State.request_host (hi : s.homeSlice r.vd (lineOf r.addr) = some i) (hs : r.src = .host x) (hk : r.kind ≠ .write) :
    s.request r = s.sendReed r.vd (.req i r) .iod (.slice i) := by
  unfold State.request
  simp [hi, hs, hk, State.srcSite, ReqSrc.isHost]

/-- A write of the host port sends its data to the home as a demand message and its control part as a reed message (R28, R391). -/
theorem State.request_hostWrite (hi : s.homeSlice r.vd (lineOf r.addr) = some i) (hs : r.src = .host x) (hk : r.kind = .write) :
    s.request r = (s.sendDem r.vd (.req i r) (chunksOf r.len) .iod (.slice i) false false).sendReed r.vd (.part s.fab.nextId)
      .iod (.slice i) := by
  unfold State.request
  simp [hi, hs, hk, State.srcSite, ReqSrc.isHost]

end hits

/-- The bytes of a line that a mask enables, with their addresses from `base` upward (R391). -/
def maskedBytes (base : Nat) (bytes : List Byte) (be : W64) : List (Nat × Byte) :=
  ((List.range 64).filter (fun i => fld be i 1 == 1)).map (fun i => (base + i, nth 0 bytes i))

theorem maskedBytes_allOnes (base : Nat) (bytes : List Byte) :
    maskedBytes base bytes (BitVec.allOnes 64) = (List.range 64).map (fun i => (base + i, nth 0 bytes i)) := by
  have h : (List.range 64).filter (fun i => fld (BitVec.allOnes 64) i 1 == 1) = List.range 64 :=
    List.filter_eq_self.mpr fun i hi => by
      rw [fld_one_eq_getLsbD, BitVec.getLsbD_allOnes]; exact decide_eq_true (List.mem_range.mp hi)
  rw [maskedBytes, h]

theorem maskedBytes_eq_nil {base : Nat} {bytes : List Byte} {be : W64} : maskedBytes base bytes be = [] ↔ be = 0 := by
  simp only [maskedBytes, List.map_eq_nil_iff, List.filter_eq_nil_iff, List.mem_range, fld_one_eq_getLsbD]
  refine ⟨fun h => BitVec.eq_of_getLsbD_eq fun i hi => ?_, fun h i _ => by simp [h]⟩
  simpa using h i hi

/-- The request that a write of the host port to a line of a device sends to its home (R391). -/
def State.hostWriteReq (s : State) (n a : Nat) (bytes : List Byte) (be : W64) : HReq :=
  ⟨.write, n, a / 64 * 64, 64, maskedBytes (a / 64 * 64) bytes be, false, .host s.host.nextId, false,
    s.earlyAck n (a / 64 * 64), false⟩

section windows
variable {s : State} {dpa n a i : Nat} {bytes : List Byte} {be : W64}

theorem exec_memwr : exec (.memwr dpa bytes) s = exec (.memwrptl dpa bytes (BitVec.allOnes 64)) s := rfl

/-- A read that hits a window is taken and sent to its home (R388, R391). -/
theorem exec_memrd_hit (hl : s.linkUp = true) (hw : s.windowHit dpa = some (n, a))
    (hi : s.homeSlice n (lineOf (a / 64 * 64)) = some i) :
    exec (.memrd dpa) s = .next ((s.hostTake true dpa none).sendReed n
      (.req i ⟨.coherent, n, a / 64 * 64, 64, [], false, .host s.host.nextId, false, false, false⟩) .iod (.slice i)) := by
  refine congrArg ok ?_
  unfold State.hostRead64
  rw [if_neg (not_not_intro hl), hw]
  exact State.request_host hi rfl ReqKind.noConfusion

/-- A write that hits a window and enables a byte is taken and sent to its home (R388, R391). -/
theorem exec_memwrptl_hit (hl : s.linkUp = true) (hw : s.windowHit dpa = some (n, a))
    (hi : s.homeSlice n (lineOf (a / 64 * 64)) = some i) (hb : be ≠ 0) :
    exec (.memwrptl dpa bytes be) s = .next (((s.hostTake false dpa none).sendDem n (.req i (s.hostWriteReq n a bytes be))
      (chunksOf 64) .iod (.slice i) false false).sendReed n (.part s.fab.nextId) .iod (.slice i)) := by
  refine congrArg ok ?_
  have hne : (maskedBytes (a / 64 * 64) bytes be).isEmpty ≠ true := by
    rwa [Ne, List.isEmpty_iff, maskedBytes_eq_nil]
  unfold State.hostWrite64
  rw [if_neg (not_not_intro hl), hw]
  exact (if_neg hne).trans (State.request_hostWrite (r := s.hostWriteReq n a bytes be) hi rfl rfl)

/-- A write that hits a window and enables no byte takes Cmp as its response (R391). -/
theorem exec_memwrptl_empty (hl : s.linkUp = true) (hw : s.windowHit dpa = some (n, a)) :
    exec (.memwrptl dpa bytes 0) s = .next (s.hostTake false dpa (some [])) := by
  refine congrArg ok ?_
  unfold State.hostWrite64
  rw [if_neg (not_not_intro hl), hw]
  exact if_pos (List.isEmpty_iff.mpr (maskedBytes_eq_nil.mpr rfl))

theorem exec_memrd_miss (hl : s.linkUp = true) (hw : s.windowHit dpa = none) :
    exec (.memrd dpa) s = .next ((s.windowMiss dpa).hostTake true dpa (some (List.replicate 64 0))) := by
  refine congrArg ok ?_
  unfold State.hostRead64
  rw [if_neg (not_not_intro hl), hw]

theorem exec_memwrptl_miss (hl : s.linkUp = true) (hw : s.windowHit dpa = none) :
    exec (.memwrptl dpa bytes be) s = .next ((s.windowMiss dpa).hostTake false dpa (some [])) := by
  refine congrArg ok ?_
  unfold State.hostWrite64
  rw [if_neg (not_not_intro hl), hw]

end windows

section misses
variable {s : State} {dpa k : Nat}

/-- The address of a window miss is captured while VALID is clear (R390). -/
def State.missCaptured (s : State) (dpa : Nat) : State :=
  if s.regBit (Reg.hostportMissAddr + 4) 31 then s else s.setReg64 Reg.hostportMissAddr (2 ^ 63 + dpa / 64 * 64 % 2 ^ 40)

theorem State.windowMiss_eq : s.windowMiss dpa
    = if ((s.bump Reg.hostportMiss).missCaptured dpa).regBit Reg.hostportCtrl 1
      then ((s.bump Reg.hostportMiss).missCaptured dpa).vecPf 3 else (s.bump Reg.hostportMiss).missCaptured dpa := rfl

theorem State.missCaptured_fields : s.missCaptured dpa = { s with regs := (s.missCaptured dpa).regs } := by
  unfold State.missCaptured
  split <;> rfl

theorem State.reg_missCaptured_ne (hlo : k ≠ Reg.hostportMissAddr) (hhi : k ≠ Reg.hostportMissAddr + 4) :
    (s.missCaptured dpa).reg k = s.reg k := by
  unfold State.missCaptured
  split
  · rfl
  · exact State.reg_setReg64_ne hlo hhi

theorem State.windowMiss_fields :
    s.windowMiss dpa = { s with regs := (s.windowMiss dpa).regs, vectors := (s.windowMiss dpa).vectors } := by
  rw [State.windowMiss_eq, State.missCaptured_fields]
  split <;> rfl

/-- A window miss stores registers as its count and its capture do. -/
theorem State.reg_windowMiss : (s.windowMiss dpa).reg k = ((s.bump Reg.hostportMiss).missCaptured dpa).reg k := by
  rw [State.windowMiss_eq]
  split <;> rfl

theorem State.reg_windowMiss_count (hc : s.canonical = true) :
    (s.windowMiss dpa).reg Reg.hostportMiss = satInc32 (s.reg Reg.hostportMiss) := by
  rw [State.reg_windowMiss, State.reg_missCaptured_ne (by decide) (by decide), State.reg_bump hc, if_pos rfl]

theorem State.reg64_windowMiss : (s.windowMiss dpa).reg64 k = ((s.bump Reg.hostportMiss).missCaptured dpa).reg64 k := by
  unfold State.reg64
  rw [State.reg_windowMiss, State.reg_windowMiss]

theorem State.regBit_bump_ne {j b : Nat} (h : k ≠ j) : (s.bump j).regBit k b = s.regBit k b := by
  unfold State.regBit
  rw [State.reg_bump_ne h]

/-- While VALID is set the captured address stays (R390). -/
theorem State.reg64_windowMiss_valid (hv : s.regBit (Reg.hostportMissAddr + 4) 31 = true) :
    (s.windowMiss dpa).reg64 Reg.hostportMissAddr = s.reg64 Reg.hostportMissAddr := by
  rw [State.reg64_windowMiss, State.missCaptured, if_pos ((State.regBit_bump_ne (by decide)).trans hv)]
  unfold State.reg64
  rw [State.reg_bump_ne (by decide), State.reg_bump_ne (by decide)]

/-- While VALID is clear the address of the line is captured and VALID sets (R390). -/
theorem State.reg64_windowMiss_clear (hc : s.canonical = true) (hv : s.regBit (Reg.hostportMissAddr + 4) 31 = false) :
    (s.windowMiss dpa).reg64 Reg.hostportMissAddr = 2 ^ 63 + dpa / 64 * 64 % 2 ^ 40 := by
  rw [State.reg64_windowMiss, State.missCaptured, (State.regBit_bump_ne (by decide)).trans hv]
  exact State.reg64_setReg64 (State.canonical_setReg hc) (by omega)

/-- A window miss raises PF vector 3 where MISS_EVENT is set (R390). -/
theorem State.vectors_windowMiss :
    (s.windowMiss dpa).vectors = if s.regBit Reg.hostportCtrl 1 then (none, 3) :: s.vectors else s.vectors := by
  have hb : ((s.bump Reg.hostportMiss).missCaptured dpa).regBit Reg.hostportCtrl 1 = s.regBit Reg.hostportCtrl 1 := by
    unfold State.regBit
    rw [State.reg_missCaptured_ne (by decide) (by decide), State.reg_bump_ne (by decide)]
  rw [State.windowMiss_eq, hb, State.missCaptured_fields]
  split <;> rfl

/-- A request taken behind a window miss is taken as without it. -/
theorem State.windowMiss_hostTake {read : Bool} {resp : Option (List Byte)} : (s.windowMiss dpa).hostTake read dpa resp
    = { s.hostTake read dpa resp with regs := (s.windowMiss dpa).regs, vectors := (s.windowMiss dpa).vectors } := by
  rw [State.windowMiss_fields]
  rfl

end misses

/-- Settles O38: a hit by the two kinds of message that a home takes, a miss by its count, its capture and its vector. -/
theorem windowAccessesAreAnswered : Obligations.WindowAccessesAreAnswered := by
  refine ⟨fun s dpa n a i bytes be hl hw hi => ⟨?_, fun x bs hx => ⟨?_, ?_⟩, ?_⟩, fun s dpa bytes be hc hl hw => ?_⟩
  · rintro x rfl
    exact exec_memrd_hit hl hw hi
  · rintro rfl
    rw [exec_memwr, exec_memwrptl_hit hl hw hi (by decide), State.hostWriteReq, maskedBytes_allOnes, hx]
    rfl
  · rintro hb rfl
    rw [exec_memwrptl_hit hl hw hi hb, hx]
    rfl
  · rintro rfl
    exact exec_memwrptl_empty hl hw
  · exact ⟨_, _, exec_memrd_miss hl hw, exec_memwr.trans (exec_memwrptl_miss hl hw), exec_memwrptl_miss hl hw,
      State.windowMiss_hostTake, State.windowMiss_hostTake, State.reg_windowMiss_count hc, State.reg64_windowMiss_valid,
      State.reg64_windowMiss_clear hc, State.vectors_windowMiss⟩

end Sys2Proof.Machine

/-! PROOFS, 01_module_and_planes.md. Reductions: arrival of a chunk at its router, expiry of an entry. -/

namespace Sys2Proof.Machine

section reductions
variable {s t : State} {b : Fin 4} {i x y : Nat} {c : Chunk} {e : RedEntry}

/-- The entry that a reduction chunk has joined (R186). -/
def RedEntry.joined (e : RedEntry) (c : Chunk) : RedEntry :=
  { e with
    sum := addChunks e.op e.sum c.data, count := e.count + 1, landFrame := c.landFrame, landBeat := c.landBeat
    landPos := c.landPos, from_ := e.from_ ++ [(c.eng, c.desc)] }

theorem State.redJoin_eq (he : s.fab.redEntries[y]? = some e) : s.redJoin y c
    = if e.contrib ≤ e.count + 1 then s.redDone y (e.joined c)
      else { s with fab := { s.fab with redEntries := s.fab.redEntries.set y (e.joined c) } } := by
  unfold State.redJoin
  rw [he]
  rfl

section
variable (hx : (chunkIdx s.fab.chunks (fun c => c.addsAt b.val))[i]? = some x) (hc : s.fab.chunks[x]? = some c)
include hx hc

/-- A chunk that awaits its replay or whose passage is not over does not arrive (R186, R194). -/
theorem exec_reductionChunkArrival_waits (h : c.bad = true ∨ s.fclk + 16 ≤ c.arrives) :
    exec (.reductionChunkArrival b i) s = .next s := by
  refine congrArg ok ?_
  rw [hx]
  dsimp only
  rw [hc]
  exact if_pos h

section
variable (hb : c.bad = false) (ha : c.arrives < s.fclk + 16) (ht : t = s.dropChunk x)
include hb ha ht

/-- A chunk that arrives joins the entry of its destination (R186). -/
theorem exec_reductionChunkArrival_joins (hp : t.redPlace c = some y) :
    exec (.reductionChunkArrival b i) s = .next (t.redJoin y c) := by
  subst ht
  refine congrArg ok ?_
  rw [hx]
  dsimp only
  rw [hc]
  dsimp only
  rw [if_neg (by simp [hb, ha]), hp]

/-- Where its destination has no entry, it opens one, or is beyond the reservation of its running job (R187, R188). -/
theorem exec_reductionChunkArrival_opens (hp : t.redPlace c = none) : exec (.reductionChunkArrival b i) s
    = .next (if (t.liveJob c.vd).isSome ∧ t.redReserved c.vd b.val
          ≤ (t.fab.redEntries.filter (fun e => decide (e.vd = c.vd) && decide (e.bd = b.val))).length
        then t.overrun c.vd c.eng c.desc else t.redOpen b.val c (c.red.getD (0, 1, b.val))) := by
  subst ht
  refine congrArg ok ?_
  rw [hx]
  dsimp only
  rw [hc]
  dsimp only
  rw [if_neg (by simp [hb, ha]), hp]

end

end

/-- The first of at least two contributors opens an entry, which stays open (R186). -/
theorem State.redOpen_eq {b op n bd : Nat} (hn : 2 ≤ n) : s.redOpen b c (op, n, bd) = { s with fab := { s.fab with
    redEntries := s.fab.redEntries ++ [⟨b, c.vd, c.dst, c.data, 1, n, op, c.desc, c.eng, c.landFrame, c.landBeat,
      c.landPos, c.due, [(c.eng, c.desc)]⟩] } } :=
  if_neg (show ¬ n ≤ 1 by omega)

/-- An entry in time is left open; an entry left short is freed, and its job overruns (R188). -/
theorem exec_reductionEntryExpiry (hy : (s.redAt b.val)[i]? = some y) (he : s.fab.redEntries[y]? = some e)
    (ht : t = { s with fab := { s.fab with redEntries := delNth s.fab.redEntries y } }) :
    exec (.reductionEntryExpiry b i) s = .next (if s.frame < e.due + 2 then s
      else if (t.liveJob e.vd).isSome then t.overrun e.vd e.openEng e.opener else t) := by
  subst ht
  refine congrArg ok ?_
  rw [hy]
  dsimp only
  rw [he]

end reductions

end Sys2Proof.Machine

/-! PROOFS, 01_module_and_planes.md. The links: credits of the reed channel, causeway replay, the table commit. -/

namespace Sys2Proof.Machine

/-- The link direction that has a number. -/
def linkOf (l : Nat) : Option Link :=
  if h : l < 96 then some (.coreSend ⟨l, h⟩)
  else if h : l - 96 < 96 then some (.coreRecv ⟨l - 96, h⟩)
  else if h : l - 192 < 512 then some (.sliceSend ⟨l - 192, h⟩)
  else if h : l - 704 < 512 then some (.sliceRecv ⟨l - 704, h⟩)
  else if h : (l - 1216) / 2 < 8 then some (.causeway ⟨(l - 1216) / 2, h⟩ (decide (l % 2 = 1)))
  else none

theorem linkOf_linkNo (x : Link) : linkOf (linkNo x) = some x := by
  unfold linkOf linkNo
  cases x with
  | coreSend c => rw [dif_pos c.isLt]
  | coreRecv c => simp
  | sliceSend i => simp [show ¬ 192 + i.val < 96 by omega, show ¬ 192 + i.val - 96 < 96 by omega]
  | sliceRecv i =>
    simp [show ¬ 704 + i.val < 96 by omega, show ¬ 704 + i.val - 96 < 96 by omega, show ¬ 704 + i.val - 192 < 512 by omega]
  | causeway n d =>
    have hn : (1216 + 2 * n.val + b2n d - 1216) / 2 = n.val := by cases d <;> simp [b2n]; omega
    have hd : decide ((1216 + 2 * n.val + b2n d) % 2 = 1) = d := by cases d <;> simp [b2n]; omega
    dsimp only
    rw [dif_neg (by omega), dif_neg (by omega), dif_neg (by omega), dif_neg (by omega), dif_pos (by omega)]
    simp [hn, hd]

/-- No two link directions have one number. -/
theorem linkNo_injective : Function.Injective linkNo := fun a b h =>
  Option.some_injective _ (by rw [← linkOf_linkNo a, h, linkOf_linkNo])

section credits
variable {s t : State} {l h : Nat} {m : ReedMsg} {f : ReedLink → ReedLink}

/-- The credits of a link are those of the fabric's table. -/
theorem State.link_congr (hl : t.fab.links = s.fab.links) : t.link l = s.link l := by
  unfold State.link
  rw [hl]

theorem State.link_modLink (hw : SMap.wf (fun _ => ReedLink.rest) s.fab.links = true) (l i : Nat) :
    (s.modLink l f).link i = if i = l then f (s.link l) else s.link i :=
  SMap.get_set _ _ _ _ hw _

theorem State.links_modLink_wf (hw : SMap.wf (fun _ => ReedLink.rest) s.fab.links = true) :
    SMap.wf (fun _ => ReedLink.rest) (s.modLink l f).fab.links = true :=
  SMap.wf_set _ _ _ _ hw

/-- A reed message leaves the queue of an output: in a flit on a causeway, a FLAGSET completing at a send port (R180, R193). -/
def State.reedLeaves (s : State) (l : Nat) (m : ReedMsg) : State :=
  let s := if isCauseway l then s.sendFlit l .reed m.vd 0 m.id [] else s
  let s := if l < 96 then s.leavesPort l m.body else s
  { s with fab := { s.fab with reed := s.fab.reed.filter (fun x => !decide (x.id = m.id)) } }

theorem State.leavesPort_fab {body : ReedBody} : (s.leavesPort l body).fab = s.fab := by
  unfold State.leavesPort
  split
  · split <;> rfl
  · rfl

/-- Leaving changes no credit. -/
theorem State.links_reedLeaves : (s.reedLeaves l m).fab.links = s.fab.links := by
  unfold State.reedLeaves
  dsimp only
  have hflit : (if isCauseway l then s.sendFlit l .reed m.vd 0 m.id [] else s).fab.links = s.fab.links := by
    split <;> rfl
  rw [← hflit]
  split
  · rw [State.leavesPort_fab]
  · rfl

/-- A message that goes on gives the link it came in on its credit back and takes one of its output (R177). -/
theorem State.links_forwardReed (hm : m.hold = some h) (hp : m.path.tail ≠ []) : (s.forwardReed l m).fab.links
    = (((s.modLink h (fun x => ⟨x.credits + 1, x.inFlight - 1⟩)).reedLeaves l m).modLink l
        (fun x => ⟨x.credits - 1, x.inFlight + 1⟩)).fab.links := by
  unfold State.forwardReed
  rw [hm]
  dsimp only
  split
  · exact absurd ‹_› hp
  · rfl

section
variable (hw : SMap.wf (fun _ => ReedLink.rest) s.fab.links = true) (hm : m.hold = some h) (hp : m.path.tail ≠ [])
  (hne : h ≠ l)
include hw hm hp hne

/-- The credits of every link after a message has gone on (R177). -/
theorem State.link_forwardReed (i : Nat) : (s.forwardReed l m).link i
    = if i = l then ⟨(s.link l).credits - 1, (s.link l).inFlight + 1⟩
      else if i = h then ⟨(s.link h).credits + 1, (s.link h).inFlight - 1⟩ else s.link i := by
  have hleft : ∀ j, ((s.modLink h (fun x => ⟨x.credits + 1, x.inFlight - 1⟩)).reedLeaves l m).link j
      = if j = h then ⟨(s.link h).credits + 1, (s.link h).inFlight - 1⟩ else s.link j := fun j =>
    (State.link_congr State.links_reedLeaves).trans (State.link_modLink hw h j)
  rw [State.link_congr (State.links_forwardReed hm hp), State.link_modLink, hleft, hleft, if_neg hne.symm]
  rw [State.links_reedLeaves]
  exact State.links_modLink_wf hw

end

end credits

section reed
variable {s : State} {out : Link} {src : Option Link} {m : ReedMsg} {mem : Nat}

/-- A retry request for the reverse direction goes before every message (R194). -/
theorem exec_reedMessageForward_retry {r : Replay}
    (h : s.fab.replays.find? (fun r => !r.asked && decide (otherWay r.link = linkNo out)) = some r) :
    exec (.reedMessageForward out src) s = .next { s with fab := { s.fab with replays := s.fab.replays.map (fun (x : Replay) =>
      if x = r then { x with asked := true } else x) } } := by
  refine congrArg ok ?_
  dsimp only
  rw [h]

section
variable (hr : s.fab.replays.find? (fun r => !r.asked && decide (otherWay r.link = linkNo out)) = none)
include hr

/-- Without a credit, or with nothing queued, no message leaves (R176, R177). -/
theorem exec_reedMessageForward_waits (h : (s.link (linkNo out)).credits = 0 ∨ s.reedHead (linkNo out) = none) :
    exec (.reedMessageForward out src) s = .next s := by
  refine congrArg ok ?_
  dsimp only
  rw [hr]
  dsimp only
  rcases h with h | h
  · exact if_pos h
  · rw [h]; exact ite_self s

/-- With a credit, the message whose turn it is leaves where it came in on the link that the command names (R176, R177). -/
theorem exec_reedMessageForward_head (hc : (s.link (linkNo out)).credits ≠ 0)
    (hh : s.reedHead (linkNo out) = some (mem, m)) : exec (.reedMessageForward out src) s
      = .next (if m.hold = src.map linkNo then (s.setTurn (linkNo out) true mem).forwardReed (linkNo out) m else s) := by
  refine congrArg ok ?_
  dsimp only
  rw [hr]
  dsimp only
  rw [if_neg hc, hh]

end

end reed

section replay
variable {s : State} {n : Fin 8} {dirB : Bool} {f : Flit} {x : SentFlit}

/-- A flit that fails its check for the first time is to be replayed (R194). -/
theorem exec_causewayCrcMismatch_first
    (hx : s.fab.sent.reverse.find? (fun x => decide (x.link = causewayLink n.val dirB) && decide (x.flit = f)) = some x)
    (h1 : x.replay = false)
    (hn : s.fab.replays.any (fun r => decide (r.link = causewayLink n.val dirB) && decide (r.flit = f)) = false) :
    exec (.causewayCrcMismatch n dirB f) s = .next (State.markItem { s with fab := { s.fab with
      replays := s.fab.replays ++ [⟨causewayLink n.val dirB, f, x.item, false⟩] } } x.item true) := by
  refine congrArg ok ?_
  rw [hx]
  dsimp only
  rw [h1, hn]
  rfl

section
variable (hx : s.fab.sent.reverse.find? (fun x => decide (x.link = causewayLink n.val dirB) && decide (x.flit = f)) = some x)
  (h1 : x.replay = true)
include hx h1

/-- A replayed reed flit that fails again stops the module (R194). -/
theorem exec_causewayCrcMismatch_reed (hk : f.kind = .reed) :
    exec (.causewayCrcMismatch n dirB f) s = .next (s.fatal (ErrRec.mk0 2 6 3 n.val)) := by
  refine congrArg ok ?_
  rw [hx]
  dsimp only
  rw [if_pos h1, hk]

/-- A replayed flit of another kind that carries something and fails again contains its owner (R194). -/
theorem exec_causewayCrcMismatch_owned (hk : f.kind ≠ .reed) (hi : f.kind ≠ .idle) :
    exec (.causewayCrcMismatch n dirB f) s = .next (s.contain f.vd [] [] (ErrRec.mk0 1 6 2 n.val)) := by
  refine congrArg ok ?_
  rw [hx]
  dsimp only
  rw [if_pos h1]
  cases hf : f.kind with
  | reed => exact absurd hf hk
  | idle => exact absurd hf hi
  | scheduled => rfl
  | demand => rfl

end

/-- The state in which the sender of link `l` has replayed a flit (R194): a scheduled or demand flit takes a demand position. -/
def State.replayed (s : State) (l : Nat) (reed : Bool) (r : Replay) (chunk : List Byte) : State :=
  { s with fab := { s.fab with
    replays := s.fab.replays.erase r
    spent := if reed then s.fab.spent
      else SMap.set (fun _ => (0 : Nat)) s.fab.spent l (SMap.get (fun _ => (0 : Nat)) s.fab.spent l + 1)
    sent := s.fab.sent ++ [⟨l, r.flit, chunk, r.item, s.time.toNat, true⟩] } }

/-- The oldest flit asked for is replayed and counted; its item has arrived where no other flit of it is due (R194). -/
theorem exec_retryRequest {l : Nat} {reed : Bool} {r : Replay} {chunk : List Byte} {u : State}
    (hl : l = causewayLink n.val dirB)
    (hr : s.fab.replays.find? (fun r => r.asked && decide (r.link = l) && (decide (r.flit.kind = .reed) == reed)) = some r)
    (hc : chunk = (s.fab.sent.find? (fun x => decide (x.link = l) && decide (x.flit = r.flit))).elim [] (fun x => x.chunk))
    (hu : u = s.replayed l reed r chunk) : exec (.retryRequest n ⟨dirB, reed⟩) s
      = .next ((if (s.fab.replays.erase r).any (fun x => decide (x.item = r.item)) then u
        else u.markItem r.item false).bump (Reg.fabricReplay n.val)) := by
  subst hl hc hu
  refine congrArg ok ?_
  dsimp only
  rw [hr]
  rfl

end replay

/-- Before the boundary that a table write waits for, nothing is committed (R31). -/
theorem exec_slotTableCommit_waits {s : State} (h : s.commitDue = false) : exec .slotTableCommit s = .next s :=
  congrArg ok (if_neg (ne_true_of_eq_false h))

/-- The writes of a frame that has ended, all there are, take effect (R31). -/
theorem exec_slotTableCommit_slot {s : State} {frame unit : Nat} {isSlice : Bool} {owner : Option Nat}
    (hp : s.fab.pending = [(frame, .slot isSlice unit owner)]) (hf : frame < s.frame) :
    exec .slotTableCommit s = .next (State.setSlot { s with fab := { s.fab with pending := [] } } isSlice unit owner) := by
  have hd : s.commitDue = true := by simp [State.commitDue, hp, hf]
  refine congrArg ok ?_
  rw [if_pos hd, State.commitTables, hp]
  simp [hf, State.applyWrite]

/-- Settles O27: reductions by the branches of an arrival and of an expiry, the links command by command. -/
theorem reductionsAndLinksComplete : Obligations.ReductionsAndLinksComplete := by
  refine ⟨fun s b i x y op n c e t => ⟨fun hx hc hred ht => ⟨exec_reductionChunkArrival_waits hx hc, ?_, ?_⟩,
      fun hy he => ⟨?_, ?_⟩⟩,
    fun s n dirB f out k src r x m mem l => ⟨exec_reedMessageForward_retry,
      fun hr => ⟨exec_reedMessageForward_waits hr, fun hcr hh => ⟨?_, ?_, ?_⟩⟩,
      fun hl => ⟨?_, fun reed chunk u => exec_retryRequest hl⟩,
      exec_slotTableCommit_waits, fun frame isSlice unit owner => exec_slotTableCommit_slot⟩⟩
  · rintro f hb ha hp he rfl
    rw [exec_reductionChunkArrival_joins hx hc hb ha ht hp, State.redJoin_eq he]
    exact ⟨fun h => by rw [if_pos h]; rfl, fun h => by rw [if_neg (by omega)]; rfl⟩
  · rintro used hb ha hp rfl
    rw [exec_reductionChunkArrival_opens hx hc hb ha ht hp, hred, Option.getD_some]
    refine ⟨fun hl hu => by rw [if_pos ⟨hl, hu⟩], fun h hn => ?_⟩
    rw [if_neg, State.redOpen_eq hn]
    rintro ⟨hl, hu⟩
    rcases h with h | h
    · simp [h] at hl
    · omega
  · intro h
    rw [exec_reductionEntryExpiry hy he rfl, if_pos h]
  · intro h ht
    rw [exec_reductionEntryExpiry hy he ht, if_neg (by omega)]
  · intro h
    rw [exec_reedMessageForward_head hr hcr hh, if_neg h]
  · intro h
    rw [exec_reedMessageForward_head hr hcr hh, if_pos h]
  · intro hp hsrc hm hne hw
    have hnl : linkNo k ≠ linkNo out := fun e => hne (linkNo_injective e)
    have hlink := State.link_forwardReed (s := s.setTurn (linkNo out) true mem) hw hm hp hnl
    refine ⟨_, exec_reedMessageForward_head hr hcr hh, ?_⟩
    rw [if_pos (by rw [hm, hsrc]; rfl), hlink, hlink, if_pos rfl, if_neg hnl, if_pos rfl]
    exact ⟨rfl, rfl⟩
  · subst hl
    exact fun hx => ⟨exec_causewayCrcMismatch_first hx, exec_causewayCrcMismatch_reed hx, exec_causewayCrcMismatch_owned hx⟩

end Sys2Proof.Machine

/-! PROOFS, 01_module_and_planes.md. The binder: what an operation written to COMPOSE_CMD becomes, then the states of a rebind. -/

namespace Sys2Proof.Machine

/-- What every step of a fold keeps, the fold keeps. -/
theorem foldl_keeps_proj {σ α β : Type} {f : σ → α → σ} (p : σ → β) (h : ∀ s a, p (f s a) = p s) (l : List α)
    (s : σ) : p (l.foldl f s) = p s := by
  induction l generalizing s with
  | nil => rfl
  | cons a l ih => exact (ih _).trans (h s a)

section
variable {s : State} {n result : Nat}

@[simp] theorem State.composeDone_vd {m : Nat} : (s.composeDone n result).vd m = s.vd m := by
  unfold State.vd State.composeDone
  rw [State.setRegBit_vds, State.setRegFld_vds, State.setRegFld_vds]

@[simp] theorem State.composeDone_set {k : Nat} : (s.composeDone n result).set_ k = s.set_ k := by
  unfold State.set_ State.composeDone
  rw [State.setRegBit_sets, State.setRegFld_sets, State.setRegFld_sets]

@[simp] theorem State.composeDone_binder : (s.composeDone n result).binder = s.binder := by
  unfold State.composeDone
  rw [State.setRegBit_binder, State.setRegFld_binder, State.setRegFld_binder]

end

section go
variable {s u : State} {op : Nat} {ws : List W32} (hm : s.clock.mode = .full)
  (hu : u = s.setRegFld Reg.composeCmd 0 4 op) (hws : ws = u.regList (Reg.composeDesc 0) 320)
include hm hu hws

/-- In full service with nothing running or held, an operation is done on a copy of the staging area (R332). -/
theorem State.composeGo_runs (hp : s.binder.pending = none) (hb : s.binderBusy = false) : s.composeGo op = u.composeOp op ws := by
  subst hu hws
  have hb' : (s.setRegFld Reg.composeCmd 0 4 op).binderBusy = false := hb
  unfold State.composeGo
  simp [hm, hp, hb']

/-- While one runs and none is held, an operation other than READ is held (R344). -/
theorem State.composeGo_held (hop : op ≠ 4) (hp : s.binder.pending = none) (hb : s.binderBusy = true) :
    s.composeGo op = { u with binder := { s.binder with pending := some (op, ws) } } := by
  subst hu hws
  have hb' : (s.setRegFld Reg.composeCmd 0 4 op).binderBusy = true := hb
  unfold State.composeGo
  simp [hm, hp, hb', hop]

/-- While one is held, a further one is OVERRUN (R344). -/
theorem State.composeGo_overrun (hop : op ≠ 4) (hp : s.binder.pending.isSome = true) :
    s.composeGo op = u.setRegBit Reg.composeStatus 25 true := by
  subst hu hws
  unfold State.composeGo
  simp [hm, hp, hop]

end go

section pending
variable {s : State} {op : Nat} {ws : List W32} (hp : s.binder.pending = some (op, ws))
include hp

/-- A held operation starts in full service once none runs (R344). -/
theorem exec_composePendingStart_starts (hm : s.clock.mode = .full) (hb : s.binderBusy = false) :
    exec .composePendingStart s
      = .next (State.composeOp { s with binder := { s.binder with pending := none } } op ws) := by
  refine congrArg ok ?_
  rw [hp]
  dsimp only
  rw [if_neg (by simp [hm, hb])]

theorem exec_composePendingStart_waits (hb : s.binderBusy = true) : exec .composePendingStart s = .next s := by
  refine congrArg ok ?_
  rw [hp]
  exact if_pos (.inl hb)

end pending

section ops
variable {s : State} {ws : List W32} {d : Desc}

theorem State.composeOp_create (hd : d = parseDesc ws false) (hc : s.checkDesc 0 ws d = none) :
    s.composeOp 0 ws = s.create d := by
  subst hd
  simp only [State.composeOp, hc]

/-- A CREATE that fails a check ends with the code of the first one (R332). -/
theorem State.composeOp_create_refused {code : Nat} (hd : d = parseDesc ws false) (hc : s.checkDesc 0 ws d = some code) :
    s.composeOp 0 ws = s.composeDone (dfld ws 0 0 8) code := by
  subst hd
  simp only [State.composeOp, hc]

theorem State.composeOp_destroy (hr : descReserved ws = false) (hb : s.badState opDestroy (dfld ws 0 0 8) = false) :
    s.composeOp 1 ws = s.destroyVd (dfld ws 0 0 8) := by
  simp only [State.composeOp, hr, hb]
  rfl

theorem State.composeOp_move (hd : d = parseDesc ws false) (hc : s.checkDesc 2 ws d = none) :
    s.composeOp 2 ws = s.startRebind true d := by
  subst hd
  simp only [State.composeOp, hc]

theorem State.composeOp_resize (hd : d = parseDesc ws false) (hc : s.checkDesc 3 ws d = none) :
    s.composeOp 3 ws = s.startRebind false d := by
  subst hd
  simp only [State.composeOp, hc]

/-- READ of a device gives its descriptor as last committed (R333). -/
theorem State.composeOp_read (hr : descReserved ws = false) (hk : dfld ws 0 16 4 = 0)
    (ha : (s.vd (dfld ws 0 0 8)).st ≠ .absent) : s.composeOp 4 ws
      = (s.setRegs (Reg.composeDesc 0) (s.vd (dfld ws 0 0 8)).desc.words).composeDone (dfld ws 0 0 8) 0 := by
  change s.readComposition ws = _
  unfold State.readComposition
  simp [hr, hk, ha]

end ops

/-- A CREATE leaves its table write behind every other (R169, R334). -/
theorem State.create_pending {s : State} {d : Desc} :
    ∃ exts f, (s.create d).fab.pending.getLast? = some (f, .create d.vd exts) :=
  ⟨_, _, List.getLast?_concat⟩

section sets
variable {s : State} {ws : List W32}

/-- The cores of a destroyed set go back to the pool, from a frame boundary on (R329). -/
def State.dropSetCores (s : State) (k : Nat) : State :=
  (s.set_ k).cores.foldl (fun s c => (s.setCore c Core.rest).pend (.leave false c)) s

theorem State.dropSetCores_sets {k : Nat} : (s.dropSetCores k).sets = s.sets := by
  unfold State.dropSetCores
  refine foldl_keeps_proj State.sets ?_ _ _
  exact fun _ _ => rfl

theorem State.set_modSet {k : Nat} {f : SetSt → SetSt} (hw : SMap.wf (fun _ => SetSt.absent) s.sets = true) :
    (s.modSet k f).set_ k = f (s.set_ k) :=
  (SMap.get_set _ _ _ _ hw _).trans (if_pos rfl)

/-- The checks of SET_DESTROY pass (R329). -/
theorem State.setDestroy_eq (hr : descReserved ws = false) (hk : dfld ws 0 16 4 ≠ 0)
    (hv : (s.set_ (dfld ws 0 16 4)).valid = true) (hu : s.setUsers (dfld ws 0 16 4) = []) : s.setDestroy ws
      = ((s.dropSetCores (dfld ws 0 16 4)).modSet (dfld ws 0 16 4) (fun _ => SetSt.absent)).composeDone (dfld ws 0 0 8) 0 := by
  unfold State.setDestroy
  simp only [hr, hk, hv, hu]
  rfl

/-- A destroyed set is not there any more (R329). -/
theorem State.set_setDestroy (hr : descReserved ws = false) (hk : dfld ws 0 16 4 ≠ 0)
    (hv : (s.set_ (dfld ws 0 16 4)).valid = true) (hu : s.setUsers (dfld ws 0 16 4) = [])
    (hw : SMap.wf (fun _ => SetSt.absent) s.sets = true) :
    ((s.setDestroy ws).set_ (dfld ws 0 16 4)) = SetSt.absent := by
  rw [State.setDestroy_eq hr hk hv hu, State.composeDone_set]
  rw [← State.dropSetCores_sets (k := dfld ws 0 16 4)] at hw
  exact State.set_modSet hw

end sets

section translation
variable {s : State} {n : Nat}

/-- The devices are those of the state's table. -/
theorem State.vd_congr {t : State} (h : t.vds = s.vds) : t.vd n = s.vd n := by
  unfold State.vd
  rw [h]

/-- A device that has become active, whatever it was. -/
theorem State.vd_modVd_active :
    (s.modVd n (fun v => { v with st := .active })).vd n = { s.vd n with st := .active } :=
  State.vd_modVd fun h => VdState.noConfusion (congrArg VDev.st h)

theorem State.vds_setHolder {isSlice : Bool} {x : Nat} {h : Holder} : (s.setHolder isSlice x h).vds = s.vds := by
  cases isSlice <;> rfl

theorem State.vds_number {d : Desc} {isSlice : Bool} : (s.number n d isSlice).vds = s.vds :=
  foldl_keeps_proj State.vds (fun _ _ => State.vds_setHolder) _ _

/-- The units and extents of a new device have their logical numbers (R334). -/
def State.numbered (s : State) (n : Nat) (exts : List (Nat × Nat)) : State :=
  exts.foldl (fun s e => s.modExtent e.2 (fun x => { x with logical := some e.1 }))
    ((s.number n (s.vd n).desc false).number n (s.vd n).desc true)

theorem State.vds_numbered {exts : List (Nat × Nat)} : (s.numbered n exts).vds = s.vds := by
  unfold State.numbered
  rw [foldl_keeps_proj State.vds, State.vds_number, State.vds_number]
  exact fun _ _ => rfl

theorem State.createEnds_eq (exts : List (Nat × Nat)) : s.createEnds n exts
    = ((s.numbered n exts).modVd n (fun v => { v with st := .active })).composeDone n 0 := rfl

/-- A device whose translation takes effect is active, and nothing else of it changes (R169, R334). -/
theorem State.vd_createEnds (exts : List (Nat × Nat)) : (s.createEnds n exts).vd n = { s.vd n with st := .active } := by
  rw [State.createEnds_eq, State.composeDone_vd, State.vd_modVd_active, State.vd_congr State.vds_numbered]

end translation

/-- Settles O32: each operation by what COMPOSE_CMD does with it, then by its own meaning. -/
theorem composeOperationsComplete : Obligations.ComposeOperationsComplete := by
  rintro s u n ws d hm rfl
  refine ⟨fun hp hb hd => ⟨?_, ?_, ?_, ?_, ?_, ?_, ?_, ?_⟩, fun hu hws hb => ⟨?_, ?_⟩,
    fun op hp => ⟨?_, ?_⟩, fun exts => ?_⟩
  · intro hu hws hc
    refine ⟨congrArg ok ?_, State.create_pending⟩
    rw [State.composeGo_runs hm hu hws hp hb, State.composeOp_create hd hc]
  · intro code hu hws hc
    refine congrArg ok ?_
    rw [State.composeGo_runs hm hu hws hp hb, State.composeOp_create_refused hd hc]
  · intro hu hws hr hs
    refine congrArg ok ?_
    rw [State.composeGo_runs hm hu hws hp hb, State.composeOp_destroy hr hs]
  · intro hu hws hc
    refine congrArg ok ?_
    rw [State.composeGo_runs hm hu hws hp hb, State.composeOp_move hd hc]
  · intro hu hws hc
    refine congrArg ok ?_
    rw [State.composeGo_runs hm hu hws hp hb, State.composeOp_resize hd hc]
  · intro hu hws hr hk ha
    refine congrArg ok ?_
    rw [State.composeGo_runs hm hu hws hp hb, State.composeOp_read hr hk ha]
  · intro hu hws
    exact congrArg ok (State.composeGo_runs hm hu hws hp hb)
  · intro hu hws hr hk hv hw hs
    exact ⟨congrArg ok (State.composeGo_runs hm hu hws hp hb), by rw [State.set_setDestroy hr hk hv hs hw]; rfl⟩
  · intro hp
    exact congrArg ok (State.composeGo_held hm hu hws (by decide) hp hb)
  · intro hp
    exact congrArg ok (State.composeGo_overrun hm hu hws (by decide) hp)
  · exact exec_composePendingStart_starts hp hm
  · exact exec_composePendingStart_waits hp
  · rw [State.vd_createEnds]
    exact ⟨rfl, rfl⟩

end Sys2Proof.Machine

/-! PROOFS, 01_module_and_planes.md. The states of a rebind, one lemma per command and outcome; the zero fill of an extent. -/

namespace Sys2Proof.Machine

section
variable {s : State} {b : BindOp} {st : BindState}

/-- A command of a rebind acts where one runs and is in the command's state. -/
theorem State.inBind_eq (hr : s.binder.running = some b) (hst : b.st = st) (f : BindOp → State) : s.inBind st f = f b := by
  unfold State.inBind
  rw [hr]
  exact if_pos hst

theorem State.running_endRebind {n code : Nat} : (s.endRebind n code).binder.running = none := by
  unfold State.endRebind
  rw [State.composeDone_binder]

end

section quiescing
variable {s : State} {b : BindOp} (hr : s.binder.running = some b) (hst : b.st = .quiescing)
include hr hst

theorem exec_quiescePoint_reached (ho : s.onBoundary = true) (hq : s.quiescent b = true) :
    exec .quiescePoint s = .next (s.quiesce b) :=
  congrArg ok ((State.inBind_eq hr hst _).trans (if_pos (by rw [ho, hq]; rfl)))

theorem exec_quiescePoint_waits (h : s.onBoundary = false ∨ s.quiescent b = false) : exec .quiescePoint s = .next s :=
  congrArg ok ((State.inBind_eq hr hst _).trans (if_neg (by rcases h with h | h <;> simp [h])))

/-- Without a limit, or within it, quiescing goes on (R344). -/
theorem exec_composeTimeout_within
    (h : s.regFld Reg.composeTimeout 0 24 = 0 ∨ s.frame < b.since + s.regFld Reg.composeTimeout 0 24) :
    exec .composeTimeout s = .next s :=
  congrArg ok ((State.inBind_eq hr hst _).trans (if_pos h))

section
variable (h0 : s.regFld Reg.composeTimeout 0 24 ≠ 0) (hl : b.since + s.regFld Reg.composeTimeout 0 24 ≤ s.frame)
include h0 hl

/-- At the limit the rebind ends, where it has no quiesce point (R344). -/
theorem exec_composeTimeout_ends (hq : s.quiescent b = false) :
    exec .composeTimeout s = .next (s.endRebind b.vd 0x0C) := by
  refine congrArg ok ((State.inBind_eq hr hst _).trans ?_)
  dsimp only
  rw [if_neg (by omega), hq]
  rfl

/-- A quiesce point that arrives in the frame of the limit wins (R344). -/
theorem exec_composeTimeout_quiesces (hq : s.quiescent b = true) (ho : s.onBoundary = true) :
    exec .composeTimeout s = .next (s.quiesce b) := by
  refine congrArg ok ((State.inBind_eq hr hst _).trans ?_)
  dsimp only
  rw [if_neg (by omega), if_pos hq, if_pos ho]

end

end quiescing

section gaining
variable {s w : State} {b : BindOp} (hr : s.binder.running = some b) (hst : b.st = .gaining)
  (hw : w = if s.commitDue then s.commitTables else s)
include hr hst hw

theorem exec_gainingEnd_waits (hp : w.gainPending b = true) : exec .gainingEnd s = .next w := by
  subst hw
  exact congrArg ok ((State.inBind_eq hr hst _).trans (if_pos hp))

/-- The units that a rebind gains of one kind are its device's (R340). -/
def State.gainUnits (s : State) (b : BindOp) (isSlice : Bool) : State :=
  (s.gained b isSlice).foldl (fun s k => s.gainUnit b.vd isSlice k) s

/-- A rebind that moves on, with the extents, flag words and pairs that it was allotted (R341). -/
def BindOp.moving (b : BindOp) (exts : List (Nat × Nat)) (flags qps : List Nat) : BindOp :=
  { b with st := .moving, exts := exts, flags := flags, qps := qps }

/-- With the gained units owned and the rest allotted, the emptying of those that leave begins (R340, R341). -/
theorem exec_gainingEnd_moves {u : State} {v : BindOp} (hp : w.gainPending b = false) (ha : b.abandoned = false)
    (hu : u = (w.gainUnits b false).gainUnits b true)
    (hv : v = b.moving (u.allot b.vd b.desc false b.isMove).2.1 (u.allot b.vd b.desc false b.isMove).2.2.1
      (u.allot b.vd b.desc false b.isMove).2.2.2) :
    exec .gainingEnd s = .next (State.startEmptying { (u.allot b.vd b.desc false b.isMove).1 with
      binder := { (u.allot b.vd b.desc false b.isMove).1.binder with running := some v } } v) := by
  subst hv hu hw
  refine congrArg ok ((State.inBind_eq hr hst _).trans ?_)
  dsimp only
  rw [if_neg (by simp [hp]), if_neg (by simp [ha])]
  rfl

end gaining

section moving
variable {s : State} {b : BindOp} (hr : s.binder.running = some b) (hst : b.st = .moving)
include hr hst

theorem exec_movingEnd_empties (hq : s.quietVd b = false) : exec .movingEnd s = .next (s.startEmptying b) :=
  congrArg ok ((State.inBind_eq hr hst _).trans (if_pos (by simp [hq])))

section
variable (hq : s.quietVd b = true)
include hq

theorem exec_movingEnd_waits (hf : (if s.onBoundary then s.frame else s.frame + 1) < b.stopped + s.moveFrames b) :
    exec .movingEnd s = .next s :=
  congrArg ok ((State.inBind_eq hr hst _).trans ((if_neg (by simp [hq])).trans (if_pos hf)))

/-- Once its frames have passed, the move ends with the table write of the rebind behind every other (R341). -/
theorem exec_movingEnd_commits (hf : b.stopped + s.moveFrames b ≤ if s.onBoundary then s.frame else s.frame + 1)
    (ha : b.abandoned = false) : ∃ t f, exec .movingEnd s = .next t
      ∧ t.binder.running = some { b with st := .committing } ∧ t.fab.pending.getLast? = some (f, .rebind) := by
  refine ⟨_, _, congrArg ok ((State.inBind_eq hr hst _).trans ((if_neg (by simp [hq])).trans
    ((if_neg (Nat.not_lt.mpr hf)).trans (if_neg (by simp [ha]))))), rfl, List.getLast?_concat⟩

end

end moving

/-- The commit of a rebind that goes on leaves it resuming (R341). -/
theorem State.running_applyWrite_rebind {s : State} {b : BindOp} (hr : s.binder.running = some b) (hst : b.st = .committing)
    (ha : b.abandoned = false) :
    ∃ f, (s.applyWrite .rebind).binder.running = some { b with st := .resuming, since := f } := by
  have h : s.applyWrite .rebind = s.commitRebind b := State.inBind_eq hr hst _
  rw [h]
  exact ⟨_, congrArg (fun t : State => t.binder.running) (if_neg (by simp [ha]))⟩

/-- The entries of a map whose keys a test selects, and the default at every other key. -/
theorem SMap.get_filter_key {α : Type} (d : Nat → α) (m : SMap α) (p : Nat → Bool) (k : Nat) :
    SMap.get d (m.filter (fun e => p e.1)) k = if p k then SMap.get d m k else d k := by
  induction m with
  | nil => simp
  | cons e m ih =>
    obtain ⟨j, v⟩ := e
    rw [List.filter_cons, SMap.get_cons]
    by_cases hj : j = k
    · subst hj
      cases hp : p j <;> simp [hp, ih, SMap.get_cons]
    · cases hp : p j <;> simp [ih, SMap.get_cons, hj]

/-- Every byte that an extent covers is zero behind its zero fill (R324). -/
theorem State.rd_zeroExtent {s : State} {e a : Nat} (h : (s.extent e).covers a = true) : rd (s.zeroExtent e).mem a = 0 := by
  have hget : rd (s.zeroExtent e).mem a = if !(s.extent e).covers a then rd s.mem a else byte0 a :=
    SMap.get_filter_key byte0 s.mem (fun k => !(s.extent e).covers k) a
  rw [hget, h]
  rfl

/-- Settles O33: the rebind state by state, each command's outcomes in turn, then the zero fill. -/
theorem rebindsStepThrough : Obligations.RebindsStepThrough := by
  refine fun s b e => ⟨fun hr => ⟨fun hst => ⟨?_, ?_, ?_, ?_⟩, fun w x u v hst hw => ⟨?_, ?_⟩, ?_,
    fun hst hq => ⟨?_, ?_⟩, fun hst => ⟨?_, ?_, ?_⟩, fun hst => ⟨?_, ?_⟩⟩,
    fun hs => ⟨?_, fun a => State.rd_zeroExtent⟩, ?_⟩
  · exact fun ho hq => ⟨exec_quiescePoint_reached hr hst ho hq, _, rfl, rfl⟩
  · exact exec_quiescePoint_waits hr hst
  · exact fun h0 hl => ⟨exec_composeTimeout_ends hr hst h0 hl, exec_composeTimeout_quiesces hr hst h0 hl⟩
  · exact exec_composeTimeout_within hr hst
  · exact exec_gainingEnd_waits hr hst hw
  · rintro hp ha rfl hu hv
    exact exec_gainingEnd_moves hr hst hw hp ha hu hv
  · exact exec_movingEnd_empties hr
  · exact exec_movingEnd_waits hr hst hq
  · exact exec_movingEnd_commits hr hst hq
  · exact fun hc => congrArg ok ((State.inBind_eq hr hst _).trans (if_pos hc))
  · exact fun hc => congrArg ok ((State.inBind_eq hr hst _).trans (if_neg (by simp [hc])))
  · exact State.running_applyWrite_rebind hr hst
  · exact fun hf => congrArg ok ((State.inBind_eq hr hst _).trans (if_pos hf))
  · exact fun hf => ⟨congrArg ok ((State.inBind_eq hr hst _).trans (if_neg (by omega))), State.running_endRebind⟩
  · exact congrArg ok (if_pos hs)
  · exact fun hs => congrArg ok (if_neg hs)

end Sys2Proof.Machine

/-! PROOFS, 01_module_and_planes.md. Detected errors by the structure they hit. -/

namespace Sys2Proof.Machine

section detected
variable {s : State} (hc : s.clocksOn = true)
include hc

/-- While the clocks of the dies run, an uncorrectable error acts by its structure (R504). -/
theorem exec_uncorrectableError (u : ErrUnit) (syn : BitVec 16) :
    exec (.uncorrectableError u syn) s = .next (s.uncorrectable u syn.toNat) :=
  congrArg ok (if_pos (.inl hc))

/-- A bond fault counts as uncorrectable in the structure its data was bound for (R21, R503). -/
theorem exec_bondFault {cd : Fin 12} {u : ErrUnit} (h : onBond cd.val u = true) :
    exec (.bondFault cd u) s = exec (.uncorrectableError u 0) s :=
  (congrArg ok (if_pos ⟨hc, h⟩)).trans (exec_uncorrectableError hc u 0).symm

theorem exec_sliceUncorrectable (i : Fin 512) (a : SliceArray) (line : Nat) (x : Fin 16) :
    exec (.sliceUncorrectable i a line x) s = .next (s.sliceError i.val a line x.val) :=
  congrArg ok (if_pos hc)

/-- The owner of a slice data sector that is lost is contained (R234). -/
theorem exec_sliceUncorrectable_dataArray {t : State} {i : Fin 512} {line : Nat} {x : Fin 16}
    (h : s.loseSector i.val line x.val (fun y => decide (y ≠ .i)) = some t) :
    exec (.sliceUncorrectable i .dataArray line x) s = .next (t.sliceContain i.val 1 line x.val true) := by
  rw [exec_sliceUncorrectable hc]
  unfold State.sliceError
  dsimp only
  rw [h]

theorem exec_coherenceUncorrectable (cd : Fin 12) (a : CohArray) (i : Nat) :
    exec (.coherenceUncorrectable cd a i) s = .next (s.coherenceError cd.val a i) :=
  congrArg ok (if_pos hc)

/-- The owner of a merge entry that is lost is contained (R268). -/
theorem exec_coherenceUncorrectable_mergeEntry {cd : Fin 12} {l : Nat} {m : MergeEntry}
    (h : (s.die cd.val).merge[l]? = some m) :
    exec (.coherenceUncorrectable cd .mergeEntry l) s = .next (s.mergeEntryError cd.val m) := by
  rw [exec_coherenceUncorrectable hc]
  unfold State.coherenceError
  dsimp only
  rw [h]

/-- Directory bits are shared by devices: their loss stops the module (R268). -/
theorem exec_coherenceUncorrectable_directory (cd : Fin 12) (i : Fin 512) :
    exec (.coherenceUncorrectable cd .directory i.val) s = .next (s.fatal (ErrRec.mk0 2 4 6 i.val)) := by
  rw [exec_coherenceUncorrectable hc, State.coherenceError, Nat.mod_eq_of_lt i.isLt]

section
variable (ch : Fin 80) (y : Fin 67108864)

theorem exec_correctedError_memoryUnit :
    exec (.correctedError (.memoryUnit ch y)) s = .next (s.unitFault ch.val y.val) :=
  congrArg ok (if_neg (not_not_intro hc))

theorem exec_correctedError_checkBurst :
    exec (.correctedError (.checkBurst ch y)) s = .next (s.unitFault ch.val y.val) :=
  congrArg ok (if_neg (not_not_intro hc))

end

theorem exec_correctedError_fecCorrected :
    exec (.correctedError .fecCorrected) s = .next (s.bump Reg.netportFecCorr) :=
  congrArg ok (if_neg (not_not_intro hc))

end detected

section unitFault
variable {s : State} {ch unit : Nat}

/-- A unit that can be corrected keeps a corrected error (R299). -/
theorem State.unitFault_of_ne (h : (s.chan ch).fault unit ≠ .uncorrectable) :
    s.unitFault ch unit = s.modChan ch (fun c => c.setFault unit .corrected) :=
  State.modChan_congr (if_neg h)

/-- One that cannot stays as it is (R315). -/
theorem State.unitFault_of_eq (h : (s.chan ch).fault unit = .uncorrectable) : s.unitFault ch unit = s.modChan ch (fun c => c) :=
  State.modChan_congr (if_pos h)

end unitFault

end Sys2Proof.Machine

/-! PROOFS, 01_module_and_planes.md. Release of a contained device, the sticky registers and the queue heads. -/

namespace Sys2Proof.Machine

section bit
variable {s : State} {k i : Nat} {b : Bool}

/-- A bit that was stored. -/
theorem State.regBit_setRegBit (hc : s.canonical = true) (hi : i < 32) : (s.setRegBit k i b).regBit k i = b := by
  have h : (s.setRegBit k i b).regFld k i 1 = b2n b % 2 ^ 1 := State.regFld_setRegFld hc (by omega)
  change ((s.setRegBit k i b).regFld k i 1 == 1) = b
  rw [h]
  cases b <;> rfl

end bit

section release
variable {s : State} {n : Fin 256} {result : Nat}

theorem State.canonical_err {e : ErrSt} (hc : s.canonical = true) : State.canonical { s with err := e } = true := hc

/-- ERROR_CONTAIN_CMD holds the operation and the device of the last GO (R519). -/
def State.releaseAsked (s : State) (n : Nat) : State :=
  (s.setRegFld Reg.errorContainCmd 0 8 n).setRegFld Reg.errorContainCmd 8 4 0

theorem State.releaseAsked_fields {n : Nat} : s.releaseAsked n = { s with regs := (s.releaseAsked n).regs } := by
  unfold State.releaseAsked
  exact State.regs_fields_trans State.setRegFld_fields State.setRegFld_fields

theorem State.canonical_releaseAsked {n : Nat} (hc : s.canonical = true) : (s.releaseAsked n).canonical = true :=
  State.canonical_setRegFld (State.canonical_setRegFld hc)

theorem State.releaseDone_fields : s.releaseDone result = { s with regs := (s.releaseDone result).regs } := by
  unfold State.releaseDone
  exact State.regs_fields_trans State.setRegFld_fields State.setRegFld_fields

theorem State.regFld_releaseDone_result (hc : s.canonical = true) (hr : result < 256) :
    (s.releaseDone result).regFld Reg.errorContainStatus 0 8 = result := by
  unfold State.releaseDone
  rw [State.regFld_setRegFld_of_disjoint (State.canonical_setRegFld hc) (by decide) (by decide),
    State.regFld_setRegFld hc (by decide)]
  exact Nat.mod_eq_of_lt hr

theorem State.regFld_releaseDone_state (hc : s.canonical = true) :
    (s.releaseDone result).regFld Reg.errorContainStatus 30 2 = 1 :=
  State.regFld_setRegFld (State.canonical_setRegFld hc) (by decide)

/-- The state in which the release of a device with no suspect extent runs (R509). -/
def State.releaseBegun (s : State) (n : Nat) : State :=
  State.setRegBit { s.releaseAsked n with err := { s.err with release := some ⟨n, []⟩ } } Reg.errorContainStatus 31 true

theorem State.releaseBegun_err {n : Nat} :
    (s.releaseBegun n).err = { s.err with release := some ⟨n, []⟩ } := by
  unfold State.releaseBegun
  rw [State.setRegBit_err]

theorem State.releaseBegun_fields {n : Nat} :
    s.releaseBegun n = { s with regs := (s.releaseBegun n).regs, err := (s.releaseBegun n).err } := by
  rw [State.releaseBegun_err]
  unfold State.releaseBegun
  rw [State.setRegBit_fields, State.releaseAsked_fields]

theorem State.regBit_releaseBegun {n : Nat} (hc : s.canonical = true) :
    (s.releaseBegun n).regBit Reg.errorContainStatus 31 = true := by
  unfold State.releaseBegun
  exact State.regBit_setRegBit (State.canonical_err (State.canonical_releaseAsked hc)) (by decide)

section
variable (hp : s.portServes = true) (hr : s.err.release = none)
include hp hr

/-- A release of a device that is not contained ends NOT_CONTAINED (R519). -/
theorem exec_release_notContained (h : (s.vd n.val).st ≠ .contained) :
    exec (.release n) s = .next ((s.releaseAsked n.val).releaseDone 1) := by
  have hr' : (s.releaseAsked n.val).err.release = none := by rw [State.releaseAsked_fields]; exact hr
  have hv : ((s.releaseAsked n.val).vd n.val).st ≠ .contained := by rw [State.releaseAsked_fields]; exact h
  refine congrArg ok ((if_neg (not_not_intro hp)).trans ((if_neg ?_).trans ((if_neg (by decide)).trans (if_pos hv))))
  exact ne_true_of_eq_false (congrArg Option.isSome hr')

/-- A release with no suspect extent runs with nothing to zero (R509). -/
theorem exec_release_begins (h : (s.vd n.val).st = .contained) (hs : s.suspectsOf n.val = []) :
    exec (.release n) s = .next (s.releaseBegun n.val) := by
  have he : (s.releaseAsked n.val).err = s.err := by rw [State.releaseAsked_fields]
  have hv : ((s.releaseAsked n.val).vd n.val).st = .contained := by rw [State.releaseAsked_fields]; exact h
  have hs' : (s.releaseAsked n.val).suspectsOf n.val = [] := by rw [State.releaseAsked_fields]; exact hs
  refine congrArg ok ((if_neg (not_not_intro hp)).trans ?_)
  dsimp only
  rw [← State.releaseAsked, he, hr, hs']
  simp [hv, he, State.releaseBegun]

end

/-- The state in which a device has become active at the end of its release (R509). -/
def State.releaseEnded (s : State) (n : Nat) : State :=
  (State.modVd { s with err := { s.err with release := none } } n (fun v => { v with st := .active })).releaseDone 0

/-- A release with nothing left to zero ends with its device active (R509). -/
theorem exec_releaseEnd {r : ReleaseOp} (hr : s.err.release = some r) (hz : r.scrub = []) :
    exec .releaseEnd s = .next (s.releaseEnded r.vd) := by
  refine congrArg ok ?_
  rw [hr]
  dsimp only
  rw [hz]
  rfl

/-- The device as it is before the result of its release is told. -/
theorem State.releaseEnded_eq {n : Nat} : s.releaseEnded n = { State.modVd { s with err := { s.err with release := none } } n
    (fun v => { v with st := .active }) with regs := (s.releaseEnded n).regs } := by
  unfold State.releaseEnded
  exact State.releaseDone_fields

theorem State.releaseEnded_fields {n : Nat} : s.releaseEnded n
    = { s with regs := (s.releaseEnded n).regs, vds := (s.releaseEnded n).vds, err := (s.releaseEnded n).err } := by
  have h := State.releaseEnded_eq (s := s) (n := n)
  generalize s.releaseEnded n = t at h
  rw [h]
  rfl

theorem State.releaseEnded_err {n : Nat} : (s.releaseEnded n).err.release = none := by
  rw [State.releaseEnded_eq]
  rfl

theorem State.releaseEnded_vd {n : Nat} : (s.releaseEnded n).vd n = { s.vd n with st := .active } := by
  have h : (s.releaseEnded n).vds = (s.modVd n (fun v => { v with st := .active })).vds := by
    rw [State.releaseEnded_eq]
    rfl
  rw [State.vd_congr h, State.vd_modVd_active]

/-- A release that has ended shows DONE and result 0 (R519). -/
theorem State.regFld_releaseEnded {n : Nat} (hc : s.canonical = true) :
    (s.releaseEnded n).regFld Reg.errorContainStatus 30 2 = 1 ∧ (s.releaseEnded n).regFld Reg.errorContainStatus 0 8 = 0 := by
  have hc' : State.canonical (State.modVd { s with err := { s.err with release := none } } n
    (fun v => { v with st := .active })) = true := hc
  exact ⟨State.regFld_releaseDone_state hc', State.regFld_releaseDone_result hc' (by decide)⟩

end release

section sticky
variable {s : State} {k i : Nat}

theorem State.clearSticky_fields : s.clearSticky = { s with regs := s.clearSticky.regs } := by
  unfold State.clearSticky
  exact State.regs_fields_trans (t := s.setReg Reg.errorStickyStatus 0) rfl State.setRegs_fields

theorem exec_stickyClear (hp : s.portServes = true) : exec .stickyClear s = .next s.clearSticky := congrArg ok (if_pos hp)

/-- What lies below the sticky record is as after the store of its status (R512). -/
theorem State.reg_clearSticky_below (h : k < Reg.errorStickyRec 0) :
    s.clearSticky.reg k = (s.setReg Reg.errorStickyStatus 0).reg k :=
  State.reg_setRegs_below h

theorem State.reg_clearSticky_rec (hc : s.canonical = true) (hi : i < 24) : s.clearSticky.reg (Reg.errorStickyRec i) = 0 := by
  have hlen : i < (List.replicate 24 (0 : W32)).length := hi
  have h := State.reg_setRegs (k := Reg.errorStickyRec 0) (State.canonical_setReg (k := Reg.errorStickyStatus) (v := 0) hc) hlen
  exact h.trans (List.getElem_replicate hlen)

end sticky

section heads
variable {s : State} {sev : Fin 3} {h : W32}

theorem resvBits_errorQHead (sev : Fin 3) : resvBits (Reg.errorQHead sev.val) = 0xFFFFFF80 := by
  revert sev
  decide +kernel

theorem rsvdCounter_errorQHead (sev : Fin 3) : rsvdCounter (Reg.errorQHead sev.val) = Reg.errorRsvdWrites := by
  revert sev
  decide +kernel

/-- A head below 128 sets no reserved bit. -/
theorem setsRsvd_errorQHead (hh : h.toNat < 128) : setsRsvd (Reg.errorQHead sev.val) h = false := by
  have hand : ∀ x : Fin 128, x.val &&& 0xFFFFFF80 = 0 := by decide
  rw [setsRsvd, resvBits_errorQHead, hand ⟨h.toNat, hh⟩]
  rfl

/-- A head within the written records is taken (R516). -/
theorem exec_errorQueueHeadWrite_within (hp : s.portServes = true) (hh : h.toNat < 128)
    (hw : (h.toNat + 128 - s.qHead sev.val) % 128 ≤ (s.qTail sev.val + 128 - s.qHead sev.val) % 128) :
    exec (.errorQueueHeadWrite sev h) s = .next (s.setReg (Reg.errorQHead sev.val) h) := by
  have hf : fld h 0 7 = h.toNat := Nat.mod_eq_of_lt hh
  refine congrArg ok ((if_pos hp).trans ?_)
  unfold State.writeQHead State.qHeadW
  rw [hf, setsRsvd_errorQHead hh]
  simp [State.counted, Nat.not_lt.mpr hw]

/-- A head beyond TAIL is ignored and counted (R10, R516). -/
theorem exec_errorQueueHeadWrite_past (hp : s.portServes = true)
    (hw : (s.qTail sev.val + 128 - s.qHead sev.val) % 128 < (fld h 0 7 + 128 - s.qHead sev.val) % 128) :
    exec (.errorQueueHeadWrite sev h) s = .next (s.bump Reg.errorRsvdWrites) := by
  refine congrArg ok ((if_pos hp).trans ?_)
  unfold State.writeQHead State.qHeadW
  simp [State.counted, hw, rsvdCounter_errorQHead]

end heads

/-- Settles O54: the detected errors structure by structure, then the release, the sticky registers and the queue heads. -/
theorem detectedErrorsActByStructure : Obligations.DetectedErrorsActByStructure := by
  refine ⟨fun s c cd b ch i n l line x syn y hc => ⟨exec_uncorrectableError hc _ _, exec_uncorrectableError hc _ _,
    exec_uncorrectableError hc _ _, exec_uncorrectableError hc _ _, fun u => exec_bondFault hc,
    fun t => exec_sliceUncorrectable_dataArray hc, exec_sliceUncorrectable hc _ _ _ _,
    fun m => exec_coherenceUncorrectable_mergeEntry hc, exec_coherenceUncorrectable_directory hc cd i, ?_, ?_,
    exec_correctedError_fecCorrected hc⟩, fun s n sev h hc hp => ⟨?_, ?_, ?_, ?_, exec_errorQueueHeadWrite_within hp,
      exec_errorQueueHeadWrite_past hp⟩⟩
  · intro h
    rw [exec_correctedError_memoryUnit hc, State.unitFault_of_ne h]
  · intro h
    rw [exec_correctedError_checkBurst hc, State.unitFault_of_eq h]
  · intro h hr
    refine ⟨_, exec_release_notContained hp hr h,
      State.regFld_releaseDone_result (State.canonical_releaseAsked hc) (by decide), ?_⟩
    rw [State.releaseDone_fields, State.releaseAsked_fields]
  · intro h hr hs
    exact ⟨_, exec_release_begins hp hr h hs, by rw [State.releaseBegun_err], State.regBit_releaseBegun hc,
      State.releaseBegun_fields⟩
  · intro r hr hz
    obtain ⟨hdone, hresult⟩ := State.regFld_releaseEnded (n := r.vd) hc
    exact ⟨_, exec_releaseEnd hr hz, State.releaseEnded_err, by rw [State.releaseEnded_vd], hdone, hresult,
      State.releaseEnded_fields⟩
  · refine ⟨_, exec_stickyClear hp, State.clearSticky_fields, ?_, fun i => State.reg_clearSticky_rec hc, fun k hk => ?_⟩
    · rw [State.reg_clearSticky_below (by decide), State.reg_setReg hc, if_pos rfl]
    · rw [State.reg_clearSticky_below (hk.trans (by decide)), State.reg_setReg_ne (Nat.ne_of_lt hk)]

end Sys2Proof.Machine

/-! PROOFS, 02_core_and_matrix_engine.md. Scalar registers, and what an instruction at issue still finds in its core. -/

namespace Sys2Proof.Machine

section sregs
variable {k : Core} {q r : Nat} {v : W64}

@[simp] theorem Core.sreg_zero : k.sreg 0 = 0 := rfl

@[simp] theorem Core.setSreg_zero : k.setSreg 0 v = k := rfl

theorem Core.sreg_setSreg_same (hr : r ≠ 0) (hw : SMap.wf (fun _ => (0 : W64)) k.sregs = true) :
    (k.setSreg r v).sreg r = v := by
  rw [Core.sreg, if_neg hr, Core.setSreg, if_neg hr, SMap.get_set _ _ _ _ hw, if_pos rfl]

theorem Core.sreg_setSreg_ne (hq : q ≠ r) : (k.setSreg r v).sreg q = k.sreg q := by
  unfold Core.setSreg
  split
  · rfl
  · unfold Core.sreg
    rw [SMap.get_set_ne _ _ _ _ _ hq]

end sregs

/-- Settles O11: by the two cases of a scalar register's write, s0 and any other. -/
theorem registerZeroReadsZero : Obligations.RegisterZeroReadsZero := fun _ _ _ =>
  ⟨Core.sreg_zero, Core.setSreg_zero, Core.sreg_setSreg_same, fun _ => Core.sreg_setSreg_ne⟩

section issue
variable {s : State} {c n w : Nat}

/-- An update of a core is told by what it makes of that core. -/
theorem State.modCore_congr {f g : Core → Core} (h : f (s.core c) = g (s.core c)) : s.modCore c f = s.modCore c g :=
  congrArg (s.setCore c) h

section checked
variable {cs : List (Bool × Nat)} {f : State → State}

theorem State.checked_of_none (h : lowestCause cs = none) : s.checked c cs f = f s := by
  simp only [State.checked, h]

theorem State.checked_of_some {x : Nat} (h : lowestCause cs = some x) :
    s.checked c cs f = s.fault c x (s.core c).pc 0 0 := by
  simp only [State.checked, h]

end checked

theorem lowestCause_eq_none {cs : List (Bool × Nat)} : lowestCause cs = none ↔ ∀ x ∈ cs, x.1 = false := by
  simp [lowestCause]

/-! Reading an instruction moves a line of the instruction buffer and nothing that the instruction itself reads. -/

section fetched
variable (h : s.atIssue c n w)
include h

theorem State.fetched_pc : ((s.fetched c n).core c).pc = (s.core c).pc := by rw [State.fetched_core h]

theorem State.fetched_tile : ((s.fetched c n).core c).tile = (s.core c).tile := by rw [State.fetched_core h]

theorem State.fetched_sreg (r : Nat) : ((s.fetched c n).core c).sreg r = (s.core c).sreg r := by
  rw [State.fetched_core h]; rfl

theorem State.fetched_saluX : ((s.fetched c n).core c).saluX w = (s.core c).saluX w := by
  rw [State.fetched_core h]; rfl

theorem State.fetched_tileAddr : ((s.fetched c n).core c).tileAddr w = (s.core c).tileAddr w := by
  rw [State.fetched_core h]; rfl

theorem State.fetched_tgwaits : ((s.fetched c n).core c).tgwaits = (s.core c).tgwaits := by
  rw [State.fetched_core h]; rfl

theorem State.fetched_stalls (q : QueueName) : ((s.fetched c n).core c).stalls q = (s.core c).stalls q := by
  rw [State.fetched_core h]; cases q <;> rfl

theorem State.fetched_tag (acc : Nat) : ((s.fetched c n).core c).tag acc = (s.core c).tag acc := by
  rw [State.fetched_core h]; rfl

theorem State.fetched_mmaCauses : mmaCauses ((s.fetched c n).core c) w = mmaCauses (s.core c) w := by
  rw [State.fetched_core h]; rfl

theorem State.fetched_accstCauses : accstCauses ((s.fetched c n).core c) w = accstCauses (s.core c) w := by
  rw [State.fetched_core h]; rfl

end fetched

end issue

end Sys2Proof.Machine

/-! PROOFS, 02_core_and_matrix_engine.md. The scalar instructions at issue, one lemma per opcode and outcome. -/

namespace Sys2Proof.Machine

/-- An aligned word of the tile store raises no cause (R76). -/
theorem lowestCause_tileCauses {w a : Nat} (hr : scalarResv w = false) (ha : a % 8 = 0) (hin : a + 8 ≤ 0x800000) :
    lowestCause (tileCauses w a) = none := by
  simp only [lowestCause_eq_none, tileCauses, List.forall_mem_cons, hr, decide_eq_false_iff_not]
  exact ⟨trivial, Nat.not_lt.mpr hin, not_not_intro ha, by simp⟩

section scalar
variable {s : State} {c : Fin 96} {n w : Nat} (h : s.atIssue c.val n w)
include h

section valid
variable (hr : scalarResv w = false)
include hr

theorem exec_salu (ho : opcodeOf w = 0x01) {v : W64}
    (hv : saluOp (bitsOf w 100 4) ((s.core c.val).sreg (saOf w)) ((s.core c.val).saluX w) = some v) :
    exec (.salu c) s = .next (s.scalarDone c.val n w v) := by
  rw [← State.fetched_sreg h, ← State.fetched_saluX h, Core.saluX] at hv
  refine congrArg ok ((State.issueOp_eq h ho _).trans ?_)
  simp only [hr, hv, State.scalarDone]

theorem exec_sli (ho : opcodeOf w = 0x02) :
    exec (.sli c) s = .next (s.scalarDone c.val n w (BitVec.ofNat 64 (immOf w))) :=
  congrArg ok ((State.issueOp_eq h ho _).trans (State.checked_of_none (by simp [lowestCause_eq_none, hr])))

theorem exec_sbr (ho : opcodeOf w = 0x03) {b : Bool}
    (hb : sbrCond (sfunct w) ((s.core c.val).sreg (saOf w)) ((s.core c.val).sreg (sbOf w)) = some b) :
    exec (.sbr c) s = .next (if b then (s.fetched c.val n).modCore c.val (fun k =>
        { k with pc := wrapN 64 (((s.core c.val).pc : Int) + 16 * sext (immOf w) 64) })
      else (s.fetched c.val n).nextPc c.val) := by
  refine congrArg ok ((State.issueOp_eq h ho _).trans ?_)
  cases b with
  | false => simp [State.fetched_sreg h, hr, hb]
  | true =>
    simp only [State.fetched_sreg h, hr, hb, if_true]
    exact State.modCore_congr (by rw [State.fetched_pc h])

theorem exec_endKernel (ho : opcodeOf w = 0x07) :
    exec (.endKernel c) s = .next ((s.fetched c.val n).modCore c.val (fun k => { k with seq := .ending })) :=
  congrArg ok ((State.issueOp_eq h ho _).trans (State.checked_of_none (by simp [lowestCause_eq_none, hr])))

section tileStore
variable (ht : (s.core c.val).tgwaits = false) (ha : (s.core c.val).tileAddr w % 8 = 0)
  (hin : (s.core c.val).tileAddr w + 8 ≤ 0x800000)
include ht ha hin

theorem exec_sldt (ho : opcodeOf w = 0x05) :
    exec (.sldt c) s = .next (s.scalarDone c.val n w
      (BitVec.ofNat 64 (rdLE (s.core c.val).tile ((s.core c.val).tileAddr w) 8))) := by
  refine congrArg ok ((State.issueOp_eq h ho _).trans ?_)
  simp only [State.fetched_tgwaits h, State.fetched_tileAddr h, ht, Bool.false_eq_true, if_false]
  refine (State.checked_of_none (lowestCause_tileCauses hr ha hin)).trans (congrArg (State.nextPc · c.val) ?_)
  exact State.modCore_congr (by rw [State.fetched_tile h])

theorem exec_sstt (ho : opcodeOf w = 0x06) :
    exec (.sstt c) s = .next (((s.fetched c.val n).modCore c.val (fun k => { k with
      tile := wrLE (s.core c.val).tile ((s.core c.val).tileAddr w) 8 ((s.core c.val).sreg (sbOf w)).toNat })).nextPc c.val) := by
  refine congrArg ok ((State.issueOp_eq h ho _).trans ?_)
  simp only [State.fetched_tgwaits h, State.fetched_tileAddr h, ht, Bool.false_eq_true, if_false]
  refine (State.checked_of_none (lowestCause_tileCauses hr ha hin)).trans (congrArg (State.nextPc · c.val) ?_)
  exact State.modCore_congr (by rw [State.fetched_tile h, State.fetched_sreg h])

end tileStore

end valid

section waits
variable (ht : (s.core c.val).tgwaits = true)
include ht

theorem exec_sldt_waits (ho : opcodeOf w = 0x05) : exec (.sldt c) s = .next s := by
  refine congrArg ok ((State.issueOp_eq h ho _).trans (if_pos ?_))
  rw [State.fetched_tgwaits h, ht]

theorem exec_sstt_waits (ho : opcodeOf w = 0x06) : exec (.sstt c) s = .next s := by
  refine congrArg ok ((State.issueOp_eq h ho _).trans (if_pos ?_))
  rw [State.fetched_tgwaits h, ht]

end waits

end scalar

/-- Settles O10, opcode by opcode: those of the registers, those of the tile store, and a TGWAIT that holds the latter. -/
theorem scalarInstructionsComplete : Obligations.ScalarInstructionsComplete :=
  ⟨fun _ _ _ _ h hr => ⟨fun ho _ => exec_salu h hr ho, exec_sli h hr, fun ho _ => exec_sbr h hr ho, exec_endKernel h hr⟩,
    fun _ _ _ _ h hr ht ha hin => ⟨exec_sldt h hr ht ha hin, exec_sstt h hr ht ha hin⟩,
    fun _ _ _ _ h ht => ⟨exec_sldt_waits h ht, exec_sstt_waits h ht⟩⟩

end Sys2Proof.Machine

/-! PROOFS, 02_core_and_matrix_engine.md. The matrix and accumulator instructions at issue. -/

namespace Sys2Proof.Machine

section issue
variable {s : State} {c : Fin 96} {n w : Nat} (h : s.atIssue c.val n w)
include h

section mma
variable (ho : opcodeOf w = 0x10)
include ho

theorem exec_mma_stalled (hs : (s.core c.val).stalls .matrix = true) : exec (.mma c) s = .next s := by
  refine congrArg ok ((State.issueOp_eq h ho _).trans (if_pos ?_))
  rw [State.fetched_stalls h, hs]

variable (hs : (s.core c.val).stalls .matrix = false)
include hs

theorem exec_mma_queued (hc : lowestCause (mmaCauses (s.core c.val) w) = none) {bits : Nat} {u : State}
    (hb : bits = accBits (parseMma w).tag (parseMma w).acc)
    (hu : u = (s.fetched c.val n).enqueue c.val .matrix w 0 0 0 bits bits (envelope (parseMma w).reads) []) :
    exec (.mma c) s = .next (if (parseMma w).zero then u.modCore c.val (fun k => k.setTags bits (parseMma w).tag) else u) := by
  subst hb hu
  rw [← State.fetched_mmaCauses h] at hc
  refine congrArg ok ((State.issueOp_eq h ho _).trans ((if_neg ?_).trans (State.checked_of_none hc)))
  simp [State.fetched_stalls h, hs]

theorem exec_mma_faults {x : Nat} (hc : lowestCause (mmaCauses (s.core c.val) w) = some x) :
    exec (.mma c) s = .next ((s.fetched c.val n).fault c.val x (s.core c.val).pc 0 0) := by
  rw [← State.fetched_mmaCauses h] at hc
  refine congrArg ok ((State.issueOp_eq h ho _).trans ((if_neg ?_).trans ((State.checked_of_some hc).trans ?_)))
  · simp [State.fetched_stalls h, hs]
  · rw [State.fetched_pc h]

end mma

section accumulator
variable (hs : (s.core c.val).stalls .accumulator = false)
include hs

theorem exec_accz_queued (ho : opcodeOf w = 0x18) (hr : bitsOf w 0 102 = 0) (ht : bitsOf w 102 2 ≠ 3)
    (hp : acczTag w = .fp64 → pairedMask (bitsOf w 104 16) = true) :
    exec (.accz c .issue) s
      = .next (((s.fetched c.val n).enqueue c.val .accumulator w 0 0 0 0 (bitsOf w 104 16) [] []).modCore c.val
        (fun k => k.setTags (bitsOf w 104 16) (acczTag w))) := by
  refine congrArg ok ((State.issueOp_eq h ho _).trans ((if_neg ?_).trans (State.checked_of_none ?_)))
  · simp [State.fetched_stalls h, hs]
  · simpa [lowestCause_eq_none, hr, ht] using hp

theorem exec_accld_queued (ho : opcodeOf w = 0x19) {src len bits : Nat} (hr : bitsOf w 0 97 = 0) (hlo : 8 ≤ bitsOf w 116 4)
    (hhi : bitsOf w 116 4 ≤ 0xA) (hp : accldTag w = .fp64 → bitsOf w 112 4 % 2 = 0) (hsrc : src = 256 * bitsOf w 97 15)
    (hlen : len = 1024 * (accldTag w).bytes) (hin : src + len ≤ 0x800000) (hb : bits = accBits (accldTag w) (bitsOf w 112 4)) :
    exec (.accld c .issue) s
      = .next (((s.fetched c.val n).enqueue c.val .accumulator w 0 0 0 0 bits [granules src (src + len)] []).modCore c.val
        (fun k => k.setTags bits (accldTag w))) := by
  subst hsrc hlen hb
  have htile : inTile ((256 * bitsOf w 97 15 : Nat) : Int) (1024 * (accldTag w).bytes) = true := by
    rw [inTile, Bool.and_eq_true, decide_eq_true_eq, decide_eq_true_eq]
    omega
  refine congrArg ok ((State.issueOp_eq h ho _).trans ((if_neg ?_).trans (State.checked_of_none ?_)))
  · simp [State.fetched_stalls h, hs]
  · simp only [lowestCause_eq_none, List.forall_mem_cons, htile, hr]
    exact ⟨by simp; omega, by simpa using hp, rfl, by simp⟩

theorem exec_accst_queued (ho : opcodeOf w = 0x1A) (hc : lowestCause (accstCauses (s.core c.val) w) = none) {t : AccTag}
    {bits : Nat} (ht : t = (s.core c.val).tag (bitsOf w 112 4)) (hb : bits = accBits t (bitsOf w 112 4)) :
    exec (.accst c .issue) s = .next ((s.fetched c.val n).enqueue c.val .accumulator w 0 0 t.code bits
      (if bitOf w 108 then bits else 0) [] (envelope (((accstDst w : Int), 128 * codeWidth (bitsOf w 116 4)) ::
        (if bitOf w 107 then [((accstScale w : Int), 32)] else [])))) := by
  subst hb
  rw [← State.fetched_tag h] at ht
  subst ht
  rw [← State.fetched_accstCauses h] at hc
  refine congrArg ok ((State.issueOp_eq h ho _).trans ((if_neg ?_).trans (State.checked_of_none hc)))
  simp [State.fetched_stalls h, hs]

end accumulator

end issue

/-- Settles O12, instruction by instruction: MMA queued, faulted and stalled, then the three of the accumulator queue. -/
theorem matrixInstructionsIssue : Obligations.MatrixInstructionsIssue := fun _ _ _ _ h =>
  ⟨fun _ _ ho hs hc hb hu => exec_mma_queued h ho hs hc hb hu, fun _ ho hs hc => exec_mma_faults h ho hs hc,
    fun hs ho => exec_mma_stalled h ho hs,
    fun hs => ⟨exec_accz_queued h hs, fun _ _ _ ho hr hlo hhi hp hsrc hlen hin hb =>
      exec_accld_queued h hs ho hr hlo hhi hp hsrc hlen hin hb, fun _ _ ho hc ht hb => exec_accst_queued h hs ho hc ht hb⟩⟩

end Sys2Proof.Machine

/-! PROOFS, 02_core_and_matrix_engine.md. Heads of the queues: what a started head does, when a head starts and leaves. -/

namespace Sys2Proof.Machine

section heads
variable {s : State} {c : Fin 96} {q : QueueName} {i : Nat} {e : QEntry}

section mmaStep
variable {k : Core} {m : Mma} (h : s.headActs c.val .matrix i e) (ho : opcodeOf e.word = 0x10)
  (hk : k = (s.core c.val).atWindow (s.sluiceWindow c.val)) (hm : m = parseMma e.word)
include h ho hk hm

/-- A step for which the window has the ACLK left (R56). -/
theorem exec_mmaStep_steps (hw : k.winSteps + m.cost ≤ k.sluice) :
    exec (.mmaStep c) s = .next ((s.setCore c.val ((k.mmaStep m e.done).takeSluice m.cost)).setEntry c.val .matrix i
      (fun e => { e with done := e.done + 1 })) := by
  subst hk hm
  refine congrArg ok ((State.actHead_eq h ho _).trans (if_neg ?_))
  simp [Core.mayStep, hw]

/-- A step beyond the window's setting waits, unless it costs more than any window has (R56). -/
theorem exec_mmaStep_waits (hw : k.sluice < k.winSteps + m.cost) (hc : m.cost ≤ k.sluice) :
    exec (.mmaStep c) s = .next s := by
  subst hk hm
  refine congrArg ok ((State.actHead_eq h ho _).trans (if_pos ?_))
  simp [Core.mayStep, Nat.not_le.mpr hw, Nat.not_lt.mpr hc]

end mmaStep

section accumulator
variable (h : s.headActs c.val .accumulator i e)
include h

theorem exec_accz_acts (ho : opcodeOf e.word = 0x18) : exec (.accz c .act) s
    = .next ((s.modCore c.val (fun k => k.zeroAcc (bitsOf e.word 104 16))).finishEntry c.val .accumulator i) :=
  congrArg ok (State.actHead_eq h ho _)

theorem exec_accld_acts (ho : opcodeOf e.word = 0x19) {t : AccTag} (ht : t = accldTag e.word) : exec (.accld c .act) s
    = .next ((s.modCore c.val (fun k => positions.foldl (fun (k' : Core) p => k'.setAccVal t (bitsOf e.word 112 4) p.1 p.2
        (rdLE k.tile (256 * bitsOf e.word 97 15 + t.bytes * (32 * p.1 + p.2)) t.bytes)) k)).finishEntry c.val .accumulator i) := by
  subst ht
  exact congrArg ok (State.actHead_eq h ho _)

/-- A store of an accumulator takes 1,024 draws where it rounds stochastically and none where it does not (R96). -/
theorem exec_accst_acts (ho : opcodeOf e.word = 0x1A) {t : AccTag} {codes : Core → List Nat × List Byte} {image : Core → Nat}
    (ht : t = tagOfCode e.sc) (hcodes : codes = fun k => k.accstCodes t e.word s.freeCtr)
    (himage : image = fun k => ((List.range 1024).zip (codes k).1).foldl
      (fun n p => n + p.2 <<< outBit (bitsOf e.word 116 4) (bitsOf e.word 105 2) (p.1 / 32) (p.1 % 32)) 0) :
    exec (.accst c .act) s = .next (({ s with
        freeCtr := if bitsOf e.word 110 2 = 2 then s.freeCtr + 1024 else s.freeCtr }.modCore c.val (fun k =>
      (fun (x : Core) => if bitOf e.word 108 then x.zeroAcc (accBits t (bitsOf e.word 112 4)) else x) { k with
        tile := wrL (wrL k.tile (accstDst e.word) (leBytes (128 * codeWidth (bitsOf e.word 116 4)) (image k)))
          (accstScale e.word) (codes k).2 })).finishEntry c.val .accumulator i) := by
  subst ht hcodes himage
  refine congrArg ok ((State.actHead_eq h ho _).trans ?_)
  by_cases hd : bitsOf e.word 110 2 = 2
  · simp only [if_pos hd]
  · simp only [if_neg hd]

end accumulator

section start
variable (hi : headIdx ((s.core c.val).queue q) = some i) (he : ((s.core c.val).queue q)[i]? = some e)
include hi he

theorem exec_queueHeadStart_starts (hst : e.started = false) (hm : (s.core c.val).mayStart e = true)
    (ht : (s.core c.val).tglWaits e.word = false) (ho : opcodeOf e.word ≠ 0x10) :
    exec (.queueHeadStart c q) s = .next (s.setEntry c.val q i (fun e => { e with started := true })) := by
  refine congrArg ok ?_
  simp [hi, he, hst, hm, ht, ho]

theorem exec_queueHeadStart_held (hm : (s.core c.val).mayStart e = false) : exec (.queueHeadStart c q) s = .next s := by
  refine congrArg ok ?_
  simp [hi, he, hm]

end start

section release
variable {l : List QEntry} (hq : (s.core c.val).queue q = e :: l)
include hq

theorem exec_scoreboardRelease_over (ho : e.over = true) :
    exec (.scoreboardRelease c q) s = .next (s.dropEntry c.val q 0 true) := by
  refine congrArg ok ?_
  simp only [hq, ho, if_true]

theorem exec_scoreboardRelease_running (ho : e.over = false) : exec (.scoreboardRelease c q) s = .next s := by
  refine congrArg ok ?_
  simp [hq, ho]

end release

end heads

section caches
variable {s : State} {c : Fin 96} {i n w : Nat} {f : CFill} {bs : List Byte}

theorem exec_instructionBufferFill (hf : (s.core c.val).ibFill = some f) (hb : f.bytes = some bs) :
    exec (.instructionBufferFill c) s = .next (s.modCore c.val (fun k => { k with
      ibFill := none
      ibuf := if f.stale then k.ibuf else cacheInstall 32 4 k.ibuf f.vd f.line bs })) := by
  refine congrArg ok ?_
  simp only [hf, hb]

theorem exec_readOnlyCacheFill (hf : (s.core c.val).rocFills[i]? = some f) (hb : f.bytes = some bs) (hw : f.waiters = []) :
    exec (.readOnlyCacheFill c i) s = .next (s.modCore c.val (fun k => { k with
      rocFills := delNth k.rocFills i
      roc := if f.stale then k.roc else cacheInstall 128 8 k.roc f.vd f.line bs })) := by
  refine congrArg ok ?_
  simp only [hf, hb, hw, List.foldl_nil]

theorem exec_undefinedOpcode (h : s.atIssue c.val n w) (ho : opcodeOf w ∉ coreOpcodes) :
    exec (.undefinedOpcode c) s = .next ((s.fetched c.val n).fault c.val 0x01 (s.core c.val).pc 0 0) := by
  refine congrArg ok ((State.fetch_eq h _).trans ((if_neg ?_).trans ?_))
  · simpa using ho
  · rw [State.fetched_pc h]

end caches

section kernelEnd
variable {s : State} {c : Fin 96}

theorem exec_coreKernelEnd_ends (hs : (s.core c.val).seq = .ending) (hb : (s.core c.val).board = [])
    (hq : (s.core c.val).qm ++ (s.core c.val).qa ++ (s.core c.val).qg ++ (s.core c.val).qs = [])
    (hd : s.drainIsOver c.val 2) :
    exec (.coreKernelEnd c) s = .next ((s.drainOff c.val).modCore c.val (fun k => { k.boundary with seq := .ended })) := by
  refine congrArg ok ((if_neg ?_).trans (State.drained_eq hd _))
  simp only [hs, hb, hq, List.isEmpty_nil, ne_eq, not_true_eq_false, or_self, not_false_eq_true]

theorem exec_coreKernelEnd_waits (hb : (s.core c.val).board ≠ []) : exec (.coreKernelEnd c) s = .next s := by
  refine congrArg ok (if_pos (.inr (.inl ?_)))
  rwa [List.isEmpty_iff]

end kernelEnd

/-- Settles O13: the heads command by command, then the caches, an opcode that is not listed and the end of a kernel. -/
theorem queueHeadsActInTurn : Obligations.QueueHeadsActInTurn :=
  ⟨fun _ _ _ _ _ => ⟨fun _ _ h ho hk hm => ⟨exec_mmaStep_steps h ho hk hm, exec_mmaStep_waits h ho hk hm⟩,
      fun h => ⟨exec_accz_acts h, fun _ ho ht => exec_accld_acts h ho ht,
        fun _ _ _ ho ht hcodes himage => exec_accst_acts h ho ht hcodes himage⟩,
      exec_queueHeadStart_starts, exec_queueHeadStart_held, fun _ => exec_scoreboardRelease_over,
      fun _ => exec_scoreboardRelease_running⟩,
    fun _ _ _ _ _ _ _ => ⟨exec_instructionBufferFill, exec_readOnlyCacheFill, exec_undefinedOpcode,
      exec_coreKernelEnd_ends, exec_coreKernelEnd_waits⟩⟩

end Sys2Proof.Machine

/-! PROOFS, 02_core_and_matrix_engine.md. The accumulators: values stored at positions of one of them, and a step of an MMA as such
a store. -/

namespace Sys2Proof.Machine

theorem mem_positions {i j : Nat} : (i, j) ∈ positions ↔ i < 32 ∧ j < 32 := by
  simp only [positions, List.mem_map, List.mem_range, Prod.mk.injEq]
  constructor
  · rintro ⟨x, hx, rfl, rfl⟩
    omega
  · intro ⟨hi, hj⟩
    exact ⟨32 * i + j, by omega, by omega, by omega⟩

section word
variable {k : Core} {t u i j i' j' v : Nat}

theorem Core.wf_setAcc (hw : SMap.wf (fun _ => (0 : W32)) k.acc = true) :
    SMap.wf (fun _ => (0 : W32)) (k.setAcc t i j v).acc = true :=
  SMap.wf_set _ _ _ _ hw

theorem Core.accWord_setAcc_same (hw : SMap.wf (fun _ => (0 : W32)) k.acc = true) :
    (k.setAcc t i j v).accWord t i j = v % 2 ^ 32 := by
  rw [Core.accWord, Core.setAcc, SMap.get_set _ _ _ _ hw, if_pos rfl, BitVec.toNat_ofNat]

/-- Positions of the array are distinct words of the accumulator file. -/
theorem Core.accWord_setAcc_ne (hi : i < 32) (hj : j < 32) (hi' : i' < 32) (hj' : j' < 32)
    (hne : ¬ (u = t ∧ i' = i ∧ j' = j)) : (k.setAcc t i j v).accWord u i' j' = k.accWord u i' j' := by
  rw [Core.accWord, Core.setAcc, SMap.get_set_ne _ _ _ _ _ (by omega), Core.accWord]

end word

/-- Store the value that `f` gives a position in accumulator `t`. -/
def Core.putAcc (t : Nat) (f : Nat × Nat → Nat) (k : Core) (p : Nat × Nat) : Core := k.setAcc t p.1 p.2 (f p)

section store
variable {k : Core} {t u i j : Nat} {f : Nat × Nat → Nat} {ps : List (Nat × Nat)}

theorem Core.foldl_putAcc_fields : ps.foldl (Core.putAcc t f) k = { k with acc := (ps.foldl (Core.putAcc t f) k).acc } := by
  induction ps generalizing k with
  | nil => rfl
  | cons p ps ih => exact ih

section array
variable (hi : i < 32) (hj : j < 32) (hps : ∀ p ∈ ps, p.1 < 32 ∧ p.2 < 32)
include hi hj hps

theorem Core.accWord_foldl_putAcc_ne (hu : u ≠ t) :
    (ps.foldl (Core.putAcc t f) k).accWord u i j = k.accWord u i j := by
  induction ps generalizing k with
  | nil => rfl
  | cons p ps ih =>
    obtain ⟨⟨h1, h2⟩, hps⟩ := List.forall_mem_cons.mp hps
    rw [List.foldl_cons, ih hps, Core.putAcc, Core.accWord_setAcc_ne h1 h2 hi hj (fun h => hu h.1)]

theorem Core.accWord_foldl_putAcc (hw : SMap.wf (fun _ => (0 : W32)) k.acc = true) :
    (ps.foldl (Core.putAcc t f) k).accWord t i j = if (i, j) ∈ ps then f (i, j) % 2 ^ 32 else k.accWord t i j := by
  induction ps generalizing k with
  | nil => rfl
  | cons p ps ih =>
    obtain ⟨⟨h1, h2⟩, hps⟩ := List.forall_mem_cons.mp hps
    rw [List.foldl_cons, Core.putAcc, ih hps (Core.wf_setAcc hw)]
    by_cases hp : (i, j) = p
    · subst hp
      rw [if_pos List.mem_cons_self, Core.accWord_setAcc_same hw, ite_self]
    · have hne : ¬ (t = t ∧ i = p.1 ∧ j = p.2) := fun h => hp (Prod.ext h.2.1 h.2.2)
      simp only [List.mem_cons, hp, false_or, Core.accWord_setAcc_ne h1 h2 hi hj hne]

end array

end store

/-- The result of the dot product unit at a position for step `x` (R46, R51). -/
def Core.stepValue (k : Core) (m : Mma) (x : Nat) (p : Nat × Nat) : Nat :=
  dpuStep m (rdN k.tile ((m.aAt x).toNat + p.1 * rowBytes m.fa m.k) (rowBytes m.fa m.k))
    (rdN k.tile ((m.bAt x).toNat + p.2 * rowBytes m.fb m.k) (rowBytes m.fb m.k))
    (if m.mode = 0 then [] else rdN k.tile (m.saAt x) m.scaleSize)
    (if m.mode = 0 then [] else rdN k.tile (m.sbAt x) m.scaleSize) p.1 p.2
    (if m.zero = true ∧ x = 0 then 0 else k.accWord m.acc p.1 p.2)

section step
variable {k : Core} {m : Mma} {x t i j : Nat} (ht : m.tag ≠ .fp64)
include ht

/-- A step of a 32-bit accumulator type stores the result of each position, all from the core before the step. -/
theorem Core.mmaStep_eq : k.mmaStep m x = positions.foldl (Core.putAcc m.acc (k.stepValue m x)) k := by
  unfold Core.mmaStep Core.putAcc Core.stepValue
  simp only [Core.setAccVal, Core.accVal, if_neg ht, Bool.and_eq_true, decide_eq_true_eq]

theorem Core.mmaStep_fields : k.mmaStep m x = { k with acc := (k.mmaStep m x).acc } := by
  rw [Core.mmaStep_eq ht]
  exact Core.foldl_putAcc_fields

section array
variable (hi : i < 32) (hj : j < 32)
include hi hj

theorem Core.accWord_mmaStep (hw : SMap.wf (fun _ => (0 : W32)) k.acc = true) :
    (k.mmaStep m x).accWord m.acc i j = k.stepValue m x (i, j) % 2 ^ 32 := by
  rw [Core.mmaStep_eq ht, Core.accWord_foldl_putAcc hi hj (fun _ => mem_positions.mp) hw,
    if_pos (mem_positions.mpr ⟨hi, hj⟩)]

theorem Core.accWord_mmaStep_ne (hne : t ≠ m.acc) : (k.mmaStep m x).accWord t i j = k.accWord t i j := by
  rw [Core.mmaStep_eq ht, Core.accWord_foldl_putAcc_ne hi hj (fun _ => mem_positions.mp) hne]

end array

end step

/-- Settles O14: a step is a store of its results at the 1,024 positions of one accumulator. -/
theorem matrixStepUpdatesEveryPosition : Obligations.MatrixStepUpdatesEveryPosition := fun _ _ _ _ _ hw ht hi hj =>
  ⟨Core.accWord_mmaStep ht hi hj hw, fun _ => Core.accWord_mmaStep_ne ht hi hj, Core.mmaStep_fields ht⟩

end Sys2Proof.Machine

/-! PROOFS, 04_thread_groups.md. A group at its issue: what a held or free instruction does, and what it still finds in its core. -/

namespace Sys2Proof.Machine

section causes
variable {x : Nat} {cs : List (Bool × Nat)}

@[simp] theorem lowestCause_nil : lowestCause [] = none := rfl

@[simp] theorem lowestCause_cons_false : lowestCause ((false, x) :: cs) = lowestCause cs := rfl

@[simp] theorem lowestCause_cons_true : lowestCause ((true, x) :: cs) = some x := rfl

end causes

@[simp] theorem Group.hazard_nil {g : Group} : g.hazard [] = false := by simp [Group.hazard]

section issue
variable {s : State} {c slot n w : Nat} {j : Job} {k : GKernel} {g : Group}

@[simp] theorem State.gFetched_freeCtr {pc : Nat} : (s.gFetched c slot n pc).freeCtr = s.freeCtr := rfl

/-- Draws that are taken only in one case change the count of draws alone. -/
theorem State.ite_freeCtr {p : Prop} [Decidable p] {v : Nat} :
    (if p then { s with freeCtr := v } else s) = { s with freeCtr := if p then v else s.freeCtr } := by
  split <;> rfl

theorem State.modGroup_of_some (h : s.group c slot = some g) (f : Group → Group) :
    s.modGroup c slot f = s.setGroup c slot (some (f g)) := by
  simp only [State.modGroup, h]

section issues
variable (h : s.groupIssues c slot n j k g w)
include h

theorem State.groupIssues_ready : g.wait = .ready := by
  obtain ⟨_, _, _, hruns, _⟩ := h
  simp only [Group.runs, Bool.and_eq_true, decide_eq_true_eq] at hruns
  exact hruns.1.1.1

/-- A group in its turn hands its instruction on (R123, R124). -/
theorem State.gfetch_eq (f : Nat → Job → GKernel → Group → GInstr → State → State) :
    s.gfetch c slot f = f n j k g (parseG w) (s.gFetched c slot n g.pc) := by
  obtain ⟨hg, hj, hk, hruns, hcode, hw, hturn⟩ := h
  simp [State.gfetch, hg, hj, hk, hruns, hcode, hw, hturn, State.gFetched]

variable {op : Nat} {names : GInstr → List (Nat × Nat)}
  {causes : Nat → Job → GKernel → Group → GInstr → List (Bool × Nat)} {i : GInstr} (hi : i = parseG w)
include hi

/-- An instruction that no hazard holds back faults with the lowest of its causes (R127, R147). -/
theorem State.gissue_faults {x : Nat} (ho : i.op = op) (hz : g.hazard (names i) = false)
    (hc : lowestCause ((i.reservedCode, 0x10) :: causes n j k g i) = some x)
    (f : Nat → Job → GKernel → Group → GInstr → State → State) :
    s.gissue c slot op names causes f = (s.gFetched c slot n g.pc).gfault c slot x := by
  subst hi
  rw [State.gissue, State.gfetch_eq h, if_neg (by simp [ho, hz])]
  simp only [hc]

/-- An instruction without a reserved code that no hazard and no cause of its own holds back acts (R123, R127). -/
theorem State.gissue_acts (hr : i.reservedCode = false) (ho : i.op = op) (hz : g.hazard (names i) = false)
    (hc : lowestCause (causes n j k g i) = none) (f : Nat → Job → GKernel → Group → GInstr → State → State) :
    s.gissue c slot op names causes f = f n j k g i (s.gFetched c slot n g.pc) :=
  State.gissue_eq h hi ho (by rw [hr, lowestCause_cons_false, hc]) hz f

end issues

end issue

end Sys2Proof.Machine

/-! PROOFS, 04_thread_groups.md. Kernels of groups: their launch, the placement of their groups, their end, and what stops a group. -/

namespace Sys2Proof.Machine

section launch
variable {s : State} {c : Fin 96} {n w : Nat} (h : s.atIssue c.val n w) (hs : (s.core c.val).stalls .group = false)
include h hs

theorem exec_tgl_queued (ho : opcodeOf w = 0x20) (hr : bitsOf w 88 5 = 0) (hi : bitsOf w 0 32 = 0) (hlo : bitsOf w 108 6 ≠ 0)
    (hhi : bitsOf w 108 6 ≤ 32) (hin : tglBase w + tglLen w ≤ 32768) (hp : bitOf w 117 = false) (hl : tglLen w ≠ 0) :
    exec (.tgl c .issue) s = .next ((s.fetched c.val n).enqueue c.val .group w ((s.core c.val).sreg (bitsOf w 103 5))
      ((s.core c.val).sreg (bitsOf w 98 5)) ((s.core c.val).sreg (bitsOf w 93 5)) 0 0
      [(tglBase w, tglBase w + tglLen w)] [(tglBase w, tglBase w + tglLen w)]) := by
  refine congrArg ok ((State.issueOp_eq h ho _).trans ((if_neg ?_).trans ((State.checked_of_none ?_).trans ?_)))
  · simp [State.fetched_stalls h, hs]
  · simp [hr, hi, hlo, hp, Nat.not_lt.mpr hhi, Nat.not_lt.mpr hin]
  · simp only [State.fetched_sreg h, if_neg hl]

theorem exec_tgwait_queued (ho : opcodeOf w = 0x21) (hr : bitsOf w 0 112 = 0) :
    exec (.tgwait c .issue) s = .next ((s.fetched c.val n).enqueue c.val .group w 0 0 0 0 0 [] []) := by
  refine congrArg ok ((State.issueOp_eq h ho _).trans ((if_neg ?_).trans (State.checked_of_none ?_)))
  · simp [State.fetched_stalls h, hs]
  · simp [hr]

end launch

section heads
variable {s : State} {c : Fin 96} {i : Nat} {e : QEntry} (h : s.headActs c.val .group i e)
include h

/-- A launch of no group leaves its queue at once (R113). -/
theorem exec_tgl_empty (ho : opcodeOf e.word = 0x20) (hc : fld e.sa 0 24 = 0) :
    exec (.tgl c .act) s = .next ((s.modCore c.val Core.boundary).dropEntry c.val .group i true) :=
  congrArg ok ((State.actHead_eq h ho _).trans (if_pos hc))

theorem exec_tgl_launches (ho : opcodeOf e.word = 0x20) (hc : fld e.sa 0 24 ≠ 0) :
    exec (.tgl c .act) s = .next (((s.modCore c.val Core.boundary).dropEntry c.val .group i false).modCore c.val (fun x => { x with
      kernels := x.kernels ++ [⟨bitsOf e.word 114 3, widthOf (bitsOf e.word 118 2), 8 * bitsOf e.word 108 6, bitOf e.word 117,
        e.sc.toNat, wrapN 64 ((e.pc : Int) + 16 * sext (bitsOf e.word 32 25) 25), fld e.sa 0 24, e.sb, 0, 0, e.sb_⟩] })) :=
  congrArg ok ((State.actHead_eq h ho _).trans (if_neg hc))

theorem exec_tgwait_completes (ho : opcodeOf e.word = 0x21)
    (hk : (s.core c.val).kernels.any (fun g => bitOf (bitsOf e.word 112 8) g.tag) = false) :
    exec (.tgwait c .act) s = .next (s.finishEntry c.val .group i) :=
  congrArg ok ((State.actHead_eq h ho _).trans (if_neg (by simp [hk])))

end heads

section kernels
variable {s : State} {c : Fin 96}

theorem exec_groupPlacement_places {g : GKernel} {slot e : Nat} {x : Group}
    (hk : (s.core c.val).kernels.find? (fun g => decide (g.placed < g.count)) = some g)
    (he : (s.core c.val).placeAt g = some e) (hs : (s.core c.val).freeSlot e = some slot)
    (hx : x = ⟨g.tag, g.placed, g.width, ((s.core c.val).seFree e g.width).2,
      startRegs g g.placed ((s.coreLogical c.val).getD 0), g.entry, 2 ^ g.width - 1, 2 ^ g.width - 1, [], 0, [], 0, [],
      2 ^ 32 * ((s.core c.val).nextSb + 1), .ready, false⟩) :
    exec (.groupPlacement c) s = .next ((s.setGroup c.val slot (some x)).modCore c.val (fun k => { k with
      nextSb := k.nextSb + 1
      kernels := k.kernels.map (fun (y : GKernel) => if y.tag = g.tag then { y with placed := y.placed + 1 } else y) })) := by
  subst hx
  refine congrArg ok ?_
  simp only [hk, he, hs]

theorem exec_groupKernelEnd_leaves {tag : Fin 8} {g : GKernel} (hk : (s.core c.val).kernelOf tag.val = some g)
    (he : g.count ≤ g.ended) :
    exec (.groupKernelEnd c tag) s = .next (s.modCore c.val (fun _ => { s.core c.val with
      kernels := (s.core c.val).kernels.filter (fun x => !decide (x.tag = tag.val))
      board := (s.core c.val).board.filter (fun b => !decide (some b.id = g.sb_)) })) := by
  refine congrArg ok (State.modCore_congr ?_)
  simp only [hk, if_pos he]

theorem exec_groupInstructionCacheFill_installs {f : CFill} {l : List CFill} {bs : List Byte}
    (hf : (s.core c.val).gicFills = f :: l) (hb : f.bytes = some bs) (hs : f.stale = false) :
    exec (.groupInstructionCacheFill c) s = .next (s.modCore c.val (fun _ => { s.core c.val with
      gicFills := l
      gic := cacheInstall 32 4 (s.core c.val).gic f.vd f.line bs })) := by
  refine congrArg ok (State.modCore_congr ?_)
  simp [hf, hb, hs, List.findIdx?_cons, delNth]

end kernels

section stops
variable {s : State} {c : Fin 96} {slot : Fin 64} {g : Group}

section issues
variable {n w : Nat} {j : Job} {k : GKernel} (h : s.groupIssues c.val slot.val n j k g w)
include h

theorem exec_groupUndefined_faults (ho : (parseG w).op ∉ groupOpcodes) :
    exec (.groupUndefined c slot) s = .next ((s.gFetched c.val slot.val n g.pc).gfault c.val slot.val 0x10) :=
  congrArg ok ((State.gfetch_eq h _).trans (if_neg (by simpa using ho)))

theorem exec_vialu_reserved (ho : (parseG w).op = 0x80) (hr : (parseG w).reservedCode = true)
    (hz : g.hazard ((parseG w).names2 1) = false) :
    exec (.vialu c slot) s = .next ((s.gFetched c.val slot.val n g.pc).gfault c.val slot.val 0x10) :=
  congrArg ok (State.gissue_faults h rfl ho hz (by rw [hr, lowestCause_cons_true]) _)

end issues

variable (hg : s.group c.val slot.val = some g)
include hg

theorem exec_spinWatchdog_expired (hw : 2 ^ 20 ≤ g.watchdog) (hs : g.stopped = false) :
    exec (.spinWatchdog c slot) s = .next (s.gfault c.val slot.val 0x1B) := by
  refine congrArg ok ?_
  simp only [hg]
  exact if_pos ⟨hw, by simp [hs]⟩

theorem exec_spinWatchdog_running (hw : g.watchdog < 2 ^ 20) : exec (.spinWatchdog c slot) s = .next s := by
  refine congrArg ok ?_
  simp only [hg]
  exact if_neg (fun h => Nat.not_le.mpr hw h.1)

end stops

/-- Settles O16: TGL and TGWAIT at issue and at the head of their queue, kernels and their groups, then what stops a group. -/
theorem groupKernelsLaunchAndEnd : Obligations.GroupKernelsLaunchAndEnd :=
  ⟨fun _ _ _ _ _ _ => ⟨fun h hs => ⟨exec_tgl_queued h hs, exec_tgwait_queued h hs⟩,
      fun h => ⟨exec_tgl_empty h, exec_tgl_launches h, exec_tgwait_completes h⟩,
      fun _ _ _ _ => exec_groupPlacement_places, fun _ _ => exec_groupKernelEnd_leaves⟩,
    fun _ _ _ _ _ _ _ _ => ⟨exec_groupUndefined_faults, exec_vialu_reserved, exec_spinWatchdog_expired,
      exec_spinWatchdog_running, fun _ _ _ => exec_groupInstructionCacheFill_installs⟩⟩

end Sys2Proof.Machine

/-! PROOFS, 04_thread_groups.md. The arithmetic instructions of a group, one lemma per opcode. -/

namespace Sys2Proof.Machine

section galu
variable {s : State} {c slot n w op : Nat} {j : Job} {k : GKernel} {g : Group} {i : GInstr} {names : GInstr → List (Nat × Nat)}
  {width : GInstr → Nat} {F : Nat → Nat} (h : s.groupIssues c slot n j k g w) (hi : i = parseG w) (hr : i.reservedCode = false)
  (ho : i.op = op)
include h hi hr ho

/-- An arithmetic instruction whose operation is one of the first codes of FUNCT gives each lane what that operation does (R127). -/
theorem State.galu_funct {last : Nat} {f : GInstr → Group → Nat → Option Nat} (hfn : i.funct ≤ last)
    (hn : regsOk k.regs (names i) = true) (hz : g.hazard (names i) = false) (hf : ∀ l, f i g l = some (F l)) :
    s.galu c slot op (fun i => decide (last < i.funct)) names width (fun _ => false) (fun i g l _ => (f i g l).getD 0)
      = s.gDone c slot n g.pc (g.computed i (width i) F) :=
  State.galu_eq h hi hr ho (decide_eq_false (Nat.not_lt.mpr hfn)) hn hz rfl F (fun l _ => congrArg (Option.getD · 0) (hf l))

/-- An arithmetic instruction whose lanes draw free values takes 256 of them, one for each lane there may be (R126, R129). -/
theorem State.galu_draws {bad draws : GInstr → Bool} {f : GInstr → Group → Nat → Nat → Nat} (hb : bad i = false)
    (hn : regsOk k.regs (names i) = true) (hz : g.hazard (names i) = false) (hF : ∀ l, f i g l (s.freeCtr + l) = F l) :
    s.galu c slot op bad names width draws f = { s.gFetched c slot n g.pc with
      freeCtr := if draws i then s.freeCtr + 256 else s.freeCtr }.setGroup c slot (some (g.computed i (width i) F)) := by
  rw [State.galu, State.gissue_acts h hi hr ho hz (by simp [aluCauses, hb, hn])]
  simp only [State.gFetched_freeCtr, State.ite_freeCtr, hF, Group.computed]

end galu

section arithmetic
variable {s : State} {c : Fin 96} {slot : Fin 64} {n w : Nat} {j : Job} {k : GKernel} {g : Group} {i : GInstr} {f : Nat → Nat}
  (h : s.groupIssues c.val slot.val n j k g w) (hi : i = parseG w) (hr : i.reservedCode = false)
include h hi hr

theorem exec_vialu (ho : i.op = 0x80) (hfn : i.funct ≤ 13) (hn : regsOk k.regs (i.names2 1) = true)
    (hz : g.hazard (i.names2 1) = false) (hf : ∀ l, vialuOp 32 i.funct (g.val i.a l 1) (i.opB g l 1) = some (f l)) :
    exec (.vialu c slot) s = .next (s.gDone c.val slot.val n g.pc (g.computed i 1 f)) :=
  congrArg ok (State.galu_funct h hi hr ho hfn hn hz hf)

theorem exec_vialu64 (ho : i.op = 0x81) (hfn : i.funct ≤ 13) (hn : regsOk k.regs (i.names2 2) = true)
    (hz : g.hazard (i.names2 2) = false) (hf : ∀ l, vialuOp 64 i.funct (g.val i.a l 2) (i.opB g l 2) = some (f l)) :
    exec (.vialu64 c slot) s = .next (s.gDone c.val slot.val n g.pc (g.computed i 2 f)) :=
  congrArg ok (State.galu_funct h hi hr ho hfn hn hz hf)

theorem exec_vfp32 (ho : i.op = 0x84) (hfn : i.funct ≤ 6) (hn : regsOk k.regs (i.namesF 1) = true)
    (hz : g.hazard (i.namesF 1) = false)
    (hf : ∀ l, vfpOp .fp32 i.funct i.round (g.val i.a l 1) (i.opB g l 1) (g.val i.c l 1) = some (f l)) :
    exec (.vfp32 c slot) s = .next (s.gDone c.val slot.val n g.pc (g.computed i 1 f)) :=
  congrArg ok (State.galu_funct h hi hr ho hfn hn hz hf)

theorem exec_vfp64 (ho : i.op = 0x85) (hfn : i.funct ≤ 6) (hn : regsOk k.regs (i.namesF 2) = true)
    (hz : g.hazard (i.namesF 2) = false)
    (hf : ∀ l, vfpOp .fp64 i.funct i.round (g.val i.a l 2) (i.opB g l 2) (g.val i.c l 2) = some (f l)) :
    exec (.vfp64 c slot) s = .next (s.gDone c.val slot.val n g.pc (g.computed i 2 f)) :=
  congrArg ok (State.galu_funct h hi hr ho hfn hn hz hf)

theorem exec_vsf (ho : i.op = 0x86) (hfn : i.funct ≤ 6) (hn : regsOk k.regs [(i.dst, 1), (i.a, 1)] = true)
    (hz : g.hazard [(i.dst, 1), (i.a, 1)] = false) (hf : ∀ l, vsfOp i.funct i.round (g.reg i.a l) = some (f l)) :
    exec (.vsf c slot) s = .next (s.gDone c.val slot.val n g.pc (g.computed i 1 f)) :=
  congrArg ok (State.galu_funct h hi hr ho hfn hn hz hf)

theorem exec_vcvt (ho : i.op = 0x88) (hfn : i.funct ≤ 0xA) (hfmt : i.fmt ≤ 0xA) (hround : i.round ≠ 3)
    (hn : regsOk k.regs [(i.dst, fmtRegs i.fmt), (i.a, fmtRegs i.funct)] = true)
    (hz : g.hazard [(i.dst, fmtRegs i.fmt), (i.a, fmtRegs i.funct)] = false)
    (hf : ∀ l, vcvtOp i.funct i.fmt i.round i.sat (Config.freeRand16 (s.freeCtr + l)).toNat (g.val i.a l (fmtRegs i.funct)) = f l) :
    exec (.vcvt c slot) s = .next ({ s.gFetched c.val slot.val n g.pc with
      freeCtr := if i.round = 2 then s.freeCtr + 256 else s.freeCtr }.setGroup c.val slot.val
        (some (g.computed i (fmtRegs i.fmt) f))) := by
  refine congrArg ok ((State.galu_draws h hi hr ho ?_ hn hz hf).trans ?_)
  · simp [hfn, hfmt, hround]
  · simp only [decide_eq_true_eq]

theorem exec_vcmp (ho : i.op = 0x8A) (hrel : i.funct % 16 ≤ 5) (hfn : i.funct ≤ 63)
    (hn : regsOk k.regs ([(i.dst, 1), (i.a, cmpRegs i)] ++ (if i.immB then [] else [(i.b, cmpRegs i)])) = true)
    (hz : g.hazard ([(i.dst, 1), (i.a, cmpRegs i)] ++ (if i.immB then [] else [(i.b, cmpRegs i)])) = false)
    (hf : ∀ l, vcmpOp i.funct (g.val i.a l (cmpRegs i)) (i.opB g l (cmpRegs i)) = f l) :
    exec (.vcmp c slot) s = .next (s.gDone c.val slot.val n g.pc (g.computed i 1 f)) :=
  congrArg ok (State.galu_eq h hi hr ho (by simp [hrel, hfn]) hn hz rfl f (fun l _ => hf l))

theorem exec_vsel (ho : i.op = 0x8B) (hn : regsOk k.regs (i.names2 1 ++ [(i.c, 1)]) = true)
    (hz : g.hazard (i.names2 1 ++ [(i.c, 1)]) = false)
    (hf : ∀ l, (if g.reg i.c l ≠ 0 then g.val i.a l 1 else i.opB g l 1) = f l) :
    exec (.vsel c slot) s = .next (s.gDone c.val slot.val n g.pc (g.computed i 1 f)) :=
  congrArg ok (State.galu_eq h hi hr ho rfl hn hz rfl f (fun l _ => hf l))

theorem exec_vshfl (ho : i.op = 0x8C) (hn : regsOk k.regs (i.names2 1) = true) (hz : g.hazard (i.names2 1) = false)
    (hf : ∀ l, g.val i.a (i.opB g l 1 % g.width) 1 = f l) :
    exec (.vshfl c slot) s = .next (s.gDone c.val slot.val n g.pc (g.computed i 1 f)) :=
  congrArg ok (State.galu_eq h hi hr ho rfl hn hz rfl f (fun l _ => hf l))

end arithmetic

/-- Settles O17, opcode by opcode. -/
theorem groupArithmeticCompletes : Obligations.GroupArithmeticCompletes := fun _ _ _ _ _ _ _ _ _ _ h hi hr =>
  ⟨exec_vialu h hi hr, exec_vialu64 h hi hr, exec_vfp32 h hi hr, exec_vfp64 h hi hr, exec_vsf h hi hr, exec_vcvt h hi hr,
    exec_vcmp h hi hr, exec_vsel h hi hr, exec_vshfl h hi hr⟩

end Sys2Proof.Machine

/-! PROOFS, 04_thread_groups.md. Registers of lanes: values given to lanes of one register, and what the moves of a group leave. -/

namespace Sys2Proof.Machine

theorem mem_setBitsOf {w m l : Nat} : l ∈ setBitsOf w m ↔ l < w ∧ bitOf m l = true := by
  rw [setBitsOf, List.mem_filter, List.mem_range]

theorem Group.mem_lanes {g : Group} {m l : Nat} : l ∈ g.lanes m ↔ l < g.width ∧ bitOf m l = true := mem_setBitsOf

section regs
variable {g : Group} {d q l l' v : Nat}

theorem Group.wf_setReg (hw : SMap.wf (fun _ => (0 : W32)) g.regs = true) :
    SMap.wf (fun _ => (0 : W32)) (g.setReg d l v).regs = true := SMap.wf_set _ _ _ _ hw

theorem Group.reg_setReg_same (hw : SMap.wf (fun _ => (0 : W32)) g.regs = true) :
    (g.setReg d l v).reg d l = BitVec.ofNat 32 v := by
  rw [Group.reg, Group.setReg, SMap.get_set _ _ _ _ hw, if_pos rfl]

/-- Registers of lanes below 256 are distinct words of the register file. -/
theorem Group.reg_setReg_ne (hl : l < 256) (hl' : l' < 256) (hne : ¬ (q = d ∧ l' = l)) :
    (g.setReg d l v).reg q l' = g.reg q l' := by
  rw [Group.reg, Group.setReg, SMap.get_set_ne _ _ _ _ _ (by omega), Group.reg]

/-- A value of one register is its low word (R119). -/
theorem Group.setVal_one : g.setVal d l 1 v = g.setReg d l v := by
  have hv : BitVec.ofNat 32 (v % 2 ^ 32) = BitVec.ofNat 32 v := BitVec.eq_of_toNat_eq (by simp)
  simp only [Group.setVal, Group.setReg, hv]

end regs

/-- Give the lanes of a list the value `f` of their number in register `d`. -/
def Group.putLanes (g : Group) (d : Nat) (f : Nat → Nat) (ls : List Nat) : Group :=
  ls.foldl (fun x l => x.setReg d l (f l)) g

section lanes
variable {g : Group} {d q l : Nat} {f : Nat → Nat} {ls : List Nat}

theorem Group.putLanes_fields : g.putLanes d f ls = { g with regs := (g.putLanes d f ls).regs } := by
  unfold Group.putLanes
  induction ls generalizing g with
  | nil => rfl
  | cons a ls ih => exact ih

variable (hls : ∀ a ∈ ls, a < 256) (hl : l < 256)
include hls hl

theorem Group.reg_putLanes_ne (hne : q ≠ d ∨ l ∉ ls) : (g.putLanes d f ls).reg q l = g.reg q l := by
  unfold Group.putLanes
  induction ls generalizing g with
  | nil => rfl
  | cons a ls ih =>
    obtain ⟨ha, hls⟩ := List.forall_mem_cons.mp hls
    have hhead : ¬ (q = d ∧ l = a) := by
      rintro ⟨rfl, rfl⟩
      simp at hne
    rw [List.foldl_cons, ih hls (hne.imp_right fun h hm => h (List.mem_cons_of_mem a hm)), Group.reg_setReg_ne ha hl hhead]

theorem Group.reg_putLanes (hw : SMap.wf (fun _ => (0 : W32)) g.regs = true) (hm : l ∈ ls) :
    (g.putLanes d f ls).reg d l = BitVec.ofNat 32 (f l) := by
  induction ls generalizing g with
  | nil => cases hm
  | cons a ls ih =>
    obtain ⟨ha, hls⟩ := List.forall_mem_cons.mp hls
    by_cases hin : l ∈ ls
    · exact ih hls (Group.wf_setReg hw) hin
    · obtain rfl : a = l := ((List.mem_cons.mp hm).resolve_right hin).symm
      exact (Group.reg_putLanes_ne hls hl (.inr hin)).trans (Group.reg_setReg_same hw)

end lanes

/-! Reconvergence (R131, R139): the moves of a group leave its registers, and there is none without a stack and locks. -/

theorem Group.settle1_regs {g x : Group} (h : g.settle1 = some x) : x.regs = g.regs := by
  unfold Group.settle1 at h
  grind

theorem Group.settle_regs (m : Nat) (g : Group) : (Group.settle m g).regs = g.regs := by
  induction m generalizing g with
  | zero => rfl
  | succ m ih =>
    rw [Group.settle]
    split
    case h_1 x hx => rw [ih, Group.settle1_regs hx]
    case h_2 => rfl

theorem Group.goto_regs {g : Group} {pc : Nat} : (g.goto pc).regs = g.regs := Group.settle_regs _ _

theorem Group.settle1_of_nil {g : Group} (hs : g.stack = []) (hl : g.locks = []) : g.settle1 = none := by
  simp only [Group.settle1, hs, hl]

theorem Group.goto_of_nil {g : Group} {pc : Nat} (hs : g.stack = []) (hl : g.locks = []) : g.goto pc = { g with pc := pc } := by
  rw [Group.goto, Group.settle, Group.settle1_of_nil (g := { g with pc := pc }) hs hl]

theorem Group.computed_one {g : Group} {i : GInstr} {f : Nat → Nat} :
    g.computed i 1 f = (g.putLanes i.dst f (g.lanes g.active)).goto (g.pc + 16) := by
  simp only [Group.computed, Group.putLanes, Group.setVal_one]

theorem Group.reg_computed_one {g : Group} {i : GInstr} {f : Nat → Nat} {q l : Nat} :
    (g.computed i 1 f).reg q l = (g.putLanes i.dst f (g.lanes g.active)).reg q l := by
  rw [Group.computed_one, Group.reg, Group.goto_regs, Group.reg]

/-- Settles O18: the result goes to lanes of one register; going on to the next instruction leaves all registers. -/
theorem arithmeticWritesTheActiveLanesAlone : Obligations.ArithmeticWritesTheActiveLanesAlone := by
  intro g i f hw hwidth
  have hlanes : ∀ a ∈ g.lanes g.active, a < 256 := fun a ha => (Group.mem_lanes.mp ha).1.trans_le hwidth
  refine ⟨fun l hl ha => ?_, fun r l hl hne => ?_, fun hs hlocks => ?_⟩
  · rw [Group.reg_computed_one, Group.reg_putLanes hlanes (hl.trans_le hwidth) hw (Group.mem_lanes.mpr ⟨hl, ha⟩)]
  · rw [Group.reg_computed_one, Group.reg_putLanes_ne hlanes hl (hne.imp_right fun hb hm => ?_)]
    rw [(Group.mem_lanes.mp hm).2] at hb
    exact Bool.noConfusion hb
  · rw [Group.computed_one, Group.goto_regs]
    exact (congrArg (Group.goto · (g.pc + 16)) Group.putLanes_fields).trans (Group.goto_of_nil hs hlocks)

end Sys2Proof.Machine

/-! PROOFS, 04_thread_groups.md. Branches, ends and the tile store, one lemma per instruction and outcome. -/

namespace Sys2Proof.Machine

/-- What a VBR makes of its group (R130, R131, R141): where no lane takes the branch or all do, the group goes on or to the target;
lanes that part leave an entry on the stack. -/
def Group.branched (g : Group) (i : GInstr) : Group :=
  let t := branchTaken i g
  let target := displaced g.pc (bitsOf i.imm 32 32)
  let x := { g with watchdog := if decide (t ≠ 0) && decide (target ≤ g.pc) then g.watchdog + 1 else g.watchdog }
  if t = 0 then x.goto (g.pc + 16)
  else if t = g.active then x.goto target
  else Group.goto { x with
    active := g.active - t
    stack := ⟨g.active, t, target, displaced g.pc (bitsOf i.imm 0 32), false⟩ :: g.stack } (g.pc + 16)

section branched
variable {g : Group} {i : GInstr}

theorem Group.branched_of_none (h : branchTaken i g = 0) : g.branched i = g.goto (g.pc + 16) := by
  simp [Group.branched, h]

variable {target : Nat} {x : Group} (ht : target = displaced g.pc (bitsOf i.imm 32 32))
  (hx : x = { g with watchdog := if target ≤ g.pc then g.watchdog + 1 else g.watchdog })
include ht hx

theorem Group.branched_of_all (h : branchTaken i g = g.active) (ha : g.active ≠ 0) : g.branched i = x.goto target := by
  simp [Group.branched, h, ha, ht, hx]

theorem Group.branched_of_some (h0 : branchTaken i g ≠ 0) (ha : branchTaken i g ≠ g.active) :
    g.branched i = Group.goto { x with
      active := g.active - branchTaken i g
      stack := ⟨g.active, branchTaken i g, target, displaced g.pc (bitsOf i.imm 0 32), false⟩ :: g.stack } (g.pc + 16) := by
  simp [Group.branched, h0, ha, ht, hx]

end branched

section control
variable {s : State} {c : Fin 96} {slot : Fin 64} {n w : Nat} {j : Job} {k : GKernel} {g : Group} {i : GInstr}
  (h : s.groupIssues c.val slot.val n j k g w) (hi : i = parseG w) (hr : i.reservedCode = false)
include h hi hr

section branch
variable (ho : i.op = 0x90) (hfn : i.funct ≤ 2)
  (hn : i.funct ≠ 2 → regsOk k.regs [(i.a, 1)] = true ∧ g.hazard [(i.a, 1)] = false)
include ho hfn hn

/-- A branch completes where the stack has room for lanes that part (R130, R131). -/
theorem exec_vbr (hroom : branchTaken i g ≠ 0 → branchTaken i g ≠ g.active → g.stack.length < 32) :
    exec (.vbr c slot) s = .next (s.gDone c.val slot.val n g.pc (g.branched i)) := by
  have hz : g.hazard (if i.funct = 2 then [] else [(i.a, 1)]) = false := by
    split
    case isTrue => exact Group.hazard_nil
    case isFalse hne => exact (hn hne).2
  have hregs : regsOk k.regs (if i.funct = 2 then [] else [(i.a, 1)]) = true := by
    split
    case isTrue => rfl
    case isFalse hne => exact (hn hne).1
  refine congrArg ok ((State.gissue_acts h hi hr ho hz ?_ _).trans rfl)
  simp only [hregs, decide_eq_false (Nat.not_lt.mpr hfn), Bool.not_true, lowestCause_cons_false]
  by_cases h0 : branchTaken i g = 0
  · simp [h0]
  · by_cases ha : branchTaken i g = g.active
    · simp [ha]
    · simp [Nat.not_le.mpr (hroom h0 ha)]

theorem exec_vbr_untaken (h0 : branchTaken i g = 0) :
    exec (.vbr c slot) s = .next (s.gDone c.val slot.val n g.pc (g.goto (g.pc + 16))) := by
  rw [exec_vbr h hi hr ho hfn hn (fun hne => absurd h0 hne), Group.branched_of_none h0]

variable {target : Nat} {x : Group} (ht : target = displaced g.pc (bitsOf i.imm 32 32))
  (hx : x = { g with watchdog := if target ≤ g.pc then g.watchdog + 1 else g.watchdog })
include ht hx

theorem exec_vbr_taken (hall : branchTaken i g = g.active) (ha : g.active ≠ 0) :
    exec (.vbr c slot) s = .next (s.gDone c.val slot.val n g.pc (x.goto target)) := by
  rw [exec_vbr h hi hr ho hfn hn (fun _ hne => absurd hall hne), Group.branched_of_all ht hx hall ha]

theorem exec_vbr_splits (h0 : branchTaken i g ≠ 0) (ha : branchTaken i g ≠ g.active) (hroom : g.stack.length < 32) :
    exec (.vbr c slot) s = .next (s.gDone c.val slot.val n g.pc (Group.goto { x with
      active := g.active - branchTaken i g
      stack := ⟨g.active, branchTaken i g, target, displaced g.pc (bitsOf i.imm 0 32), false⟩ :: g.stack } (g.pc + 16))) := by
  rw [exec_vbr h hi hr ho hfn hn (fun _ _ => hroom), Group.branched_of_some ht hx h0 ha]

end branch

theorem exec_vend_ends (ho : i.op = 0x91) (hl : g.locks.any (fun l => decide (l.holding &&& g.active ≠ 0)) = false)
    (hu : g.out.any OutAcc.unsent = false) :
    exec (.vend c slot) s = .next ((s.gDone c.val slot.val n g.pc (Group.settle 128
      { g with alive := g.alive - (g.alive &&& g.active), active := 0 })).endGroup c.val slot.val) := by
  refine congrArg ok ((State.gissue_acts h hi hr ho Group.hazard_nil ?_ _).trans (if_neg ?_))
  · simp only [hl, lowestCause_cons_false, lowestCause_nil]
  · simp [hu]

section tileStore
variable (hsize : i.size ≤ 4)
  (hin : (g.lanes g.active).any (fun l => decide (i.tileAt g l < 0) || decide (0x800000 < i.tileAt g l + sizeBytes i.size)) = false)
include hsize hin

omit h hi hr in
/-- An access of the tile store within its 8 MiB raises no cause (R135). -/
theorem lowestCause_tileGCauses {names : GInstr → List (Nat × Nat)} (hn : regsOk k.regs (names i) = true) :
    lowestCause (tileGCauses names n j k g i) = none := by
  simp only [tileGCauses, hin, hn, decide_eq_false (Nat.not_lt.mpr hsize), Bool.not_true, lowestCause_cons_false, lowestCause_nil]

theorem exec_vldt_loads (ho : i.op = 0xA2) (hn : regsOk k.regs [(i.dst, sizeRegs i.size), (i.a, 1)] = true)
    (hz : g.hazard [(i.dst, sizeRegs i.size), (i.a, 1)] = false) (hw : g.tileWaits k true = false) :
    exec (.vldt c slot) s = .next ({ s.gFetched c.val slot.val n g.pc with
      freeCtr := if sizeBytes i.size < 4 then s.freeCtr + 256 else s.freeCtr }.setGroup c.val slot.val
        (some (g.computed i (sizeRegs i.size) (fun l => widen (sizeBytes i.size)
          (rdLE (s.core c.val).tile (i.tileAt g l).toNat (sizeBytes i.size)) (s.freeCtr + l))))) := by
  refine congrArg ok ((State.gissue_acts h hi hr ho hz (lowestCause_tileGCauses hsize hin hn) _).trans
    ((if_neg (by simp [hw])).trans ?_))
  simp only [State.ite_freeCtr, State.gFetched_freeCtr, Group.computed, ← State.gFetched_tile h]
  rfl

theorem exec_vstt_stores {names : List (Nat × Nat)} (ho : i.op = 0xA3)
    (hnames : names = [(i.a, 1)] ++ (if i.immB then [] else [(i.b, sizeRegs i.size)])) (hn : regsOk k.regs names = true)
    (hz : g.hazard names = false) (hw : g.tileWaits k false = false) :
    exec (.vstt c slot) s = .next (((({ s.gFetched c.val slot.val n g.pc with freeCtr := s.freeCtr + 512 }).modCore c.val
      (fun y => { y with
        tile := (freeOrder s.freeCtr (g.lanes g.active)).foldl (fun t l =>
          wrLE t (i.tileAt g l).toNat (sizeBytes i.size) (i.storeVal g l (s.freeCtr + 256 + l)))
          (s.core c.val).tile }))).setGroup c.val slot.val (some (Group.goto { g with watchdog := 0 } (g.pc + 16)))) := by
  subst hnames
  refine congrArg ok ((State.gissue_acts h hi hr ho hz (lowestCause_tileGCauses hsize hin hn) _).trans
    ((if_neg (by simp [hw])).trans ?_))
  simp only [State.gFetched_freeCtr, ← State.gFetched_tile h]
  rfl

end tileStore

end control

end Sys2Proof.Machine

/-! PROOFS, 04_thread_groups.md. The answers to a group's accesses, its locks and its fences, one lemma per command and outcome. -/

namespace Sys2Proof.Machine

section answers
variable {s : State} {c : Fin 96} {slot : Fin 64} {g : Group}

section returns
variable {x : Nat} {o : OutAcc} (hg : s.group c.val slot.val = some g) (hx : g.out[x]? = some o) (hleft : o.left = 0)
include hg hx hleft

theorem exec_groupLoadReturn_load (hk : o.kind = .load) :
    exec (.groupLoadReturn c slot x) s = .next ({ s with
      freeCtr := if sizeBytes o.size < 4 then s.freeCtr + 256 else s.freeCtr }.setGroup c.val slot.val
        (some { o.lanes.foldl (fun (y : Group) (la : Nat × Nat) => y.setVal o.dst la.1 (sizeRegs o.size)
          (widen (sizeBytes o.size) (leNat (o.result la.1 la.2)) (s.freeCtr + la.1))) g with out := delNth g.out x })) := by
  refine congrArg ok ?_
  simp [hg, hx, hleft, hk, State.ite_freeCtr]

/-- An atomic that returns its old value and whether it matched draws nothing: its values are of four bytes or more (R136). -/
theorem exec_groupLoadReturn_atomicRet (hk : o.kind = .atomicRet) (hsize : 2 ≤ o.size)
    (hflag : sizeRegs o.size < o.writes.length) :
    exec (.groupLoadReturn c slot x) s = .next (s.setGroup c.val slot.val
      (some { o.lanes.foldl (fun (y : Group) (la : Nat × Nat) =>
        (y.setVal o.dst la.1 (sizeRegs o.size) (leNat (o.result la.1 la.2))).setReg
          (o.dst + sizeRegs o.size) la.1 (gotByte o.got (16 * la.1 + 15)).toNat) g with out := delNth g.out x })) := by
  have hbytes : ¬ sizeBytes o.size < 4 := Nat.not_lt.mpr (Nat.pow_le_pow_right Nat.two_pos hsize)
  refine congrArg ok ?_
  simp [hg, hx, hleft, hk, hflag, widen, hbytes]

end returns

theorem exec_homeOperationResponse_arrives {r : OpRsp} {u : State} {o : OutAcc} {a b d : Nat}
    (hr : s.opRsps.find? (fun r => r.src.ofGroup c.val slot.val) = some r) (hsrc : r.src = .load a b d)
    (hu : u = { s with opRsps := s.opRsps.erase r }) (hg : u.group c.val slot.val = some g)
    (ho : g.out.find? (fun o => decide (o.id = d / 2)) = some o) (hk : o.kind ≠ .lock) :
    exec (.homeOperationResponse c slot) s = .next (u.accDone c.val slot.val d ((r.lanes.zip r.old).flatMap (fun p =>
      addrBytes (16 * p.1) p.2 ++ [(16 * p.1 + 15, BitVec.ofNat 8 (b2n (r.hit && decide (r.lanes.head? = some p.1))))]))) := by
  subst hu
  refine congrArg ok ?_
  simp only [hr, hsrc, hg, Option.bind_some, ho, hk, ne_eq, not_false_eq_true, if_true]

end answers

/-- A group goes on past its VFENCE; for a scope wider than the core it waits there until its drain is over (R146, R285). -/
def State.fenced (s : State) (c slot scope : Nat) : State :=
  let r := if scope < 2 then (⟨[], []⟩, s) else s.drainSet c
  let y := r.2.modGroup c slot (fun g => g.goto (g.pc + 16))
  if scope < 2 ∨ y.drainOver c r.1 scope then y else y.modGroup c slot (fun g => { g with wait := .fence scope r.1 })

section fenced
variable {s : State} {c slot scope : Nat}

theorem State.fenced_core (h : scope ≤ 1) : s.fenced c slot scope = s.modGroup c slot (fun g => g.goto (g.pc + 16)) := by
  simp [State.fenced, Nat.lt_succ_of_le h]

theorem State.fenced_wide {dr : Drain} {x y : State} (h : 2 ≤ scope) (hx : s.drainSet c = (dr, x))
    (hy : y = x.modGroup c slot (fun g => g.goto (g.pc + 16))) :
    s.fenced c slot scope
      = if y.drainOver c dr scope then y else y.modGroup c slot (fun g => { g with wait := .fence scope dr }) := by
  simp [State.fenced, Nat.not_lt.mpr h, hx, hy]

end fenced

section locks
variable {s : State} {c : Fin 96} {slot : Fin 64} {n w : Nat} {j : Job} {k : GKernel} {g : Group} {i : GInstr}

section issues
variable (h : s.groupIssues c.val slot.val n j k g w) (hi : i = parseG w) (hr : i.reservedCode = false)
include h hi hr

/-- A GLOCK opens a level of locks, or runs the innermost one again for the lanes that were parked at it (R138, R139). -/
theorem exec_glock_attempts {y : List LockLvl} (ho : i.op = 0xA8) (hc : lowestCause (lockCauses s n j k g i) = none)
    (hz : g.hazard [(i.a, 2)] = false) (hp : g.performed = true) (hlen : g.out.length < 8)
    (hy : y = ⟨g.pc, g.active, g.active, 0, [], g.stack.length, false⟩ :: g.locks
        ∧ (∀ l ls, g.locks = l :: ls → l.again = false)
      ∨ ∃ l ls, g.locks = l :: ls ∧ l.again = true ∧ y = { l with again := false, parked := g.active } :: ls)
    (hf : s.flushSectors c.val n ((g.lanes g.active).map (fun l => i.devAt g l / 256)) = none) :
    exec (.glock c slot) s = .next (((s.gFetched c.val slot.val n g.pc).setGroup c.val slot.val (some { g with
      locks := y })).lockAttempt c.val slot.val n j i g.active) := by
  refine congrArg ok ((State.gissue_acts h hi hr ho hz hc _).trans ((if_neg ?_).trans ?_))
  · simp [hp, hlen]
  · simp only [List.map_map, Function.comp_def, hf]
    rw [State.modGroup_of_some (State.gFetched_group h)]
    refine congrArg (fun x => State.lockAttempt (State.setGroup _ _ _ (some x)) c.val slot.val n j i g.active) ?_
    obtain ⟨rfl, hopen⟩ | ⟨l, ls, hl, hagain, rfl⟩ := hy
    · cases hl : g.locks with
      | nil => rfl
      | cons l ls => simp [hopen l ls hl]
    · simp [hl, hagain]

theorem exec_gunlock_unlocked (ho : i.op = 0xA9) (hl : g.locks = []) :
    exec (.gunlock c slot) s = .next ((s.gFetched c.val slot.val n g.pc).gfault c.val slot.val 0x1A) := by
  have ⟨hg, hj, _⟩ := h
  refine congrArg ok ?_
  simp only [hg, hj, State.groupIssues_ready h]
  exact State.gissue_faults h hi ho Group.hazard_nil (by simp [hr, unlockCauses, hl]) _

section fence
variable (ho : i.op = 0xAC) (hfn : i.funct ≤ 4) (hpriv : i.funct = 0 → k.priv = true)
include ho hfn hpriv

/-- A fence of a scope that its kernel may name waits for the group's accesses (R146). -/
theorem exec_vfence : exec (.vfence c slot) s
    = .next (if g.performed then (s.gFetched c.val slot.val n g.pc).fenced c.val slot.val i.funct else s) := by
  have ⟨hg, _⟩ := h
  have hp : (decide (i.funct = 0) && !k.priv) = false := by simpa using hpriv
  refine congrArg ok ?_
  simp only [hg, State.groupIssues_ready h]
  refine (State.gissue_acts h hi hr ho Group.hazard_nil ?_ _).trans (ite_not _ _ _)
  simp only [hp, decide_eq_false (Nat.not_lt.mpr hfn), lowestCause_cons_false, lowestCause_nil]

theorem exec_vfence_waits (hp : g.performed = false) : exec (.vfence c slot) s = .next s := by
  rw [exec_vfence h hi hr ho hfn hpriv, if_neg (by simp [hp])]

variable (hp : g.performed = true)
include hp

theorem exec_vfence_core (hcore : i.funct ≤ 1) :
    exec (.vfence c slot) s
      = .next ((s.gFetched c.val slot.val n g.pc).modGroup c.val slot.val (fun g => g.goto (g.pc + 16))) := by
  rw [exec_vfence h hi hr ho hfn hpriv, if_pos hp, State.fenced_core hcore]

theorem exec_vfence_drains {dr : Drain} {x y : State} (hwide : 2 ≤ i.funct)
    (hx : (s.gFetched c.val slot.val n g.pc).drainSet c.val = (dr, x))
    (hy : y = x.modGroup c.val slot.val (fun g => g.goto (g.pc + 16))) :
    exec (.vfence c slot) s = .next (if y.drainOver c.val dr i.funct then y
      else y.modGroup c.val slot.val (fun g => { g with wait := .fence i.funct dr })) := by
  rw [exec_vfence h hi hr ho hfn hpriv, if_pos hp, State.fenced_wide hwide hx hy]

end fence

end issues

section waits
variable (hg : s.group c.val slot.val = some g)
include hg

theorem exec_glockRetry_attempts {l : LockLvl} {ls : List LockLvl} {v : Nat} (hj : s.coreJob c.val = some (n, j))
    (hl : g.locks = l :: ls) (hwait : g.wait = .parked) (hs : g.stopped = false) (hdog : g.watchdog < 2 ^ 20)
    (hv : Machine.cacheWord (s.core c.val).gic n l.pc = some v) :
    exec (.glockRetry c slot) s
      = .next ((s.modGroup c.val slot.val (fun g => { g with watchdog := g.watchdog + 1 })).lockAttempt
          c.val slot.val n j (parseG v) l.parked) := by
  refine congrArg ok ?_
  simp only [hg, hj, hl, hwait, hs, Nat.not_le.mpr hdog, hv, ne_eq, not_true_eq_false, Bool.false_eq_true, or_self, if_false]

section unlock
variable {dr : Drain} (hj : s.coreJob c.val = some (n, j)) (hwait : g.wait = .unlock dr)
include hj hwait

theorem exec_gunlock_releases (hd : s.drainOver c.val dr 2 = true) :
    exec (.gunlock c slot) s = .next (s.releaseLocks c.val slot.val n j) := by
  refine congrArg ok ?_
  simp only [hg, hj, hwait, hd, if_true]

theorem exec_gunlock_waits (hd : s.drainOver c.val dr 2 = false) : exec (.gunlock c slot) s = .next s := by
  refine congrArg ok ?_
  simp only [hg, hj, hwait, hd, Bool.false_eq_true, if_false]

end unlock

theorem exec_vfence_over {scope : Nat} {dr : Drain} (hwait : g.wait = .fence scope dr)
    (hover : s.fenceOver c.val g scope dr = true) :
    exec (.vfence c slot) s = .next (s.modGroup c.val slot.val (fun g => { g with wait := .ready })) := by
  refine congrArg ok ?_
  simp only [hg, hwait, hover, if_true]

end waits

end locks

/-- Settles O19: branches, ends and the tile store at issue, then answers, locks and fences command by command. -/
theorem groupControlAndTileAccessesComplete : Obligations.GroupControlAndTileAccessesComplete :=
  ⟨fun _ _ _ _ _ _ _ _ _ _ _ h hi hr =>
    ⟨fun ho hfn hn htarget hx => ⟨exec_vbr_untaken h hi hr ho hfn hn, exec_vbr_taken h hi hr ho hfn hn htarget hx,
        exec_vbr_splits h hi hr ho hfn hn htarget hx⟩,
      exec_vend_ends h hi hr,
      fun hsize hin => ⟨exec_vldt_loads h hi hr hsize hin, fun _ => exec_vstt_stores h hi hr hsize hin⟩⟩,
    fun _ _ _ _ _ _ _ _ _ =>
    ⟨fun _ _ => exec_groupLoadReturn_load, fun _ _ => exec_groupLoadReturn_atomicRet,
      fun _ _ _ _ _ _ => exec_homeOperationResponse_arrives,
      fun h hi hr => ⟨fun _ => exec_glock_attempts h hi hr, exec_gunlock_unlocked h hi hr,
        fun ho hfn hpriv hp => exec_vfence_core h hi hr ho (hfn.trans (by decide)) hpriv hp hfn,
        exec_vfence_waits h hi hr,
        fun _ _ _ ho hwide hfn hp => exec_vfence_drains h hi hr ho hfn (fun h0 => by omega) hp hwide⟩,
      fun _ _ _ hg => exec_glockRetry_attempts hg,
      fun _ hg hj hwait => ⟨exec_gunlock_releases hg hj hwait, exec_gunlock_waits hg hj hwait⟩,
      fun _ _ hg => exec_vfence_over hg⟩⟩

end Sys2Proof.Machine

/-! PROOFS, 04_thread_groups.md. Loads, stores and atomics of a group on device memory: each issues, or waits for an order. -/

namespace Sys2Proof.Machine

section access
variable {s u : State} {c : Fin 96} {slot : Fin 64} {n w : Nat} {j : Job} {k : GKernel} {g : Group} {i : GInstr}
  (h : s.groupIssues c.val slot.val n j k g w) (hi : i = parseG w) (hr : i.reservedCode = false)
  (hu : u = s.gFetched c.val slot.val n g.pc)
include h hi hr hu

section load
variable {ps dev plain : List (Nat × Nat)} (ho : i.op = 0xA0)
  (hc : lowestCause (devCauses s (fun i => sizeBytes i.size) (fun i => decide (4 < i.size)) (fun _ => false)
    (fun i => [(i.dst, sizeRegs i.size), (i.a, 2)]) false n j k g i) = none)
  (hz : g.hazard [(i.dst, sizeRegs i.size), (i.a, 2)] = false) (hps : ps = dedup (i.spans g (sizeBytes i.size)))
  (hdev : dev = ps.filter (fun p => u.isDevice n j p.1))
include ho hc hz hps hdev

theorem exec_vld_waits (hm : g.mayAccess k true (!dev.isEmpty) (u.goesHome n j g i) (i.spans g (sizeBytes i.size)) = false) :
    exec (.vld c slot) s = .next s := by
  subst hu hps hdev
  exact congrArg ok ((State.gissue_acts h hi hr ho hz hc _).trans (if_pos (Bool.eq_false_iff.mp hm)))

theorem exec_vld_issues {all : List (Nat × Nat × Nat)} {o : OutAcc} {x : State}
    (hplain : plain = ps.filter (fun p => !u.isDevice n j p.1))
    (hall : all = ((g.lanes g.active).flatMap (fun l => (pieces (sizeBytes i.size) (i.devAt g l)).map (fun p => (l, p)))).filter
      (fun p => u.isDevice n j p.2.1))
    (hm : g.mayAccess k true (!dev.isEmpty) (u.goesHome n j g i) (i.spans g (sizeBytes i.size)) = true)
    (hf : u.goesHome n j g i = true → s.flushSectors c.val n ((i.spans g (sizeBytes i.size)).map (fun p => p.1 / 256)) = none)
    (hout : o = ⟨g.nextId, .load, i.dst, i.size, (g.lanes g.active).map (fun l => (l, i.devAt g l)), [],
      regRun i.dst (sizeRegs i.size), plain.length + all.length, !dev.isEmpty, u.goesHome n j g i,
      all.map (fun p => ⟨.coherent, n, p.2.1, p.2.2, [], i.dead, .load c.val slot.val (2 * g.nextId + 1), false, false, false⟩),
      [], all.map (fun p => 16 * p.1 + (p.2.1 - i.devAt g p.1))⟩)
    (hx : x = plain.foldl (fun s p => s.sendLoad c.val slot.val n j k g.nextId p (i.vol || i.dead) i.dead)
      (u.addOut c.val slot.val o true)) :
    exec (.vld c slot) s = .next (match o.todo with
      | r :: _ => x.request r
      | [] => x) := by
  have hflush : (if u.goesHome n j g i then s.flushSectors c.val n ((i.spans g (sizeBytes i.size)).map (fun p => p.1 / 256))
      else none) = none := by
    split
    case isTrue hhome => exact hf hhome
    case isFalse => rfl
  subst hu hps hdev hplain hall hx hout
  refine congrArg ok ((State.gissue_acts h hi hr ho hz hc _).trans ((if_neg (not_not_intro hm)).trans ?_))
  simp only [hflush, List.length_map]
  rfl

end load

section store
variable {names : GInstr → List (Nat × Nat)} {plain dev : List (Nat × List Byte)} (ho : i.op = 0xA1)
  (hnames : names = fun i => [(i.a, 2)] ++ (if i.immB then [] else [(i.b, sizeRegs i.size)]))
  (hc : lowestCause (devCauses s (fun i => sizeBytes i.size) (fun i => decide (4 < i.size)) (fun _ => false)
    names true n j k g i) = none)
  (hz : g.hazard (names i) = false)
  (hdev : dev = (g.lanes g.active).flatMap (fun l => (storePieces i g [l] u.freeCtr).filter (fun p => u.isDevice n j p.1)))
include ho hnames hc hz hdev

theorem exec_vst_waits
    (hm : g.mayAccess k false (!dev.isEmpty) (!dev.isEmpty) (i.spans g (sizeBytes i.size)) = false) :
    exec (.vst c slot) s = .next s := by
  subst hu hnames hdev
  exact congrArg ok ((State.gissue_acts h hi hr ho hz hc _).trans (if_pos (Bool.eq_false_iff.mp hm)))

theorem exec_vst_issues
    (hplain : plain = (storePieces i g (g.lanes g.active) u.freeCtr).filter (fun p => !u.isDevice n j p.1))
    (hm : g.mayAccess k false (!dev.isEmpty) (!dev.isEmpty) (i.spans g (sizeBytes i.size)) = true) :
    exec (.vst c slot) s = .next ((if i.immB ∧ i.size = 4 then { u with freeCtr := u.freeCtr + 256 } else u).issueStores
      c.val slot.val n j g.nextId i.size ((g.lanes g.active).map (fun l => (l, i.devAt g l))) plain dev) := by
  subst hu hnames hdev hplain
  exact congrArg ok ((State.gissue_acts h hi hr ho hz hc _).trans (if_neg (not_not_intro hm)))

end store

section atomic
variable {as : List Nat} (ho : i.op = 0xA4) (has : as = (g.lanes g.active).map (fun l => i.devAt g l))
  (hc : lowestCause (devCauses s atomBytes (fun i => decide (7 < i.funct) || decide (0xA < i.fmt) || decide (4 < i.size))
    (fun i => !atomOk i) atomNames true n j k g i) = none)
  (hz : g.hazard (atomNames i) = false)
include ho has hc hz

theorem exec_vatom_waits
    (hm : g.mayAccess k false (as.any (fun a => u.isDevice n j a)) true (i.spans g (atomBytes i)) = false) :
    exec (.vatom c slot) s = .next s := by
  subst hu has
  exact congrArg ok ((State.gissue_acts h hi hr ho hz hc _).trans (if_pos (Bool.eq_false_iff.mp hm)))

theorem exec_vatom_issues
    (hm : g.mayAccess k false (as.any (fun a => u.isDevice n j a)) true (i.spans g (atomBytes i)) = true)
    (hf : s.flushSectors c.val n (as.map (fun a => a / 256)) = none) :
    exec (.vatom c slot) s = .next ({ u with freeCtr := u.freeCtr + 256 }.issueOps c.val slot.val
      ⟨g.nextId, if i.ret then .atomicRet else .atomic, i.dst, if atomBytes i = 2 then 1 else if atomBytes i = 4 then 2 else 3,
        (g.lanes g.active).map (fun l => (l, i.devAt g l)), [], (atomWrites i).flatMap (fun (w : Nat × Nat) => regRun w.1 w.2),
        0, false, true, [], [], []⟩
      (atomOps c.val slot.val n g.nextId i g u.freeCtr (fun a => u.isDevice n j a)) true) := by
  subst hu has
  refine congrArg ok ((State.gissue_acts h hi hr ho hz hc _).trans ((if_neg (not_not_intro hm)).trans ?_))
  simp only [hf]

end atomic

end access

/-- Settles O20: loads, stores and atomics in turn, each as it issues and as it waits. -/
theorem deviceMemoryAccessesIssue : Obligations.DeviceMemoryAccessesIssue := fun _ _ _ _ _ _ _ _ _ _ h hi hr hu =>
  ⟨fun _ _ _ _ _ _ ho hc hz hps hdev hplain hall =>
      ⟨exec_vld_issues h hi hr hu ho hc hz hps hdev hplain hall, exec_vld_waits h hi hr hu ho hc hz hps hdev⟩,
    fun _ _ _ ho hnames hc hz hplain hdev =>
      ⟨exec_vst_issues h hi hr hu ho hnames hc hz hdev hplain, exec_vst_waits h hi hr hu ho hnames hc hz hdev⟩,
    fun _ ho has hc hz => ⟨exec_vatom_issues h hi hr hu ho has hc hz, exec_vatom_waits h hi hr hu ho has hc hz⟩⟩

end Sys2Proof.Machine

/-! PROOFS, 05_scheduled_fabric.md. The sync instructions at issue: what each needs to be queued, and a flag word beyond the
allotment. -/

namespace Sys2Proof.Machine

section issue
variable {s : State} {c n w : Nat} (h : s.atIssue c n w)
include h

/-- The core of an instruction at issue belongs to the device that runs there (R353). -/
theorem State.coreVd_of_atIssue : s.coreVd c = some n := by
  obtain ⟨j, hj, -⟩ := h
  unfold State.coreJob at hj
  cases hv : s.coreVd c with
  | none => simp [hv] at hj
  | some m =>
    simp only [hv, Option.map_eq_some_iff, Prod.mk.injEq] at hj
    obtain ⟨_, -, hm, -⟩ := hj
    rw [hm]

theorem State.flagBeyond_of_atIssue (f : Nat) : s.flagBeyond c f = decide (s.flagCount n ≤ f) := by
  simp only [State.flagBeyond, State.coreVd_of_atIssue h]

section checked
variable (hs : (s.core c).stalls .sync = false) {op : Nat} (ho : opcodeOf w = op) {hold : Bool} {here : Nat → Bool}
  (hh : here w = true) {causes : Nat → List (Bool × Nat)}
include hs ho hh

theorem State.issueSync_eq : s.issueSync c op hold here causes
    = (s.fetched c n).checked c (causes w) (fun s => s.enqueueSync c w (bitsOf w 112 5) hold) := by
  refine (State.issueOp_eq h ho _).trans (if_neg ?_)
  simp [hh, State.fetched_stalls h, hs]

/-- Without a cause the instruction goes into its queue with its scalar value, and holds issue if it is one of those that do
(R182, R286, R362). -/
theorem State.issueSync_queued (hc : lowestCause (causes w) = none) {u : State}
    (hu : u = (s.fetched c n).enqueue c .sync w ((s.core c).sreg (bitsOf w 112 5)) 0 0 0 0 [] []) :
    s.issueSync c op hold here causes = if hold then u.modCore c (fun k => { k with seq := .held }) else u := by
  subst hu
  rw [State.issueSync_eq h hs ho hh, State.checked_of_none hc, State.enqueueSync, State.fetched_sreg h]

theorem State.issueSync_faults {x : Nat} (hc : lowestCause (causes w) = some x) :
    s.issueSync c op hold here causes = (s.fetched c n).fault c x (s.core c).pc 0 0 := by
  rw [State.issueSync_eq h hs ho hh, State.checked_of_some hc, State.fetched_pc h]

end checked

section flagset
variable (hs : (s.core c).stalls .sync = false) (ho : opcodeOf w = 0x30) {o : Nat} (hop : flagOp w = o)
  (hr : bitsOf w 32 64 = 0)
include hs ho hop hr

/-- A FLAGSET of any OP to a word of the allotment is queued (R180, R181). -/
theorem State.flagset_queued (hf : flagNo w < s.flagCount n) :
    s.flagset c o .issue = (s.fetched c n).enqueue c .sync w ((s.core c).sreg (bitsOf w 112 5)) 0 0 0 0 [] [] :=
  State.issueSync_queued h hs ho (decide_eq_true hop)
    (by simp [lowestCause_eq_none, flagsetCauses, State.flagBeyond_of_atIssue h, hr, hf]) rfl

/-- One to a word beyond the allotment faults (R195). -/
theorem State.flagset_beyond (hf : s.flagCount n ≤ flagNo w) :
    s.flagset c o .issue = (s.fetched c n).fault c 0x20 (s.core c).pc 0 0 :=
  State.issueSync_faults h hs ho (decide_eq_true hop)
    (by simp [lowestCause, flagsetCauses, State.flagBeyond_of_atIssue h, hr, hf])

end flagset

end issue

section queued
variable {s u : State} {c : Fin 96} {n w : Nat} (h : s.atIssue c.val n w) (hs : (s.core c.val).stalls .sync = false)
  (hu : u = (s.fetched c.val n).enqueue c.val .sync w ((s.core c.val).sreg (bitsOf w 112 5)) 0 0 0 0 [] [])
include h hs hu

theorem exec_flagwait_queued (ho : opcodeOf w = 0x31) (hop : flagOp w ≠ 3) (hord : flagOrder w = false)
    (hr : bitsOf w 32 64 = 0) (hf : flagNo w < s.flagCount n) :
    exec (.flagwait c .issue) s = .next (u.modCore c.val (fun k => { k with seq := .held })) :=
  congrArg ok (State.issueSync_queued h hs ho rfl
    (by simp [lowestCause_eq_none, State.flagBeyond_of_atIssue h, hop, hord, hr, hf]) hu)

theorem exec_fence_queued (ho : opcodeOf w = 0x38) (hscope : bitsOf w 118 2 ≠ 0) (hr : bitsOf w 0 118 = 0) :
    exec (.fence c .issue) s = .next (u.modCore c.val (fun k => { k with seq := .held })) :=
  congrArg ok (State.issueSync_queued h hs ho rfl (by simp [hscope, hr]) hu)

theorem exec_waitc_queued (ho : opcodeOf w = 0x39) (hr : bitsOf w 0 120 = 0) :
    exec (.waitc c .issue) s = .next (u.modCore c.val (fun k => { k with seq := .held })) :=
  congrArg ok (State.issueSync_queued h hs ho rfl (by simp [hr]) hu)

theorem exec_ckpt_queued (ho : opcodeOf w = 0x3F) (hr : bitsOf w 0 108 = 0) :
    exec (.ckpt c .issue) s = .next (u.modCore c.val (fun k => { k with seq := .held })) :=
  congrArg ok (State.issueSync_queued h hs ho rfl (by simp [hr]) hu)

end queued

end Sys2Proof.Machine

/-! PROOFS, 05_scheduled_fabric.md. The sync instructions at the head of their queue, one lemma per instruction and outcome. -/

namespace Sys2Proof.Machine

section acts
variable {s : State} {c i n : Nat} {e : QEntry} (h : s.headActs c .sync i e)

section flagset
variable (hv : s.coreVd c = some n) (ho : opcodeOf e.word = 0x30) {o : Nat}
include h hv ho

/-- What the FLAGSET at the head does, in the order of its tests. -/
theorem State.flagset_acts : s.flagset c o .act
    = if flagOp e.word ≠ o ∨ s.flagsetWaits c then s
      else if ¬ flagOrder e.word then s.sendFlag ⟨n, s.flagWord n (flagNo e.word), flagOpOf o e.flagValue, c⟩ (.core c)
      else if (s.core c).olderDone e false then s.drained c 2 (fun t =>
        t.sendFlag ⟨n, t.flagWord n (flagNo e.word), flagOpOf o e.flagValue, c⟩ (.core c))
      else s := by
  show s.flagsetAct c o = _
  rw [State.flagsetAct, State.actHead_eq h ho, hv]

/-- A message that waits at the send port is not sent again (R180). -/
theorem State.flagset_waits (hw : s.flagsetWaits c = true) : s.flagset c o .act = s := by
  rw [State.flagset_acts h hv ho, if_pos (.inr hw)]

variable (hop : flagOp e.word = o) (hw : s.flagsetWaits c = false)
include hop hw

/-- With ORDER clear the message is sent at once (R180). -/
theorem State.flagset_unordered (hord : flagOrder e.word = false) : s.flagset c o .act
    = s.sendFlag ⟨n, s.flagWord n (flagNo e.word), flagOpOf o e.flagValue, c⟩ (.core c) := by
  rw [State.flagset_acts h hv ho, if_neg (by simp [hop, hw]), if_pos (by simp [hord])]

section ordered
variable (hord : flagOrder e.word = true)
include hord

/-- With ORDER set an older instruction that has not completed holds it back (R180, R287). -/
theorem State.flagset_held (hdone : (s.core c).olderDone e false = false) : s.flagset c o .act = s := by
  rw [State.flagset_acts h hv ho, if_neg (by simp [hop, hw]), if_neg (by simp [hord]), if_neg (by simp [hdone])]

/-- With ORDER set the message follows the wait of a release (R180, R287). -/
theorem State.flagset_ordered (hdone : (s.core c).olderDone e false = true) (hd : s.drainIsOver c 2) : s.flagset c o .act
    = (s.drainOff c).sendFlag ⟨n, s.flagWord n (flagNo e.word), flagOpOf o e.flagValue, c⟩ (.core c) := by
  rw [State.flagset_acts h hv ho, if_neg (by simp [hop, hw]), if_neg (by simp [hord]), if_pos hdone, State.drained_eq hd]
  rfl

end ordered

end flagset

/-- The FLAGWAIT at the head completes; wakes sent for it are gone (R182). -/
theorem State.flagwaitDone_eq (h : s.headActs c .sync i e) (ho : opcodeOf e.word = 0x31) : s.flagwaitDone c
    = ((s.dropWakes c).modCore c (fun k => { k with flagWait := none })).syncDone c i :=
  State.actHead_eq (s := s.dropWakes c) h ho _

end acts

section flagwait
variable {s : State} {c : Fin 96} {i n : Nat} {e : QEntry} (h : s.headActs c.val .sync i e)
  (ho : opcodeOf e.word = 0x31)
include h ho

/-- A FLAGWAIT begins to wait at the router of its word, which sends the wake at once where the condition holds (R182). -/
theorem exec_flagwait_acts (hv : s.coreVd c.val = some n) (hn : (s.core c.val).flagWait = none) {x : Nat}
    (hx : x = s.flagWord n (flagNo e.word)) {u : State}
    (hu : u = s.modCore c.val (fun k => { k with flagWait := some ⟨x, flagOp e.word, e.flagValue, s.frame, e.pc⟩ })) :
    exec (.flagwait c .act) s
      = .next (if flagHolds (flagOp e.word) (s.flag x) e.flagValue then u.sendWake n x c.val else u) := by
  subst hx hu
  refine congrArg ok ((State.actHead_eq h ho _).trans ?_)
  simp only [hv]
  exact if_neg (by simp [hn])

theorem exec_flagwaitWake_completes (hw : c.val ∈ s.fab.wakes) (hf : (s.core c.val).flagWait.isSome = true) :
    exec (.flagwaitWake c) s
      = .next (((s.dropWakes c.val).modCore c.val (fun k => { k with flagWait := none })).syncDone c.val i) := by
  refine congrArg ok ?_
  rw [if_neg (by simp [hw]), if_neg (by simp [Option.isSome_iff_ne_none.mp hf]), State.flagwaitDone_eq h ho]

section timeout
variable {f : FlagWaitSt} (hf : (s.core c.val).flagWait = some f) (h0 : s.regFld Reg.fabricFlagTimeout 0 24 ≠ 0)
  (hl : s.regFld Reg.fabricFlagTimeout 0 24 < s.frame - f.since)
include hf h0 hl

/-- A FLAGWAIT whose time is over faults where its condition does not hold and no wake is on its way (R183). -/
theorem exec_flagTimeout_faults (hh : flagHolds f.mode (s.flag f.word) f.value = false) (hw : s.wakeOut c.val = false) :
    exec (.flagTimeout c) s = .next ((s.dropEntry c.val .sync i true).fault c.val 0x21 f.pc 0 0) := by
  refine congrArg ok ?_
  simp only [hf]
  rw [if_neg (by omega), if_neg (by simp [hh, hw]), State.actHead_eq h ho]

theorem exec_flagTimeout_completes (hh : flagHolds f.mode (s.flag f.word) f.value = true) : exec (.flagTimeout c) s
    = .next (((s.dropWakes c.val).modCore c.val (fun k => { k with flagWait := none })).syncDone c.val i) := by
  refine congrArg ok ?_
  simp only [hf]
  rw [if_neg (by omega), if_pos (.inl hh), State.flagwaitDone_eq h ho]

end timeout

end flagwait

section orders
variable {s : State} {c : Fin 96} {i : Nat} {e : QEntry} (h : s.headActs c.val .sync i e)
include h

section older
variable (hdone : (s.core c.val).olderDone e false = true)
include hdone

/-- A FENCE of the core's own scope waits for older instructions alone (R285). -/
theorem exec_fence_core (ho : opcodeOf e.word = 0x38) (hscope : bitsOf e.word 118 2 = 1) :
    exec (.fence c .act) s = .next (s.syncDone c.val i) := by
  refine congrArg ok ((State.actHead_eq h ho _).trans ?_)
  rw [if_neg (by simp [hdone]), if_pos hscope]

/-- One of a wider scope waits for a drain too (R285). -/
theorem exec_fence_drained (ho : opcodeOf e.word = 0x38) (hscope : bitsOf e.word 118 2 ≠ 1)
    (hd : s.drainIsOver c.val (bitsOf e.word 118 2)) :
    exec (.fence c .act) s = .next ((s.drainOff c.val).syncDone c.val i) := by
  refine congrArg ok ((State.actHead_eq h ho _).trans ?_)
  rw [if_neg (by simp [hdone]), if_neg hscope, State.drained_eq hd]

theorem exec_waitc_drained (ho : opcodeOf e.word = 0x39) (hd : s.drainIsOver c.val 4) :
    exec (.waitc c .act) s = .next ((s.drainOff c.val).syncDone c.val i) :=
  congrArg ok ((State.actHead_eq h ho _).trans ((if_pos hdone).trans (State.drained_eq hd _)))

end older

section ckpt
variable (ho : opcodeOf e.word = 0x3F)
include ho

theorem exec_ckpt_reached (hdone : (s.core c.val).olderDone e true = true) (hk : (s.core c.val).kernels = []) :
    exec (.ckpt c .act) s = .next ((s.dropEntry c.val .sync i true).modCore c.val (fun k =>
      { k with seq := .ckpt (bitsOf e.word 108 12) })) :=
  congrArg ok ((State.actHead_eq h ho _).trans (if_neg (by simp [hdone, hk])))

theorem exec_ckpt_waits (hdone : (s.core c.val).olderDone e true = false) : exec (.ckpt c .act) s = .next s :=
  congrArg ok ((State.actHead_eq h ho _).trans (if_pos (.inl (by simp [hdone]))))

end ckpt

end orders

/-- Settles O15: issue instruction by instruction, then what each does at the head of its queue. -/
theorem syncInstructionsIssueAndAct : Obligations.SyncInstructionsIssueAndAct := by
  refine ⟨fun c n w u s h hs hu => ⟨fun ho hr hf => ?_, fun ho hop hr hf => congrArg ok (State.flagset_beyond h hs ho hop hr hf),
      exec_flagwait_queued h hs hu, exec_fence_queued h hs hu, exec_waitc_queued h hs hu, exec_ckpt_queued h hs hu⟩,
    fun c i n e s h hv => ⟨fun ho hord hw => ?_, fun ho hord hw => ⟨fun hdone hop => ?_, fun hdone hd => ?_⟩, ?_, ?_, ?_,
      fun ho hw hf => exec_flagwaitWake_completes h ho hw hf,
      fun f ho hf h0 hl => ⟨exec_flagTimeout_faults h ho hf h0 hl, exec_flagTimeout_completes h ho hf h0 hl⟩,
      fun ho hdone => ⟨exec_fence_core h hdone ho, exec_fence_drained h hdone ho⟩, fun ho hdone => exec_waitc_drained h hdone ho,
      fun ho => exec_ckpt_reached h ho, fun ho => exec_ckpt_waits h ho⟩⟩
  · have hq : ∀ o, flagOp w = o → s.flagset c.val o .issue = u := fun o hop =>
      (State.flagset_queued h hs ho hop hr hf).trans hu.symm
    exact ⟨fun hop => congrArg ok (hq 0 hop), fun hop => congrArg ok (hq 1 hop), fun hop => congrArg ok (hq 2 hop),
      fun hop => congrArg ok (hq 3 hop)⟩
  · have hsend := fun o hop => State.flagset_unordered (o := o) h hv ho hop hw hord
    exact ⟨fun hop => congrArg ok (hsend 0 hop), fun hop => congrArg ok (hsend 1 hop), fun hop => congrArg ok (hsend 2 hop),
      fun hop => congrArg ok (hsend 3 hop)⟩
  · exact congrArg ok (State.flagset_held h hv ho hop hw hord hdone)
  · have hsend := fun o hop => State.flagset_ordered (o := o) h hv ho hop hw hord hdone hd
    exact ⟨fun hop => congrArg ok (hsend 0 hop), fun hop => congrArg ok (hsend 2 hop)⟩
  · exact fun ho hw _ => congrArg ok (State.flagset_waits h hv ho hw)
  · intro x ho hn hx hh
    rw [exec_flagwait_acts h ho hv hn hx rfl, if_pos hh]
  · intro x ho hn hx hh
    rw [exec_flagwait_acts h ho hv hn hx rfl, if_neg (by simp [hh])]

end Sys2Proof.Machine

/-! PROOFS, 05_scheduled_fabric.md. Streams: what a fetched descriptor does, and what a stream does at a send position. -/

namespace Sys2Proof.Machine

section fetch
variable {s u : State} {e : Engine} {k : Nat} {j : Job} {d : StreamDesc} (hk : (s.engineKeys e).find? s.fetches = some k)
  (hj : s.schedJob (s.engine k).vd = some j) (he : (s.engine k).ended = false)
  (hd : d = parseStream (s.engine k).nextAddr (s.devRead (s.engine k).vd (s.engine k).nextAddr 64))
  (hu : u = s.devSeen (s.engine k).vd (s.engine k).nextAddr 64)
include hk hj he hd hu

/-- What a fetched descriptor does, in the order of its checks (R164). -/
theorem exec_descriptorFetch : exec (.descriptorFetch e) s
    = .next (if d.kind = 0 then u.modEngine k (fun x => { x with ended := true })
      else if u.streamOk (s.engine k).vd (s.engine k).list j.regions d then
        (u.modEngine k (fun x => { x with
          nextAddr := x.nextAddr + 64
          streams := x.streams ++ [⟨d, 0, false, false, 0, false, 0⟩] })).prefetch (s.engine k).vd d
      else u.fabricFault (s.engine k).vd 0x23 (u.faultUnit k).1 (u.faultUnit k).2 (s.engine k).nextAddr) := by
  subst hd hu
  have hmem : k ∈ s.engineKeys e := List.mem_of_find?_eq_some hk
  refine congrArg ok ?_
  simp only [hk, Option.getD_some, hj]
  exact if_neg (by simp [he, hmem])

end fetch

section source
variable {s : State} {k q epoch : Nat} {x : Stream}

/-- What stream `q` of an engine does at a position that is its own: its chunk leaves from its slice or from the send elastic
buffer, or the position misses (R168, R189). -/
def State.sendAt (s : State) (k q epoch : Nat) (x : Stream) : State :=
  let n := (s.engine k).vd
  if x.desc.fromMem then
    match s.ownsSlicePort (nth 0 (s.slicesOf n) x.desc.src) n, s.sourceLine n x.desc x.next with
    | true, some (i, w, a) => (s.takeFromSlice n i w a x.desc.dead).2.sendChunk n k q epoch x
        (s.takeFromSlice n i w a x.desc.dead).1
    | _, _ => s.streamMiss n k q x
  else
    match s.ownsCorePort (nth 0 (s.coresOf n) x.desc.src) n,
      (s.engine k).elastic.find? (fun y => decide (y.1 = x.desc.addr) && decide (y.2.1 = x.next)) with
    | true, some y => (s.modEngine k (fun e => { e with elastic := e.elastic.erase y })).sendChunk n k q epoch x y.2.2
    | _, _ => s.streamMiss n k q x

section core
variable (hm : x.desc.fromMem = false)
include hm

theorem State.sendAt_core {y : Nat × Nat × List Byte}
    (ho : s.ownsCorePort (nth 0 (s.coresOf (s.engine k).vd) x.desc.src) (s.engine k).vd = true)
    (hy : (s.engine k).elastic.find? (fun y => decide (y.1 = x.desc.addr) && decide (y.2.1 = x.next)) = some y) :
    s.sendAt k q epoch x = (s.modEngine k (fun e => { e with elastic := e.elastic.erase y })).sendChunk (s.engine k).vd k q
      epoch x y.2.2 := by
  simp [State.sendAt, hm, ho, hy]

theorem State.sendAt_core_misses
    (h : s.ownsCorePort (nth 0 (s.coresOf (s.engine k).vd) x.desc.src) (s.engine k).vd = false
      ∨ (s.engine k).elastic.find? (fun y => decide (y.1 = x.desc.addr) && decide (y.2.1 = x.next)) = none) :
    s.sendAt k q epoch x = s.streamMiss (s.engine k).vd k q x := by
  rcases h with h | h <;> simp [State.sendAt, hm, h]

end core

section slice
variable (hm : x.desc.fromMem = true)
include hm

theorem State.sendAt_slice {i w a : Nat}
    (ho : s.ownsSlicePort (nth 0 (s.slicesOf (s.engine k).vd) x.desc.src) (s.engine k).vd = true)
    (hl : s.sourceLine (s.engine k).vd x.desc x.next = some (i, w, a)) :
    s.sendAt k q epoch x = (s.takeFromSlice (s.engine k).vd i w a x.desc.dead).2.sendChunk (s.engine k).vd k q epoch x
      (s.takeFromSlice (s.engine k).vd i w a x.desc.dead).1 := by
  simp [State.sendAt, hm, ho, hl]

theorem State.sendAt_slice_misses
    (h : s.ownsSlicePort (nth 0 (s.slicesOf (s.engine k).vd) x.desc.src) (s.engine k).vd = false
      ∨ s.sourceLine (s.engine k).vd x.desc x.next = none) :
    s.sendAt k q epoch x = s.streamMiss (s.engine k).vd k q x := by
  rcases h with h | h <;> simp [State.sendAt, hm, h]

end slice

end source

section send
variable {s : State} {e : Engine} {i k q epoch due : Nat} {x : Stream} (hat : s.streamAt e i = some (k, q))
  (hep : s.streamEpoch (s.engine k).vd = some epoch) (hx : (s.engine k).streams[q]? = some x)
  (hdue : due = portTick x.desc.fromMem (x.desc.sendBeat epoch x.next x.late) (s.sendPos (s.engine k).vd x.desc x.next))
include hat hep hx hdue

/-- What a stream does at a send position, in the order of its tests (R167, R185, R189). -/
theorem exec_streamChunkSend : exec (.streamChunkSend e i) s
    = .next (if x.stopped ∨ x.desc.chunks ≤ x.next ∨ s.commitDue ∨ s.fabTick < due then s
      else if due < s.fabTick then s.streamMiss (s.engine k).vd k q x
      else if x.next = 0 ∧ ¬ s.gateOpen (s.engine k).vd x.desc then s.streamMiss (s.engine k).vd k q x
      else if s.losesPosition (s.engine k).vd epoch q (s.engine k).streams x then s.streamMiss (s.engine k).vd k q x
      else s.sendAt k q epoch x) := by
  subst hdue
  refine congrArg ok ?_
  simp only [hat, Option.getD_some, hep, hx]
  rfl

/-- Before its tick, and while table writes are due, a position sends nothing (R31, R159). -/
theorem exec_streamChunkSend_waits (h : s.commitDue = true ∨ s.fabTick < due) :
    exec (.streamChunkSend e i) s = .next s := by
  rw [exec_streamChunkSend hat hep hx hdue, if_pos (.inr (.inr h))]

variable (hst : x.stopped = false) (hn : x.next < x.desc.chunks) (hc : s.commitDue = false)
include hst hn hc

/-- A position that has passed misses (R190). -/
theorem exec_streamChunkSend_passed (h : due < s.fabTick) :
    exec (.streamChunkSend e i) s = .next (s.streamMiss (s.engine k).vd k q x) := by
  rw [exec_streamChunkSend hat hep hx hdue, if_neg (by simp [hst, hc]; omega), if_pos h]

section due
variable (hd : s.fabTick = due)
include hd

/-- The first position of a stream whose gate is shut misses (R185). -/
theorem exec_streamChunkSend_shut (h0 : x.next = 0) (hg : s.gateOpen (s.engine k).vd x.desc = false) :
    exec (.streamChunkSend e i) s = .next (s.streamMiss (s.engine k).vd k q x) := by
  rw [exec_streamChunkSend hat hep hx hdue, if_neg (by simp [hst, hc]; omega), if_neg (by omega), if_pos (by simp [h0, hg])]

variable (hg : x.next = 0 → s.gateOpen (s.engine k).vd x.desc = true)
include hg

/-- With its gate open a stream sends at its position, or misses where the position is another stream's (R167). -/
theorem exec_streamChunkSend_due : exec (.streamChunkSend e i) s
    = .next (if s.losesPosition (s.engine k).vd epoch q (s.engine k).streams x then s.streamMiss (s.engine k).vd k q x
      else s.sendAt k q epoch x) := by
  rw [exec_streamChunkSend hat hep hx hdue, if_neg (by simp [hst, hc]; omega), if_neg (by omega), if_neg (by simpa using hg)]

end due

end send

/-- Settles O25: the descriptor's three outcomes, then a send position by the tests in their order. -/
theorem streamsFetchAndSend : Obligations.StreamsFetchAndSend := by
  refine ⟨fun s u e k j d hk hj he hd hu => ?_,
    fun s e i k q epoch due x hat hep hx hdue hst hn => ⟨exec_streamChunkSend_waits hat hep hx hdue, fun hc =>
      ⟨exec_streamChunkSend_passed hat hep hx hdue hst hn hc, exec_streamChunkSend_shut hat hep hx hdue hst hn hc,
        fun hd hg => ?_⟩⟩⟩
  · rw [exec_descriptorFetch hk hj he hd hu]
    exact ⟨fun h0 => by rw [if_pos h0], fun h0 hok => by rw [if_neg h0, if_pos hok],
      fun h0 hok => by rw [if_neg h0, if_neg (by simp [hok])]⟩
  · rw [exec_streamChunkSend_due hat hep hx hdue hst hn hc hd hg]
    refine ⟨fun hl => by rw [if_pos hl], fun hl hm => ⟨fun y ho hy => ?_, fun h => ?_⟩,
      fun hl hm => ⟨fun y w a ho hy => ?_, fun h => ?_⟩⟩
    all_goals rw [if_neg (by simp [hl])]
    · rw [State.sendAt_core hm ho hy]
    · rw [State.sendAt_core_misses hm h]
    · rw [State.sendAt_slice hm ho hy]
    · rw [State.sendAt_slice_misses hm h]

end Sys2Proof.Machine

/-! PROOFS, 05_scheduled_fabric.md. Chunks at their destination: landing, the landing buffer of a slice, the flag add of a stream. -/

namespace Sys2Proof.Machine

section landing
variable {s : State} {p : Port} {i x k a : Nat} {c : Chunk}

/-- A port that its device does not own takes no chunk of it (R168). -/
theorem State.land_refused (ho : s.ownsDst c = false) : s.land x c = s.dropChunk x :=
  if_pos (by simp [ho])

/-- A chunk that lands in a tile store is written and counts for its streams (R157, R184). -/
theorem State.land_tile (ho : s.ownsDst c = true) (hd : c.dst = .tile k a) : s.land x c
    = c.counts.foldl (fun s y => s.chunkWritten y.1 y.2)
        ((s.dropChunk x).modCore k (fun y => { y with tile := wrL y.tile a c.data })) := by
  unfold State.land
  rw [if_neg (by simp [ho]), hd]

section chunkLanding
variable (hx : (chunkIdx s.fab.chunks (fun c => c.atPort p && !c.held))[i]? = some x) (hc : s.fab.chunks[x]? = some c)
include hx hc

/-- Before its position, while a flit of it awaits its replay and while table writes are due, a chunk does not land; then it
does (R31, R157, R194). -/
theorem exec_chunkLanding : exec (.chunkLanding p i) s
    = .next (if c.bad ∨ s.commitDue ∨ s.fabTick < portTick c.dst.toSlice (c.landFrame * 64 + c.landBeat) c.landPos then s
      else s.land x c) := by
  refine congrArg ok ?_
  simp only [hx, hc]

theorem exec_chunkLanding_lands (hb : c.bad = false) (hd : s.commitDue = false)
    (ht : portTick c.dst.toSlice (c.landFrame * 64 + c.landBeat) c.landPos ≤ s.fabTick) :
    exec (.chunkLanding p i) s = .next (s.land x c) := by
  rw [exec_chunkLanding hx hc, if_neg (by simp [hb, hd, ht])]

end chunkLanding

/-- A chunk that reaches a slice whose landing buffer holds 128 chunks is discarded, and the job of the slice's owner overruns
(R551). -/
theorem State.chunkArrives_full (hd : c.dst = .slice k a) (hfull : 128 ≤ (s.fab.chunks.filter (fun o =>
      o.red.isNone && decide (o.id ≠ c.id) && decide (o.arrives ≤ c.arrives) && o.dst.atSlice k)).length) :
    s.chunkArrives c
      = ({ s with fab := { s.fab with chunks := s.fab.chunks.filter (fun o => !decide (o.id = c.id)) } }).overrun
        ((s.sliceVd k).getD c.vd) c.eng c.desc := by
  unfold State.chunkArrives
  rw [hd]
  exact if_neg (Nat.not_lt.mpr hfull)

/-- The first held chunk of a slice that can be served lands (R551). -/
theorem exec_landingRetry_serves {b : Fin 512} (hx : (chunkIdx s.fab.chunks (fun c => c.atPort (.slice b) && c.held)).find?
      (fun x => decide (((s.fab.chunks[x]?).elim s (s.land x)).fab.chunks.length < s.fab.chunks.length)) = some x)
    (hc : s.fab.chunks[x]? = some c) : exec (.landingRetry b) s = .next (s.land x c) := by
  refine congrArg ok ?_
  simp only [hx, hc, Option.elim_some]

/-- The router of a stream's destination adds to its flag once all its chunks are written (R184). -/
theorem exec_streamFlagAdd {q : Nat} {y : Stream} (hr : s.flagReady[i]? = some (k, q))
    (hy : (s.engine k).streams[q]? = some y) : exec (.streamFlagAdd i) s
      = .next ((s.modStream k q (fun x => { x with flagged := true })).sendFlag ⟨(s.engine k).vd,
          s.flagWord (s.engine k).vd y.desc.flag, .add (BitVec.ofNat 32 y.desc.flagAdd), 128 + k⟩
            (.bd (s.dstPort (s.engine k).vd y.desc).die)) := by
  refine congrArg ok ?_
  simp only [hr, hy]

end landing

/-- Settles O26: a landing by the owner and the kind of its port, then the landing buffer and the flag add. -/
theorem chunksLandAndCount : Obligations.ChunksLandAndCount := by
  refine fun s p i x c => ⟨fun hx hc => ⟨fun h => ?_, fun hb hd ht => ?_⟩, fun k a hd _ => State.chunkArrives_full hd,
    fun b => exec_landingRetry_serves, fun k q y => exec_streamFlagAdd⟩
  · rw [exec_chunkLanding hx hc, if_pos h]
  · rw [exec_chunkLanding_lands hx hc hb hd ht]
    exact ⟨fun ho => by rw [State.land_refused ho], fun k a ho hdst => by rw [State.land_tile ho hdst], fun _ _ _ => rfl⟩

end Sys2Proof.Machine

/-! PROOFS, 05_scheduled_fabric.md. What leaves the flag words as they are: messages sent, and the accesses of the transport engine
to device memory at the homes. -/

namespace Sys2Proof.Machine

section messages
variable {s : State} {n i k : Nat}

@[simp] theorem State.sendReed_flags {body : ReedBody} {src dst : Site} : (s.sendReed n body src dst).fab.flags = s.fab.flags := rfl

@[simp] theorem State.sendDem_flags {body : DemBody} {src dst : Site} {net ctl : Bool} :
    (s.sendDem n body k src dst net ctl).fab.flags = s.fab.flags := rfl

@[simp] theorem State.diePort_fab {d : Nat} {port : Option Nat} : (s.diePort d port).2.fab = s.fab := by
  cases port <;> rfl

@[simp] theorem State.sendMsg_flags {m : CohMsg} {port : Option Nat} : (s.sendMsg m port).fab.flags = s.fab.flags := by
  unfold State.sendMsg
  cases m.src <;> dsimp only <;> split <;> simp

@[simp] theorem State.sendAll_flags {kind : CohKind} {vec sec : Nat} : (s.sendAll kind i vec n sec).fab.flags = s.fab.flags :=
  foldl_keeps_proj (fun t : State => t.fab.flags) (fun _ _ => State.sendMsg_flags) _ _

@[simp] theorem State.sendAck_flags {src : ReqSrc} {notice : Bool} : (s.sendAck i n src notice).fab.flags = s.fab.flags := by
  unfold State.sendAck
  split <;> rfl

@[simp] theorem State.sendFlag_flags {m : FlagMsg} {src : Site} : (s.sendFlag m src).fab.flags = s.fab.flags := by
  unfold State.sendFlag
  split <;> rfl

@[simp] theorem State.sendWake_flags {word c : Nat} : (s.sendWake n word c).fab.flags = s.fab.flags := rfl

@[simp] theorem State.vecVf_fab : (s.vecVf n k).fab = s.fab := by
  unfold State.vecVf
  split <;> rfl

end messages

section lines
variable {s : State} {i k n sec line : Nat} {bs : List (Nat × Byte)}

@[simp] theorem State.setSlice_fab {x : Slice} : (s.setSlice i x).fab = s.fab := rfl

@[simp] theorem State.landBytes_fab {keepDead : Bool} : (s.landBytes i k sec bs keepDead).fab = s.fab := rfl

@[simp] theorem State.openRecall_flags {discard host : Bool} {chunks : List (Nat × Nat)} :
    (s.openRecall i k sec discard chunks host).fab.flags = s.fab.flags := by
  unfold State.openRecall
  dsimp only
  split
  · rfl
  · split
    · rfl
    · exact State.sendAll_flags

@[simp] theorem State.recallLine_flags {discard : Bool} : (s.recallLine i k discard).fab.flags = s.fab.flags :=
  foldl_keeps_proj (fun t : State => t.fab.flags) (fun _ _ => State.openRecall_flags) _ _

@[simp] theorem State.finishDrop_fab : (s.finishDrop i k).fab = s.fab := by
  unfold State.finishDrop
  dsimp only
  split <;> rfl

@[simp] theorem State.startDrop_flags : (s.startDrop i k).fab.flags = s.fab.flags := by
  unfold State.startDrop
  dsimp only
  split
  · rfl
  · split
    · rfl
    · split <;> simp

@[simp] theorem State.afterLoss_flags : (s.afterLoss i k).fab.flags = s.fab.flags := by
  unfold State.afterLoss
  dsimp only
  split
  · rfl
  · split
    · rfl
    · split <;> simp

@[simp] theorem State.evictMask_flags : (s.evictMask i).fab.flags = s.fab.flags := by
  unfold State.evictMask
  dsimp only
  split
  · rfl
  · split
    · rfl
    · split
      · rfl
      · split <;> simp

@[simp] theorem State.allocate_flags {ns : Nat} : (s.allocate i ns line).fab.flags = s.fab.flags := by
  unfold State.allocate
  dsimp only
  split
  · rfl
  · split
    · rfl
    · split
      · rfl
      · split
        · simp
        · split <;> rfl

@[simp] theorem State.bringLine_flags : (s.bringLine i n line).fab.flags = s.fab.flags := by
  unfold State.bringLine
  split
  · rfl
  · exact State.allocate_flags

/-- Copies that give way change their dies alone. -/
theorem State.yieldAll_fab {vec : Nat} {inval : Bool} {t : State} {data : Option (List Byte)}
    (h : s.yieldAll n sec vec inval = some (t, data)) : t.fab = s.fab := by
  unfold State.yieldAll at h
  refine List.foldlRecOn (motive := fun r => ∀ u data, r = some (u, data) → u.fab = s.fab) _ _ ?_ (fun r hr d _ => ?_) t data h
  · rintro u data ⟨⟩
    rfl
  · intro u data hu
    obtain ⟨⟨v, _⟩, rfl, hv⟩ := Option.bind_eq_some_iff.mp hu
    dsimp only at hv
    split at hv
    · exact nomatch hv
    · obtain ⟨_, _, ⟨⟩⟩ := Option.map_eq_some_iff.mp hv
      exact hr v _ rfl

@[simp] theorem State.pullCopies_fab {inval : Bool} : (s.pullCopies i k n sec inval).fab = s.fab := by
  unfold State.pullCopies
  dsimp only
  split
  · rfl
  · split
    · rfl
    · rename_i t data h
      rw [← State.yieldAll_fab h]
      split <;> rfl

@[simp] theorem State.settleWrites_flags : (s.settleWrites i k sec).fab.flags = s.fab.flags :=
  foldl_keeps_proj (fun t : State => t.fab.flags) (fun _ _ => by simp) _ _

end lines

section memory
variable {s : State} {n sec ch : Nat} {bs : List (Nat × Byte)}

@[simp] theorem State.memWrite_fab {key mask : Nat} {data : List Byte} : (s.memWrite ch key mask data).fab = s.fab := by
  unfold State.memWrite
  split <;> rfl

@[simp] theorem State.performWrites_fab {p : ChWrite → Bool} : (s.performWrites ch p).fab = s.fab := by
  unfold State.performWrites
  dsimp only
  split
  · exact foldl_keeps_proj (fun t : State => t.fab) (fun _ _ => State.memWrite_fab) _ _
  · rfl

@[simp] theorem State.writeBehind_fab : (s.writeBehind n sec bs).fab = s.fab := by
  unfold State.writeBehind
  dsimp only
  split
  · split
    · exact State.memWrite_fab.trans State.performWrites_fab
    · rfl
  · split
    · split
      · exact State.memWrite_fab.trans State.performWrites_fab
      · rfl
    · rfl

@[simp] theorem State.devWriteSec_flags : (s.devWriteSec n sec bs).fab.flags = s.fab.flags := by
  unfold State.devWriteSec
  extract_lets line patch
  have hpatch : ∀ t : State, (patch t).fab = t.fab := fun _ => rfl
  clear_value patch
  split
  · rw [State.writeBehind_fab]
  · extract_lets brought
    have hbrought : brought.fab.flags = s.fab.flags := State.bringLine_flags
    clear_value brought
    split
    · rw [State.writeBehind_fab, hpatch, hbrought]
    · extract_lets served back filled room
      have hserved : served.fab.flags = s.fab.flags := by
        unfold served
        rw [hpatch, State.settleWrites_flags, State.pullCopies_fab, hbrought]
      have hfilled : filled.fab.flags = s.fab.flags := by
        unfold filled
        split <;> exact hserved
      rw [State.landBytes_fab]
      unfold room
      split
      · exact State.evictMask_flags.trans hfilled
      · exact hfilled

@[simp] theorem State.devWrite_flags {addr : Nat} {data : List Byte} : (s.devWrite n addr data).fab.flags = s.fab.flags :=
  foldl_keeps_proj (fun t : State => t.fab.flags) (fun _ _ => State.devWriteSec_flags) _ _

end memory

end Sys2Proof.Machine

/-! PROOFS, 05_scheduled_fabric.md. Flag words: the operations on a word, and the router that applies a message as a whole. -/

namespace Sys2Proof.Machine

section transport
variable {s : State} {n q : Nat}

@[simp] theorem State.sendRecord_flags {w : WorkReq} {status bytes : Nat} :
    (s.sendRecord n q w status bytes).fab.flags = s.fab.flags := by
  unfold State.sendRecord
  split
  · rfl
  · extract_lets p tail written moved wrapped
    have hwrapped : wrapped.fab.flags = s.fab.flags := by
      unfold wrapped moved
      split
      · rw [State.modQp_fab, State.setRegFld_fab, State.devWrite_flags]
      · rw [State.setRegFld_fab, State.devWrite_flags]
    split
    · rw [State.vecVf_fab, hwrapped]
    · exact hwrapped

/-- The transport's add to a flag is a message on its way to the router. -/
@[simp] theorem State.addFlag_flags {f v : Nat} : (s.addFlag n f v).fab.flags = s.fab.flags := by
  unfold State.addFlag
  split
  · exact State.sendFlag_flags
  · rfl

@[simp] theorem State.finishWork_flags {w : WorkReq} {status : Nat} :
    (s.finishWork n q w status).fab.flags = s.fab.flags := by
  unfold State.finishWork
  dsimp only
  split <;> split <;> simp

@[simp] theorem State.openGates_flags : (s.openGates n).fab.flags = s.fab.flags := by
  refine foldl_keeps_proj (fun t : State => t.fab.flags) (fun t p => ?_) _ _
  dsimp only
  split
  · split
    · split <;> simp
    · rfl
  · rfl

@[simp] theorem State.postWork_fab {tail : Nat} : (s.postWork n q tail).fab = s.fab := by
  unfold State.postWork
  split
  · exact State.setRegBit_fab
  · exact State.setRegFld_fab

@[simp] theorem State.flagDoorbell_fab {f : Nat} {v : W32} : (s.flagDoorbell n f v).fab = s.fab := by
  refine foldl_keeps_proj (fun t : State => t.fab) (fun t p => ?_) _ _
  dsimp only
  split
  · exact State.postWork_fab
  · rfl

end transport

section router
variable {s : State} {b : Fin 4} {i : Nat} {m : FlagMsg}

/-- What follows the change of a flag word: waiting cores whose condition now holds are sent wakes, work requests are posted,
gates open (R182, R413, R415). -/
def State.flagChanged (s : State) (m : FlagMsg) (new : W32) : State :=
  let wakes := (s.cores.filter (fun (e : Nat × Core) => match e.2.flagWait with
    | some f => decide (f.word = m.word) && flagHolds f.mode new f.value && !s.wakeOut e.1
    | none => false)).map (·.1)
  let t := wakes.foldl (fun t c => t.sendWake m.vd m.word c) s
  (if m.sender < 96 then t.flagDoorbell m.vd ((t.vd m.vd).flagMap.idxOf m.word) new else t).openGates m.vd

/-- It changes no flag word itself. -/
@[simp] theorem State.flagChanged_flags {new : W32} : (s.flagChanged m new).fab.flags = s.fab.flags := by
  have hwakes : ∀ cs : List Nat, (cs.foldl (fun t c => t.sendWake m.vd m.word c) s).fab.flags = s.fab.flags := fun cs =>
    foldl_keeps_proj (fun t : State => t.fab.flags) (fun _ _ => State.sendWake_flags) cs s
  unfold State.flagChanged
  dsimp only
  rw [State.openGates_flags]
  split
  · rw [State.flagDoorbell_fab, hwakes]
  · exact hwakes _

section
variable (hm : s.routerMsg b.val i = some m)
include hm

/-- A message waits for those that its sender sent to the word before it (R179). -/
theorem exec_flagOperation_waits
    (h : s.fab.flagMsgs.find? (fun x => decide (x.word = m.word) && decide (x.sender = m.sender)) ≠ some m) :
    exec (.flagOperation b i) s = .next s := by
  refine congrArg ok ?_
  rw [hm]
  exact if_pos h

/-- A message in its turn is applied to its word as a whole; what follows a change follows only where there is one (R179). -/
theorem exec_flagOperation_applies
    (h : s.fab.flagMsgs.find? (fun x => decide (x.word = m.word) && decide (x.sender = m.sender)) = some m) {new : W32}
    (hnew : new = flagApply (s.flag m.word) m.op) {u : State}
    (hu : u = State.setFlag { s with fab := { s.fab with flagMsgs := s.fab.flagMsgs.erase m } } m.word new) :
    exec (.flagOperation b i) s = .next (if s.flag m.word = new then u else u.flagChanged m new) := by
  subst hu hnew
  refine congrArg ok ?_
  rw [hm]
  exact if_neg (not_not_intro h)

end

end router

section words
variable {w v : W32} {hi mid lo : Nat}

theorem fld_lt (w : W32) (lo len : Nat) : fld w lo len < 2 ^ len := Nat.mod_lt _ (Nat.two_pow_pos len)

/-- The three fields of a flag word that counts arrivals: EPOCH, COUNT and LIMIT (R181). -/
theorem fld_flagWord (hhi : hi < 4096) (hmid : mid < 1024) (hlo : lo < 1024) {n : Nat}
    (hn : n = hi * 2 ^ 20 + mid * 2 ^ 10 + lo) :
    fld (BitVec.ofNat 32 n) 0 10 = lo ∧ fld (BitVec.ofNat 32 n) 10 10 = mid ∧ fld (BitVec.ofNat 32 n) 20 12 = hi := by
  subst hn
  simp only [fld, bitsOf, BitVec.toNat_ofNat, Nat.shiftRight_eq_div_pow]
  omega

/-- An arm sets LIMIT, with EPOCH and COUNT zero (R181). -/
theorem fld_flagApply_arm : fld (flagApply w (.arm v)) 0 10 = fld v 0 10 ∧ fld (flagApply w (.arm v)) 10 22 = 0 := by
  have hv := fld_lt v 0 10
  simp only [flagApply]
  generalize fld v 0 10 = x at hv
  simp only [fld, bitsOf, BitVec.toNat_ofNat, Nat.shiftRight_eq_div_pow]
  omega

/-- An arrive below LIMIT counts (R181). -/
theorem fld_flagApply_arrive_counts (h : fld w 10 10 + 1 < if fld w 0 10 = 0 then 1024 else fld w 0 10) :
    fld (flagApply w .arrive) 0 10 = fld w 0 10 ∧ fld (flagApply w .arrive) 10 10 = fld w 10 10 + 1
      ∧ fld (flagApply w .arrive) 20 12 = fld w 20 12 := by
  have hlo := fld_lt w 0 10
  have hmid : fld w 10 10 + 1 < 1024 := by split at h <;> omega
  simp only [flagApply, if_neg (Nat.not_le.mpr h)]
  exact fld_flagWord (fld_lt w 20 12) hmid hlo rfl

/-- An arrive that reaches LIMIT starts the next epoch (R181). -/
theorem fld_flagApply_arrive_wraps (h : (if fld w 0 10 = 0 then 1024 else fld w 0 10) ≤ fld w 10 10 + 1) :
    fld (flagApply w .arrive) 0 10 = fld w 0 10 ∧ fld (flagApply w .arrive) 10 10 = 0
      ∧ fld (flagApply w .arrive) 20 12 = (fld w 20 12 + 1) % 4096 := by
  simp only [flagApply, if_pos h]
  exact fld_flagWord (Nat.mod_lt _ (by decide)) (by decide) (fld_lt w 0 10) (by omega)

theorem fld_flagApply_arrive_limit : fld (flagApply w .arrive) 0 10 = fld w 0 10 := by
  rcases Nat.lt_or_ge (fld w 10 10 + 1) (if fld w 0 10 = 0 then 1024 else fld w 0 10) with h | h
  · exact (fld_flagApply_arrive_counts h).1
  · exact (fld_flagApply_arrive_wraps h).1

end words

/-- Settles O28: a message that waits, one that changes nothing and one that does; then the operations on a word. -/
theorem routersApplyFlagMessagesWhole : Obligations.RoutersApplyFlagMessagesWhole := by
  refine ⟨fun s b i m hm => ⟨exec_flagOperation_waits hm, fun h hsame => ?_, fun h => ?_⟩,
    fun w v => ⟨rfl, rfl, fld_flagApply_arm.1, fld_flagApply_arm.2, fld_flagApply_arrive_limit,
      fun h => (fld_flagApply_arrive_counts h).2, fun h => (fld_flagApply_arrive_wraps h).2⟩⟩
  · rw [exec_flagOperation_applies hm h hsame.symm rfl, if_pos rfl]
  · refine ⟨_, exec_flagOperation_applies hm h rfl rfl, ?_⟩
    split
    · rfl
    · exact State.flagChanged_flags

end Sys2Proof.Machine

/-! PROOFS, 06_unified_cache.md. A request at its home, its line and the write-back buffer: one lemma per command and outcome. -/

namespace Sys2Proof.Machine

section requests
variable {s : State} {i : Fin 512} {q k : Nat} {r : HReq}

/-- In its turn a plain read of a whole sector is served (R206). -/
theorem exec_homeRead_serves (ht : s.homeTurn i.val q k r) (ha : s.homeAdmits r) (hk : r.kind = .plain)
    (hfull : ((s.slice i.val).way k).full (secIdx r.addr) = true) :
    exec (.homeRead i q) s = .next (s.serveRead i.val q k r) := by
  obtain ⟨hfirst, hfind, hheld, hfill⟩ := ht
  obtain ⟨hrefuses, hwaits, hrefill⟩ := ha
  refine congrArg ok ?_
  unfold homeRead
  simp [hfirst, hk, hrefuses, hwaits, hfind, hheld, hrefill, hfill, hfull]

/-- In its turn a write into a sector without copies and with room for its mask is accepted, and not acknowledged yet where its
region has no EARLY_ACK (R207, R279, R280). -/
theorem exec_homeWrite_accepts (ht : s.homeTurn i.val q k r) (ha : s.homeAdmits r) (hk : r.kind = .write)
    (hacc : r.accepted = false) (hearly : r.early = false)
    (hdir : ((s.slice i.val).way k).dir (secIdx r.addr) = Dir.none)
    (hmask : ((s.slice i.val).way k).needsMask (secIdx r.addr) (r.bytes.map (fun b => (b.1 % 256, b.2))) = false) :
    exec (.homeWrite i q) s
      = .next (s.setSlice i.val ((s.slice i.val).modReq q (fun r => { r with accepted := true }))) := by
  obtain ⟨hfirst, hfind, hheld, -⟩ := ht
  obtain ⟨hrefuses, hwaits, -⟩ := ha
  refine congrArg ok ?_
  unfold homeWrite
  simp [hfirst, hk, hacc, hrefuses, hwaits, hfind, hheld, hdir, Dir.none, hearly, hmask]

/-- A request without its line counts as missed once (R211). -/
theorem State.missReq_first {empty : Bool} (hm : r.missed = false) : s.missReq i q r empty
    = (if empty then s.deadRead i (lineOf r.addr) else s).modSlice i
      (fun sl => sl.modReq q (fun r => { r with missed := true })) :=
  if_neg (ne_true_of_eq_false hm)

section missing
variable (hfirst : firstOver (s.slice i.val).reqs q = some r) (hfind : (s.slice i.val).find (lineOf r.addr) = none)
  (hm : r.missed = false) (ha : s.homeAdmits r)
include hfirst hfind hm ha

/-- A read that finds no line waits for it, and may be a dead read (R211, R220). -/
theorem exec_homeRead_misses (hk : r.kind ≠ .write) : exec (.homeRead i q) s
    = .next ((s.deadRead i.val (lineOf r.addr)).modSlice i.val (fun sl => sl.modReq q (fun r => { r with missed := true }))) := by
  obtain ⟨hrefuses, hwaits, -⟩ := ha
  refine congrArg ok ?_
  unfold homeRead
  simp [hfirst, hk, hrefuses, hwaits, hfind, State.missReq_first hm]

/-- A write that finds no line waits for it (R211). -/
theorem exec_homeWrite_misses (hk : r.kind = .write) (hacc : r.accepted = false) : exec (.homeWrite i q) s
    = .next (s.modSlice i.val (fun sl => sl.modReq q (fun r => { r with missed := true }))) := by
  obtain ⟨hrefuses, hwaits, -⟩ := ha
  refine congrArg ok ?_
  unfold homeWrite
  simp [hfirst, hk, hacc, hrefuses, hwaits, hfind, State.missReq_first hm]

end missing

/-- An accepted write is served into its line and acknowledged (R279, R280). -/
theorem exec_writeCompletion_serves {u : State} (hfirst : firstOver (s.slice i.val).reqs q = some r)
    (hfind : (s.slice i.val).find (lineOf r.addr) = some k)
    (hstays : (((s.slice i.val).way k).evicting || ((s.slice i.val).way k).dropping || ((s.slice i.val).way k).discarding) = false)
    (hfill : (((s.slice i.val).way k).sec (secIdx r.addr)).filling = false) (hacc : r.accepted = true)
    (hmask : ((s.slice i.val).way k).needsMask (secIdx r.addr) (r.bytes.map (fun b => (b.1 % 256, b.2))) = false)
    (hu : u = (s.landBytes i.val k (secIdx r.addr) (r.bytes.map (fun b => (b.1 % 256, b.2)))).modSlice i.val
      (fun sl => { sl.modWay k (fun l => if r.missed then l else { l with rrpv := 0 }) with reqs := delNth sl.reqs q }))
    (hroom : (u.slice i.val).masksUsed ≤ 1008) :
    exec (.writeCompletion i q) s = .next (u.sendAck i.val r.vd r.src r.early) := by
  simp only [Bool.or_eq_false_iff] at hstays
  obtain ⟨⟨hev, hdrop⟩, hdisc⟩ := hstays
  refine congrArg ok ?_
  unfold writeCompletion
  simp only [hfirst, hacc, hfind, hev, hdrop, hdisc, hfill, hmask, ← hu, if_neg (Nat.not_lt.mpr hroom), not_true_eq_false,
    Bool.false_eq_true, or_self, false_and, if_false]

/-- A fill that comes whole for a sector that awaits it is installed (R209). -/
theorem exec_fillComplete_installs {f : FillData} (hf : (s.slice i.val).fills[q]? = some f)
    (hfind : (s.slice i.val).find f.line = some k) (hb : f.bad = false)
    (hfill : (((s.slice i.val).way k).sec f.sector).filling = true) : exec (.fillComplete i q) s
      = .next ((State.modSlice (s.setSlice i.val { s.slice i.val with fills := delNth (s.slice i.val).fills q })
          i.val (fun sl => sl.modWay k (fun l => l.install f.sector f.bytes))).settleLine i.val k) := by
  refine congrArg ok ?_
  unfold fillComplete
  simp only [hf, hb, hfind, hfill, Bool.false_eq_true, not_true_eq_false, if_false]

end requests

section lines
variable {s : State} {i : Fin 512} {n line k : Nat}

/-- A line that something needs takes the lowest eligible way without data (R211). -/
theorem exec_lineAllocation_takes (hv : s.sliceVd i.val = some n) (hfind : (s.slice i.val).find line = none)
    (hhome : s.homeSlice n line = some i.val) (hwant : s.lineWanted i.val line = true) (hcommit : s.committing n = false)
    (hway : ((setKeys (homeSet (s.slicesOf n).length line)).filter (s.slice i.val).eligible).find?
      (fun k => ((s.slice i.val).way k).allI && ((s.slice i.val).way k).noCopies) = some k) :
    exec (.lineAllocation i line) s = .next (s.setSlice i.val ((s.slice i.val).setWay k (Line.fresh line))) := by
  refine congrArg ok ?_
  unfold lineAllocation State.allocate
  simp only [hv, hfind, hhome, hwant, hcommit, hway, Option.isSome_none, ne_eq, not_true_eq_false, Bool.false_eq_true, or_self,
    if_false]

/-- The oldest line of the write-back buffer goes to its home channel, which has room for it (R213). -/
theorem exec_writeBack_sends {w : WbLine} {ws : List WbLine} {ch key : Nat} (hv : s.sliceVd i.val = some n)
    (hw : (s.slice i.val).wbuf = w :: ws) (hk : s.lineKey n w.line = some (ch, key))
    (hroom : (s.chan ch).writes.length + w.secs.length ≤ 32) : exec (.writeBack i) s
      = .next (((s.setSlice i.val { s.slice i.val with wbuf := ws }).modChan ch (fun c => c.addWrites
          (w.secs.map (fun (e : Nat × Sector) => (⟨n, w.line, e.1, key + 256 * e.1,
            if e.2.st = SecSt.d then fullMask else e.2.mask, rdN w.data (256 * e.1) 256, 0⟩ : ChWrite))))).settleSlice i.val) := by
  refine congrArg ok ?_
  unfold writeBack
  simp only [hv, hw, hk, if_neg (Nat.not_lt.mpr hroom)]

/-- A dead line whose queue has drained is dropped (R228). -/
theorem exec_deadpendDrop_drops (hfind : (s.slice i.val).find line = some k) (hpend : ((s.slice i.val).way k).deadpend = true)
    (hops : ((s.slice i.val).way k).ops = []) (hheld : ((s.slice i.val).way k).held = false)
    (hwrites : (s.slice i.val).reqs.any (fun r => decide (r.kind = .write) && decide (lineOf r.addr = line)) = false)
    (hdead : ((s.slice i.val).way k).isDead = true) : exec (.deadpendDrop i line) s
      = .next ((s.modSlice i.val (fun sl => sl.modWay k (fun l => { l with deadpend := false }))).startDrop i.val k) := by
  refine congrArg ok ?_
  unfold deadpendDrop
  simp [hfind, hpend, hops, hheld, hwrites, hdead]

end lines

end Sys2Proof.Machine

/-! PROOFS, 06_unified_cache.md. Maintenance operations and the probe; then the statement about requests, lines and maintenance. -/

namespace Sys2Proof.Machine

section maintenance
variable {s : State} {m : MaintOp} {a i line : Nat}

/-- What a maintenance command with action `a` does in a phase: GO, or its work on the next line (R229). -/
def State.maintain (s : State) (a : Nat) : Phase → State
  | .issue => maintGo a s
  | .act => maintStep a s

theorem exec_cacheOpWriteBack {ph : Phase} : exec (.cacheOpWriteBack ph) s = .next (s.maintain 0 ph) := by cases ph <;> rfl

theorem exec_cacheOpFlush {ph : Phase} : exec (.cacheOpFlush ph) s = .next (s.maintain 1 ph) := by cases ph <;> rfl

theorem exec_cacheOpDiscard {ph : Phase} : exec (.cacheOpDiscard ph) s = .next (s.maintain 2 ph) := by cases ph <;> rfl

/-- GO starts an operation where the block is served (R229). -/
theorem State.maintain_issue (hp : s.pfServed Reg.cacheOpCmd = true) : s.maintain a .issue = startMaint a s := if_pos hp

/-- GO is ignored while an operation runs (R230). -/
theorem startMaint_running (hm : s.maint.isSome = true) : startMaint a s = s := if_pos hm

/-- A line that its slice does not hold any more needs no work (R232). -/
theorem State.maintain_act_passes {rest : List (Nat × Nat)} (hm : s.maint = some m) (ha : m.action = a)
    (hl : m.left = (i, line) :: rest) (hfind : (s.slice i).find line = none) :
    s.maintain a .act = { s with maint := some { m with left := rest, holds := false } } := by
  unfold State.maintain maintStep
  simp only [hm, ha, hl, hfind, ne_eq, not_true_eq_false, if_false]

/-- With no line left the operation is done (R230, R232). -/
theorem exec_cacheOpEnd_ends (hm : s.maint = some m) (hl : m.left = []) : exec .cacheOpEnd s
    = .next { (s.setRegBit Reg.cacheOpStatus 31 true).setRegBit Reg.cacheOpCmd 31 false with maint := none } := by
  refine congrArg ok ?_
  rw [hm]
  exact if_pos (List.isEmpty_iff.mpr hl)

theorem State.regFld_setRegBit_ne {k j b lo len : Nat} {v : Bool} (h : k ≠ j) :
    (s.setRegBit j b v).regFld k lo len = s.regFld k lo len := by
  rw [State.regFld, State.reg_setRegBit_ne h, State.regFld]

section refused
variable (hm : s.maint = none)
  (hr : maintRefused (s.setRegFld Reg.cacheOpCmd 24 2 a) a (s.regFld Reg.cacheOpCmd 22 2) = true)
include hm hr

/-- What a refused operation leaves in its two registers (R231). -/
theorem startMaint_refused : startMaint a s = (((s.setRegFld Reg.cacheOpCmd 24 2 a).setRegFld Reg.cacheOpStatus 0 24 0).setRegFld
    Reg.cacheOpStatus 30 2 3).setRegBit Reg.cacheOpCmd 31 false := by
  unfold startMaint
  simp only [hm, hr, Option.isSome_none, Bool.false_eq_true, if_false, if_true]

/-- A refused operation changes registers alone. -/
theorem startMaint_refused_fields : startMaint a s = { s with regs := (startMaint a s).regs } := by
  rw [startMaint_refused hm hr]
  exact State.regs_fields_trans (State.regs_fields_trans (State.regs_fields_trans State.setRegFld_fields State.setRegFld_fields)
    State.setRegFld_fields) State.setRegBit_fields

section canonical
variable (hc : s.canonical = true)
include hc

theorem regFld_startMaint_refused_result : (startMaint a s).regFld Reg.cacheOpStatus 30 2 = 3 := by
  rw [startMaint_refused hm hr, State.regFld_setRegBit_ne (by decide)]
  exact State.regFld_setRegFld (State.canonical_setRegFld (State.canonical_setRegFld hc)) (by decide)

theorem regFld_startMaint_refused_sectors : (startMaint a s).regFld Reg.cacheOpStatus 0 24 = 0 := by
  rw [startMaint_refused hm hr, State.regFld_setRegBit_ne (by decide),
    State.regFld_setRegFld_of_disjoint (State.canonical_setRegFld (State.canonical_setRegFld hc)) (by decide) (by decide)]
  exact State.regFld_setRegFld (State.canonical_setRegFld hc) (by decide)

theorem regBit_startMaint_refused : (startMaint a s).regBit Reg.cacheOpCmd 31 = false := by
  rw [startMaint_refused hm hr]
  exact State.regBit_setRegBit (State.canonical_setRegFld (State.canonical_setRegFld (State.canonical_setRegFld hc))) (by decide)

end canonical

end refused

end maintenance

section probe
variable {s : State} {sel : W32} {w : Nat}

theorem resvBits_cacheProbeSel : resvBits Reg.cacheProbeSel = 0xC00FC0F0 := by decide +kernel

/-- A word that shares no bit with a mask lies outside the mask. -/
theorem and_not_eq_self {x c : W32} (h : x &&& c = 0) : x &&& ~~~c = x := by
  ext j hj
  have hbit := congrArg (fun v : W32 => v[j]) h
  simp only [BitVec.getElem_and, BitVec.getElem_not] at hbit ⊢
  cases hx : x[j] <;> simp_all

/-- A selection without reserved bits is stored as it is (R10, R236). -/
theorem cacheProbeSel_masked (h : sel.toNat &&& resvBits Reg.cacheProbeSel = 0) : sel &&& 0x3FF03F0F#32 = sel := by
  rw [resvBits_cacheProbeSel] at h
  exact and_not_eq_self (c := 0xC00FC0F0#32) (BitVec.eq_of_toNat_eq h)

theorem exec_cacheProbeCapture (hp : s.pfServed Reg.cacheProbeSel = true) (h : sel.toNat &&& resvBits Reg.cacheProbeSel = 0) :
    exec (.cacheProbeCapture sel) s = .next (probeCapture sel s) :=
  congrArg ok ((if_pos hp).trans (if_neg (not_not_intro h)))

theorem probeCapture_fields : probeCapture sel s = { s with regs := (probeCapture sel s).regs } := by
  unfold probeCapture
  exact State.regs_fields_trans (State.regs_fields_trans (t := s.setReg Reg.cacheProbeSel (sel &&& 0x3FF03F0F#32)) rfl
    State.setRegs_fields) State.setRegs_fields

theorem State.canonical_setRegs {k : Nat} {ws : List W32} (hc : s.canonical = true) : (s.setRegs k ws).canonical = true := by
  induction ws generalizing s k with
  | nil => exact hc
  | cons v ws ih => exact ih (State.canonical_setReg hc)

/-- The words of an array of registers. -/
theorem State.reg_setRegs_range {k n : Nat} {f : Nat → W32} (hc : s.canonical = true) (hw : w < n) :
    (s.setRegs k ((List.range n).map f)).reg (k + 4 * w) = f w := by
  rw [State.reg_setRegs hc (by simpa using hw)]
  simp

section captured
variable (hc : s.canonical = true)
include hc

theorem reg_probeCapture_sel : (probeCapture sel s).reg Reg.cacheProbeSel = sel &&& 0x3FF03F0F#32 := by
  unfold probeCapture
  dsimp only
  rw [State.reg_setRegs_below (by decide), State.reg_setRegs_below (by decide), State.reg_setReg hc, if_pos rfl]

section inRange
variable (hi : fld sel 20 10 < 512)
include hi

/-- The probe registers hold the tag entry of the selected way (R204, R236). -/
theorem reg_probeCapture_tag (hw : w < 6) : (probeCapture sel s).reg (Reg.cacheProbeTag w) = BitVec.ofNat 32 (bitsOf
    ((s.slice (fld sel 20 10)).way (16 * fld sel 8 6 + fld sel 0 4)).tagBits (32 * w) 32) := by
  unfold probeCapture
  simp only [if_pos hi]
  rw [State.reg_setRegs_below (by simp only [Reg.cacheProbeTag, Reg.cohereProbeDir]; omega)]
  exact State.reg_setRegs_range (State.canonical_setReg hc) hw

/-- They hold its directory bits (R236, R253). -/
theorem reg_probeCapture_dir (hw : w < 7) : (probeCapture sel s).reg (Reg.cohereProbeDir w) = BitVec.ofNat 32 (bitsOf
    ((s.slice (fld sel 20 10)).way (16 * fld sel 8 6 + fld sel 0 4)).dirBits (32 * w) 32) := by
  unfold probeCapture
  simp only [if_pos hi]
  exact State.reg_setRegs_range (State.canonical_setRegs (State.canonical_setReg hc)) hw

end inRange

end captured

end probe

/-- Settles O21: requests, then lines and maintenance, each by its command; then a refused operation and the probe. -/
theorem homeRequestsAndMaintenanceComplete : Obligations.HomeRequestsAndMaintenanceComplete := by
  refine ⟨fun s i q k r => ⟨exec_homeRead_serves, exec_homeWrite_accepts, fun u => exec_writeCompletion_serves,
      fun hfirst hfind hm => ⟨fun hk ha => exec_homeRead_misses hfirst hfind hm ha hk,
        fun hk hacc ha => exec_homeWrite_misses hfirst hfind hm ha hk hacc⟩, fun f => exec_fillComplete_installs⟩,
    fun s i n line k w ws => ⟨exec_lineAllocation_takes, fun ch key => exec_writeBack_sends, exec_deadpendDrop_drops,
      fun hp _ => ⟨?_, ?_, ?_⟩, fun hp hm => ?_, fun m hm hl hfind => ⟨fun ha => ?_, fun ha => ?_, fun ha => ?_⟩,
      fun m => exec_cacheOpEnd_ends⟩,
    fun s a sel hc => ⟨fun _ hm hr => ?_, fun hp hsel hi => ?_⟩⟩
  · rw [exec_cacheOpWriteBack, State.maintain_issue hp]
  · rw [exec_cacheOpFlush, State.maintain_issue hp]
  · rw [exec_cacheOpDiscard, State.maintain_issue hp]
  · rw [exec_cacheOpFlush, State.maintain_issue hp, startMaint_running hm]
  · rw [exec_cacheOpWriteBack, State.maintain_act_passes hm ha hl hfind]
  · rw [exec_cacheOpFlush, State.maintain_act_passes hm ha hl hfind]
  · rw [exec_cacheOpDiscard, State.maintain_act_passes hm ha hl hfind]
  · refine ⟨startMaint_refused_fields hm hr, ?_, regFld_startMaint_refused_result hm hr hc, regBit_startMaint_refused hm hr hc,
      regFld_startMaint_refused_sectors hm hr hc⟩
    rw [startMaint_refused_fields hm hr]
    exact hm
  · refine ⟨_, exec_cacheProbeCapture hp hsel, probeCapture_fields, ?_, fun w => reg_probeCapture_tag hc hi,
      fun w => reg_probeCapture_dir hc hi⟩
    rw [reg_probeCapture_sel hc, cacheProbeSel_masked hsel]

end Sys2Proof.Machine

/-! PROOFS, 06_unified_cache.md. Home operations: the bytes of a value, what an operation computes, and its commands. -/

namespace Sys2Proof.Machine

section bytes
variable {w n : Nat}

@[simp] theorem length_leBytes : (leBytes w n).length = w := by
  induction w generalizing n with
  | zero => rfl
  | succ w ih => exact congrArg (· + 1) ih

theorem leNat_leBytes : leNat (leBytes w n) = n % 2 ^ (8 * w) := by
  induction w generalizing n with
  | zero => exact (Nat.mod_one n).symm
  | succ w ih => rw [leBytes, leNat, ih, BitVec.toNat_ofNat, Nat.mul_succ, Nat.add_comm (8 * w), Nat.pow_add, Nat.mod_mul]

theorem take_leBytes : (leBytes w n).take w = leBytes w n := List.take_of_length_le (Nat.le_of_eq length_leBytes)

/-- The operand of a single lane. -/
theorem valuesOf_one_leBytes : valuesOf w 1 (leBytes w n) = [n % 2 ^ (8 * w)] := by
  rw [valuesOf, valuesOf, take_leBytes, leNat_leBytes]

end bytes

section apply
variable {o : HomeOp} {l w b old : Nat} (hreduce : o.reduce = false) (hlanes : o.lanes = [l]) (hw : o.ty.width = w)
  (hb : o.operand = leBytes w b) (hold : old < 2 ^ (8 * w))
include hreduce hlanes hw hb hold

/-- An integer add of one lane stores the sum and answers with the old value (R221, R224). -/
theorem HomeOp.apply_add (hfn : o.fn = .add) (hty : o.ty.fmt = none) :
    o.apply (leBytes w old) = (leBytes w ((old + b) % 2 ^ (8 * w)), ⟨o.src, [l], [leBytes w old], true⟩) := by
  have hsum : homeValue .add o.ty old (b % 2 ^ (8 * w)) = (old + b) % 2 ^ (8 * w) := by
    unfold homeValue
    rw [hty, hw]
    exact Nat.add_mod_mod _ _ _
  unfold HomeOp.apply
  simp only [hreduce, hfn, hlanes, hw, hb, List.length_singleton, valuesOf_one_leBytes, leNat_leBytes, Nat.mod_eq_of_lt hold,
    homeChain, hsum, List.map_cons, List.map_nil, Bool.false_eq_true, if_false]

/-- A compare-and-swap of one lane stores its operand where the old value matches (R221, R223). -/
theorem HomeOp.apply_cas (hfn : o.fn = .cas) : o.apply (leBytes w old)
    = (if leNat o.cmp = old then leBytes w b else leBytes w old, ⟨o.src, [l], [leBytes w old], decide (leNat o.cmp = old)⟩) := by
  unfold HomeOp.apply
  simp [hreduce, hfn, hlanes, hw, hb, take_leBytes, leNat_leBytes, Nat.mod_eq_of_lt hold, eq_comm]

end apply

section operations
variable {s : State} {i : Fin 512} {q k line : Nat} {o : HomeOp} {rest : List HomeOp}

section arrival
variable (ho : (s.slice i.val).opsIn[q]? = some o) (hrefuses : s.refuses o.vd o.src = false)
  (hfind : (s.slice i.val).find (lineOf o.addr) = some k) (hheld : ((s.slice i.val).way k).held = false)
  (hdir : ((s.slice i.val).way k).dir (secIdx o.addr) = Dir.none)
include ho hrefuses hfind hheld hdir

/-- An operation that arrives at a line without copies joins its queue, or has Nack where the queue or the busy lines are full
(R224, R226). -/
theorem exec_homeOperationArrival : exec (.homeOperationArrival i q) s
    = .next (if 32 ≤ ((s.slice i.val).way k).ops.length ∨ (((s.slice i.val).way k).ops.isEmpty ∧ 64 ≤ (s.slice i.val).busyLines)
      then (s.takeOp i.val q).nackOp i.val o
      else (s.takeOp i.val q).modSlice i.val (fun (sl : Slice) => sl.modWay k (fun l => l.joinOp o))) := by
  refine congrArg ok ?_
  unfold homeOpArrival
  simp [ho, hrefuses, hfind, hheld, hdir, Dir.none]

theorem exec_homeOperationArrival_joins (hlen : ((s.slice i.val).way k).ops.length < 32)
    (hbusy : ((s.slice i.val).way k).ops ≠ [] ∨ (s.slice i.val).busyLines < 64) : exec (.homeOperationArrival i q) s
      = .next ((s.takeOp i.val q).modSlice i.val (fun (sl : Slice) => sl.modWay k (fun l => l.joinOp o))) := by
  rw [exec_homeOperationArrival ho hrefuses hfind hheld hdir, if_neg]
  rintro (h | ⟨hempty, h⟩)
  · omega
  · rcases hbusy with hb | hb
    · exact hb (List.isEmpty_iff.mp hempty)
    · omega

theorem exec_homeOperationArrival_nacks (hlen : 32 ≤ ((s.slice i.val).way k).ops.length) :
    exec (.homeOperationArrival i q) s = .next ((s.takeOp i.val q).nackOp i.val o) := by
  rw [exec_homeOperationArrival ho hrefuses hfind hheld hdir, if_pos (.inl hlen)]

end arrival

section application
variable (hfind : (s.slice i.val).find line = some k) (hops : ((s.slice i.val).way k).ops = o :: rest)
  (hdir : ((s.slice i.val).way k).dir (secIdx o.addr) = Dir.none)
  (hfill : (((s.slice i.val).way k).sec (secIdx o.addr)).filling = false)
  (hfull : ((s.slice i.val).way k).full (secIdx o.addr) = true)
include hfind hops hdir hfill hfull

/-- The head of the queue is applied to a whole sector without copies, and its response leaves (R218, R224, R225). -/
theorem exec_homeOperationApply_applies {a : List Byte × OpRsp}
    (hbefore : (s.slice i.val).reqs.any (s.beforeOps ((s.slice i.val).way k) (secIdx o.addr)) = false)
    (hdisc : ((s.slice i.val).way k).discarding = false)
    (ha : a = o.apply (rdN ((s.slice i.val).way k).data (o.addr % 4096) o.len)) : exec (.homeOperationApply i line) s
      = .next (((s.landBytes i.val k (secIdx o.addr) (addrBytes (o.addr % 256) a.1) ((s.slice i.val).way k).deadpend).modSlice
          i.val (fun sl => sl.modWay k (fun l => { l with ops := rest }))).respond i.val o.vd a.2) := by
  refine congrArg ok ?_
  unfold homeOpApply
  simp [hfind, hops, hdir, Dir.none, hfill, hfull, hbefore, hdisc, ha]

/-- It waits for the requests of its sector that come before it (R209, R225, R279). -/
theorem exec_homeOperationApply_waits
    (hbefore : (s.slice i.val).reqs.any (s.beforeOps ((s.slice i.val).way k) (secIdx o.addr)) = true) :
    exec (.homeOperationApply i line) s = .next s := by
  refine congrArg ok ?_
  unfold homeOpApply
  simp [hfind, hops, hdir, Dir.none, hfill, hfull, hbefore]

end application

/-- A group sends its oldest operation that had a Nack again (R226). -/
theorem exec_homeOperationResend_sends {c : Fin 96} {g : Fin 64}
    (h : s.nacked.find? (fun o => o.src.ofGroup c.val g.val) = some o) :
    exec (.homeOperationResend c g) s = .next (({ s with nacked := s.nacked.erase o }).sendHomeOp o) := by
  refine congrArg ok ?_
  rw [h]

end operations

/-- Settles O22: arrival, application and resending by their commands, then what an add and a compare-and-swap compute. -/
theorem homeOperationsAreAppliedInOrder : Obligations.HomeOperationsAreAppliedInOrder :=
  fun s i q k line o c g => ⟨fun ho hrefuses hfind hheld hdir =>
      ⟨exec_homeOperationArrival_joins ho hrefuses hfind hheld hdir, exec_homeOperationArrival_nacks ho hrefuses hfind hheld hdir⟩,
    fun rest a hfind hops hdir hfill hfull => exec_homeOperationApply_applies hfind hops hdir hfill hfull,
    fun rest => exec_homeOperationApply_waits, exec_homeOperationResend_sends,
    fun l b old hfn hty hreduce hlanes hb hold => HomeOp.apply_add hreduce hlanes (by rw [hty]; rfl) hb hold hfn (by rw [hty]; rfl),
    fun l b old hfn hty hreduce hlanes hb hold => HomeOp.apply_cas hreduce hlanes (by rw [hty]; rfl) hb hold hfn⟩

end Sys2Proof.Machine

/-! PROOFS, 07_die_cache_coherence.md. Accesses of cores at their die cache, the merge buffer, and requests sent again. -/

namespace Sys2Proof.Machine

section accesses
variable {s : State} {d : Fin 12} {q : Nat} {a : DAccess} {b : Block} (hfirst : firstAcc (s.die d.val).acc q = some a)
include hfirst

section load
variable (hload : a.store = false)
  (hmerge : (s.die d.val).merge.find? (fun m => decide (m.vd = a.vd) && decide (m.sector = a.addr / 256)) = none)
include hload hmerge

section block
variable (hb : (s.die d.val).block a.vd (a.addr / 256) = some b)
include hb

/-- A load that finds a block hits, waits behind the Inv of the block, or waits for its grant (R246, R259, R268). -/
theorem exec_dieCacheLoad_finds : exec (.dieCacheLoad d q) s
    = .next (if b.st.loadHits = true ∧ ¬ b.bad = true then
        ((s.touch d.val a.vd (a.addr / 256)).modDie d.val (fun k => { k with acc := delNth k.acc q })).loadDone a
          ((b.data.drop (a.addr % 256)).take a.len)
      else if b.st = .isDI then s else s.modDie d.val (fun k => k.waitAcc q)) := by
  refine congrArg ok ?_
  unfold dieLoad
  simp only [hfirst, hload, hmerge, hb, Bool.false_eq_true, if_false]

theorem exec_dieCacheLoad_hits (hhit : b.st.loadHits = true) (hbad : b.bad = false) : exec (.dieCacheLoad d q) s
    = .next (((s.touch d.val a.vd (a.addr / 256)).modDie d.val (fun k => { k with acc := delNth k.acc q })).loadDone a
        ((b.data.drop (a.addr % 256)).take a.len)) := by
  rw [exec_dieCacheLoad_finds hfirst hload hmerge hb, if_pos ⟨hhit, ne_true_of_eq_false hbad⟩]

theorem exec_dieCacheLoad_waits (hmiss : b.st.loadHits = false) (hst : b.st ≠ .isDI) :
    exec (.dieCacheLoad d q) s = .next (s.modDie d.val (fun k => k.waitAcc q)) := by
  rw [exec_dieCacheLoad_finds hfirst hload hmerge hb, if_neg (fun h => ne_true_of_eq_false hmiss h.1), if_neg hst]

theorem exec_dieCacheLoad_behind_inv (hst : b.st = .isDI) : exec (.dieCacheLoad d q) s = .next s := by
  have hmiss : b.st.loadHits = false := by rw [hst]; rfl
  rw [exec_dieCacheLoad_finds hfirst hload hmerge hb, if_neg (fun h => ne_true_of_eq_false hmiss h.1), if_pos hst]

end block

/-- A load that finds no block takes a way and asks the home for the sector (R240, R249, R259). -/
theorem exec_dieCacheLoad_misses {u : State} (hb : (s.die d.val).block a.vd (a.addr / 256) = none)
    (hway : s.takeWay d.val a.vd (a.addr / 256) .isD = some u) : exec (.dieCacheLoad d q) s
      = .next ((u.modDie d.val (fun k => k.waitAcc q)).sendGet false d.val a.vd (a.addr / 256)) := by
  refine congrArg ok ?_
  unfold dieLoad
  simp only [hfirst, hload, hmerge, hb, hway, Bool.false_eq_true, if_false]

end load

section store
variable (hstore : a.store = true)
include hstore

/-- A store in a block of E or M is done there (R244). -/
theorem exec_dieCacheStore_hits (hb : (s.die d.val).block a.vd (a.addr / 256) = some b) (hst : b.st = .e ∨ b.st = .m)
    (hbad : b.bad = false) : exec (.dieCacheStore d q) s
      = .next ((s.modDie d.val (fun k => { k with acc := delNth k.acc q })).storeInBlock d.val a) := by
  refine congrArg ok ?_
  unfold dieStore
  rcases hst with hst | hst <;> simp [hfirst, hstore, hb, hst, hbad]

/-- A store in a block of S asks the home for M, where the die has a transaction free (R243, R259). -/
theorem exec_dieCacheStore_upgrades (hb : (s.die d.val).block a.vd (a.addr / 256) = some b) (hst : b.st = .s)
    (hbad : b.bad = false) (hroom : (s.die d.val).room = true) : exec (.dieCacheStore d q) s
      = .next ((s.modDie d.val (fun k => (k.modBlock a.vd (a.addr / 256) (fun b => { b with st := .smD })).waitAcc q)).sendGet
          true d.val a.vd (a.addr / 256)) := by
  refine congrArg ok ?_
  unfold dieStore
  simp [hfirst, hstore, hb, hst, hbad, hroom]

/-- A store without a block goes to the merge buffer (R244, R245). -/
theorem exec_dieCacheStore_merges (hb : (s.die d.val).block a.vd (a.addr / 256) = none) :
    exec (.dieCacheStore d q) s = .next (s.storeInMerge d.val q a) := by
  refine congrArg ok ?_
  unfold dieStore
  simp [hfirst, hstore, hb]

end store

end accesses

section merge
variable {s : State} {d : Fin 12} {q id : Nat} {m : MergeEntry}

theorem exec_mergeEntryAgeExpiry_sends (hm : (s.die d.val).merge[q]? = some m) :
    exec (.mergeEntryAgeExpiry d q) s = .next (s.sendEntry d.val m.id) := by
  refine congrArg ok ?_
  rw [hm]

/-- The notice of an entry acknowledged early ends what is owed for it (R280, R285). -/
theorem exec_writeAcknowledgement_notice (hack : (s.die d.val).ackIn[q]? = some (id, true)) : exec (.writeAcknowledgement d q) s
    = .next ((s.modDie d.val (fun k => { k with ackIn := delNth k.ackIn q })).modDie d.val (fun k => { k with
        owed := k.owed.filter (fun m => !decide (m.id = id)) })) := by
  refine congrArg ok ?_
  unfold writeAck
  simp only [hack, if_true]

/-- An acknowledged entry leaves the merge buffer, and its notice is owed where it was acknowledged early (R280). -/
theorem exec_writeAcknowledgement_entry (hack : (s.die d.val).ackIn[q]? = some (id, false))
    (hm : (s.die d.val).merge.find? (fun m => decide (m.id = id)) = some m) : exec (.writeAcknowledgement d q) s
      = .next ((s.modDie d.val (fun k => { k with ackIn := delNth k.ackIn q })).modDie d.val (fun k => { k with
          merge := k.merge.filter (fun m => !decide (m.id = id))
          owed := if m.early then k.owed ++ [m] else k.owed })) := by
  refine congrArg ok ?_
  unfold writeAck
  simp only [hack, hm, Bool.false_eq_true, if_false]

end merge

section resend
variable {s : State} {d : Fin 12} {q : Nat} {b : Block} (hb : (s.die d.val).blocks[q]? = some b)
include hb

/-- A block with a refused request for M sends it again (R251). -/
theorem exec_coherenceResend_getM (hn : b.nacked = true) (hst : b.st = .imD) : exec (.coherenceResend d q) s
    = .next ((s.modDie d.val (fun k => k.modBlock b.vd b.sector (fun b => { b with nacked := false }))).sendGet
        true d.val b.vd b.sector) := by
  refine congrArg ok ?_
  unfold dieResend
  simp only [hb, hn, hst, not_true_eq_false, if_false]

theorem exec_coherenceResend_unrefused (hn : b.nacked = false) : exec (.coherenceResend d q) s = .next s := by
  refine congrArg ok ?_
  unfold dieResend
  simp only [hb, hn, Bool.false_eq_true, not_false_eq_true, if_true]

end resend

/-- Settles O23: loads by the block they find, stores by the state of theirs, then the merge buffer and the requests sent
again. -/
theorem dieCacheAccessesComplete : Obligations.DieCacheAccessesComplete :=
  fun _s _d _q _a _b => ⟨fun hfirst => ⟨fun hload hmerge hb => ⟨exec_dieCacheLoad_hits hfirst hload hmerge hb,
        exec_dieCacheLoad_waits hfirst hload hmerge hb, exec_dieCacheLoad_behind_inv hfirst hload hmerge hb⟩,
      fun _u hload hmerge => exec_dieCacheLoad_misses hfirst hload hmerge, exec_dieCacheStore_hits hfirst,
      exec_dieCacheStore_upgrades hfirst, exec_dieCacheStore_merges hfirst⟩,
    fun _m => exec_mergeEntryAgeExpiry_sends, fun _id => exec_writeAcknowledgement_notice,
    fun _id _m => exec_writeAcknowledgement_entry, exec_coherenceResend_getM, exec_coherenceResend_unrefused⟩

end Sys2Proof.Machine

/-! PROOFS, 07_die_cache_coherence.md. The home: what it answers to each message of a die, by the directory state. -/

namespace Sys2Proof.Machine

@[simp] theorem State.takeMsg_slice {s : State} {i j : Nat} : (s.takeMsg j).slice i = s.slice i := rfl
@[simp] theorem State.takeMsg_die {s : State} {d j : Nat} : (s.takeMsg j).die d = s.die d := rfl

section get
variable {s : State} {wantM : Bool} {i d j k : Nat} {m : CohMsg}

/-- A GetS or GetM whose line is there is handled by the state of its sector (R260). -/
theorem homeGet_hears (h : s.homeHears (if wantM then .getM else .getS) i d j k m) :
    homeGet wantM i d s = s.handleGet wantM i d j k m := by
  obtain ⟨hnext, hfind⟩ := h
  unfold homeGet
  simp only [hnext, hfind]

/-- A request for a held line or for a sector in a transaction is refused (R255). -/
theorem State.handleGet_refused (h : ((s.slice i).way k).held = true ∨ (s.dirAt i k m.sector).st = .tr) :
    s.handleGet wantM i d j k m = s.nackMsg i d j m := if_pos h

section free
variable (hheld : ((s.slice i).way k).held = false) (hfill : (((s.slice i).way k).sec (m.sector % 16)).filling = false)
  (hacc : (s.slice i).acceptedIn m.sector = false)
include hheld hfill hacc

/-- A request for a sector in EM opens a transaction and is forwarded to the owner (R260). -/
theorem State.handleGet_forwarded (hdir : (s.dirAt i k m.sector).st = .em) (hroom : (s.slice i).trRoom = true) :
    s.handleGet wantM i d j k m = ((s.takeMsg j).modSlice i (fun sl => sl.addTr k
        ⟨((s.slice i).way k).line, m.sector % 16, if wantM then .emmA else .emsD, some d,
          some ((vecDies (s.dirAt i k m.sector).vec).headD 0), 0, false, false, false, []⟩)).sendMsg
      (.new (if wantM then .fwdGetM else .fwdGetS) (.home i) (.die ((vecDies (s.dirAt i k m.sector).vec).headD 0)) m.vd m.sector
        (some d) []) := by
  unfold State.dirAt at hdir ⊢
  unfold State.handleGet
  simp [hheld, hfill, hacc, hdir, hroom]

section whole
variable (hfull : ((s.slice i).way k).full (m.sector % 16) = true)
include hfull

/-- GetS finds a whole sector that no die holds: E is granted (R256, R260). -/
theorem State.handleGet_getS_i (hdir : (s.dirAt i k m.sector).st = .i) :
    s.handleGet false i d j k m = (s.takeMsg j).grant .dataE i k d m (2 ^ d) .em := by
  unfold State.dirAt at hdir
  unfold State.handleGet
  simp [hheld, hfill, hacc, hdir, hfull]

/-- GetS finds a whole sector that dies share: the sender joins them (R260). -/
theorem State.handleGet_getS_s (hdir : (s.dirAt i k m.sector).st = .s) :
    s.handleGet false i d j k m = (s.takeMsg j).grant .data i k d m ((s.dirAt i k m.sector).vec ||| 2 ^ d) .s := by
  unfold State.dirAt at hdir ⊢
  unfold State.handleGet
  simp [hheld, hfill, hacc, hdir, hfull]

/-- GetM finds a whole sector that no other die holds: M is granted (R256, R260). -/
theorem State.handleGet_getM_alone (hdir : (s.dirAt i k m.sector).st = .i ∨ (s.dirAt i k m.sector).st = .s)
    (hothers : setBits (s.dirAt i k m.sector).vec d 1 0 = 0) :
    s.handleGet true i d j k m = (s.takeMsg j).grant .dataM i k d m (2 ^ d) .em := by
  unfold State.dirAt at hdir hothers
  unfold State.handleGet
  rcases hdir with hdir | hdir <;> simp [hheld, hfill, hacc, hdir, hfull, hothers]

/-- GetM finds a whole sector that other dies share: a transaction opens and each of them has an Inv (R260). -/
theorem State.handleGet_getM_shared {o : Nat} (hdir : (s.dirAt i k m.sector).st = .s)
    (hothers : setBits (s.dirAt i k m.sector).vec d 1 0 = o) (ho : o ≠ 0) (hroom : (s.slice i).trRoom = true) :
    s.handleGet true i d j k m = ((s.takeMsg j).modSlice i (fun sl => (sl.addTr k
        ⟨((s.slice i).way k).line, m.sector % 16, .smA, some d, none, popcount 12 o, false, false, false, []⟩).modWay k
          (fun l => l.setDir (m.sector % 16) ⟨.tr, o⟩))).sendAll .inv i o m.vd m.sector := by
  unfold State.dirAt at hdir hothers
  unfold State.handleGet
  simp [hheld, hfill, hacc, hdir, hfull, hothers, ho, hroom]

end whole

end free

end get

section answers
variable {s : State} {i : Fin 512} {d : Fin 12} {j k : Nat} {m : CohMsg}

theorem homeMsg_hears {kind : CohKind} {i d : Nat} {f : Nat → Nat → CohMsg → State → State} (h : s.homeHears kind i d j k m) :
    homeMsg kind i d s f = f j k m s := by
  obtain ⟨hnext, hfind⟩ := h
  unfold homeMsg
  simp only [hnext, hfind]

theorem exec_gets_hears (h : s.homeHears .getS i.val d.val j k m) :
    exec (.gets i d) s = .next (s.handleGet false i.val d.val j k m) := congrArg ok (homeGet_hears h)

theorem exec_getm_hears (h : s.homeHears .getM i.val d.val j k m) :
    exec (.getm i d) s = .next (s.handleGet true i.val d.val j k m) := congrArg ok (homeGet_hears h)

/-- PutS in a transaction is answered, and its sender is still awaited (R260). -/
theorem exec_puts_in_transaction (h : s.homeHears .putS i.val d.val j k m) (hdir : (s.dirAt i.val k m.sector).st = .tr) :
    exec (.puts i d) s = .next (s.putAck i.val d.val j m) := by
  unfold State.dirAt at hdir
  refine congrArg ok ((homeMsg_hears h).trans ?_)
  simp [hdir]

/-- PutE of the owner gives its copy up (R260). -/
theorem exec_pute_of_owner (h : s.homeHears .putE i.val d.val j k m) (hdir : (s.dirAt i.val k m.sector).st = .em) :
    exec (.pute i d) s = .next (((s.putAck i.val d.val j m).modSlice i.val (fun sl => sl.modWay k
      (fun l => l.setDir (m.sector % 16) Dir.none))).settleSlice i.val) := by
  unfold State.dirAt at hdir
  refine congrArg ok ((homeMsg_hears h).trans ?_)
  simp only [hdir]

/-- PutM of the owner writes its data and gives its copy up (R256, R260, R282). -/
theorem exec_putm_of_owner (h : s.homeHears .putM i.val d.val j k m) (hdir : (s.dirAt i.val k m.sector).st = .em) :
    exec (.putm i d) s = .next (((((s.putAck i.val d.val j m).writeCarried i.val k m).settleMoved m.vd m.sector).modSlice i.val
      (fun sl => sl.modWay k (fun l => l.setDir (m.sector % 16) Dir.none))).settleSlice i.val) := by
  unfold State.dirAt at hdir
  refine congrArg ok ((homeMsg_hears h).trans ?_)
  simp only [hdir]

theorem exec_invack_counts (h : s.homeHears .invAck i.val d.val j k m) :
    exec (.invack i d) s = .next ((s.takeMsg j).ackTr i.val k m) := congrArg ok (homeMsg_hears h)

/-- DataM of an open transaction is written unless it is to be discarded, then counts as an InvAck (R260). -/
theorem exec_datam_toHome {t : Trans} (h : s.homeHears .dataM i.val d.val j k m)
    (ht : (s.slice i.val).tr ((s.slice i.val).way k).line (m.sector % 16) = some t) : exec (.datam true i d) s
      = .next (((if t.discard then s.takeMsg j else (s.takeMsg j).writeCarried i.val k m).settleMoved m.vd m.sector).ackTr
          i.val k m) := by
  refine congrArg ok ((if_pos rfl).trans ((homeMsg_hears h).trans ?_))
  simp only [State.takeMsg_slice, ht]

end answers

end Sys2Proof.Machine

/-! PROOFS, 07_die_cache_coherence.md. The die: what it does with each message of a home, by the state of its block; then the
statement about homes and dies. -/

namespace Sys2Proof.Machine

section forwards
variable {s : State} {d n sec c : Nat} {b : Block} {df : Deferred} (hb : (s.die d).block n sec = some b)
include hb

/-- An Inv of a clean block is acknowledged, and the block goes to I (R259). -/
theorem State.dieInv_clean (hst : b.st = .s ∨ b.st = .e) : s.dieInv d n sec .inv
    = (s.toHome .invAck d n sec []).modDie d (fun k => k.dropBlock n sec) := by
  unfold State.dieInv
  rcases hst with hst | hst <;> simp only [hb, hst]

/-- An owner in M acts at once on whatever asks for its block (R259). -/
theorem State.dieInv_owner (hst : b.st = .m) : s.dieInv d n sec df = (s.ownerActs d n sec df).pumpLeave d := by
  unfold State.dieInv
  cases df <;> simp only [hb, hst]

/-- On an Inv the owner returns its data and goes to I (R259). -/
theorem State.ownerActs_inv : s.ownerActs d n sec .inv = (((s.modDie d (fun k => k.noteMoved n sec)).toHome .dataM d n sec
    b.data).modDie d (fun k => k.dropBlock n sec)) := by
  unfold State.ownerActs
  simp [hb]

/-- On FwdGetS the owner sends its data to the requester and to the home, and stays in S (R259). -/
theorem State.ownerActs_fwdS : s.ownerActs d n sec (.fwdS (some c)) = (((s.modDie d (fun k => k.noteMoved n sec)).sendMsg
    (.new .data (.die d) (.die c) n sec none b.data)).toHome .dataM d n sec b.data).modDie d (fun k =>
      (k.offLists n sec).modBlock n sec (fun b => { b with st := .s, deferred := .none })) := by
  unfold State.ownerActs State.toAsker
  simp [hb]

/-- On FwdGetM the owner sends its data to the requester, acknowledges to the home and goes to I (R259). -/
theorem State.ownerActs_fwdM : s.ownerActs d n sec (.fwdM (some c)) = (((s.modDie d (fun k => k.noteMoved n sec)).sendMsg
    (.new .dataM (.die d) (.die c) n sec none b.data)).toHome .invAck d n sec []).modDie d (fun k => k.dropBlock n sec) := by
  unfold State.ownerActs State.toAsker
  simp [hb]

end forwards

/-- What an Inv or a forward, taken as one of a kind, asks of the holder of a block (R259). -/
def CohMsg.asks (m : CohMsg) : CohKind → Deferred
  | .inv => .inv
  | .fwdGetS => .fwdS m.r
  | _ => .fwdM m.r

section dies
variable {s : State} {i : Fin 512} {d : Fin 12} {j c : Nat} {m : CohMsg} {b : Block}

theorem State.block_of_dieHears {kind : CohKind} {i d : Nat} (h : s.dieHears kind i d j m b) :
    ((s.takeMsg j).die d).block m.vd m.sector = some b := h.2

theorem dieForward_hears {kind : CohKind} {i d : Nat} (h : s.dieHears kind i d j m b) :
    dieForward kind i d s = (s.takeMsg j).dieInv d m.vd m.sector (m.asks kind) := by
  obtain ⟨hnext, -⟩ := h
  unfold dieForward
  simp only [hnext]
  cases kind <;> rfl

theorem exec_inv_hears (h : s.dieHears .inv i.val d.val j m b) :
    exec (.inv i d) s = .next ((s.takeMsg j).dieInv d.val m.vd m.sector .inv) := congrArg ok (dieForward_hears h)

theorem exec_fwdgets_hears (h : s.dieHears .fwdGetS i.val d.val j m b) :
    exec (.fwdgets i d) s = .next ((s.takeMsg j).dieInv d.val m.vd m.sector (.fwdS m.r)) := congrArg ok (dieForward_hears h)

theorem exec_fwdgetm_hears (h : s.dieHears .fwdGetM i.val d.val j m b) :
    exec (.fwdgetm i d) s = .next ((s.takeMsg j).dieInv d.val m.vd m.sector (.fwdM m.r)) := congrArg ok (dieForward_hears h)

theorem exec_inv_clean (h : s.dieHears .inv i.val d.val j m b) (hst : b.st = .s ∨ b.st = .e) : exec (.inv i d) s
    = .next (((s.takeMsg j).toHome .invAck d.val m.vd m.sector []).modDie d.val (fun k => k.dropBlock m.vd m.sector)) := by
  rw [exec_inv_hears h, State.dieInv_clean (State.block_of_dieHears h) hst]

theorem exec_inv_owner (h : s.dieHears .inv i.val d.val j m b) (hst : b.st = .m) : exec (.inv i d) s
    = .next (((((s.takeMsg j).modDie d.val (fun k => k.noteMoved m.vd m.sector)).toHome .dataM d.val m.vd m.sector
        b.data).modDie d.val (fun k => k.dropBlock m.vd m.sector)).pumpLeave d.val) := by
  have hb := State.block_of_dieHears h
  rw [exec_inv_hears h, State.dieInv_owner hb hst, State.ownerActs_inv hb]

theorem exec_fwdgets_owner (h : s.dieHears .fwdGetS i.val d.val j m b) (hst : b.st = .m) (hr : m.r = some c) :
    exec (.fwdgets i d) s = .next ((((((s.takeMsg j).modDie d.val (fun k => k.noteMoved m.vd m.sector)).sendMsg
      (.new .data (.die d.val) (.die c) m.vd m.sector none b.data)).toHome .dataM d.val m.vd m.sector b.data).modDie d.val
        (fun k => (k.offLists m.vd m.sector).modBlock m.vd m.sector (fun b => { b with st := .s, deferred := .none }))).pumpLeave
          d.val) := by
  have hb := State.block_of_dieHears h
  rw [exec_fwdgets_hears h, State.dieInv_owner hb hst, hr, State.ownerActs_fwdS hb]

theorem exec_fwdgetm_owner (h : s.dieHears .fwdGetM i.val d.val j m b) (hst : b.st = .m) (hr : m.r = some c) :
    exec (.fwdgetm i d) s = .next ((((((s.takeMsg j).modDie d.val (fun k => k.noteMoved m.vd m.sector)).sendMsg
      (.new .dataM (.die d.val) (.die c) m.vd m.sector none b.data)).toHome .invAck d.val m.vd m.sector []).modDie d.val
        (fun k => k.dropBlock m.vd m.sector)).pumpLeave d.val) := by
  have hb := State.block_of_dieHears h
  rw [exec_fwdgetm_hears h, State.dieInv_owner hb hst, hr, State.ownerActs_fwdM hb]

/-- A grant of E serves the loads that wait for it (R259). -/
theorem exec_datae_grants (h : s.dieHears .dataE i.val d.val j m b) (hst : b.st = .isD) : exec (.datae i d) s
    = .next (((((s.takeMsg j).modDie d.val (fun k => k.modBlock m.vd m.sector (fun b => { b with
        st := .e, data := m.data, nacked := false }))).touch d.val m.vd m.sector).serveLoads d.val m.vd m.sector).pumpLeave
          d.val) := by
  obtain ⟨hnext, hb⟩ := h
  refine congrArg ok ?_
  unfold dieDataE
  simp only [hnext, State.takeMsg_die, hb, hst, if_true]

/-- A PutAck ends the block that was put (R259). -/
theorem exec_putack_drops (h : s.dieHears .putAck i.val d.val j m b) : exec (.putack i d) s
    = .next (((s.takeMsg j).modDie d.val (fun k => k.dropBlock m.vd m.sector)).pumpLeave d.val) := by
  obtain ⟨hnext, -⟩ := h
  refine congrArg ok ?_
  unfold diePutAck
  simp only [hnext]

/-- A Nack is counted, and its block will send its request again (R251, R267). -/
theorem exec_nack_marks (h : s.dieHears .nack i.val d.val j m b) : exec (.nack i d) s
    = .next (((s.takeMsg j).bump (Reg.cohereDieNacks d.val)).modDie d.val (fun k =>
        k.modBlock m.vd m.sector (fun b => { b with nacked := true }))) := by
  obtain ⟨hnext, -⟩ := h
  refine congrArg ok ?_
  unfold dieNack
  simp only [hnext]

/-- A grant of S serves the loads that wait for it (R259). -/
theorem exec_data_grants (hnext : nextMsg s.msgs (fun m => decide (m.kind = .data) && decide (m.dst = .die d.val)) = some (j, m))
    (hb : (s.die d.val).block m.vd m.sector = some b) (hst : b.st = .isD) : exec (.data d) s
      = .next ((((((s.takeMsg j).modDie d.val (fun k => k.modBlock m.vd m.sector (fun b => { b with
          data := m.data, nacked := false }))).touch d.val m.vd m.sector).modDie d.val (fun k =>
            k.modBlock m.vd m.sector (fun b => { b with st := .s }))).serveLoads d.val m.vd m.sector).pumpLeave d.val) := by
  refine congrArg ok ?_
  unfold dieData
  simp only [hnext, State.takeMsg_die, hb, hst]

theorem exec_datam_toDie
    (hnext : nextMsg s.msgs (fun m => decide (m.kind = .dataM) && decide (m.dst = .die d.val)) = some (j, m)) :
    exec (.datam false i d) s = .next ((s.takeMsg j).grantM d.val m.vd m.sector m.data) := by
  refine congrArg ok ?_
  unfold dieDataM
  simp only [hnext, Bool.false_eq_true, if_false]

end dies

/-- Settles O24: the home message by message, by the state of the directory; then the die, by the state of its block. -/
theorem coherenceMessagesAreAnswered : Obligations.CoherenceMessagesAreAnswered := by
  refine ⟨fun s i d j k m => ⟨fun h => ?_, fun h hheld hfill hacc hfull hdir hothers => ?_,
      fun o h hheld hfill hacc hdir ho hroom => ?_, fun o h hheld hfill hacc hfull hdir hothers ho hroom => ?_,
      exec_puts_in_transaction, exec_pute_of_owner, exec_putm_of_owner, exec_invack_counts, fun t => exec_datam_toHome⟩,
    fun s i d j m b => ⟨exec_inv_clean, exec_inv_owner, fun c => exec_fwdgets_owner, fun c => exec_fwdgetm_owner,
      exec_datae_grants, exec_putack_drops, exec_nack_marks, exec_data_grants, exec_datam_toDie⟩⟩
  · rw [exec_gets_hears h]
    refine ⟨fun hr => ?_, fun hheld hfill hacc hfull => ⟨fun hdir => ?_, fun hdir => ?_⟩⟩
    · rw [State.handleGet_refused hr]
    · rw [State.handleGet_getS_i hheld hfill hacc hfull hdir]
    · rw [State.handleGet_getS_s hheld hfill hacc hfull hdir]
  · rw [exec_getm_hears h, State.handleGet_getM_alone hheld hfill hacc hfull hdir hothers]
  · rw [exec_getm_hears h, State.handleGet_forwarded hheld hfill hacc hdir hroom, ho]
    rfl
  · rw [exec_getm_hears h, State.handleGet_getM_shared hheld hfill hacc hfull hdir hothers ho hroom]

end Sys2Proof.Machine

/-! PROOFS, 09_lpddr_memory.md. Channel writes and the zero fill of an extent: which bytes of memory they change. -/

namespace Sys2Proof.Machine

section memory
variable {s : State} {c key mask : Nat}

theorem State.record_mem {r : ErrRec} : (s.record r).mem = s.mem := by
  unfold State.record
  dsimp only
  split <;> rfl

/-- What is done about a correctable unit leaves memory alone (R315). -/
theorem State.correct_mem {units : List Nat} : (s.correct c units).mem = s.mem := by
  unfold State.correct
  exact foldl_keeps_proj State.mem (fun t _ => State.record_mem (s := t.bump (Reg.memctlChCe c))) _ _

theorem State.refreshFirst_mem : (s.refreshFirst c).mem = s.mem := by
  unfold State.refreshFirst
  split <;> rfl

theorem State.served_mem {write : Bool} {l : Nat × Nat} : (s.served c write l).mem = s.mem := by
  unfold State.served
  dsimp only
  split <;> rfl

theorem State.memWrite_mem {data : List Byte} (h : (s.chan c).mergeFails key mask = false) :
    (s.memWrite c key mask data).mem = wrMask s.mem key mask data 0 := by
  unfold State.memWrite
  rw [h]
  rfl

theorem Channel.mergeFails_rest : Channel.rest.mergeFails key mask = false := by
  unfold Channel.mergeFails
  exact List.any_eq_false.mpr fun _ _ => Bool.false_ne_true

/-- A change of a channel that keeps what its check words tell brings no failure of a merge read with it. -/
theorem State.mergeFails_of_modChan {f : Channel → Channel} (hf : (f (s.chan c)).faults = (s.chan c).faults)
    (h : ((s.modChan c f).chan c).mergeFails key mask = false) : (s.chan c).mergeFails key mask = false := by
  have hsame : (f (s.chan c)).mergeFails key mask = (s.chan c).mergeFails key mask := by
    unfold Channel.mergeFails Channel.fault
    rw [hf]
  rw [← hsame]
  by_cases hr : f (s.chan c) = Channel.rest
  · rw [hr, Channel.mergeFails_rest]
  · rwa [State.chan_modChan hr] at h

/-- A zero fill clears the bytes that its extent covers and no other (R324). -/
theorem State.rd_mem_zeroExtent (s : State) (e a : Nat) :
    rd (s.zeroExtent e).mem a = if (s.extent e).covers a = true then 0 else rd s.mem a := by
  by_cases hcov : (s.extent e).covers a = true
  · rw [State.rd_zeroExtent hcov, if_pos hcov]
  · have hfilter := SMap.get_filter_key byte0 s.mem (fun k => !(s.extent e).covers k) a
    rw [if_neg hcov]
    exact hfilter.trans (if_pos (by simp [hcov]))

end memory

/-- Settles O31: the write in its turn stores under its mask, and the zero fill reads as the extent tells. -/
theorem channelWritesChangeTheirBytesAlone : Obligations.ChannelWritesChangeTheirBytesAlone := by
  refine fun s u ch i w hc => ⟨?_, s.rd_mem_zeroExtent⟩
  rintro hr hs hw hf hh ht rfl hmerge
  have hok := State.mergeFails_of_modChan rfl hmerge
  have hexec := exec_channelWrite_serves hr hs hw hf hh ht rfl
  rw [hok, if_neg Bool.false_ne_true] at hexec
  have hmem : ((s.refreshFirst ch.val).correct ch.val (mergeUnits w.key w.mask)).mem = s.mem :=
    State.correct_mem.trans State.refreshFirst_mem
  refine ⟨hmem, _, hexec, fun a => ?_, exec_canonical hc hexec⟩
  rw [State.served_mem, State.memWrite_mem hmerge, State.modChan_mem, hmem, rd_wrMask _ _ _ _ _ _ (State.canonical_mem hc)]
  rfl

end Sys2Proof.Machine

/-! PROOFS, 09_lpddr_memory.md. The traffic generator: GO, STOP and the end of a run, and the registers that they leave. -/

namespace Sys2Proof.Machine

section bits
variable {s : State} {k j i b lo len : Nat} {v : Bool}

theorem State.canonical_setRegBit (hc : s.canonical = true) : (s.setRegBit k i v).canonical = true :=
  State.canonical_setRegFld hc

/-- A bit of another register. -/
theorem State.regBit_setRegBit_ne (h : k ≠ j) : (s.setRegBit j i v).regBit k b = s.regBit k b := by
  unfold State.regBit
  rw [State.reg_setRegBit_ne h]

/-- Another bit of the register. -/
theorem State.regBit_setRegBit_of_ne (hc : s.canonical = true) (hi : i < 32) (h : b ≠ i) :
    (s.setRegBit k i v).regBit k b = s.regBit k b :=
  congrArg (· == 1) (State.regFld_setRegFld_of_disjoint hc (by omega) (by omega))

/-- A counter field after a count. -/
theorem State.regFld_bumpFld {n : Nat} (hc : s.canonical = true) (h : lo + len ≤ 32) :
    (s.bumpFld k lo len n).regFld k lo len = satAdd (2 ^ len - 1) (s.regFld k lo len) n := by
  have hlt : satAdd (2 ^ len - 1) (s.regFld k lo len) n < 2 ^ len :=
    (Nat.min_le_left _ _).trans_lt (Nat.sub_one_lt (Nat.two_pow_pos len).ne')
  exact (State.regFld_setRegFld hc h).trans (Nat.mod_eq_of_lt hlt)

theorem State.canonical_bumpFld {n : Nat} (hc : s.canonical = true) : (s.bumpFld k lo len n).canonical = true :=
  State.canonical_setRegFld hc

theorem State.canonical_modChan {c : Nat} {f : Channel → Channel} (hc : s.canonical = true) :
    (s.modChan c f).canonical = true := hc

/-- A register file put beside a change of a channel can be put before it. -/
theorem State.modChan_with_regs {c : Nat} {f : Channel → Channel} {r : SMap W32} :
    { s.modChan c f with regs := r } = State.modChan { s with regs := r } c f := rfl

theorem State.reg_with_freeCtr {n : Nat} : State.reg { s with freeCtr := n } k = s.reg k := rfl

end bits

section start
variable {s : State} {ch : Nat}

theorem Reg.memctlChTgStatus_ne_ctrl : Reg.memctlChTgStatus ch ≠ Reg.memctlChTgCtrl ch := by
  simp [Reg.memctlChTgStatus, Reg.memctlChTgCtrl]

/-- The control registers of a generator when a run begins: neither DONE nor REFUSED nor a failed training, RUNNING and GO set
(R317). -/
def State.tgRunning (s : State) (ch : Nat) : State :=
  ((((s.setRegBit (Reg.memctlChTgStatus ch) 31 false).setRegBit (Reg.memctlChTgStatus ch) 30 false).setRegBit
    (Reg.memctlChTgStatus ch) 28 false).setRegBit (Reg.memctlChTgStatus ch) 29 true).setRegBit (Reg.memctlChTgCtrl ch) 31 true

/-- The state in which a run begins: no error is captured (R317). -/
def State.tgBegun (s : State) (ch : Nat) : State :=
  ((s.setReg (Reg.memctlChTgErrAddr ch) 0).setReg (Reg.memctlChTgErrBits ch) 0).tgRunning ch

theorem State.tgStart_running (h : s.regBit (Reg.memctlChTgStatus ch) 29 = true) : s.tgStart ch = s := if_pos h

section idle
variable (h : s.regBit (Reg.memctlChTgStatus ch) 29 = false)
include h

theorem State.tgStart_refused (hr : s.tgRefused ch = true) :
    s.tgStart ch = (s.setRegBit (Reg.memctlChTgStatus ch) 30 true).setRegBit (Reg.memctlChTgCtrl ch) 31 false :=
  (if_neg (ne_true_of_eq_false h)).trans (if_pos hr)

theorem State.tgStart_starts (hr : s.tgRefused ch = false) :
    s.tgStart ch = State.modChan { s.tgBegun ch with freeCtr := s.freeCtr + 2 } ch (fun c => { c with
      tg := some (s.tgRunOf ch s.freeCtr) }) :=
  (if_neg (ne_true_of_eq_false h)).trans (if_neg (ne_true_of_eq_false hr))

theorem State.tgStop_idle : s.tgStop ch = s := if_pos (ne_true_of_eq_false h)

end idle

theorem State.tgRunning_fields : s.tgRunning ch = { s with regs := (s.tgRunning ch).regs } := by
  unfold State.tgRunning
  exact State.regs_fields_trans (State.regs_fields_trans (State.regs_fields_trans (State.regs_fields_trans
    State.setRegBit_fields State.setRegBit_fields) State.setRegBit_fields) State.setRegBit_fields) State.setRegBit_fields

/-- The begin of a run changes registers alone. -/
theorem State.tgBegun_fields : s.tgBegun ch = { s with regs := (s.tgBegun ch).regs } :=
  State.regs_fields_trans (t := (s.setReg (Reg.memctlChTgErrAddr ch) 0).setReg (Reg.memctlChTgErrBits ch) 0) rfl
    State.tgRunning_fields

section accepted
variable (h : s.regBit (Reg.memctlChTgStatus ch) 29 = false) (hr : s.tgRefused ch = false)
include h hr

theorem State.reg_tgStart {k : Nat} : (s.tgStart ch).reg k = (s.tgBegun ch).reg k := by
  rw [State.tgStart_starts h hr, State.reg_modChan]
  exact State.reg_with_freeCtr

theorem State.regBit_tgStart {k i : Nat} : (s.tgStart ch).regBit k i = (s.tgBegun ch).regBit k i := by
  unfold State.regBit
  rw [State.reg_tgStart h hr]

/-- GO changes registers, draws the free values of the run, and gives the run to its channel (R317). -/
theorem State.tgStart_fields : s.tgStart ch = State.modChan { s with regs := (s.tgStart ch).regs, freeCtr := s.freeCtr + 2 } ch
    (fun c => { c with tg := some (s.tgRunOf ch s.freeCtr) }) := by
  rw [State.tgStart_starts h hr, State.modChan_regs, State.tgBegun_fields]

end accepted

/-- The control bits stand in registers of their own. -/
theorem State.reg_tgRunning_ne {k : Nat} (hst : k ≠ Reg.memctlChTgStatus ch) (hctrl : k ≠ Reg.memctlChTgCtrl ch) :
    (s.tgRunning ch).reg k = s.reg k := by
  unfold State.tgRunning
  rw [State.reg_setRegBit_ne hctrl, State.reg_setRegBit_ne hst, State.reg_setRegBit_ne hst, State.reg_setRegBit_ne hst,
    State.reg_setRegBit_ne hst]

section canonical
variable (hc : s.canonical = true)
include hc

theorem State.regBit_tgRunning_running : (s.tgRunning ch).regBit (Reg.memctlChTgStatus ch) 29 = true := by
  unfold State.tgRunning
  rw [State.regBit_setRegBit_ne Reg.memctlChTgStatus_ne_ctrl]
  exact State.regBit_setRegBit (State.canonical_setRegBit (State.canonical_setRegBit (State.canonical_setRegBit hc))) (by decide)

theorem State.regBit_tgRunning_done : (s.tgRunning ch).regBit (Reg.memctlChTgStatus ch) 31 = false := by
  have h31 := State.canonical_setRegBit (k := Reg.memctlChTgStatus ch) (i := 31) (v := false) hc
  have h30 := State.canonical_setRegBit (k := Reg.memctlChTgStatus ch) (i := 30) (v := false) h31
  unfold State.tgRunning
  rw [State.regBit_setRegBit_ne Reg.memctlChTgStatus_ne_ctrl,
    State.regBit_setRegBit_of_ne (State.canonical_setRegBit h30) (by decide) (by decide),
    State.regBit_setRegBit_of_ne h30 (by decide) (by decide), State.regBit_setRegBit_of_ne h31 (by decide) (by decide)]
  exact State.regBit_setRegBit hc (by decide)

theorem State.regBit_tgRunning_go : (s.tgRunning ch).regBit (Reg.memctlChTgCtrl ch) 31 = true :=
  State.regBit_setRegBit (State.canonical_setRegBit (State.canonical_setRegBit (State.canonical_setRegBit
    (State.canonical_setRegBit hc)))) (by decide)

theorem State.reg_tgBegun_errAddr : (s.tgBegun ch).reg (Reg.memctlChTgErrAddr ch) = 0 := by
  unfold State.tgBegun
  rw [State.reg_tgRunning_ne (by simp [Reg.memctlChTgErrAddr, Reg.memctlChTgStatus])
      (by simp [Reg.memctlChTgErrAddr, Reg.memctlChTgCtrl]),
    State.reg_setReg_ne (by simp [Reg.memctlChTgErrAddr, Reg.memctlChTgErrBits]), State.reg_setReg hc, if_pos rfl]

theorem State.reg_tgBegun_errBits : (s.tgBegun ch).reg (Reg.memctlChTgErrBits ch) = 0 := by
  unfold State.tgBegun
  rw [State.reg_tgRunning_ne (by simp [Reg.memctlChTgErrBits, Reg.memctlChTgStatus])
      (by simp [Reg.memctlChTgErrBits, Reg.memctlChTgCtrl]),
    State.reg_setReg (State.canonical_setReg hc), if_pos rfl]

end canonical

end start

section ends
variable {s : State} {ch : Nat} {bad : List (Nat × Nat)} {fail : Bool}

/-- The state in which the first mismatch of a run is captured, unless one is already (R317). -/
def State.tgCaptured (s : State) (ch : Nat) (bad : List (Nat × Nat)) : State :=
  match bad with
  | [] => s
  | b :: _ => if s.regBit (Reg.memctlChTgErrAddr ch) 31 then s
    else s.setReg (Reg.memctlChTgErrAddr ch) (BitVec.ofNat 32 (2 ^ 31 + b.1 % 2 ^ 27))

/-- The state in which the mismatches of a run are counted, the first of them captured, and the pins of all of them (R317). -/
def State.tgFound (s : State) (ch : Nat) (bad : List (Nat × Nat)) : State :=
  let t := (s.bumpFld (Reg.memctlChTgErrors ch) 0 32 bad.length).tgCaptured ch bad
  t.setRegFld (Reg.memctlChTgErrBits ch) 0 16
    (bad.foldl (fun m b => m ||| b.2 % 65536) (t.regFld (Reg.memctlChTgErrBits ch) 0 16))

/-- The state in which a generator's run is over: DONE, no longer RUNNING, GO clear (R317). -/
def State.tgDone (s : State) (ch : Nat) (fail : Bool) : State :=
  (((s.setRegBit (Reg.memctlChTgStatus ch) 28 fail).setRegBit (Reg.memctlChTgStatus ch) 29 false).setRegBit
    (Reg.memctlChTgStatus ch) 31 true).setRegBit (Reg.memctlChTgCtrl ch) 31 false

theorem State.tgEnd_eq : s.tgEnd ch bad fail = (s.tgFound ch bad).tgDone ch fail := by
  cases bad <;> rfl

theorem State.tgCaptured_fields : s.tgCaptured ch bad = { s with regs := (s.tgCaptured ch bad).regs } := by
  unfold State.tgCaptured
  split
  · rfl
  · split <;> rfl

theorem State.canonical_tgCaptured (hc : s.canonical = true) : (s.tgCaptured ch bad).canonical = true := by
  unfold State.tgCaptured
  split
  · exact hc
  · split
    · exact hc
    · exact State.canonical_setReg hc

theorem State.reg_tgCaptured_ne {k : Nat} (h : k ≠ Reg.memctlChTgErrAddr ch) : (s.tgCaptured ch bad).reg k = s.reg k := by
  unfold State.tgCaptured
  split
  · rfl
  · split
    · rfl
    · exact State.reg_setReg_ne h

theorem State.canonical_tgFound (hc : s.canonical = true) : (s.tgFound ch bad).canonical = true :=
  State.canonical_setRegFld (State.canonical_tgCaptured (State.canonical_bumpFld hc))

theorem State.tgDone_fields : s.tgDone ch fail = { s with regs := (s.tgDone ch fail).regs } := by
  unfold State.tgDone
  exact State.regs_fields_trans (State.regs_fields_trans (State.regs_fields_trans State.setRegBit_fields
    State.setRegBit_fields) State.setRegBit_fields) State.setRegBit_fields

/-- The end of a run changes registers alone. -/
theorem State.tgEnd_fields : s.tgEnd ch bad fail = { s with regs := (s.tgEnd ch bad fail).regs } := by
  have hcap := State.regs_fields_trans (t := s.bumpFld (Reg.memctlChTgErrors ch) 0 32 bad.length) State.setRegFld_fields
    (State.tgCaptured_fields (ch := ch) (bad := bad))
  rw [State.tgEnd_eq]
  exact State.regs_fields_trans (t := s.tgFound ch bad) (State.regs_fields_trans hcap State.setRegFld_fields)
    State.tgDone_fields

section canonical
variable (hc : s.canonical = true)
include hc

theorem State.regBit_tgEnd_done : (s.tgEnd ch bad fail).regBit (Reg.memctlChTgStatus ch) 31 = true := by
  rw [State.tgEnd_eq, State.tgDone, State.regBit_setRegBit_ne Reg.memctlChTgStatus_ne_ctrl]
  exact State.regBit_setRegBit (State.canonical_setRegBit (State.canonical_setRegBit (State.canonical_tgFound hc))) (by decide)

theorem State.regBit_tgEnd_running : (s.tgEnd ch bad fail).regBit (Reg.memctlChTgStatus ch) 29 = false := by
  have h28 := State.canonical_setRegBit (k := Reg.memctlChTgStatus ch) (i := 28) (v := fail)
    (State.canonical_tgFound (ch := ch) (bad := bad) hc)
  rw [State.tgEnd_eq, State.tgDone, State.regBit_setRegBit_ne Reg.memctlChTgStatus_ne_ctrl,
    State.regBit_setRegBit_of_ne (State.canonical_setRegBit h28) (by decide) (by decide)]
  exact State.regBit_setRegBit h28 (by decide)

theorem State.regBit_tgEnd_trainFail : (s.tgEnd ch bad fail).regBit (Reg.memctlChTgStatus ch) 28 = fail := by
  have hf := State.canonical_tgFound (ch := ch) (bad := bad) hc
  have h28 := State.canonical_setRegBit (k := Reg.memctlChTgStatus ch) (i := 28) (v := fail) hf
  rw [State.tgEnd_eq, State.tgDone, State.regBit_setRegBit_ne Reg.memctlChTgStatus_ne_ctrl,
    State.regBit_setRegBit_of_ne (State.canonical_setRegBit h28) (by decide) (by decide),
    State.regBit_setRegBit_of_ne h28 (by decide) (by decide)]
  exact State.regBit_setRegBit hf (by decide)

theorem State.regBit_tgEnd_go : (s.tgEnd ch bad fail).regBit (Reg.memctlChTgCtrl ch) 31 = false := by
  rw [State.tgEnd_eq]
  exact State.regBit_setRegBit (State.canonical_setRegBit (State.canonical_setRegBit (State.canonical_setRegBit
    (State.canonical_tgFound hc)))) (by decide)

/-- The end of a run adds its mismatches to the count (R317). -/
theorem State.regFld_tgEnd_errors : (s.tgEnd ch bad fail).regFld (Reg.memctlChTgErrors ch) 0 32
    = satAdd (2 ^ 32 - 1) (s.regFld (Reg.memctlChTgErrors ch) 0 32) bad.length := by
  have hst : Reg.memctlChTgErrors ch ≠ Reg.memctlChTgStatus ch := by simp [Reg.memctlChTgErrors, Reg.memctlChTgStatus]
  have hctrl : Reg.memctlChTgErrors ch ≠ Reg.memctlChTgCtrl ch := by simp [Reg.memctlChTgErrors, Reg.memctlChTgCtrl]
  have hbits : Reg.memctlChTgErrors ch ≠ Reg.memctlChTgErrBits ch := by simp [Reg.memctlChTgErrors, Reg.memctlChTgErrBits]
  have haddr : Reg.memctlChTgErrors ch ≠ Reg.memctlChTgErrAddr ch := by simp [Reg.memctlChTgErrors, Reg.memctlChTgErrAddr]
  have hreg : (s.tgEnd ch bad fail).reg (Reg.memctlChTgErrors ch)
      = (s.bumpFld (Reg.memctlChTgErrors ch) 0 32 bad.length).reg (Reg.memctlChTgErrors ch) := by
    rw [State.tgEnd_eq, State.tgDone, State.reg_setRegBit_ne hctrl, State.reg_setRegBit_ne hst, State.reg_setRegBit_ne hst,
      State.reg_setRegBit_ne hst, State.tgFound, State.reg_setRegFld_ne hbits, State.reg_tgCaptured_ne haddr]
  rw [State.regFld, hreg]
  exact State.regFld_bumpFld hc (by decide)

/-- STOP ends the run that it finds, with some mismatches (R317). -/
theorem State.tgStop_ends (h : s.regBit (Reg.memctlChTgStatus ch) 29 = true) :
    ∃ u bad, u.canonical = true ∧ s.tgStop ch = State.tgEnd u ch bad false := by
  unfold State.tgStop
  rw [if_neg (not_not_intro h)]
  dsimp only
  refine (ite_eq_or_eq _ _ _).elim (fun h => ⟨_, _, ?_, h⟩) (fun h => ⟨_, _, ?_, h⟩)
  · exact State.canonical_modChan (s := { s with freeCtr := s.freeCtr + 3 }) hc
  · exact State.canonical_bumpFld (State.canonical_modChan (s := { s with freeCtr := s.freeCtr + 3 }) hc)

end canonical

end ends

section commands
variable {s : State} {ch : Fin 80} {g : TgRun} {bad : List (Nat × BitVec 16)} {fail : Bool}

theorem exec_tgGo (hp : s.pfServed (Reg.memctlChTgCtrl ch.val) = true) : exec (.tgGo ch) s = .next (s.tgStart ch.val) :=
  congrArg ok (if_pos hp)

/-- GO is ignored while the generator runs (R317). -/
theorem exec_tgGo_running (h : s.regBit (Reg.memctlChTgStatus ch.val) 29 = true) : exec (.tgGo ch) s = .next s :=
  congrArg ok (ite_eq_right_iff.mpr fun _ => State.tgStart_running h)

theorem exec_tgStop (hp : s.pfServed (Reg.memctlChTgCtrl ch.val) = true) : exec (.tgStop ch) s = .next (s.tgStop ch.val) :=
  congrArg ok (if_pos hp)

/-- The mismatches of a run that ends: in every pass what it finds, and what the failing channel adds; none where training
failed or the run only writes (R317). -/
def State.tgMismatches (s : State) (ch : Nat) (g : TgRun) (bad : List (Nat × BitVec 16)) (fail : Bool) : List (Nat × Nat) :=
  if fail || g.mode = 0 then []
  else (List.replicate g.passes (s.tgFinds ch g)).flatten ++ bad.map (fun m => (m.1, m.2.toNat))

theorem State.length_tgMismatches : (s.tgMismatches ch g bad fail).length
    = if fail || g.mode = 0 then 0 else g.passes * (s.tgFinds ch g).length + bad.length := by
  unfold State.tgMismatches
  split
  · rfl
  · rw [List.length_append, List.length_map, List.length_flatten, List.map_replicate, List.sum_replicate, smul_eq_mul]

/-- A run ends where its training failed or its passes are complete (R317). -/
theorem exec_tgRunEnd_ends (hg : (s.chan ch.val).tg = some g) (h : fail = true ∨ g.passes ≠ 0) :
    exec (.tgRunEnd ch bad fail) s = .next ((s.modChan ch.val (fun c => if fail then { c with tg := none }
      else c.ranTg false)).tgEnd ch.val (s.tgMismatches ch.val g bad fail) fail) := by
  change execTgRunEnd ch bad fail s = _
  unfold execTgRunEnd State.tgMismatches
  rw [hg]
  cases fail with
  | true => rfl
  | false =>
    have hp : g.passes ≠ 0 := h.resolve_left Bool.false_ne_true
    simp [hp, ok]

/-- A run without a number of passes goes on until STOP (R317). -/
theorem exec_tgRunEnd_goesOn (hg : (s.chan ch.val).tg = some g) (hp : g.passes = 0) :
    exec (.tgRunEnd ch bad false) s = .next s := by
  change execTgRunEnd ch bad false s = _
  unfold execTgRunEnd
  rw [hg]
  exact congrArg ok (if_pos hp)

end commands

/-- Settles O30: GO and STOP of an idle generator, of a running one, then the end of a run. -/
theorem trafficGeneratorRuns : Obligations.TrafficGeneratorRuns := by
  refine fun s ch bad fail hc => ⟨fun hp hidle => ⟨fun hr => ?_, fun hr => ?_, ?_⟩, fun hrun => ⟨fun hp => ?_,
    exec_tgGo_running hrun⟩, fun g n hg hn => ⟨fun h => ?_, ?_⟩⟩
  · rw [exec_tgGo hp, State.tgStart_refused hidle hr]
  · have hz := State.canonical_setReg (k := Reg.memctlChTgErrBits ch.val) (v := 0)
      (State.canonical_setReg (k := Reg.memctlChTgErrAddr ch.val) (v := 0) hc)
    refine ⟨_, exec_tgGo hp, State.tgStart_fields hidle hr, ?_⟩
    rw [State.regBit_tgStart hidle hr, State.regBit_tgStart hidle hr, State.regBit_tgStart hidle hr,
      State.reg_tgStart hidle hr, State.reg_tgStart hidle hr]
    exact ⟨State.regBit_tgRunning_running hz, State.regBit_tgRunning_done hz, State.reg_tgBegun_errAddr hc,
      State.reg_tgBegun_errBits hc, State.regBit_tgRunning_go hz⟩
  · rw [exec_tgStop hp, State.tgStop_idle hidle]
  · obtain ⟨u, found, hu, hstop⟩ := State.tgStop_ends hc hrun
    rw [exec_tgStop hp, hstop]
    exact ⟨_, rfl, State.regBit_tgEnd_running hu, State.regBit_tgEnd_done hu, State.regBit_tgEnd_go hu⟩
  · refine ⟨_, exec_tgRunEnd_ends hg h, ?_, State.regBit_tgEnd_running (State.canonical_modChan hc),
      State.regBit_tgEnd_done (State.canonical_modChan hc), State.regBit_tgEnd_trainFail (State.canonical_modChan hc),
      State.regBit_tgEnd_go (State.canonical_modChan hc), ?_⟩
    · exact State.tgEnd_fields.trans State.modChan_with_regs
    · rw [State.regFld_tgEnd_errors (State.canonical_modChan hc), State.length_tgMismatches, hn]
      rfl
  · rintro rfl
    exact exec_tgRunEnd_goesOn hg

end Sys2Proof.Machine

/-! PROOFS, 10_virtual_devices.md. The switch of a shared set: its drains start, its table writes wait, they take effect. -/

namespace Sys2Proof.Machine

section switch
variable {s : State} {k : Fin 8} {d : Nat}

/-- A choice stands while the chosen device has its job, or work that may run (R367). -/
theorem State.standing_of_next {i : Nat} (hn : (s.set_ i).next = some d)
    (h : (s.vd d).busy = true ∨ (s.setReady i).contains d = true) : s.standing i = s := by
  unfold State.standing
  rw [hn]
  exact if_pos h

/-- A device that a switch has brought in is the one that the set is switched to (R328). -/
theorem State.switched_switchEnds {i : Nat} : ((s.switchEnds i d).set_ i).switched = some d := by
  refine congrArg SetSt.switched (SMap.get_set_of_ne _ _ _ _ fun h => ?_)
  exact Option.some_ne_none d (congrArg SetSt.switched h)

section held
variable (hv : (s.set_ (k.val + 1)).valid = true) (hh : s.setHeld (k.val + 1) = false)
  (hn : (s.set_ (k.val + 1)).next = some d)
include hv hh hn

/-- With another device chosen and no switch on its way, the cores of the set start to drain (R328). -/
theorem exec_sharedSetSwitch_issue (hb : (s.vd d).busy = true ∨ (s.setReady (k.val + 1)).contains d = true)
    (hs : (s.set_ (k.val + 1)).switched ≠ some d) (hw : s.switching (k.val + 1) = false) :
    exec (.sharedSetSwitch k .issue) s = .next ((s.set_ (k.val + 1)).cores.foldl (fun s c => s.startDrain c) s) := by
  change execSharedSetSwitch k .issue s = _
  unfold execSharedSetSwitch
  simp [hv, hh, hn, hs, hw, State.standing_of_next hn hb, ok]

/-- Once every core of the set has drained, its ports and the switch itself wait for the next frame boundary (R328). -/
theorem exec_sharedSetSwitch_drained (hw : s.switching (k.val + 1) = false) (hs : (s.set_ (k.val + 1)).switched ≠ some d)
    (hd : ∀ c ∈ (s.set_ (k.val + 1)).cores, ∃ dr, (s.core c).drain = some dr ∧ s.drainOver c dr 2 = true) :
    exec (.sharedSetSwitch k .act) s
      = .next (((s.set_ (k.val + 1)).cores.foldl (fun s c => s.pend (.slot false c (some d))) s).pend
          (.switch (k.val + 1) d)) := by
  have hfree : ¬(¬(s.set_ (k.val + 1)).valid = true ∨ s.setHeld (k.val + 1) = true) := by simp [hv, hh]
  change execSharedSetSwitch k .act s = _
  unfold execSharedSetSwitch
  dsimp only
  rw [if_neg hfree, hn]
  dsimp only
  rw [hw, if_neg Bool.false_ne_true, if_neg]
  · rfl
  · rintro (h | h)
    · exact hs h
    · refine h (List.all_eq_true.mpr fun c hc => ?_)
      obtain ⟨dr, hdr, hover⟩ := hd c hc
      rw [hdr]
      exact hover

/-- A switch on its way takes effect with the table writes that are due (R31, R328). -/
theorem exec_sharedSetSwitch_switching (hw : s.switching (k.val + 1) = true) :
    exec (.sharedSetSwitch k .act) s = .next (if s.commitDue then s.commitTables else s) := by
  change execSharedSetSwitch k .act s = _
  unfold execSharedSetSwitch
  simp [hv, hh, hn, hw, ok]

end held

end switch

end Sys2Proof.Machine

/-! PROOFS, 10_virtual_devices.md. FENCE records, the attribution of engine time, captures and the manager's preemption. -/

namespace Sys2Proof.Machine

section fence
variable {s : State} {n : Fin 256} {f : FenceWait}

/-- The record of a FENCE comes once the window writes of the device's jobs are complete and those of the host that it
waits for too (R395). -/
theorem exec_fenceRecord_done (hf : (s.vd n.val).fence = some f) (hw : s.windowsDone n.val = true)
    (ha : (s.hostAccepted n.val).any (fun id => f.waits.contains id) = false) :
    exec (.fenceRecord n) s = .next (((s.modVd n.val (fun v => { v with fence := none })).complete n.val f.queue
      (s.regionTable n.val) (Completion.none f.tag 0 f.sqIndex f.irq)).shareChoice n.val) := by
  change execFenceRecord n s = _
  unfold execFenceRecord
  dsimp only
  rw [hf]
  exact congrArg ok (if_neg (by rw [hw, ha]; decide))

/-- A FENCE waits for a window write that is not complete (R395). -/
theorem exec_fenceRecord_waits (hf : (s.vd n.val).fence = some f) (hw : s.windowsDone n.val = false) :
    exec (.fenceRecord n) s = .next s := by
  change execFenceRecord n s = _
  unfold execFenceRecord
  dsimp only
  rw [hf]
  exact congrArg ok (if_pos (.inl (by rw [hw]; decide)))

end fence

section attribution
variable {s : State} {n : Nat}

/-- A device that has a job after a change reads as changed, whatever it was. -/
theorem State.vd_modVd_running {f : VDev → VDev} (h : (f (s.vd n)).running.isSome = true) :
    (s.modVd n f).vd n = f (s.vd n) :=
  State.vd_modVd fun ha => by rw [ha] at h; exact Bool.false_ne_true h

section running
variable (h : (s.vd n).running.isSome = true)
include h

theorem State.vd_acctAdd_running {i k : Nat} : (s.acctAdd n i k).vd n
    = { s.vd n with acct := (s.vd n).acct.set i ((nth 0 (s.vd n).acct i + k) % 2 ^ 64) } :=
  State.vd_modVd_running h

theorem State.running_acctAdd {i k : Nat} : ((s.acctAdd n i k).vd n).running.isSome = true := by
  rwa [State.vd_acctAdd_running h]

theorem State.desc_acctAdd {i k : Nat} : ((s.acctAdd n i k).vd n).desc = (s.vd n).desc := by
  rw [State.vd_acctAdd_running h]

/-- An attribution leaves the composition of a running device (R373). -/
theorem State.desc_attribute : ((s.attribute n).vd n).desc = (s.vd n).desc := by
  have h6 (a : Nat) := State.running_acctAdd h (i := 6) (k := a)
  have h7 (a b : Nat) := State.running_acctAdd (h6 a) (i := 7) (k := b)
  unfold State.attribute
  dsimp only
  rw [State.vd_modVd_running] <;> dsimp only
  · rw [State.desc_acctAdd (h7 _ _), State.desc_acctAdd (h6 _), State.desc_acctAdd h]
  · exact State.running_acctAdd (h7 _ _)

end running

/-- Off a 1,000-tick boundary nothing is attributed (R373). -/
theorem exec_engineTimeAttribution_between (ht : s.time.toNat % 1000 ≠ 0) : exec .engineTimeAttribution s = .next s :=
  congrArg ok (if_pos ht)

/-- At the boundary the time of the only device, which runs a job on cores of its own, is attributed (R366, R373). -/
theorem exec_engineTimeAttribution_dedicated {v : VDev} (ht : s.time.toNat % 1000 = 0) (hv : s.vds = [(n, v)])
    (hr : v.running.isSome = true) (hd : v.desc.sharedSet = 0) : exec .engineTimeAttribution s = .next (s.attribute n) := by
  have hvd : s.vd n = v := by rw [State.vd, hv, SMap.get_cons, if_pos rfl]
  have hset : ((s.attribute n).vd n).desc.sharedSet = 0 := by rw [State.desc_attribute (hvd ▸ hr), hvd, hd]
  change execEngineTimeAttribution s = _
  unfold execEngineTimeAttribution
  simp [ht, hv, hr, hset, ok]

end attribution

section accounts
variable {s : State} {n : Fin 256}

/-- A tenant captures the counters of its device (R374). -/
theorem exec_acctSnap (h : s.vfHere n.val = true) : exec (.acctSnap n) s
    = .next (s.capture n.val (Reg.acctCount n.val 0)) := by
  have hst : (s.vd n.val).st ≠ .absent := by
    unfold State.vfHere at h
    exact of_decide_eq_true (Bool.and_eq_true_iff.mp h).2
  exact congrArg ok ((if_pos h).trans (if_neg hst))

/-- The manager captures the counters of a device, and zeroes them with CLEAR (R374). -/
theorem exec_schedAcctSnap {clear : Bool} (h : s.pfServed Reg.schedAcctSnap = true) : exec (.schedAcctSnap n clear) s
    = .next (s.schedSnap n.val clear) :=
  congrArg ok (if_pos h)

/-- A preemption is requested of a job that has not ended and whose queue has a save area (R368). -/
theorem State.requestPreempt_eq {i : Nat} {j : Job} (hj : (s.vd i).running = some j) (he : j.ended = none)
    (hs : s.hasSave i j.queue = true) : s.requestPreempt i = s.modVd i (fun v => { v with preemptReq := true }) := by
  unfold State.requestPreempt
  rw [hj]
  exact if_pos ⟨hs, by rw [he]; rfl⟩

theorem exec_schedPreempt {j : Job} (hp : s.pfServed Reg.schedPreempt = true) (hj : (s.vd n.val).running = some j)
    (he : j.ended = none) (hs : (s.setRegFld Reg.schedPreempt 0 8 n.val).hasSave n.val j.queue = true) :
    exec (.schedPreempt n) s
      = .next ((s.setRegFld Reg.schedPreempt 0 8 n.val).modVd n.val (fun v => { v with preemptReq := true })) := by
  have hvd := State.vd_congr (n := n.val) (State.setRegFld_vds (s := s) (k := Reg.schedPreempt) (lo := 0) (len := 8) (v := n.val))
  exact congrArg ok ((if_pos hp).trans (State.requestPreempt_eq ((congrArg VDev.running hvd).trans hj) he hs))

end accounts

/-- Settles O37: the switch of a shared set in its steps, then FENCE, attribution, captures and the manager's request. -/
theorem sharesFencesAndAccountsComplete : Obligations.SharesFencesAndAccountsComplete := by
  refine fun s u n k d f clear => ⟨fun hv hh => ⟨exec_sharedSetSwitch_issue hv hh,
    fun hn => ⟨exec_sharedSetSwitch_drained hv hh hn, exec_sharedSetSwitch_switching hv hh hn⟩, State.switched_switchEnds⟩,
    fun hf => ⟨exec_fenceRecord_done hf, exec_fenceRecord_waits hf⟩, fun _ => exec_engineTimeAttribution_dedicated,
    exec_engineTimeAttribution_between, exec_acctSnap, ?_, ?_⟩
  · rintro hp rfl
    exact exec_schedAcctSnap hp
  · rintro j hp hj he rfl hs
    exact exec_schedPreempt hp hj he hs

end Sys2Proof.Machine

/-! PROOFS, 11_jobs_shares_deadlines.md. The registers of a queue, and the writes of a doorbell, a completion head and ENABLE. -/

namespace Sys2Proof.Machine

section rings
variable {s : State} {n q j k : Nat}

/-- The registers are those of the state's register file. -/
theorem State.reg_congr {t : State} (h : t.regs = s.regs) : t.reg k = s.reg k := by
  unfold State.reg
  rw [h]

@[simp] theorem State.sendReed_mem {body : ReedBody} {src dst : Site} : (s.sendReed n body src dst).mem = s.mem := rfl

@[simp] theorem State.sendReed_cores {body : ReedBody} {src dst : Site} : (s.sendReed n body src dst).cores = s.cores := rfl

@[simp] theorem State.sendReed_slices {body : ReedBody} {src dst : Site} : (s.sendReed n body src dst).slices = s.slices := rfl

@[simp] theorem State.sendReed_vds {body : ReedBody} {src dst : Site} : (s.sendReed n body src dst).vds = s.vds := rfl

@[simp] theorem State.sendReed_regs {body : ReedBody} {src dst : Site} : (s.sendReed n body src dst).regs = s.regs := rfl

@[simp] theorem State.acctAdd_fab {i : Nat} : (s.acctAdd n i k).fab = s.fab := rfl

@[simp] theorem State.acctAdd_regs {i : Nat} : (s.acctAdd n i k).regs = s.regs := rfl

/-- A reed message that is sent is the last of those on the links (R176). -/
theorem State.sendReed_reed {body : ReedBody} {src dst : Site} : ∃ m, m.body = body
    ∧ (s.sendReed n body src dst).fab.reed = s.fab.reed ++ [m] :=
  ⟨_, rfl, rfl⟩

/-- What counts a write of a queue register (R10). -/
theorem rsvdCounter_queueSqTail {q : Fin 4} : rsvdCounter (Reg.queueSqTail n q.val) = Reg.queueRsvdWrites n := by
  have hv : isVfKey (Reg.queueSqTail n q.val) = true := by
    exact decide_eq_true (by simp only [Reg.queueSqTail, vfKey]; omega)
  have hn : vfOfKey (Reg.queueSqTail n q.val) = n := by
    simp only [vfOfKey, Reg.queueSqTail, vfKey]
    omega
  have ho : offOfKey (Reg.queueSqTail n q.val) = 0x100c + 64 * q.val := by
    rw [offOfKey, if_pos hv]
    simp only [Reg.queueSqTail, vfKey]
    omega
  have hb : ∀ q : Fin 4, vfBlock (0x100c + 64 * q.val) = some 0x1ffc := by decide
  rw [rsvdCounter, if_pos hv, hn, ho, hb]
  rfl

/-- The count of a write leaves all that a counter leaves. -/
theorem State.counted_proj {α : Type} (f : State → α) (h : ∀ t i, f (State.bump t i) = f t) (p : State × Bool) :
    f (State.counted p k) = f p.1 := by
  unfold State.counted
  split
  · exact h _ _
  · rfl

/-- The count of a write changes its counter alone. -/
theorem State.reg_counted_ne {p : State × Bool} (h : j ≠ rsvdCounter k) : (State.counted p k).reg j = p.1.reg j := by
  unfold State.counted
  split
  · exact State.reg_bump_ne h
  · rfl

/-- A write whose count depends on its reserved bits alone. -/
theorem State.counted_setsRsvd {w : W32} : State.counted (s, setsRsvd k w) k = s.countRsvd k w := by
  simp [State.counted, State.countRsvd, setsRsvd]

end rings

section doorbell
variable {s : State} {n : Fin 256} {q : Fin 4} {w : W32}

/-- The submission stamps of a device for `k` descriptors of a queue from its old tail on (R349). -/
def State.stamped (s : State) (n q k now : Nat) (v : VDev) : VDev :=
  let idx := (List.range k).map (fun i => (s.sqTail n q + i) % s.qSize n q)
  { v with
    stamps := (v.stamps.filter (fun (x : Nat × Nat × Nat) => !(decide (x.1 = q) && idx.contains x.2.1)))
      ++ idx.map (fun i => (q, i, now)) }

/-- A doorbell of `k` descriptors as the IOD front end takes it (R349): the tail and the stamps. -/
def State.submitted (s : State) (n q k tail : Nat) : State :=
  let t := s.setRegFld (Reg.queueSqTail n q) 0 16 tail
  t.modVd n (s.stamped n q k t.time.toNat)

/-- A doorbell that is taken is counted and goes to the device's scheduler (R349, R352). -/
def State.rung (s : State) (n q k tail : Nat) : State :=
  ((s.submitted n q k tail).acctAdd n 0 k).sendReed n (.bell n q tail) .iod (.bd ((s.submitted n q k tail).schedulerOf n))

section rung
variable {n q k tail : Nat}

theorem State.regs_rung : (s.rung n q k tail).regs = (s.setRegFld (Reg.queueSqTail n q) 0 16 tail).regs := by
  rw [State.rung, State.sendReed_regs, State.acctAdd_regs, State.submitted, State.modVd_regs]

theorem State.rung_mem : (s.rung n q k tail).mem = s.mem := by
  rw [State.rung, State.sendReed_mem, State.acctAdd, State.modVd_mem, State.submitted, State.modVd_mem, State.setRegFld_mem]

theorem State.rung_cores : (s.rung n q k tail).cores = s.cores := by
  rw [State.rung, State.sendReed_cores, State.acctAdd, State.modVd_cores, State.submitted, State.modVd_cores, State.setRegFld_cores]

theorem State.rung_slices : (s.rung n q k tail).slices = s.slices := by
  rw [State.rung, State.sendReed_slices, State.acctAdd, State.modVd_slices, State.submitted, State.modVd_slices, State.setRegFld_slices]

/-- The message of a doorbell is the last of those on the links. -/
theorem State.reed_rung : ∃ m, m.body = .bell n q tail ∧ (s.rung n q k tail).fab.reed = s.fab.reed ++ [m] := by
  obtain ⟨m, hbody, hm⟩ := State.sendReed_reed (s := (s.submitted n q k tail).acctAdd n 0 k) (n := n) (body := .bell n q tail)
    (src := .iod) (dst := .bd ((s.submitted n q k tail).schedulerOf n))
  rw [State.acctAdd_fab, State.submitted, State.modVd_fab, State.setRegFld_fab] at hm
  exact ⟨m, hbody, hm⟩

/-- A doorbell changes no device but its own. -/
theorem State.vd_rung_ne {m : Nat} (h : m ≠ n) : (s.rung n q k tail).vd m = s.vd m := by
  rw [State.rung, State.vd_congr State.sendReed_vds, State.acctAdd, State.vd_modVd_ne h, State.submitted, State.vd_modVd_ne h,
    State.vd_congr State.setRegFld_vds]

end rung

theorem State.sqTail_rung {q : Fin 4} {n k tail : Nat} {b : Bool} (hc : s.canonical = true) :
    (State.counted (s.rung n q.val k tail, b) (Reg.queueSqTail n q.val)).sqTail n q.val = tail % 2 ^ 16 := by
  have hne : Reg.queueSqTail n q.val ≠ rsvdCounter (Reg.queueSqTail n q.val) := by
    rw [rsvdCounter_queueSqTail]
    simp only [Reg.queueSqTail, Reg.queueRsvdWrites, vfKey]
    omega
  have hreg : (s.rung n q.val k tail).reg (Reg.queueSqTail n q.val)
      = (s.setRegFld (Reg.queueSqTail n q.val) 0 16 tail).reg (Reg.queueSqTail n q.val) :=
    State.reg_congr State.regs_rung
  rw [State.sqTail, State.regFld, State.reg_counted_ne hne, hreg]
  exact State.regFld_setRegFld hc (by decide)

/-- A doorbell without a queue to take it, or beyond the room of its ring, is refused (R349, R460). -/
theorem exec_doorbell_refused {size old k : Nat} (hh : s.vfHere n.val = true) (hs : size = s.qSize n.val q.val)
    (ho : old = s.sqTail n.val q.val) (hk : k = (fld w 0 16 + size - old) % size)
    (h : s.qOn n.val q.val = false ∨ s.clock.downBusy = true ∨ s.clock.offReady = true ∨ size ≤ fld w 0 16
      ∨ size - 1 < (old + size - s.sqHead n.val q.val) % size + k) :
    exec (.doorbell n q w) s = .next (s.setRegBit (Reg.queueStatus n.val q.val) 1 true) := by
  subst hs ho hk
  refine congrArg ok ?_
  unfold State.doorbell State.doorbellW
  dsimp only
  rw [if_neg (not_not_intro hh), if_pos (h.imp_left (by simp))]
  rfl

/-- A doorbell within the room of its ring is taken (R349). -/
theorem exec_doorbell_taken {size old k : Nat} (hh : s.vfHere n.val = true) (hs : size = s.qSize n.val q.val)
    (ho : old = s.sqTail n.val q.val) (hk : k = (fld w 0 16 + size - old) % size) (hq : s.qOn n.val q.val = true)
    (hd : s.clock.downBusy = false) (hoff : s.clock.offReady = false) (ht : fld w 0 16 < size)
    (hr : (old + size - s.sqHead n.val q.val) % size + k ≤ size - 1) :
    exec (.doorbell n q w) s = .next (State.counted (s.rung n.val q.val k (fld w 0 16),
      setsRsvd (Reg.queueSqTail n.val q.val) w) (Reg.queueSqTail n.val q.val)) := by
  subst hs ho hk
  refine congrArg ok ?_
  unfold State.doorbell State.doorbellW
  dsimp only
  rw [if_neg (not_not_intro hh), if_neg]
  · rfl
  · simp only [hq, hd, hoff, not_true_eq_false, Bool.false_eq_true, false_or, not_or]
    exact ⟨by omega, by omega⟩

end doorbell

section completionHead
variable {s : State} {n : Fin 256} {q : Fin 4} {w : W32} {size old : Nat}
variable (hh : s.vfHere n.val = true) (hs : size = s.qSize n.val q.val) (ho : old = s.cqHead n.val q.val)
include hh hs ho

/-- A completion head within the written records is taken (R350). -/
theorem exec_cqHeadWrite_within (hw : fld w 0 16 < size)
    (hr : (fld w 0 16 + size - old) % size ≤ (s.cqTail n.val q.val + size - old) % size) :
    exec (.cqHeadWrite n q w) s
      = .next ((s.setRegFld (Reg.queueCqHead n.val q.val) 0 16 (fld w 0 16)).countRsvd (Reg.queueCqHead n.val q.val) w) := by
  subst hs ho
  refine congrArg ok ?_
  unfold State.writeCqHead State.cqHeadW
  dsimp only
  rw [if_neg (not_not_intro hh), if_pos ⟨hw, hr⟩, State.counted_setsRsvd]

/-- A completion head beyond the written records is refused (R350). -/
theorem exec_cqHeadWrite_past
    (h : size ≤ fld w 0 16 ∨ (s.cqTail n.val q.val + size - old) % size < (fld w 0 16 + size - old) % size) :
    exec (.cqHeadWrite n q w) s = .next (s.setRegBit (Reg.queueStatus n.val q.val) 2 true) := by
  subst hs ho
  refine congrArg ok ?_
  unfold State.writeCqHead State.cqHeadW
  dsimp only
  rw [if_neg (not_not_intro hh), if_neg (by omega)]
  rfl

end completionHead

section enable
variable {s : State} {n q j k : Nat}

/-- The four indices of a queue at zero (R375). -/
def State.zeroIndices (s : State) (n q : Nat) : State :=
  (((s.setReg (Reg.queueSqHead n q) 0).setReg (Reg.queueSqTail n q) 0).setReg (Reg.queueCqHead n q) 0).setReg
    (Reg.queueCqTail n q) 0

theorem State.canonical_zeroIndices (hc : s.canonical = true) : (s.zeroIndices n q).canonical = true :=
  State.canonical_setReg (State.canonical_setReg (State.canonical_setReg (State.canonical_setReg hc)))

/-- A register that is zeroed, or was zero, reads as zero. -/
theorem State.reg_setReg_zero (hc : s.canonical = true) (h : j = k ∨ s.reg j = 0) : (s.setReg k 0).reg j = 0 := by
  rw [State.reg_setReg hc]
  exact ite_eq_left_iff.mpr h.resolve_left

theorem State.reg_zeroIndices (hc : s.canonical = true)
    (h : j = Reg.queueSqHead n q ∨ j = Reg.queueSqTail n q ∨ j = Reg.queueCqHead n q ∨ j = Reg.queueCqTail n q) :
    (s.zeroIndices n q).reg j = 0 := by
  have h1 := State.canonical_setReg (k := Reg.queueSqHead n q) (v := 0) hc
  have h2 := State.canonical_setReg (k := Reg.queueSqTail n q) (v := 0) h1
  have h3 := State.canonical_setReg (k := Reg.queueCqHead n q) (v := 0) h2
  unfold State.zeroIndices
  rcases h with h | h | h | h
  · exact State.reg_setReg_zero h3 (.inr (State.reg_setReg_zero h2 (.inr (State.reg_setReg_zero h1 (.inr
      (State.reg_setReg_zero hc (.inl h)))))))
  · exact State.reg_setReg_zero h3 (.inr (State.reg_setReg_zero h2 (.inr (State.reg_setReg_zero h1 (.inl h)))))
  · exact State.reg_setReg_zero h3 (.inr (State.reg_setReg_zero h2 (.inl h)))
  · exact State.reg_setReg_zero h3 (.inl h)

/-- The register file of a queue that starts: its indices zeroed, ENABLE set (R375). -/
def State.queueOn (s : State) (n q : Nat) : State := (s.zeroIndices n q).setRegBit (Reg.queueSqCfg n q) 31 true

/-- What enabling a queue does beside the registers: its doorbells on their way are void, its scheduler starts anew (R375). -/
def State.queueFresh (s : State) (n q : Nat) : State :=
  let s : State := { s with fab := s.fab.emptyReed (fun m => match m.body with
    | .bell v x _ => decide (v = n) && decide (x = q)
    | _ => false) }
  s.modVd n (fun v => { v with
    tails := v.tails.set q 0, phases := v.phases.set q true, stamps := v.stamps.filter (fun (x : Nat × Nat × Nat) => !decide (x.1 = q)) })

theorem State.reg_queueFresh : (s.queueFresh n q).reg k = s.reg k :=
  State.reg_congr rfl

theorem State.queueFresh_mem : (s.queueFresh n q).mem = s.mem := rfl

theorem State.queueFresh_cores : (s.queueFresh n q).cores = s.cores := rfl

theorem State.queueOn_mem : (s.queueOn n q).mem = s.mem := by
  rw [State.queueOn, State.setRegBit_mem, State.zeroIndices, State.setReg_mem, State.setReg_mem, State.setReg_mem, State.setReg_mem]

theorem State.queueOn_cores : (s.queueOn n q).cores = s.cores := by
  rw [State.queueOn, State.setRegBit_cores, State.zeroIndices, State.setReg_cores, State.setReg_cores, State.setReg_cores, State.setReg_cores]

theorem State.qOn_queueOn (hc : s.canonical = true) : ((s.queueOn n q).queueFresh n q).qOn n q = true := by
  rw [State.qOn, State.regBit, State.reg_queueFresh]
  exact State.regBit_setRegBit (State.canonical_zeroIndices hc) (by decide)

/-- The indices of a queue that starts are zero (R375). -/
theorem State.regFld_queueOn (hc : s.canonical = true)
    (h : j = Reg.queueSqHead n q ∨ j = Reg.queueSqTail n q ∨ j = Reg.queueCqHead n q ∨ j = Reg.queueCqTail n q) :
    ((s.queueOn n q).queueFresh n q).regFld j 0 16 = 0 := by
  have hne : j ≠ Reg.queueSqCfg n q := by
    simp only [Reg.queueSqHead, Reg.queueSqTail, Reg.queueCqHead, Reg.queueCqTail, Reg.queueSqCfg, vfKey] at h ⊢
    omega
  rw [State.regFld, State.reg_queueFresh, State.queueOn, State.reg_setRegBit_ne hne, State.reg_zeroIndices hc h]
  rfl

end enable

section enabling
variable {s : State} {n : Fin 256} {q : Fin 4}
variable (hh : s.vfHere n.val = true)
include hh

/-- A queue of a legal size that is enabled starts (R375). -/
theorem exec_queueEnable_starts (hlo : 4 ≤ s.regFld (Reg.queueSqCfg n.val q.val) 16 5)
    (hhi : s.regFld (Reg.queueSqCfg n.val q.val) 16 5 ≤ 16) (hq : s.qOn n.val q.val = false) :
    exec (.queueEnable n q true) s = .next ((s.queueOn n.val q.val).queueFresh n.val q.val) := by
  refine congrArg ok ?_
  unfold State.enableQueue
  dsimp only
  rw [if_neg (not_not_intro hh), if_neg (by omega), if_pos ⟨rfl, by simp [hq]⟩]
  rfl

/-- ENABLE is refused under a reserved LOG2N (R375). -/
theorem exec_queueEnable_refused
    (h : s.regFld (Reg.queueSqCfg n.val q.val) 16 5 < 4 ∨ 16 < s.regFld (Reg.queueSqCfg n.val q.val) 16 5) :
    exec (.queueEnable n q true) s = .next s := by
  refine congrArg ok ?_
  unfold State.enableQueue
  dsimp only
  rw [if_neg (not_not_intro hh), if_pos ⟨rfl, h⟩]

/-- A queue that is disabled loses its bit alone (R375). -/
theorem exec_queueEnable_off :
    exec (.queueEnable n q false) s = .next (s.setRegBit (Reg.queueSqCfg n.val q.val) 31 false) := by
  refine congrArg ok ?_
  unfold State.enableQueue
  dsimp only
  rw [if_neg (not_not_intro hh), if_neg (fun h => Bool.false_ne_true h.1), if_neg (fun h => Bool.false_ne_true h.1)]

end enabling

/-- Settles O34: the doorbell refused or taken, the completion head taken or refused, ENABLE in its three cases. -/
theorem queueWritesComplete : Obligations.QueueWritesComplete := by
  refine fun s n q w hc hh => ⟨fun size old k hs ho hk => ⟨exec_doorbell_refused hh hs ho hk, fun hq hd hoff ht hr => ?_⟩,
    fun size old hs ho => ⟨exec_cqHeadWrite_within hh hs ho, exec_cqHeadWrite_past hh hs ho⟩,
    fun hlo hhi hq => ⟨_, exec_queueEnable_starts hh hlo hhi hq, State.qOn_queueOn hc, State.regFld_queueOn hc (by simp),
      State.regFld_queueOn hc (by simp), State.regFld_queueOn hc (by simp), State.regFld_queueOn hc (by simp),
      State.queueFresh_mem.trans State.queueOn_mem, State.queueFresh_cores.trans State.queueOn_cores⟩,
    exec_queueEnable_refused hh, exec_queueEnable_off hh⟩
  obtain ⟨m, hbody, hm⟩ := State.reed_rung (s := s) (n := n.val) (q := q.val) (k := k) (tail := fld w 0 16)
  refine ⟨_, m, exec_doorbell_taken hh hs ho hk hq hd hoff ht hr, ?_, ?_⟩
  · rw [State.sqTail_rung hc]
    exact Nat.mod_eq_of_lt (Nat.mod_lt _ (by decide))
  · exact ⟨(State.counted_proj State.mem (fun _ _ => State.bump_mem) _).trans State.rung_mem,
      (State.counted_proj (·.fab.reed) (fun _ _ => congrArg Fabric.reed State.bump_fab) _).trans hm, hbody,
      (State.counted_proj State.cores (fun _ _ => State.bump_cores) _).trans State.rung_cores,
      (State.counted_proj State.slices (fun _ _ => State.bump_slices) _).trans State.rung_slices,
      fun _ hne => (State.vd_congr (State.counted_proj State.vds (fun _ _ => State.bump_vds) _)).trans (State.vd_rung_ne hne)⟩

end Sys2Proof.Machine

/-! PROOFS, 11_jobs_shares_deadlines.md. Jobs: taken from a queue, started at the schedule epoch, ended with their record. -/

namespace Sys2Proof.Machine

section take
variable {s : State} {n : Fin 256} {q : Nat}

/-- It is the turn of a device with cores of its own (R351). -/
theorem State.turn_dedicated {n : Nat} (h : (s.vd n).desc.sharedSet = 0) : s.turn n = (true, s) :=
  if_pos h

/-- A device that may take a job takes the descriptor at the head of its next queue (R351, R355). -/
theorem exec_jobTake_takes (hm : s.mayTake n.val = true) (hq : s.nextQueue n.val = some q)
    (hd : (s.vd n.val).desc.sharedSet = 0) (hp : s.preemptedHead n.val q = false) :
    exec (.jobTake n) s = .next (if ((s.take n.val q (s.sqHead n.val q)).vd n.val).busy
      then (s.take n.val q (s.sqHead n.val q)).noteRun n.val else s.take n.val q (s.sqHead n.val q)) := by
  change execJobTake n s = _
  unfold execJobTake
  dsimp only
  rw [if_neg (not_not_intro hm), hq, State.turn_dedicated hd]
  dsimp only
  rw [if_neg (not_not_intro rfl), hp, if_neg Bool.false_ne_true]
  rfl

/-- A device that may not take a job takes none (R351). -/
theorem exec_jobTake_waits (hm : s.mayTake n.val = false) : exec (.jobTake n) s = .next s :=
  congrArg ok (if_pos (by simp [hm]))

end take

section epoch
variable {s : State} {n : Fin 256} {j : Job}

/-- Before its epoch a job does not start (R356). -/
theorem exec_jobEpoch_waits (hj : s.liveJob n.val = some j) (hd : s.epochDue n.val j = false) :
    exec (.jobEpoch n) s = .next s := by
  change execJobEpoch n s = _
  unfold execJobEpoch
  dsimp only
  rw [hj]
  exact congrArg ok (if_pos (by simp [hd]))

/-- The cores of a device at the first instruction of its job, each with its logical number (R357). -/
def State.coresStart (s : State) (n : Nat) (j : Job) : State :=
  ((List.range (s.coresOf n).length).zip (s.coresOf n)).foldl (fun t e => t.modCore e.2 (fun k =>
    k.startAt j.cur e.1 (s.coresOf n).length (if j.fellBack then j.lastCkpt else 0))) s

/-- A job whose epoch is this frame runs from now on (R356). -/
def State.epochBegun (s : State) (n : Nat) (j : Job) : State :=
  (s.coresStart n j).modVd n (fun v => { v with
    running := some { j with phase := .running, epoch := (s.coresStart n j).frame, started := true } })

/-- At its epoch a job starts on its cores, and is counted where it has not run before (R356, R357, R373). -/
theorem exec_jobEpoch_starts (hj : s.liveJob n.val = some j) (hd : s.epochDue n.val j = true) : exec (.jobEpoch n) s
    = .next (if j.started then s.epochBegun n.val j else (s.epochBegun n.val j).acctAdd n.val 1 1) := by
  change execJobEpoch n s = _
  unfold execJobEpoch
  dsimp only
  rw [hj]
  refine congrArg ok ((if_neg (not_not_intro hd)).trans ?_)
  rfl

end epoch

section startAt
variable {k : Core} {j : JobDesc} {l nc ck r : Nat}

theorem Core.wf_sregs_setSreg {v : W64} (hw : SMap.wf (fun _ => (0 : W64)) k.sregs = true) :
    SMap.wf (fun _ => (0 : W64)) (k.setSreg r v).sregs = true := by
  unfold Core.setSreg
  split
  · exact hw
  · exact SMap.wf_set _ _ _ _ hw

/-- A core starts with four scalar registers set in an empty register file, and with its tile store as it is (R357). -/
theorem Core.startAt_eq : ∃ k0 : Core, k0.sregs = [] ∧ k.startAt j l nc ck
    = (((k0.setSreg 1 j.arg).setSreg 2 (BitVec.ofNat 64 l)).setSreg 3 (BitVec.ofNat 64 nc)).setSreg 4 (BitVec.ofNat 64 ck) :=
  ⟨_, rfl, rfl⟩

/-- The registers of a core that starts: the argument, its number, the number of cores, the checkpoint, and no other (R357). -/
theorem Core.sreg_startAt : (k.startAt j l nc ck).sreg 1 = j.arg ∧ (k.startAt j l nc ck).sreg 2 = BitVec.ofNat 64 l
    ∧ (k.startAt j l nc ck).sreg 3 = BitVec.ofNat 64 nc ∧ (k.startAt j l nc ck).sreg 4 = BitVec.ofNat 64 ck
    ∧ ∀ r, 5 ≤ r → (k.startAt j l nc ck).sreg r = 0 := by
  obtain ⟨k0, h0, he⟩ := Core.startAt_eq (k := k) (j := j) (l := l) (nc := nc) (ck := ck)
  have hw0 : SMap.wf (fun _ => (0 : W64)) k0.sregs = true := by rw [h0]; rfl
  have hw1 := Core.wf_sregs_setSreg (r := 1) (v := j.arg) hw0
  have hw2 := Core.wf_sregs_setSreg (r := 2) (v := BitVec.ofNat 64 l) hw1
  have hw3 := Core.wf_sregs_setSreg (r := 3) (v := BitVec.ofNat 64 nc) hw2
  rw [he]
  refine ⟨?_, ?_, ?_, Core.sreg_setSreg_same (by decide) hw3, fun r hr => ?_⟩
  · rw [Core.sreg_setSreg_ne (by decide), Core.sreg_setSreg_ne (by decide), Core.sreg_setSreg_ne (by decide),
      Core.sreg_setSreg_same (by decide) hw0]
  · rw [Core.sreg_setSreg_ne (by decide), Core.sreg_setSreg_ne (by decide), Core.sreg_setSreg_same (by decide) hw1]
  · rw [Core.sreg_setSreg_ne (by decide), Core.sreg_setSreg_same (by decide) hw2]
  · rw [Core.sreg_setSreg_ne (by omega), Core.sreg_setSreg_ne (by omega), Core.sreg_setSreg_ne (by omega),
      Core.sreg_setSreg_ne (by omega), Core.sreg, h0]
    exact ite_self _

end startAt

section ending
variable {s : State} {n : Fin 256} {j : Job}

/-- Whether a job that runs is to end: its end is decided, or its streams and its cores have ended (R358, R360). -/
def State.mayEnd (s : State) (n : Nat) (j : Job) : Prop :=
  j.ended = none → j.phase = .running ∧ s.streamsDone n = true
    ∧ (s.coresOf n).all (fun c => decide ((s.core c).seq = .ended)) = true

section stopped
variable (hj : (s.vd n.val).running = some j) (hc : s.cancelling n.val = false) (hs : s.coresStopped n.val = true)
  (he : s.mayEnd n.val j)
include hj hc hs he

/-- Of a job that is to end, the cores drain until its stores have performed, those of a contained device not (R358, R506). -/
theorem exec_jobEnd_eq : exec (.jobEnd n) s
    = .next (if (s.vd n.val).st ≠ .contained ∧ ¬ s.coresOver n.val (if j.cur.windowOut then 3 else 2) then s.startDrains n.val
      else (((s.attribute n.val).jobGone n.val j.queue).complete n.val j.queue j.regions
        (j.completion (j.ended.getD ⟨0, 0, 0x7F⟩))).shareChoice n.val) := by
  change execJobEnd n s = _
  unfold execJobEnd
  dsimp only
  rw [hj]
  refine congrArg ok (if_neg ?_)
  rintro (⟨hn, hnone⟩ | h | h)
  · obtain ⟨hp, hst, hco⟩ := he (Option.isNone_iff_eq_none.mp hnone)
    exact hn (by rw [hnone, hp, hst, hco]; rfl)
  · exact Bool.false_ne_true (hc.symm.trans h)
  · exact h hs

/-- The job ends with its record once its stores have performed (R358, R360, R361). -/
theorem exec_jobEnd_ends
    (h : (s.vd n.val).st = .contained ∨ s.coresOver n.val (if j.cur.windowOut then 3 else 2) = true) :
    exec (.jobEnd n) s = .next ((((s.attribute n.val).jobGone n.val j.queue).complete n.val j.queue j.regions
      (j.completion (j.ended.getD ⟨0, 0, 0x7F⟩))).shareChoice n.val) := by
  rw [exec_jobEnd_eq hj hc hs he, if_neg]
  exact fun hn => h.elim hn.1 hn.2

/-- Until then its cores drain (R358). -/
theorem exec_jobEnd_drains (hst : (s.vd n.val).st ≠ .contained)
    (ho : s.coresOver n.val (if j.cur.windowOut then 3 else 2) = false) :
    exec (.jobEnd n) s = .next (s.startDrains n.val) := by
  rw [exec_jobEnd_eq hj hc hs he, if_pos ⟨hst, by rw [ho]; exact Bool.false_ne_true⟩]

end stopped

/-- The run limit is looked at where a job is live (R359). -/
theorem exec_runLimit_eq (hj : s.liveJob n.val = some j) :
    exec (.runLimit n) s = .next (if j.overLimit then s.limitJob n.val else s) := by
  change execRunLimit n s = _
  unfold execRunLimit
  rw [hj]
  rfl

theorem Job.overLimit_eq_true : j.overLimit = true ↔ j.desc.limit ≠ 0 ∧ j.desc.limit * 1000 < j.runTicks := by
  simp [Job.overLimit]

/-- A job beyond its run limit is to end (R359). -/
theorem exec_runLimit_over (hj : s.liveJob n.val = some j) (h0 : j.desc.limit ≠ 0) (h : j.desc.limit * 1000 < j.runTicks) :
    exec (.runLimit n) s = .next (s.limitJob n.val) := by
  rw [exec_runLimit_eq hj, if_pos (Job.overLimit_eq_true.mpr ⟨h0, h⟩)]

/-- A job within its run limit, or without one, goes on (R359). -/
theorem exec_runLimit_within (hj : s.liveJob n.val = some j) (h : j.desc.limit = 0 ∨ j.runTicks ≤ j.desc.limit * 1000) :
    exec (.runLimit n) s = .next s := by
  rw [exec_runLimit_eq hj, if_neg]
  rw [Job.overLimit_eq_true]
  omega

end ending

/-- Settles O35: a job is taken, starts at its epoch on cores with their numbers, ends with its record or at its run limit. -/
theorem jobsAreTakenStartedAndEnded : Obligations.JobsAreTakenStartedAndEnded := by
  refine fun s n q j => ⟨?_, exec_jobTake_waits, exec_jobEpoch_waits, ?_, ?_, fun hj hc hs => ⟨fun he hp hst hco => ?_,
    fun e he h => ?_⟩, exec_runLimit_over, exec_runLimit_within⟩
  · rintro t hm hq hd hp rfl
    exact exec_jobTake_takes hm hq hd hp
  · rintro hj hd u cs rfl rfl
    rw [exec_jobEpoch_starts hj hd]
    exact ⟨fun hs => congrArg _ (if_neg (by simp [hs])), fun hs => congrArg _ (if_pos hs)⟩
  · rintro k l nc ck rfl
    obtain ⟨h1, h2, h3, h4, h5⟩ := Core.sreg_startAt (k := s.core 0) (j := j.cur) (l := l) (nc := nc) (ck := ck)
    exact ⟨rfl, rfl, h1, h2, h3, h4, h5, rfl, rfl⟩
  · have hend : s.mayEnd n.val j := fun _ => ⟨hp, hst, hco⟩
    refine ⟨fun h => ?_, exec_jobEnd_drains hj hc hs hend⟩
    rw [exec_jobEnd_ends hj hc hs hend h, he]
    rfl
  · have hend : s.mayEnd n.val j := fun hn => absurd (hn.symm.trans he) (Option.some_ne_none e).symm
    rw [exec_jobEnd_ends hj hc hs hend h, he]
    rfl

end Sys2Proof.Machine

/-! PROOFS, 11_jobs_shares_deadlines.md. Checkpoints reached and judged, the save of a preempted job, and its resumption. -/

namespace Sys2Proof.Machine

section reached
variable {s : State} {n : Fin 256} {c0 i : Nat} {cs : List Nat} {j : Job}

/-- A job whose cores all wait at checkpoint `i` in frame `f` (R362). -/
def Job.atCkpt (j : Job) (i f : Nat) : Job :=
  { j with ckptIndex := i, lastCkpt := if j.fellBack then j.lastCkpt else i, stopped := f }

/-- A device whose job goes on as given. -/
def State.withJob (s : State) (n : Nat) (j : Job) : State := s.modVd n (fun v => { v with running := some j })

/-- Whether the deadline monitor judges a job at checkpoint `i` (R364). -/
def Job.judged (j : Job) (i : Nat) : Bool :=
  j.desc.deadlineEn && !j.fellBack && decide (1 ≤ i) && decide (i ≤ j.desc.nckpt)

/-- Whether a job is projected beyond its deadline at checkpoint `i`, by the words of its cost table (R364). -/
def State.late (s : State) (n i : Nat) (j : Job) : Bool :=
  j.judged i && projectsLate ((s.time.toNat : Int) - j.stamp) j.runTicks (s.devLE n j.desc.costAddr 4 : Nat)
    (s.devLE n (j.desc.costAddr + 4 * i) 4 : Nat) j.desc.deadline j.desc.margin

/-- The cost table as the monitor reads it (R364). -/
def State.costSeen (s : State) (n i : Nat) (j : Job) : State :=
  (s.devSeen n j.desc.costAddr 4).devSeen n (j.desc.costAddr + 4 * i) 4

/-- The cores at a checkpoint stay there where a rebind or a preemption waits, and go on where none does (R362, R363). -/
def State.ckptServed (s : State) (n : Nat) : State :=
  if s.ckptWanted n then
    s.modVd n (fun v => { v with running := v.running.map (fun (j : Job) => { j with phase := .ckpt }) })
  else s.releaseCkpt n

/-- The deadline monitor at a checkpoint of a job within its run limit (R364, R365). -/
def State.monitored (s : State) (n i : Nat) (j : Job) : State :=
  let t := if j.judged i then s.costSeen n i j else s
  if s.late n i j ∧ j.fallback.isSome then t.startFallback n i j
  else (if s.late n i j then t.withJob n { j with late := true } else t).ckptServed n

/-- Once every core of a job waits at a checkpoint, its run limit is tested, then its deadline (R359, R362, R364). -/
theorem exec_checkpoint_eq (hj : s.liveJob n.val = some j) (hcs : s.coresOf n.val = c0 :: cs) (hp : j.phase = .running)
    (hall : ∀ c ∈ c0 :: cs, (s.core c).ckptAt.isSome = true) (hi : (s.core c0).ckptAt = some i) :
    exec (.checkpoint n) s = .next (if j.overLimit then (s.withJob n.val (j.atCkpt i s.frame)).limitJob n.val
      else (s.withJob n.val (j.atCkpt i s.frame)).monitored n.val i (j.atCkpt i s.frame)) := by
  have hwait : ¬(j.phase ≠ .running ∨ (c0 :: cs).any (fun c => (s.core c).ckptAt.isNone) = true) := by
    rintro (h | h)
    · exact h hp
    · obtain ⟨c, hc, hnone⟩ := List.any_eq_true.mp h
      exact Option.isSome_iff_ne_none.mp (hall c hc) (Option.isNone_iff_eq_none.mp hnone)
  change execCheckpoint n s = _
  unfold execCheckpoint
  dsimp only
  rw [hj, hcs]
  dsimp only
  rw [if_neg hwait, hi]
  rfl

/-- A job without a deadline is not judged (R364). -/
theorem Job.judged_of_deadlineEn (h : j.desc.deadlineEn = false) : j.judged i = false := by
  rw [Job.judged, h]
  rfl

/-- Without a judgement the cores are served at once (R362, R363). -/
theorem State.monitored_unjudged {n : Nat} (h : j.judged i = false) : s.monitored n i j = s.ckptServed n := by
  have hl : s.late n i j = false := by rw [State.late, h, Bool.false_and]
  unfold State.monitored
  simp [h, hl]

/-- A job projected late starts its fallback, where it has one (R365). -/
theorem State.monitored_late {n : Nat} (h : j.judged i = true) (hl : s.late n i j = true) (hf : j.fallback.isSome = true) :
    s.monitored n i j = (s.costSeen n i j).startFallback n i j := by
  unfold State.monitored
  dsimp only
  rw [if_pos h, if_pos ⟨hl, hf⟩]

end reached

section clean
variable {s : State} {n : Fin 256} {j : Job} {b : BindOp}

/-- Before the frame boundary that follows its arrival a checkpoint is not judged (R363). -/
theorem exec_checkpointClean_waits (hj : s.liveJob n.val = some j) (h : s.onBoundary = false ∨ s.frame ≤ j.stopped) :
    exec (.checkpointClean n) s = .next s := by
  change execCheckpointClean n s = _
  unfold execCheckpointClean
  dsimp only
  rw [hj]
  exact congrArg ok (if_pos (.inr (h.imp_left (by simp))))

section boundary
variable (hj : s.liveJob n.val = some j) (hp : j.phase = .ckpt) (hb : s.onBoundary = true) (hf : j.stopped < s.frame)
include hj hp hb hf

/-- From a checkpoint that is not clean the cores go on (R363). -/
theorem exec_checkpointClean_goesOn (hc : s.cleanAt n.val j = false) : exec (.checkpointClean n) s
    = .next ((s.modVd n.val (fun v => { v with
        running := v.running.map (fun (j : Job) => { j with phase := .running }) })).releaseCkpt n.val) := by
  change execCheckpointClean n s = _
  unfold execCheckpointClean
  dsimp only
  rw [hj]
  dsimp only
  rw [if_neg (by simp [hp, hb, hf]), hc]
  rfl

/-- At a clean checkpoint a MOVE that quiesces the device is served first (R339, R363). -/
theorem exec_checkpointClean_moves (hc : s.cleanAt n.val j = true) (hr : s.binder.running = some b) (hv : b.vd = n.val)
    (hm : b.isMove = true) (hq : b.st = .quiescing) : exec (.checkpointClean n) s = .next (s.quiesce b) := by
  change execCheckpointClean n s = _
  unfold execCheckpointClean
  dsimp only
  rw [hj]
  dsimp only
  rw [if_neg (by simp [hp, hb, hf]), hc, hr, Option.filter_some_pos (by simp [hv, hm, hq])]
  rfl

/-- At a clean checkpoint without a rebind the requested preemption begins (R363, R370). -/
theorem exec_checkpointClean_saves (hc : s.cleanAt n.val j = true) (hr : s.binder.running = none)
    (hreq : (s.vd n.val).preemptReq = true) : exec (.checkpointClean n) s = .next (s.startSave n.val) := by
  change execCheckpointClean n s = _
  unfold execCheckpointClean
  dsimp only
  rw [hj]
  dsimp only
  rw [if_neg (by simp [hp, hb, hf]), hc, hr, hreq]
  rfl

end boundary

end clean

section saving
variable {s : State} {n : Fin 256} {j : Job}

/-- The contexts of a device's cores, each in its place of a save area (R369). -/
def State.contextsFilled (s : State) (n base : Nat) : State :=
  ((List.range (s.coresOf n).length).zip (s.coresOf n)).foldl (fun t e =>
    t.devFill n (base + e.1 * ctxSize) ctxSize (t.core e.2).ctxByte) s

/-- The lines of a save area written back and removed (R370). -/
def State.areaOut (s : State) (n base : Nat) : State := (s.saveLines n base).foldl (fun t l => t.lineOut n l) s

/-- A job whose context is saved leaves the cores and stays at the head of its queue (R370, R371). -/
def State.preempted (s : State) (n : Nat) (j : Job) : State :=
  (((s.attribute n).acctAdd n 5 1).idleCores n).modVd n (fun v => { v with
    running := v.incoming, incoming := none, preemptReq := false
    preempted := v.preempted ++ [{ j with phase := .preempted, preempts := satAdd 255 j.preempts 1 }] })

/-- A save goes on while the cores drain, while its frames run and while a line of its area is busy; then it ends (R370, R371). -/
theorem exec_preemptionSaveEnd_eq (hj : s.liveJob n.val = some j) (hp : j.phase = .saving) : exec (.preemptionSaveEnd n) s
    = .next (if s.coresOver n.val 2 = false then s.startDrains n.val
      else if s.frame < j.saved + s.saveFrames n.val j.saveBase true
          ∨ (s.saveLines n.val j.saveBase).any (s.lineBusy n.val) = true then s
      else ((s.contextsFilled n.val j.saveBase).areaOut n.val j.saveBase).preempted n.val j) := by
  change execPreemptionSaveEnd n s = _
  unfold execPreemptionSaveEnd
  dsimp only
  rw [hj]
  dsimp only
  rw [if_neg (not_not_intro hp)]
  simp only [Bool.not_eq_true]
  rfl

theorem exec_preemptionSaveEnd_drains (hj : s.liveJob n.val = some j) (hp : j.phase = .saving)
    (ho : s.coresOver n.val 2 = false) : exec (.preemptionSaveEnd n) s = .next (s.startDrains n.val) := by
  rw [exec_preemptionSaveEnd_eq hj hp, if_pos ho]

theorem exec_preemptionSaveEnd_waits (hj : s.liveJob n.val = some j) (hp : j.phase = .saving)
    (ho : s.coresOver n.val 2 = true) (hf : s.frame < j.saved + s.saveFrames n.val j.saveBase true) :
    exec (.preemptionSaveEnd n) s = .next s := by
  rw [exec_preemptionSaveEnd_eq hj hp, if_neg (by simp [ho]), if_pos (.inl hf)]

theorem exec_preemptionSaveEnd_ends (hj : s.liveJob n.val = some j) (hp : j.phase = .saving)
    (ho : s.coresOver n.val 2 = true) (hf : j.saved + s.saveFrames n.val j.saveBase true ≤ s.frame)
    (hl : (s.saveLines n.val j.saveBase).any (s.lineBusy n.val) = false) : exec (.preemptionSaveEnd n) s
    = .next (((s.contextsFilled n.val j.saveBase).areaOut n.val j.saveBase).preempted n.val j) := by
  rw [exec_preemptionSaveEnd_eq hj hp, if_neg (by simp [ho]), if_neg (by simp [hl, hf])]

end saving

section resuming
variable {s : State} {n : Fin 256} {q : Nat} {j : Job}

/-- A preempted job leaves the head of its queue (R351). -/
def State.queueLeft (s : State) (n q : Nat) : State :=
  s.modVd n (fun v => { v with preempted := v.preempted.filter (fun (x : Job) => !decide (x.queue = q)) })

/-- The reservation of reduction entries of a queue's job is gone (R188). -/
def State.unreserved (s : State) (n q : Nat) : State :=
  { s with fab := { s.fab with
    redRes := s.fab.redRes.filter (fun (r : RedRes) => !(decide (r.vd = n) && decide (r.queue = q))) } }

/-- A device without a job resumes the preempted one at the head of its next queue: it ends INVALID where its save area
fails the check, else its contexts are read back (R351, R370, R553). -/
theorem exec_jobResume_eq (hm : s.mayTake n.val = true) (hr : (s.vd n.val).running = none)
    (hq : s.nextQueue n.val = some q) (hd : (s.vd n.val).desc.sharedSet = 0) (hj : (s.vd n.val).preemptedIn q = some j) :
    exec (.jobResume n) s = .next (if (s.queueLeft n.val q).saveAt n.val q ≠ j.saveBase
        ∨ ¬ (s.queueLeft n.val q).saveOk n.val j.regions j.saveBase (((s.queueLeft n.val q).coresOf n.val).length * ctxSize)
      then ((((s.queueLeft n.val q).unreserved n.val q).complete n.val q j.regions
        (j.completion ⟨4, 0, 0x7F⟩)).shareChoice n.val)
      else (((s.queueLeft n.val q).readContexts n.val j).modVd n.val (fun v => { v with
        running := some { j with phase := .restoring, saved := (s.queueLeft n.val q).frame } })).noteRun n.val) := by
  have hl : s.liveJob n.val = none := by
    unfold State.liveJob
    rw [hr]
  have hsw : s.switchedIn n.val = true := by simp [State.switchedIn, hd]
  change execJobResume n s = _
  unfold execJobResume
  dsimp only
  rw [hl]
  dsimp only
  rw [if_neg (by simp [hm, hr]), hq, State.turn_dedicated hd]
  dsimp only
  rw [hsw, hj]
  rfl

/-- Once its contexts are back, at a frame boundary, a job goes on (R370, R371). -/
theorem exec_jobResume_goesOn (hj : s.liveJob n.val = some j) (hp : j.phase = .restoring) (hb : s.onBoundary = true)
    (hf : j.saved + s.saveFrames n.val j.saveBase false ≤ s.frame) : exec (.jobResume n) s = .next (s.goOn n.val j) := by
  change execJobResume n s = _
  unfold execJobResume
  dsimp only
  rw [hj]
  exact congrArg ok (if_pos ⟨hp, hb, hf⟩)

@[simp] theorem State.releaseCkpt_vds {n : Nat} : (s.releaseCkpt n).vds = s.vds :=
  foldl_keeps_proj State.vds (fun _ _ => State.modCore_vds) _ _

/-- A job that goes on has its epoch moved by the frames for which it stood still (R363, R370). -/
theorem State.running_goOn {n : Nat} : ((s.goOn n j).vd n).running
    = some { j with phase := .running, epoch := j.epoch + (s.frame + 1 - j.stopped), engines := [] } := by
  unfold State.goOn
  dsimp only
  rw [State.vd_congr State.releaseCkpt_vds, State.vd_modVd_running rfl]
  rfl

end resuming

/-- Settles O36: checkpoints reached, then judged, the end of a save, a job that resumes and one that goes on. PREEMPTS
counting at the end of the save (log 33) and the attribution there (log 56) are the model's choice. -/
theorem checkpointsAndPreemptionComplete : Obligations.CheckpointsAndPreemptionComplete := by
  refine fun s u n c0 i q cs j k => ⟨?_, exec_checkpointClean_waits, fun hj hp hb hf =>
    ⟨exec_checkpointClean_goesOn hj hp hb hf, fun b => exec_checkpointClean_moves hj hp hb hf,
      exec_checkpointClean_saves hj hp hb hf⟩, fun hj hp => ⟨exec_preemptionSaveEnd_drains hj hp,
    exec_preemptionSaveEnd_waits hj hp, ?_⟩, ?_, fun hj hp hb hf => ⟨exec_jobResume_goesOn hj hp hb hf, State.running_goOn⟩⟩
  · intro hj hcs hp hall hi hk hu
    obtain rfl : k = j.atCkpt i s.frame := hk
    obtain rfl : u = s.withJob n.val (j.atCkpt i s.frame) := hu
    rw [exec_checkpoint_eq hj hcs hp hall hi]
    refine ⟨fun ho => by rw [if_pos ho], fun ho hd hw => ?_, fun ho hd hw => ?_, fun ho hd hb h1 hn hl hf => ?_⟩
    · rw [if_neg (by simp [ho]), State.monitored_unjudged (j := j.atCkpt i s.frame) (Job.judged_of_deadlineEn hd)]
      exact congrArg _ (if_neg (by simp [hw]))
    · rw [if_neg (by simp [ho]), State.monitored_unjudged (j := j.atCkpt i s.frame) (Job.judged_of_deadlineEn hd)]
      exact congrArg _ (if_pos hw)
    · have hjd : (j.atCkpt i s.frame).judged i = true := by simp [Job.judged, Job.atCkpt, hd, hb, h1, hn]
      rw [if_neg (by simp [ho]), State.monitored_late hjd (Bool.and_eq_true_iff.mpr ⟨hjd, hl⟩) hf]
      rfl
  · intro w ho hf hl hu hw hk
    obtain rfl : u = s.contextsFilled n.val j.saveBase := hu
    obtain rfl : w = State.areaOut _ n.val j.saveBase := hw
    obtain rfl := hk
    exact exec_preemptionSaveEnd_ends hj hp ho hf hl
  · intro hm hr hq hd hj hu
    obtain rfl : u = s.queueLeft n.val q := hu
    rw [exec_jobResume_eq hm hr hq hd hj]
    exact ⟨fun ha hok => congrArg _ (if_neg (not_or.mpr ⟨not_not_intro ha, not_not_intro hok⟩)),
      fun ha => congrArg _ (if_pos (.inl ha))⟩

end Sys2Proof.Machine

/-! PROOFS, 12_host_port.md. Messages of the host that no home takes, and the responses that the port sends, in and above their
bounds. -/

namespace Sys2Proof.Machine

section record
variable {s : State} {r : ErrRec}

/-- A record that finds room is counted in its class and waits with the time at which it was taken (R513, R518). -/
theorem State.record_of_room (h : s.err.waiting.length < 256) :
    s.record r = { s.bump (Reg.errorClassCount r.cls) with
      err := { s.err with waiting := s.err.waiting ++ [{ r with time := s.time.toNat }] } } :=
  if_pos h

theorem State.reg_record_of_room {k : Nat} (h : s.err.waiting.length < 256) (hk : k ≠ Reg.errorClassCount r.cls) :
    (s.record r).reg k = s.reg k := by
  rw [State.record_of_room h]
  exact State.reg_bump_ne hk

end record

section messages
variable {s : State} {dpa code : Nat}

/-- A speculative read is dropped, whether the link is up or not (R391). -/
theorem exec_memspecrd : exec (.memspecrd dpa) s = .next s := rfl

theorem exec_meminv (hl : s.linkUp = true) :
    exec (.meminv dpa) s = .next { s with host := { s.host with sent := (dpa, []) :: s.host.sent } } :=
  congrArg ok (if_pos hl)

theorem exec_unsupportedMessage (hl : s.linkUp = true) :
    exec (.unsupportedMessage code) s = .next { s with host := { s.host with rasLogged := true } } :=
  congrArg ok (if_pos hl)

end messages

/-! Where the response to a request is measured, and what a late one leaves behind (R397, R399) -/

/-- The ticks within which a request is to be answered (R399). -/
def HostReq.bound (r : HostReq) : Nat := if r.read then 150 else 100

/-- The register of the longest response of a request's kind (R400). -/
def HostReq.maxReg (r : HostReq) : Nat := if r.read then Reg.hostportRdMax else Reg.hostportWrMax

/-- The counter of the late responses of a request's kind (R399). -/
def HostReq.lateReg (r : HostReq) : Nat := if r.read then Reg.hostportRdLate else Reg.hostportWrLate

/-- The record of a late response: the owner of the extent and the measured time (R399). -/
def HostReq.lateRec (r : HostReq) (ticks : Nat) : ErrRec :=
  { ErrRec.mk0 0 7 (if r.read then 1 else 2) 0 with
    vd := r.vd, ext := r.vd.map (fun _ => bitsOf r.dpa 30 10), addr := some r.dpa, detail := min ticks (2 ^ 24 - 1) }

/-- Request `i` answered with `bs` and the response measured (R399). -/
def State.responded (s : State) (i : Nat) (r : HostReq) (bs : List Byte) (ticks : Nat) : State :=
  State.noteMax { s with host := { s.host with reqs := delNth s.host.reqs i, sent := (r.dpa, bs) :: s.host.sent } }
    r.maxReg ticks

/-- A late response counted, recorded and told to the PF (R399). -/
def State.lateNoted (s : State) (r : HostReq) (ticks : Nat) : State :=
  ((s.bump r.lateReg).record (r.lateRec ticks)).vecPf 3

/-- The event that the owner of a late response gets where LATE_EVENT asks for one (R399). -/
def State.ownerTold (s : State) (r : HostReq) (ticks : Nat) : State :=
  match s.regBit Reg.hostportCtrl 0, r.vd with
  | true, some n => s.event n 0x50 (b2n (!r.read) * 2 ^ 24 + min ticks (2 ^ 24 - 1))
  | _, _ => s

section registers
variable (r : HostReq)

theorem HostReq.lateReg_ne_maxReg : r.lateReg ≠ r.maxReg := by
  unfold HostReq.lateReg HostReq.maxReg
  split <;> decide

theorem HostReq.lateReg_ne_classCount : r.lateReg ≠ Reg.errorClassCount 7 := by
  unfold HostReq.lateReg
  split <;> decide

theorem HostReq.ctrl_ne_maxReg : Reg.hostportCtrl ≠ r.maxReg := by
  unfold HostReq.maxReg
  split <;> decide

theorem HostReq.ctrl_ne_lateReg : Reg.hostportCtrl ≠ r.lateReg := by
  unfold HostReq.lateReg
  split <;> decide

end registers

section noted
variable {s : State} {r : HostReq} {i k ticks : Nat} {bs : List Byte}

theorem State.responded_fields : s.responded i r bs ticks = { s with
    regs := (s.responded i r bs ticks).regs
    host := { s.host with reqs := delNth s.host.reqs i, sent := (r.dpa, bs) :: s.host.sent } } := rfl

theorem State.canonical_responded (hc : s.canonical = true) : (s.responded i r bs ticks).canonical = true :=
  State.canonical_setRegFld hc

theorem State.reg_responded_ne (hk : k ≠ r.maxReg) : (s.responded i r bs ticks).reg k = s.reg k :=
  State.reg_setRegFld_ne hk

section room
variable (h : s.err.waiting.length < 256)
include h

theorem State.lateNoted_eq : s.lateNoted r ticks = { s with
    regs := (s.lateNoted r ticks).regs
    err := { s.err with waiting := s.err.waiting ++ [{ r.lateRec ticks with time := s.time.toNat }] }
    vectors := (none, 3) :: s.vectors } := by
  unfold State.lateNoted
  rw [State.record_of_room (s := s.bump r.lateReg) h]
  unfold State.vecPf State.bump State.setReg
  rfl

/-- The record of a late response counts in its class and in no register of the port. -/
theorem State.reg_lateNoted (hk : k ≠ Reg.errorClassCount 7) : (s.lateNoted r ticks).reg k = (s.bump r.lateReg).reg k :=
  State.reg_record_of_room (s := s.bump r.lateReg) h hk

theorem State.reg_lateNoted_count (hc : s.canonical = true) :
    (s.lateNoted r ticks).reg r.lateReg = satInc32 (s.reg r.lateReg) := by
  rw [State.reg_lateNoted h r.lateReg_ne_classCount, State.reg_bump hc, if_pos rfl]

theorem State.reg_lateNoted_ctrl : (s.lateNoted r ticks).reg Reg.hostportCtrl = s.reg Reg.hostportCtrl := by
  rw [State.reg_lateNoted h (by decide), State.reg_bump_ne r.ctrl_ne_lateReg]

end room

theorem State.ownerTold_off (he : s.regBit Reg.hostportCtrl 0 = false) : s.ownerTold r ticks = s := by
  unfold State.ownerTold
  rw [he]

end noted

section responses
variable {s : State} {r : HostReq} {i ticks : Nat} {bs : List Byte}
variable (hl : s.linkUp = true) (hr : s.host.reqs[i]? = some r) (hb : r.resp = some bs)
  (ht : s.time.toNat = r.arrived + ticks)
include hl hr hb ht

/-- A response that is ready is sent and measured; one above its bound is noted, and its owner told (R399). -/
theorem exec_hostResponse_eq : exec (.hostResponse i ticks) s = .next (if ticks ≤ r.bound then s.responded i r bs ticks
    else ((s.responded i r bs ticks).lateNoted r ticks).ownerTold r ticks) := by
  change execHostResponse i ticks s = _
  unfold execHostResponse
  rw [hr]
  dsimp only
  rw [hl, decide_eq_true ht, hb]
  rfl

theorem exec_hostResponse_inTime (h : ticks ≤ r.bound) :
    exec (.hostResponse i ticks) s = .next (s.responded i r bs ticks) :=
  (exec_hostResponse_eq hl hr hb ht).trans (congrArg ok (if_pos h))

theorem exec_hostResponse_late (h : r.bound < ticks) (hw : s.err.waiting.length < 256)
    (he : s.regBit Reg.hostportCtrl 0 = false) :
    exec (.hostResponse i ticks) s = .next ((s.responded i r bs ticks).lateNoted r ticks) := by
  have hctrl : ((s.responded i r bs ticks).lateNoted r ticks).regBit Reg.hostportCtrl 0 = false := by
    rw [State.regBit, State.reg_lateNoted_ctrl (s := s.responded i r bs ticks) hw,
      State.reg_responded_ne r.ctrl_ne_maxReg]
    exact he
  rw [exec_hostResponse_eq hl hr hb ht, if_neg (Nat.not_le.mpr h), State.ownerTold_off hctrl]

end responses

/-- Settles O39: three kinds of message that no home takes, then a response in its bound and one above it. That the answer to
an invalidation is not measured is the model's choice (log 34). -/
theorem hostMessagesAndResponsesComplete : Obligations.HostMessagesAndResponsesComplete := by
  refine ⟨fun s dpa code i ticks r bs hl ht => ⟨exec_memspecrd, exec_meminv hl, exec_unsupportedMessage hl,
    fun hr hb h => exec_hostResponse_inTime hl hr hb ht h⟩, fun s i ticks r bs hc hl hr hb ht h hw he => ?_⟩
  have hw' : (s.responded i r bs ticks).err.waiting.length < 256 := hw
  have hnoted := State.lateNoted_eq (r := r) (ticks := ticks) hw'
  refine ⟨_, exec_hostResponse_late hl hr hb ht h hw he, ?_, ?_, ?_, { r.lateRec ticks with time := s.time.toNat }, ?_,
    rfl, rfl, rfl, rfl, rfl, rfl, rfl, rfl⟩
  · rw [hnoted, State.responded_fields]
  · rw [hnoted, State.responded_fields]
  · have hcount := State.reg_lateNoted_count (r := r) (ticks := ticks) hw' (State.canonical_responded hc)
    rwa [State.reg_responded_ne r.lateReg_ne_maxReg] at hcount
  · rw [hnoted, State.responded_fields]

end Sys2Proof.Machine
/-! PROOFS, 00_scope.md. A step by the two cases of the queue, the frame of a command, and the tick of an empty queue. -/

namespace Sys2Proof.Machine

section tick
variable {s : State}

/-- Two states that differ at most in the budget states of the dies. -/
def State.sameButDies (s t : State) : Prop := t = { s with power := { s.power with dies := t.power.dies } }

theorem State.sameButDies_modPdie {t : State} {d : Nat} {f : DieBudget → DieBudget} (h : s.sameButDies t) :
    s.sameButDies (t.modPdie d f) := by
  unfold State.sameButDies State.modPdie at *
  rw [h]

/-- Budget states changed die by die leave everything else alone. -/
theorem State.sameButDies_foldl {t : State} {l : List Nat} {f : State → Nat → DieBudget → DieBudget} (h : s.sameButDies t) :
    s.sameButDies (l.foldl (fun u d => u.modPdie d (f u d)) t) :=
  List.foldlRecOn l _ h (fun _ hu _ _ => State.sameButDies_modPdie hu)

/-- The count of ACLK is kept die by die, and nothing else counts it (R448). -/
theorem State.tickAclk_fields :
    s.tickAclk = { s with power := { s.power with dies := s.tickAclk.power.dies } } :=
  State.sameButDies_foldl (s := s) (f := fun _ _ => DieBudget.tick) rfl

theorem FwSt.tick_fields (f : FwSt) (now : Nat) :
    f.tick now = { f with report := (f.tick now).report, sent := (f.tick now).sent } := by
  unfold FwSt.tick
  split
  · split <;> rfl
  · rfl

/-- What a tick counts by itself, before the fabric moves (R451, R499). -/
def State.timeCounted (s : State) : State :=
  { s.tickAclk with
    time := s.time + 1
    vds := s.vds.map (fun (e : Nat × VDev) => (e.1, s.tickVd e.1 e.2))
    fw := s.fw.tick (s.time.toNat + 1) }

theorem State.tick_powered (hp : s.clock.powered = true) : s.tick = s.timeCounted.tickFabric s := if_pos hp

theorem State.tick_unpowered (hp : s.clock.powered = false) : s.tick = s := if_neg (by simp [hp])

theorem State.timeCounted_fields : s.timeCounted = { s with
    time := s.time + 1
    vds := s.timeCounted.vds
    fw := { s.fw with report := s.timeCounted.fw.report, sent := s.timeCounted.fw.sent }
    power := { s.power with dies := s.timeCounted.power.dies } } := by
  unfold State.timeCounted
  rw [State.tickAclk_fields, FwSt.tick_fields]

/-- Nothing of the fabric moves while the clocks of the dies are gated (R460). -/
theorem State.tick_gated (hp : s.clock.powered = true) (hg : s.clock.gated = true) : s.tick = s.timeCounted := by
  have hg' : s.timeCounted.clock.gated = true := by rw [State.timeCounted_fields]; exact hg
  rw [State.tick_powered hp]
  exact if_pos hg'

theorem State.tickArrivals_empty (h : s.fab.chunks = []) (a b : Nat) : s.tickArrivals a b = s := by
  unfold State.tickArrivals
  rw [h]
  rfl

theorem State.tickElastic_empty (h : s.fab.engines = []) : s.tickElastic = s := by
  unfold State.tickElastic
  rw [h]
  rfl

/-- The flits that a sender keeps for replay (R194). -/
def State.spentFlits (s : State) : State :=
  { s with fab := { s.fab with
      spent := []
      sent := s.fab.sent.filter (fun x => decide (s.time.toNat < x.sentAt + 4)) } }

theorem State.tickDemand_empty (h : s.fab.dem = []) : s.tickDemand = s.spentFlits := by
  have ho : s.demandOuts = [] := by unfold State.demandOuts; rw [h]; rfl
  unfold State.tickDemand
  rw [ho]
  rfl

/-- An empty fabric moves nothing but the flits that are kept for replay. -/
theorem State.tick_quiet (hp : s.clock.powered = true) (hg : s.clock.gated = false) (hc : s.fab.chunks = [])
    (he : s.fab.engines = []) (hd : s.fab.dem = []) (hf : State.frame { s with time := s.time + 1 } = s.frame) :
    s.tick = s.timeCounted.spentFlits := by
  have hfab : s.timeCounted.fab = s.fab := by rw [State.timeCounted_fields]
  have hg' : s.timeCounted.clock.gated = false := by rw [State.timeCounted_fields]; exact hg
  have hf' : s.timeCounted.spentFlits.frame = s.frame := by
    rw [← hf, State.spentFlits, State.timeCounted_fields]
    rfl
  rw [State.tick_powered hp]
  unfold State.tickFabric
  rw [if_neg (ne_true_of_eq_false hg'), State.tickArrivals_empty (by rw [hfab]; exact hc),
    State.tickElastic_empty (by rw [hfab]; exact he), State.tickDemand_empty (by rw [hfab]; exact hd)]
  exact if_pos hf'

end tick

/-- Settles O1: the front command of a queue that is not empty is the second case of a step. -/
theorem stepRunsTheFrontCommand : Obligations.StepRunsTheFrontCommand := by
  intro c cs s
  rfl

/-- Settles O5: a command keeps the queue and the time base, a power-on the queue alone. -/
theorem commandsLeaveQueueAndTimeAlone : Obligations.CommandsLeaveQueueAndTimeAlone := by
  intro c s t hs he
  by_cases hp : ∃ p e, c = .powerOn p e
  · obtain ⟨p, e, rfl⟩ := hp
    obtain ⟨-, hq, -⟩ := (execPowerOn_keeps (State.Keeps.self hs)).next he
    exact ⟨congrArg Prod.fst hq, fun h => absurd rfl (h p e)⟩
  · obtain ⟨-, hq, -⟩ := (exec_keeps (fun p e hpe => hp ⟨p, e, hpe⟩) (State.Keeps.self hs)).next he
    exact ⟨congrArg Prod.fst hq, fun _ => congrArg Prod.snd hq⟩

/-- Settles O2: an empty queue ticks; a tick without power, with power, with gated clocks, and over an empty fabric. That an
empty queue ticks is the model's choice (log 2). -/
theorem emptyQueueTicksTheTimeBase : Obligations.EmptyQueueTicksTheTimeBase := by
  refine fun s => ⟨fun h => ?_, State.tick_unpowered, fun hp hc => ?_, fun hp hg => ?_, fun hp hg hc he hd hf => ?_⟩
  · unfold step
    rw [h]
  · obtain ⟨hcan, hq, -⟩ := State.tick_keeps_powered (State.Keeps.self hc) hp
    exact ⟨State.tick_time hc hp, congrArg Prod.fst hq, hcan⟩
  · rw [State.tick_gated hp hg]
    have h := State.timeCounted_fields (s := s)
    generalize s.timeCounted = t at h
    rw [h]
    exact ⟨rfl, rfl, rfl⟩
  · rw [State.tick_quiet hp hg hc he hd hf, State.spentFlits]
    have h := State.timeCounted_fields (s := s)
    generalize s.timeCounted = t at h
    rw [h]
    exact ⟨rfl, rfl, rfl⟩

end Sys2Proof.Machine
/-! PROOFS, 13_network_port.md. Delivery of staged segments, the answers of their homes, and acknowledgements. -/

namespace Sys2Proof.Machine

section delivery
variable {s : State} {i : Nat} {x : Staged}

/-- A staged segment of its pair, accepted before place `i`, has parts left to send (R417). -/
def State.earlierUnsent (s : State) (i : Nat) (x : Staged) : Bool :=
  (s.net.staging.take i).any (fun y => decide (y.vd = x.vd) && decide (y.q = x.q) && decide (y.sent < y.parts))

/-- The reduce-write of a segment that had a Nack (R418). -/
def State.nackOf (s : State) (x : Staged) : Option HomeOp := s.nacked.find? (fun o => decide (o.src = .net x.id))

/-- A staged segment waits while a rebind pauses its device; then a Nack goes first, then its parts in their turn
(R417, R418, R427). -/
theorem exec_segmentDelivery_eq (hx : s.net.staging[i]? = some x) : exec (.segmentDelivery i) s
    = .next (if s.deliveryPaused x.vd then s else (s.nackOf x).elim
        (if x.parts ≤ x.sent ∨ s.earlierUnsent i x then s else if x.reduce then s.deliverReduce x else s.deliverWrite x)
        (fun o => ({ s with nacked := s.nacked.erase o }).sendHomeOp o)) := by
  change execSegmentDelivery i s = _
  unfold execSegmentDelivery
  rw [hx]
  dsimp only
  change ok _ = ok _
  congr 2
  unfold State.nackOf
  generalize s.nacked.find? _ = o
  cases o <;> rfl

theorem exec_segmentDelivery_paused (hx : s.net.staging[i]? = some x) (hp : s.deliveryPaused x.vd = true) :
    exec (.segmentDelivery i) s = .next s := by
  rw [exec_segmentDelivery_eq hx, if_pos hp]

theorem exec_segmentDelivery_nacked {o : HomeOp} (hx : s.net.staging[i]? = some x) (hp : s.deliveryPaused x.vd = false)
    (ho : s.nackOf x = some o) :
    exec (.segmentDelivery i) s = .next (({ s with nacked := s.nacked.erase o }).sendHomeOp o) := by
  rw [exec_segmentDelivery_eq hx, if_neg (ne_true_of_eq_false hp), ho]
  rfl

theorem exec_segmentDelivery_inTurn (hx : s.net.staging[i]? = some x) (hp : s.deliveryPaused x.vd = false)
    (ho : s.nackOf x = none) (hs : x.sent < x.parts) (he : s.earlierUnsent i x = false) :
    exec (.segmentDelivery i) s = .next (if x.reduce then s.deliverReduce x else s.deliverWrite x) := by
  rw [exec_segmentDelivery_eq hx, if_neg (ne_true_of_eq_false hp), ho]
  exact congrArg _ (if_neg (by simp [he, hs]))

end delivery

section sectors
variable {addr f left done : Nat}

theorem sumN_cons (a : Nat) (l : List Nat) : sumN (a :: l) = a + sumN l := by
  rw [sumN, sumN, ← List.sum_eq_foldl, ← List.sum_eq_foldl, List.sum_cons]

theorem sectorPartsFrom_none : sectorPartsFrom addr f 0 done = [] := by
  cases f <;> rfl

/-- The first write goes up to the end of its sector, the rest follow from there. -/
theorem sectorPartsFrom_some {k : Nat} (h : 0 < left) (hk : k = min (256 - (addr + done) % 256) left) :
    sectorPartsFrom addr (f + 1) left done = (done, k) :: sectorPartsFrom addr f (left - k) (done + k) := by
  subst hk
  exact if_neg (Nat.ne_of_gt h)

/-- With fuel for every sector that they touch, the parts make up the bytes. -/
theorem sum_sectorPartsFrom (h : (addr + done) % 256 + left ≤ 256 * f) :
    sumN ((sectorPartsFrom addr f left done).map (fun p => p.2)) = left := by
  induction f generalizing left done with
  | zero =>
    obtain rfl : left = 0 := by omega
    rfl
  | succ f ih =>
    rcases Nat.eq_zero_or_pos left with rfl | hl
    · rfl
    · rw [sectorPartsFrom_some hl rfl, List.map_cons, sumN_cons]
      rcases Nat.lt_or_ge (256 - (addr + done) % 256) left with hk | hk
      · rw [Nat.min_eq_left hk.le, ih (by omega)]
        omega
      · rw [Nat.min_eq_right hk, Nat.sub_self, sectorPartsFrom_none]
        rfl

/-- Each part has bytes, all of one sector. -/
theorem mem_sectorPartsFrom {p : Nat × Nat} (h : p ∈ sectorPartsFrom addr f left done) :
    0 < p.2 ∧ (addr + p.1) / 256 = (addr + p.1 + p.2 - 1) / 256 := by
  induction f generalizing left done with
  | zero => cases h
  | succ f ih =>
    rcases Nat.eq_zero_or_pos left with rfl | hl
    · cases h
    · rw [sectorPartsFrom_some hl rfl] at h
      rcases List.mem_cons.mp h with rfl | h
      · dsimp only
        omega
      · exact ih h

end sectors

section answers
variable {s : State} {i : Nat} {x : Staged} {notice : Bool}

/-- A staged segment with one more answer of its homes: a completion notice, or an acknowledgement (R418). -/
def Staged.answered (x : Staged) (notice : Bool) : Staged :=
  if notice then { x with notices := x.notices + 1 } else { x with acked := x.acked + 1 }

/-- The state in which the `i`-th answer of a home is counted for its segment (R404, R418). -/
def State.answerCounted (s : State) (i : Nat) (x : Staged) (notice : Bool) : State :=
  (({ s with net := { s.net with ackOut := delNth s.net.ackOut i } }).modStaged x.id
    (fun _ => x.answered notice)).flowControl x.pkt.prio.val

/-- The state in which the staging space of a segment is free again (R418). -/
def State.unstaged (s : State) (id : Nat) : State :=
  { s with net := { s.net with staging := s.net.staging.filter (fun z => !decide (z.id = id)) } }

/-- An answer is counted; the last one frees the staging space and lands or completes the segment (R418, R419). -/
theorem exec_networkWriteAck_eq (hi : s.net.ackOut[i]? = some (x.id, notice))
    (hx : s.net.staging.find? (fun z => decide (z.id = x.id)) = some x) : exec (.networkWriteAck i) s
    = .next (if (x.answered notice).acked < (x.answered notice).parts ∨ (x.answered notice).notices < (x.answered notice).early
      then s.answerCounted i x notice
      else if x.resp then ((s.answerCounted i x notice).unstaged x.id).readLanded x.vd x.q x.pkt
      else ((s.answerCounted i x notice).unstaged x.id).segComplete x.vd x.q x.pkt.msg) := by
  change execNetworkWriteAck i s = _
  unfold execNetworkWriteAck
  rw [hi]
  dsimp only
  rw [hx]
  rfl

end answers

section acks
variable {s : State} {n : Fin 256} {q : Fin 64} {ticks : Nat}

/-- The NAK of a pair that waits to be generated (R421). -/
def State.nakOf (s : State) (n q : Nat) : Option (Nat × Nat × TxFrame) :=
  s.net.naks.find? (fun y => decide (y.1 = n) && decide (y.2.1 = q))

/-- The state in which a pair's pending ACK is generated (R421). -/
def State.ackQueued (s : State) (n q : Nat) : State :=
  (s.modQp n q (fun r => { r with ackPending := false })).queueTx
    (.ctl n 4 (s.qp n q).ctx.peerQpn (s.qp n q).epsn 0 (s.qp n q).sackMap)

/-- The state in which a NAK is generated (R421). -/
def State.nakQueued (s : State) (y : Nat × Nat × TxFrame) : State :=
  ({ s with net := { s.net with naks := s.net.naks.erase y } }).queueTx y.2.2

theorem exec_ackSend_ack (hn : s.nakOf n.val q.val = none) (hp : (s.qp n.val q.val).ackPending = true) :
    exec (.ackSend n q ticks) s = .next ((s.ackQueued n.val q.val).ackMeasured n.val q.val ticks) := by
  change execAckSend n q ticks s = _
  unfold execAckSend
  dsimp only
  rw [← State.nakOf, hn]
  exact congrArg ok (if_neg (not_not_intro hp))

/-- A NAK with code 1, no room, is counted beside that (R416, R421). -/
theorem exec_ackSend_nak {y : Nat × Nat × TxFrame} {d psn code : Nat} (hn : s.nakOf n.val q.val = some y)
    (hy : y.2.2 = .ctl n.val 5 d psn code 0) : exec (.ackSend n q ticks) s
    = .next ((if code = 1 then (s.nakQueued y).bump Reg.netportRnr else s.nakQueued y).ackMeasured n.val q.val ticks) := by
  change execAckSend n q ticks s = _
  unfold execAckSend
  dsimp only
  rw [← State.nakOf, hn]
  dsimp only
  rw [← State.nakQueued, hy]
  by_cases hc : code = 1
  · rw [hc]
    rfl
  · rw [if_neg hc]
    split
    · rename_i heq
      exact absurd (TxFrame.ctl.inj heq).2.2.2.2.1 hc
    · rfl

theorem State.ackMeasured_inTime {n q : Nat} (h : ticks ≤ 200) : s.ackMeasured n q ticks = s := if_pos h

theorem State.ackMeasured_late {n q : Nat} (h : 200 < ticks) : s.ackMeasured n q ticks
    = ((s.bump Reg.netportAckLate).record { ErrRec.mk0 0 8 1 (s.physQp n q) with vd := some n }).vecPf 4 :=
  if_neg (Nat.not_le.mpr h)

end acks

/-- Settles O42: delivery, the sectors of a WRITE, the answers of the homes, then ACK and NAK. That an acknowledgement is queued
here and sent by SEGMENT_SEND is the model's choice (log 37). -/
theorem deliveryAndAcknowledgementComplete : Obligations.DeliveryAndAcknowledgementComplete := by
  refine ⟨fun s i x hx => ⟨exec_segmentDelivery_paused hx, fun o hp => exec_segmentDelivery_nacked hx hp, ?_⟩, ?_, ?_, ?_⟩
  · intro hp ho hs he
    rw [exec_segmentDelivery_inTurn hx hp ho hs he]
    exact ⟨fun hr => by rw [if_neg (ne_true_of_eq_false hr)], fun hr => by rw [if_pos hr]⟩
  · exact fun a len => ⟨sum_sectorPartsFrom (by omega), fun p hp => mem_sectorPartsFrom hp⟩
  · intro s u v i x y notice hi hx hy hu hv
    obtain rfl : y = x.answered notice := hy
    obtain rfl : u = s.answerCounted i x notice := hu
    obtain rfl : v = (s.answerCounted i x notice).unstaged x.id := hv
    rw [exec_networkWriteAck_eq hi hx]
    refine ⟨fun h => by rw [if_pos h], fun ha hn => ?_⟩
    rw [if_neg (not_or.mpr ⟨Nat.not_lt.mpr ha, Nat.not_lt.mpr hn⟩)]
    exact ⟨fun hr => by rw [if_neg (ne_true_of_eq_false hr)], fun hr => by rw [if_pos hr]⟩
  · intro s u n q ticks h
    have he : exec (.ackSend n q ticks) s = .next (u.ackMeasured n.val q.val ticks) := by
      rcases h with ⟨hn, hp, rfl⟩ | ⟨y, d, psn, code, hn, hy, rfl⟩
      · exact exec_ackSend_ack hn hp
      · exact exec_ackSend_nak hn hy
    have hphys : u.physQp n.val q.val = s.physQp n.val q.val := by
      rcases h with ⟨-, -, rfl⟩ | ⟨y, d, psn, code, -, -, rfl⟩
      · rfl
      · split <;> rfl
    rw [he]
    refine ⟨fun h => by rw [State.ackMeasured_inTime h], fun h => ?_⟩
    rw [State.ackMeasured_late h, hphys]

end Sys2Proof.Machine

/-! PROOFS, 13_network_port.md. The egress scheduler: frames of the port, the turn of a device, the turn of its pair. -/

namespace Sys2Proof.Machine

section send
variable {s t : State} {n : Fin 256}

/-- The first index of a range at which a search answers. -/
theorem findSome?_range {α : Type} {f : Nat → Option α} {k i : Nat} {b : α} (hi : i < k) (hn : ∀ j, j < i → f j = none)
    (h : f i = some b) : (List.range k).findSome? f = some b := by
  rw [List.findSome?_eq_some_iff]
  refine ⟨List.range i, i, (List.range k).drop (i + 1), ?_, h, fun j hj => hn j (List.mem_range.mp hj)⟩
  have hcut := List.take_append_drop i (List.range k)
  rw [List.take_range, Nat.min_eq_left hi.le, List.drop_eq_getElem_cons (by simpa using hi), List.getElem_range] at hcut
  exact hcut.symm

/-- The pair that comes `i` places after the last one of a device that sent (R407). -/
def State.pairAfter (s : State) (n i : Nat) : Nat := (SMap.get (fun _ => 0) s.net.turn n + 1 + i) % 64

/-- What a pair would send at its turn: its number, the bytes of its frame, and the state after it (R407). -/
def State.sendOf (s : State) (n : Fin 256) (q : Nat) : Option (Nat × Nat × State) :=
  (s.trySend n q).map (fun t =>
    let f := match t.net.sent with
      | .data _ _ op p :: _ => (op, (s.qp n.val q).ctx.frameBytes p.payload.length)
      | _ => (0, 0)
    (q, f.2, ({ t with net := { t.net with turn := SMap.set (fun _ => 0) t.net.turn n.val q } }).sentFrame n.val q f.1 f.2))

theorem State.nextSend_eq (hw : (s.vd n.val).desc.netWeight ≠ 0) :
    s.nextSend n = (List.range 64).findSome? (fun i => s.sendOf n (s.pairAfter n.val i)) := by
  unfold State.nextSend
  dsimp only
  rw [if_neg hw, List.findSome?_map]
  rfl

/-- The first pair in turn that can send something sends (R407). -/
theorem State.nextSend_first {i op : Nat} {p : Packet} {fs : List TxFrame} (hw : (s.vd n.val).desc.netWeight ≠ 0) (hi : i < 64)
    (hnone : ∀ j, j < i → s.trySend n (s.pairAfter n.val j) = none) (ht : s.trySend n (s.pairAfter n.val i) = some t)
    (hf : t.net.sent = .data n.val (s.pairAfter n.val i) op p :: fs) : s.nextSend n
    = some (s.pairAfter n.val i, (s.qp n.val (s.pairAfter n.val i)).ctx.frameBytes p.payload.length,
      ({ t with net := { t.net with turn := SMap.set (fun _ => 0) t.net.turn n.val (s.pairAfter n.val i) } }).sentFrame n.val
        (s.pairAfter n.val i) op ((s.qp n.val (s.pairAfter n.val i)).ctx.frameBytes p.payload.length)) := by
  rw [State.nextSend_eq hw]
  refine findSome?_range hi (fun j hj => ?_) ?_
  · rw [State.sendOf, hnone j hj]
    rfl
  · rw [State.sendOf, ht, Option.map_some]
    dsimp only
    rw [hf]

/-- A device none of whose pairs can send anything sends nothing (R407). -/
theorem State.nextSend_none (h : ∀ q, q < 64 → s.trySend n q = none) : s.nextSend n = none := by
  by_cases hw : (s.vd n.val).desc.netWeight = 0
  · exact if_pos hw
  · rw [State.nextSend_eq hw, List.findSome?_eq_none_iff]
    intro i _
    rw [State.sendOf, h (s.pairAfter n.val i) (Nat.mod_lt _ (by decide))]
    rfl

/-- A device keeps its turn while its deficit covers its next frame (R407). -/
theorem State.drrNext_keeps {q b : Nat} (hr : s.net.rrVd = n.val) (hs : s.nextSend n = some (q, b, t))
    (hb : b ≤ s.drrDeficit n.val) : s.drrNext = some (n, s.drrDeficit n.val) := by
  have hcur : s.net.rrVd % 256 = n.val := by rw [hr, Nat.mod_eq_of_lt n.isLt]
  unfold State.drrNext
  simp only [hcur, hs]
  exact if_pos hb

section up
variable (hu : s.net.up = true) (ho : s.clock.offReady = false)
include hu ho

/-- Frames of the port itself go first, in order; then the device in turn (R407). -/
theorem exec_segmentSend_eq : exec (.segmentSend n) s = .next ((s.net.tx.find? s.ctlFree).elim
    (if s.lineNow + 2000 ≤ s.net.lineFree then s
      else match s.drrNext, s.nextSend n with
        | some (m, d), some (_, b, t) => if m = n then t.drrSent n (d - b) else s
        | _, _ => s)
    (fun f => ({ s with net := { s.net with tx := s.net.tx.erase f } }).emit f)) := by
  change execSegmentSend n s = _
  unfold execSegmentSend
  rw [if_neg (by simp [hu, ho])]
  generalize s.net.tx.find? s.ctlFree = f
  cases f <;> rfl

theorem exec_segmentSend_port {f : TxFrame} (hf : s.net.tx.find? s.ctlFree = some f) :
    exec (.segmentSend n) s = .next (({ s with net := { s.net with tx := s.net.tx.erase f } }).emit f) := by
  rw [exec_segmentSend_eq hu ho, hf]
  rfl

theorem exec_segmentSend_turn {q d b : Nat} (hf : s.net.tx.find? s.ctlFree = none) (hl : s.net.lineFree < s.lineNow + 2000)
    (hd : s.drrNext = some (n, d)) (hs : s.nextSend n = some (q, b, t)) :
    exec (.segmentSend n) s = .next (t.drrSent n (d - b)) := by
  rw [exec_segmentSend_eq hu ho, hf, hd, hs]
  dsimp only [Option.elim_none]
  rw [if_neg (Nat.not_le.mpr hl), if_pos rfl]

theorem exec_segmentSend_nothing (hf : s.net.tx.find? s.ctlFree = none) (hs : s.nextSend n = none) :
    exec (.segmentSend n) s = .next s := by
  rw [exec_segmentSend_eq hu ho, hf, hs, Option.elim_none]
  cases s.drrNext <;> exact congrArg _ (ite_self s)

end up

end send

end Sys2Proof.Machine

/-! PROOFS, 13_network_port.md. What a pair does on the answers of its peer, on its timers, and with a work request. -/

namespace Sys2Proof.Machine

section peer
variable {s : State} {p : Packet} {q : Nat}

/-- A well-formed packet for an armed pair is handled by the rule of its opcode (R416). -/
theorem State.onPacket_forPair (h : s.forPair p q) (f : State → State) : s.onPacket p f = f s := by
  obtain ⟨hu, hw, hip, -⟩ := h
  unfold State.onPacket
  rw [if_neg (by simp [hu]), if_neg (by simp [hw, hip])]

theorem State.ctlPair_of_forPair (h : s.forPair p q) : s.ctlPair p = some q := h.2.2.2

theorem exec_ack_forPair (h : s.forPair p q) :
    exec (.ack p) s = .next ((s.takeAck p.vd.val q p.ackPsn p.sack.toNat).settleTimer p.vd.val q) := by
  change ok (s.onPacket p _) = _
  rw [State.onPacket_forPair h, State.ctlPair_of_forPair h]
  rfl

/-- What the code of a NAK does to the pair and to the request of the segment it names (R414, R422). -/
def State.takeNak (s : State) (n q psn : Nat) (who : Option Nat) : Nat → State
  | 1 => s.modQp n q (fun r => { r with
      segs := r.segs.map (fun (y : OutSeg) => if y.psn = psn then { y with sacked := false } else y) })
  | 2 => s.failPair n q 2 who
  | 3 => s.failPair n q 1 who
  | 4 => s.failPair n q 2 who
  | 5 => s.failPair n q 3 who
  | _ => s

theorem exec_nak_forPair {x : OutSeg} (h : s.forPair p q)
    (hx : (s.qp p.vd.val q).segs.find? (fun y => decide (y.psn = p.ackPsn)) = some x) :
    exec (.nak p) s = .next (s.takeNak p.vd.val q p.ackPsn (some x.wr) p.nakCode) := by
  change ok (s.onPacket p _) = _
  rw [State.onPacket_forPair h, State.ctlPair_of_forPair h]
  dsimp only
  rw [hx]
  rfl

/-- A CNP halves the rate of its pair, but not twice in 1,000 ticks (R406). -/
def Qp.takeCnp (r : Qp) (now : Nat) : Qp :=
  if r.lastCut + 1000 ≤ now then { r with rate := max (r.rate / 2) 1, lastCut := now, rateAt := now }
  else { r with rateAt := now }

theorem exec_cnp_forPair (h : s.forPair p q) :
    exec (.cnp p) s = .next (s.modQp p.vd.val q (fun r => r.takeCnp s.time.toNat)) := by
  change ok (s.onPacket p _) = _
  rw [State.onPacket_forPair h, State.ctlPair_of_forPair h]
  rfl

/-- Two changes of a pair that agree on it are one. -/
theorem State.modQp_congr {n : Nat} {f g : Qp → Qp} (h : f (s.qp n q) = g (s.qp n q)) : s.modQp n q f = s.modQp n q g := by
  unfold State.modQp
  rw [h]

theorem exec_cnp_cuts (h : s.forPair p q) (hc : (s.qp p.vd.val q).lastCut + 1000 ≤ s.time.toNat) :
    exec (.cnp p) s = .next (s.modQp p.vd.val q (fun r =>
      { r with rate := max (r.rate / 2) 1, lastCut := s.time.toNat, rateAt := s.time.toNat })) := by
  rw [exec_cnp_forPair h]
  exact congrArg _ (State.modQp_congr (if_pos hc))

theorem exec_cnp_tooSoon (h : s.forPair p q) (hc : s.time.toNat < (s.qp p.vd.val q).lastCut + 1000) :
    exec (.cnp p) s = .next (s.modQp p.vd.val q (fun r => { r with rateAt := s.time.toNat })) := by
  rw [exec_cnp_forPair h]
  exact congrArg _ (State.modQp_congr (if_neg (Nat.not_le.mpr hc)))

end peer

section timers
variable {s : State} {n : Fin 256} {k : Fin 64}

theorem exec_rateIncrease (ha : (s.qp n.val k.val).st = .armed) (ht : (s.qp n.val k.val).rateAt + 2000 ≤ s.time.toNat) :
    exec (.rateIncrease n k) s
      = .next (s.modQp n.val k.val (fun r => { r with rate := min (r.rate + 64) 1024, rateAt := s.time.toNat })) := by
  refine congrArg ok (if_neg ?_)
  rintro (h | h)
  · exact h ha
  · exact Nat.not_le.mpr h ht

/-- A timer that runs and whose tick has come expires: the pair sends again, takes its other path, or fails (R422). -/
theorem exec_retransmissionTimeout_eq (hr : s.timerRuns n.val k.val = true)
    (ht : ∀ a, (s.qp n.val k.val).timer = some a → a ≤ s.time.toNat) : exec (.retransmissionTimeout n k) s
    = .next (if (s.qp n.val k.val).expiries + 1 < 8 then
        s.modQp n.val k.val (fun r => { r.resend with
          expiries := r.expiries + 1, timer := some (s.time.toNat + s.rtoTicks) })
      else if (s.qp n.val k.val).path = 0 ∧ (s.qp n.val k.val).ctx.udpSrc1 ≠ 0 then
        s.modQp n.val k.val (fun r => { r.resend with
          expiries := 0, path := 1, timer := some (s.time.toNat + s.rtoTicks) })
      else s.failPair n.val k.val 4 none) := by
  refine congrArg ok (if_neg ?_)
  rintro (h | h)
  · exact h hr
  · obtain ⟨a, ha, hlt⟩ := (Option.any_eq_true _ _).mp h
    exact Nat.not_le.mpr (of_decide_eq_true hlt) (ht a ha)

end timers

section fetch
variable {s : State} {n : Fin 256} {k : Fin 64}

/-- The work request at the head of a pair's ring, with the pair's next message number (R412). -/
def State.headWork (s : State) (n k : Nat) : WorkReq :=
  { parseWork (s.qpSqHead n k) (s.devRead n ((s.qp n k).ctx.sqBase + 64 * s.qpSqHead n k) 64) with msg := (s.qp n k).nextMsg }

/-- The state in which a pair has taken the work request at the head of its ring (R412). -/
def State.workTaken (s : State) (n k : Nat) : State :=
  ((s.devSeen n ((s.qp n k).ctx.sqBase + 64 * s.qpSqHead n k) 64).setRegFld (Reg.transportQpSqHead n k) 0 16
    ((s.qpSqHead n k + 1) % (s.qp n k).size)).modQp n k
      (fun r => { r with wrs := r.wrs ++ [s.headWork n k], nextMsg := (r.nextMsg + 1) % 2 ^ 16 })

theorem exec_workRequestFetch (ha : (s.qp n.val k.val).st = .armed) (hd : s.clock.downBusy = false)
    (ho : s.clock.offReady = false) (hp : s.qpSqHead n.val k.val ≠ s.qpSqTail n.val k.val)
    (hw : (s.qp n.val k.val).wrs.any (fun w => !w.allCut) = false)
    (hr : (s.qp n.val k.val).wrs.length < s.cqRoom n.val k.val) (hc : (s.vd n.val).st ≠ .contained) :
    exec (.workRequestFetch n k) s = .next (if (s.workTaken n.val k.val).workBad n.val (s.headWork n.val k.val)
      then (s.workTaken n.val k.val).failPair n.val k.val 6 (some (s.qpSqHead n.val k.val))
      else (s.workTaken n.val k.val).openGates n.val) := by
  refine congrArg ok (if_neg ?_)
  simp [ha, hd, ho, hp, hw, hr, hc]

end fetch

/-- Settles O43: the egress scheduler from the port's own frames to the pair in turn, then the answers of the peer, the timers
and the work request. A NAK that acknowledges nothing and a timer set again only at its expiry (log 35), the statuses of a
failed pair and the room that a fetch needs (log 36) are the model's choice, as is that every frame of the port goes first. -/
theorem pairsSendAndFollowTheirPeers : Obligations.PairsSendAndFollowTheirPeers := by
  refine ⟨fun s t u n hu ho => ⟨fun f => exec_segmentSend_port hu ho, fun q d b => exec_segmentSend_turn hu ho,
    fun q b => State.drrNext_keeps, ?_, fun hf h => exec_segmentSend_nothing hu ho hf (State.nextSend_none h)⟩, ?_⟩
  · intro i q op p fs hw hi hq hnone ht hf hu
    obtain rfl : q = s.pairAfter n.val i := hq
    subst hu
    exact State.nextSend_first hw hi hnone ht hf
  · refine fun s p q n k => ⟨fun h => ⟨exec_ack_forPair h, fun x hx => ?_, exec_cnp_cuts h, exec_cnp_tooSoon h⟩,
      exec_rateIncrease, fun hr ht => ?_, ?_⟩
    · rw [exec_nak_forPair h hx]
      exact ⟨fun hk => by rw [hk]; rfl, fun hk => by rw [hk]; rfl, fun hk => by rw [hk]; rfl, fun hk => by rw [hk]; rfl,
        fun hk => by rw [hk]; rfl⟩
    · rw [exec_retransmissionTimeout_eq hr ht]
      refine ⟨fun he => by rw [if_pos (by omega)], fun he hp hu => ?_, fun he hu => ?_⟩
      · rw [if_neg (by omega), if_pos ⟨hp, hu⟩]
      · rw [if_neg (by omega), if_neg (fun h => h.2 hu)]
    · intro w u ha hd ho hp hw hr hc hwork hu
      obtain rfl : w = s.headWork n.val k.val := hwork
      obtain rfl : u = s.workTaken n.val k.val := hu
      exact exec_workRequestFetch ha hd ho hp hw hr hc

end Sys2Proof.Machine

/-! PROOFS, 13_network_port.md. ARM of a queue pair where a home slice counts dead reads for a device number that no device
has: the count lands on the IP address of the pair's device. -/

namespace Sys2Proof.Machine

/-- The context of a pair as it lies in memory: ring size 16, source port 1, and an IPv4 peer. -/
def ctxMemory : SMap Byte := [(0xC, 1), (0x14, 0xFF), (0x15, 0xFF), (0x40, 4)]

/-- A device of one slice, one flag word and one queue pair. -/
def pairDevice : VDev :=
  { VDev.absent with st := .active, desc := { Desc.zero with ns := 1, qps := 1, sliceMap := [0] }, flagMap := [0], qpMap := [0] }

/-- Device 0 with an IPv4 address and a context at address 0; its slice 0 has that line in its dead-read filter, but is held
for device number 0x8000, whose count of dead reads has the key of the upper half of the device's IPv4 address. -/
def armedAside : State :=
  { State.reset with
    regs := [(Reg.netportIp 0 + 4, 0xFFFF)]
    mem := ctxMemory
    host := { HostSt.rest with vfEnable := true }
    vds := [(0, pairDevice)]
    slices := [(0, { Slice.empty with filter := [0] })]
    pool := ⟨[], [(0, .owned 0x8000 (some 0))], [(0, ⟨.owned, 0, 0, some 0, [0], [0], [0]⟩)], [], []⟩ }

theorem armedAside_pairHere : armedAside.pairHere 0 0 = true := by decide +kernel
theorem armedAside_canonical : armedAside.canonical = true := by decide +kernel
theorem armedAside_owns : armedAside.ownsAddr 0 0 = true := by decide +kernel
theorem armedAside_takes : armedAside.armRefused 0 (armedAside.devRead 0 0 128) = false := by decide +kernel

/-- The read of the context counts as a dead read of device number 0x8000, after which the device's address is no IPv4
address and the ARM is refused. -/
theorem armedAside_refused : ((armedAside.armPair 0 0).qp 0 0).st = .reset := by decide +kernel

/-- Refutes O44: nothing bounds the owner of a slice in a canonical state, and the dead read of the context is counted at a key
of another register block, so an ARM that R411 would take is refused. -/
theorem not_pairsArmPostAndReset : ¬ Obligations.PairsArmPostAndReset := by
  intro h
  obtain ⟨harm, -⟩ := h armedAside 0 0 0 0 false armedAside_pairHere
  obtain ⟨t, he, -, hst, -⟩ := harm armedAside_canonical rfl rfl armedAside_owns armedAside_takes
  have hexec : exec (.arm 0 0) armedAside = .next (armedAside.armPair 0 0) := congrArg ok (if_pos armedAside_pairHere)
  obtain rfl : armedAside.armPair 0 0 = t := Host.Outcome.next.inj (hexec.symm.trans he)
  exact absurd (hst.symm.trans armedAside_refused) (by decide)

end Sys2Proof.Machine

/-! PROOFS, 14_power_droop_thermal.md. Budget messages: what a REPORT or a GRANT that arrives whole says, and one that does not. -/

namespace Sys2Proof.Machine

section budgets
variable {s t : State} {d e : Nat} {f g : DieBudget → DieBudget}

/-- Two changes of a die's budget state that agree on it are one. -/
theorem State.modPdie_congr (h : f (s.pdie d) = g (s.pdie d)) : s.modPdie d f = s.modPdie d g := by
  unfold State.modPdie
  rw [h]

theorem State.pdie_modPdie (h : f (s.pdie d) ≠ DieBudget.rest) : (s.modPdie d f).pdie d = f (s.pdie d) :=
  SMap.get_set_of_ne _ _ _ _ h

theorem State.pdie_congr (h : t.power.dies = s.power.dies) : t.pdie d = s.pdie d := by
  unfold State.pdie
  rw [h]

/-- A die that holds a grant is not at rest. -/
theorem DieBudget.ne_rest_of_dieGrant {b : DieBudget} {x : Nat} (h : b.dieGrant = some x) : b ≠ DieBudget.rest := by
  rintro rfl
  cases h

/-- A die that was sent a grant is not at rest. -/
theorem DieBudget.ne_rest_of_sent {b : DieBudget} {x : Nat} (h : b.sent = some x) : b ≠ DieBudget.rest := by
  rintro rfl
  cases h

end budgets

section messages
variable {s u : State} {d : Fin 17} {body : Nat} {err : LaneErr}

/-- A message that the lanes leave alone arrives (R430). -/
theorem msgArrives_clean : msgArrives body ⟨0, 0⟩ = some body := by
  unfold msgArrives
  rw [Nat.xor_zero, Nat.xor_zero, if_pos rfl]

theorem msgArrives_bad (h : msgCrc (body ^^^ err.body) ≠ msgCrc body ^^^ err.crc) : msgArrives body err = none := if_neg h

/-- What the steward notes of a REPORT are the fields that the die put into it (R430). -/
theorem DieBudget.reported_reportBody (b : DieBudget) (s : State) (d : Nat) (r : ReportMsg) :
    b.reported (s.reportBody d r) = { b with
      power := r.power % 65536, demand := r.demand % 65536, ack := (s.pdie d).dieGrant.getD 0 % 65536
      seq := (s.pdie d).nextSeq % 65536, rep := .good } := by
  unfold DieBudget.reported State.reportBody msgBody
  dsimp only
  congr 1 <;> omega

theorem exec_report_eq {r : ReportMsg} (hc : s.clocksOn = true) : exec (.report d r) s
    = .next ((s.modPdie d.val (fun b => { b with nextSeq := (b.nextSeq + 1) % 65536 })).takeReport d.val
      (msgArrives (s.reportBody d.val r) r.err)) :=
  congrArg ok (if_neg (not_not_intro hc))

/-- What a die takes of a GRANT are the fields that the steward put into it (R430). -/
theorem DieBudget.granted_body (b : DieBudget) (m : GrantMsg) (d : Nat) : b.granted (m.body d) = { b with
    dieGrant := some (m.grant % 65536), eta := m.eta % 256, got := true, missed := 0, dieFloor := m.floor } := by
  have hfloor : decide (m.body d / 2 ^ 86 % 2 = 1) = m.floor := by
    unfold GrantMsg.body msgBody
    cases m.floor
    · have hb : b2n false = 0 := rfl
      exact decide_eq_false (by rw [hb]; omega)
    · have hb : b2n true = 1 := rfl
      exact decide_eq_true (by rw [hb]; omega)
  unfold DieBudget.granted
  rw [hfloor]
  have hbit : b2n m.floor ≤ 1 := by cases m.floor <;> decide
  unfold GrantMsg.body msgBody
  congr 1
  · congr 1
    omega
  · omega

/-- The oldest GRANT on its way to a die arrives, as the lanes left it (R430). -/
theorem exec_grant_eq {m : GrantMsg} {rest : List GrantMsg} (hm : (s.pdie d.val).msgs = m :: rest) : exec (.grant d err) s
    = .next ((s.modPdie d.val (fun b => { b with msgs := rest })).takeGrant d.val (msgArrives (m.body d.val) err)) := by
  change execGrant d err s = _
  unfold execGrant
  rw [hm]
  rfl

/-- A GRANT that arrives whole is in force; FLOOR acts at once on a compute die (R430, R437). -/
theorem State.takeGrant_body (s : State) (m : GrantMsg) (d : Nat) : s.takeGrant d (some (m.body d))
    = if m.floor = true ∧ d < 12 then (s.modPdie d (fun b => { b with
        dieGrant := some (m.grant % 65536), eta := m.eta % 256, got := true, missed := 0, dieFloor := m.floor })).setSluice d
      else s.modPdie d (fun b => { b with
        dieGrant := some (m.grant % 65536), eta := m.eta % 256, got := true, missed := 0, dieFloor := m.floor }) := by
  unfold State.takeGrant
  dsimp only
  simp only [DieBudget.granted_body]
  rw [State.pdie_modPdie (DieBudget.ne_rest_of_dieGrant rfl)]

theorem exec_grantTimeout {c : Fin 12} (hc : s.clocksOn = true) (hm : 3 ≤ (s.pdie c.val).missed) :
    exec (.grantTimeout c) s = .next (s.modPdie c.val (fun b => { b with dieGrant := some s.floorGrant })) :=
  congrArg ok (if_pos ⟨hc, hm⟩)

end messages

end Sys2Proof.Machine

/-! PROOFS, 14_power_droop_thermal.md. The shares of the cap. -/

namespace Sys2Proof.Machine

section shares

/-- A part of `extra` in proportion to each member of a list, rounded down, gives at most `extra` in all. -/
theorem sumN_proportional (extra w : Nat) (l : List Nat) : w * sumN (l.map (fun x => extra * x / w)) ≤ extra * sumN l := by
  induction l with
  | nil => exact Nat.zero_le _
  | cons x l ih =>
    rw [List.map_cons, sumN_cons, sumN_cons, Nat.mul_add, Nat.mul_add]
    exact Nat.add_le_add (Nat.mul_div_le _ _) ih

theorem sumN_proportional_le {extra : Nat} {l : List Nat} (h : sumN l ≠ 0) :
    sumN (l.map (fun x => extra * x / sumN l)) ≤ extra :=
  Nat.le_of_mul_le_mul_left ((sumN_proportional extra (sumN l) l).trans_eq (Nat.mul_comm _ _)) (Nat.pos_of_ne_zero h)

/-- A sum whose members are at most a floor and a part each. -/
theorem sumN_map_le {α : Type} {g part : α → Nat} {f : Nat} (h : ∀ x, g x ≤ f + part x) (l : List α) :
    sumN (l.map g) ≤ l.length * f + sumN (l.map part) := by
  induction l with
  | nil => exact Nat.zero_le _
  | cons x l ih =>
    rw [List.map_cons, List.map_cons, sumN_cons, sumN_cons, List.length_cons, Nat.succ_mul]
    have := h x
    omega

variable {s : State} {c : Nat}

/-- What a compute die wants of the cap, the floor grant at least (R431). -/
def State.wanted (s : State) (c : Nat) : Nat := max (s.pdie c).wants s.floorGrant

/-- What the twelve compute dies want beyond the floor grant (R431). -/
def State.wantedMore (s : State) : List Nat := (List.range 12).map (fun c => s.wanted c - s.floorGrant)

/-- What the pool holds beyond the floor grants (R431). -/
def State.poolMore (s : State) : Nat := s.budgetPool.toNat - 12 * s.floorGrant

/-- The grant of a compute die where the pool covers the floor grants (R431). -/
def State.share (s : State) (c : Nat) : Nat :=
  if sumN s.wantedMore = 0 then s.floorGrant
  else min (s.wanted c) (s.floorGrant + s.poolMore * (s.wanted c - s.floorGrant) / sumN s.wantedMore)

theorem State.budgetGrants_floor (h : s.budgetPool ≤ (12 * s.floorGrant : Nat)) :
    s.budgetGrants = (List.replicate 12 s.floorGrant, true) := if_pos h

theorem State.budgetGrants_shares (h : (12 * s.floorGrant : Nat) < s.budgetPool) :
    s.budgetGrants = ((List.range 12).map s.share, false) := by
  unfold State.budgetGrants
  dsimp only
  rw [if_neg (Int.not_le.mpr h), List.map_map, List.map_map]
  rfl

theorem State.floorGrant_le_share : s.floorGrant ≤ s.share c := by
  have hw : s.floorGrant ≤ s.wanted c := Nat.le_max_right _ _
  unfold State.share
  split
  · exact le_rfl
  · exact Nat.le_min.mpr ⟨hw, Nat.le_add_right _ _⟩

theorem State.share_le_wanted : s.share c ≤ s.wanted c := by
  unfold State.share
  split
  · exact Nat.le_max_right _ _
  · exact Nat.min_le_left _ _

/-- The shares stay within the pool (R431). -/
theorem State.sumN_share_le (h : (12 * s.floorGrant : Nat) < s.budgetPool) :
    ((sumN ((List.range 12).map s.share) : Nat) : Int) ≤ s.budgetPool := by
  have hpart : ∀ c, s.share c ≤ s.floorGrant + s.poolMore * (s.wanted c - s.floorGrant) / sumN s.wantedMore := by
    intro c
    unfold State.share
    split
    · exact Nat.le_add_right _ _
    · exact Nat.min_le_right _ _
  have hsum := sumN_map_le hpart (List.range 12)
  have hmore : sumN ((List.range 12).map (fun c => s.poolMore * (s.wanted c - s.floorGrant) / sumN s.wantedMore))
      ≤ s.poolMore := by
    by_cases hw : sumN s.wantedMore = 0
    · rw [hw]
      simp only [Nat.div_zero]
      exact Nat.zero_le _
    · have hle := sumN_proportional_le (extra := s.poolMore) hw
      rwa [State.wantedMore, List.map_map] at hle
  rw [List.length_range] at hsum
  unfold State.poolMore at hmore hsum
  omega

end shares

/-- Settles O45: a REPORT and a GRANT whole and not, the grant of a die that has had none, then the shares. -/
theorem grantsStayWithinThePool : Obligations.GrantsStayWithinThePool := by
  refine ⟨fun d r s u hc hu => ⟨fun he => ?_, fun he => ?_⟩,
    fun d m rest err s u v hm hu hv => ⟨fun he => ?_, fun he => ?_⟩,
    fun c s => exec_grantTimeout, fun s => ⟨State.budgetGrants_floor, fun h => ?_⟩⟩
  · rw [exec_report_eq hc, ← hu, he, msgArrives_clean, State.takeReport]
    simp only [DieBudget.reported_reportBody]
  · rw [exec_report_eq hc, ← hu, msgArrives_bad he]
    rfl
  · rw [exec_grant_eq hm, ← hu, he, msgArrives_clean, State.takeGrant_body, ← hv]
  · rw [exec_grant_eq hm, ← hu, msgArrives_bad he]
    rfl
  · rw [State.budgetGrants_shares h]
    refine ⟨rfl, by simp, State.sumN_share_le h, fun c hc => ?_⟩
    have hn : nth 0 ((List.range 12).map s.share) c = s.share c := by simp [nth, hc]
    rw [hn]
    exact ⟨State.floorGrant_le_share, State.share_le_wanted⟩

end Sys2Proof.Machine

/-! PROOFS, 14_power_droop_thermal.md. The budget exchange: what the steward notes, what it grants, and what is sent. -/

namespace Sys2Proof.Machine

section exchange
variable {s : State} {f : Nat → DieBudget → DieBudget} {l : List Nat} {c : Nat}

theorem State.pdie_foldl_of_notMem (hc : c ∉ l) : (l.foldl (fun t d => t.modPdie d (f d)) s).pdie c = s.pdie c := by
  induction l generalizing s with
  | nil => rfl
  | cons d l ih =>
    obtain ⟨hd, hl⟩ := not_or.mp (fun h => hc (List.mem_cons.mpr h))
    rw [List.foldl_cons, ih hl, State.pdie_modPdie_ne hd]

/-- Budget states changed die by die, read at a die of the list. -/
theorem State.pdie_foldl (hf : ∀ d b, f d b ≠ DieBudget.rest) (hn : l.Nodup) (hc : c ∈ l) :
    (l.foldl (fun t d => t.modPdie d (f d)) s).pdie c = f c (s.pdie c) := by
  induction l generalizing s with
  | nil => cases hc
  | cons d l ih =>
    obtain ⟨hd, hl⟩ := List.nodup_cons.mp hn
    rw [List.foldl_cons]
    by_cases he : c = d
    · subst he
      rw [State.pdie_foldl_of_notMem hd]
      exact State.pdie_modPdie (hf c _)
    · rw [ih hl ((List.mem_cons.mp hc).resolve_left he), State.pdie_modPdie_ne he]

variable {input eta lost : Nat}

/-- The budget messages that an exchange finds missing (R433). -/
def State.missing (s : State) : Nat :=
  sumN ((List.range 17).map (fun d => b2n (decide ((s.pdie d).rep = .missing)) + (s.pdie d).msgs.length))

/-- POWER_INPUT as an exchange leaves it. -/
def inputWord (input eta : Nat) : W32 := BitVec.ofNat 32 (eta % 256 * 65536 + min input 65535)

/-- The counter and the word of an exchange, and its energy. -/
def State.noted (s : State) (kl ki lost input : Nat) (w : W32) : State :=
  let u := (s.bumpFld kl 0 32 lost).setReg ki w
  { u with power := { u.power with energy := u.power.energy + input } }

theorem State.noted_fields {kl ki : Nat} {w : W32} : s.noted kl ki lost input w = { s with
    regs := (s.noted kl ki lost input w).regs, power := { s.power with energy := s.power.energy + input } } := rfl

/-- The state in which an exchange computes its grants: what has not arrived is counted, the input power noted (R430). -/
def State.exchangeNoted (s : State) (input eta : Nat) : State :=
  s.noted Reg.powerMsgLost Reg.powerInput s.missing (min input 65535) (inputWord input eta)

theorem State.exchangeNoted_fields : s.exchangeNoted input eta = { s with
    regs := (s.exchangeNoted input eta).regs
    power := { s.power with energy := s.power.energy + min input 65535 } } := State.noted_fields

theorem State.reg_exchangeNoted {k : Nat} (hl : k ≠ Reg.powerMsgLost) (hi : k ≠ Reg.powerInput) :
    (s.exchangeNoted input eta).reg k = s.reg k :=
  (State.reg_setReg_ne hi).trans (State.reg_setReg_ne hl)

theorem State.pdie_exchangeNoted : (s.exchangeNoted input eta).pdie c = s.pdie c :=
  State.pdie_congr (by rw [State.exchangeNoted_fields])

theorem State.budgetGrants_exchangeNoted : (s.exchangeNoted input eta).budgetGrants = s.budgetGrants := by
  have hcap : (s.exchangeNoted input eta).capWatts = s.capWatts := by
    unfold State.capWatts State.regFld
    rw [State.reg_exchangeNoted (by decide) (by decide)]
  have hfloor : (s.exchangeNoted input eta).floorGrant = s.floorGrant := by
    unfold State.floorGrant State.regFld
    rw [State.reg_exchangeNoted (by decide) (by decide)]
  unfold State.budgetGrants State.budgetPool
  simp only [hcap, hfloor, State.pdie_exchangeNoted]

/-- A cap that the floor grants exceed is noted (R431). -/
def State.unmetNoted (s : State) (unmet : Bool) : State := if unmet then s.setRegBit Reg.powerStatus 27 true else s

theorem State.unmetNoted_fields {b : Bool} : s.unmetNoted b = { s with regs := (s.unmetNoted b).regs } := by
  cases b
  · rfl
  · exact State.setRegBit_fields

/-- The causes of the floor power state are read of the switches, the dies and POWER_CTRL (R437). -/
theorem State.floorCause_congr {t : State} (hp : t.power.supplyWarn = s.power.supplyWarn)
    (ht : t.power.throttle = s.power.throttle) (hd : t.power.dies = s.power.dies)
    (hr : t.reg Reg.powerCtrl = s.reg Reg.powerCtrl) : t.floorCause = s.floorCause := by
  unfold State.floorCause State.regBit
  rw [hp, ht, hd, hr]

/-- The state that the grants of an exchange are sent from. -/
def State.exchangeBegun (s : State) (input eta : Nat) : State :=
  (s.exchangeNoted input eta).unmetNoted s.budgetGrants.2

theorem State.exchangeBegun_fields : s.exchangeBegun input eta = { s with
    regs := (s.exchangeBegun input eta).regs
    power := { s.power with energy := s.power.energy + min input 65535 } } := by
  unfold State.exchangeBegun
  rw [State.unmetNoted_fields, State.exchangeNoted_fields]

theorem State.pdie_exchangeBegun : (s.exchangeBegun input eta).pdie c = s.pdie c :=
  State.pdie_congr (by rw [State.exchangeBegun_fields])

theorem State.lowerAcked_exchangeBegun : (s.exchangeBegun input eta).lowerAcked c = s.lowerAcked c := by
  unfold State.lowerAcked
  rw [State.pdie_exchangeBegun]

theorem State.floorCause_exchangeBegun : (s.exchangeBegun input eta).floorCause = s.floorCause := by
  have hreg : (s.exchangeBegun input eta).reg Reg.powerCtrl = s.reg Reg.powerCtrl := by
    unfold State.exchangeBegun State.unmetNoted
    split
    · exact (State.reg_setRegBit_ne (by decide)).trans (State.reg_exchangeNoted (by decide) (by decide))
    · exact State.reg_exchangeNoted (by decide) (by decide)
  refine State.floorCause_congr ?_ ?_ ?_ hreg <;> rw [State.exchangeBegun_fields]

variable {gs : List Nat × Bool}

/-- The dies whose grant an exchange lowers (R432). -/
def State.loweredNow (s : State) (gs : List Nat × Bool) : List Nat :=
  (List.range 12).filter (fun c => match (s.pdie c).sent with
    | none => false
    | some x => decide (nth 0 gs.1 c < x))

/-- The dies whose lowered grant is not acknowledged (R432). -/
def State.loweredBefore (s : State) : List Nat := s.power.lowered.filter (fun c => !s.lowerAcked c)

/-- Whether raises may go: no grant is lowered, and no lowered one is without its acknowledgement (R432). -/
def State.mayRaise (s : State) (gs : List Nat × Bool) : Bool := (s.loweredNow gs).isEmpty && s.loweredBefore.isEmpty

/-- The grant that an exchange sends to a die: the share of a compute die, the power of another and 2 W (R431, R432). -/
def State.grantTo (s : State) (gs : List Nat × Bool) (d : Nat) : Option Nat :=
  if d < 12 then sentGrant (s.pdie d).sent (nth 0 gs.1 d) (s.mayRaise gs) else some ((s.pdie d).draws + 16)

theorem State.grantTo_some {d : Nat} : ∃ g, s.grantTo gs d = some g := by
  unfold State.grantTo sentGrant
  split
  · split
    · exact ⟨_, rfl⟩
    · split <;> exact ⟨_, rfl⟩
  · exact ⟨_, rfl⟩

/-- What the steward keeps of an exchange. -/
def State.exchangeKept (s : State) (gs : List Nat × Bool) : State :=
  { s with power := { s.power with
    floor := s.power.floor && s.floorCause
    unmet := gs.2
    capOver := s.overCap
    lowered := s.loweredNow gs ++ s.loweredBefore.filter (fun c => !(s.loweredNow gs).contains c) } }

/-- What an exchange leaves for a die (R430). -/
def State.exchangeFor (s : State) (gs : List Nat × Bool) (eta d : Nat) (b : DieBudget) : DieBudget :=
  b.exchanged (s.grantTo gs d) (s.power.floor && s.floorCause && decide (d < 12)) (eta % 256)

/-- The state that an exchange leaves. -/
def State.exchangeSent (s : State) (gs : List Nat × Bool) (eta : Nat) : State :=
  (List.range 17).foldl (fun t d => t.modPdie d (s.exchangeFor gs eta d)) (s.exchangeKept gs)

theorem exec_budgetExchange_eq (hc : s.clocksOn = true) : exec (.budgetExchange input eta) s
    = .next ((s.exchangeBegun input eta).exchangeSent s.budgetGrants eta) := by
  change execBudgetExchange input eta s = _
  unfold execBudgetExchange State.exchangeBegun
  rw [if_neg (not_not_intro hc), ← State.budgetGrants_exchangeNoted (input := input) (eta := eta)]
  unfold State.exchangeNoted State.noted State.missing inputWord
  dsimp only
  generalize (State.bumpFld _ _ _ _ _).setReg _ _ = u
  generalize State.budgetGrants _ = gs
  rfl

theorem State.sameButDies_exchangeSent : (s.exchangeKept gs).sameButDies (s.exchangeSent gs eta) :=
  State.sameButDies_foldl (s := s.exchangeKept gs) (f := fun _ d => s.exchangeFor gs eta d) rfl

/-- A compute die gets what the exchange grants it (R432). -/
theorem State.sent_exchangeSent (hc : c < 12) : ((s.exchangeSent gs eta).pdie c).sent
    = sentGrant (s.pdie c).sent (nth 0 gs.1 c) (s.mayRaise gs) := by
  have hrest : ∀ d b, s.exchangeFor gs eta d b ≠ DieBudget.rest := fun d b => by
    obtain ⟨g, hg⟩ := State.grantTo_some (s := s) (gs := gs) (d := d)
    exact DieBudget.ne_rest_of_sent (x := g) hg
  have hmem : c ∈ List.range 17 := List.mem_range.mpr (by omega)
  unfold State.exchangeSent
  rw [State.pdie_foldl hrest List.nodup_range hmem]
  exact if_pos hc

/-- Raises go only where every lowered grant is acknowledged (R432). -/
theorem State.lowerAcked_of_mayRaise (h : s.mayRaise gs = true) : ∀ e ∈ s.power.lowered, s.lowerAcked e = true := by
  obtain ⟨-, hb⟩ := (Bool.and_eq_true _ _).mp h
  have hnil : s.loweredBefore = [] := List.isEmpty_iff.mp hb
  intro e he
  simpa using List.filter_eq_nil_iff.mp hnil e he

end exchange

/-- Settles O46: what the exchange leaves of the state, then the grant sent to a compute die by its three cases. -/
theorem raisedGrantsWaitForLoweredOnes : Obligations.RaisedGrantsWaitForLoweredOnes := by
  intro s input eta hc
  have hsame : (s.exchangeBegun input eta).exchangeSent s.budgetGrants eta = _ := State.sameButDies_exchangeSent
  have hbegun := State.exchangeBegun_fields (s := s) (input := input) (eta := eta)
  refine ⟨_, exec_budgetExchange_eq hc, ?_, ?_, ?_, fun c x hc hx => ?_⟩
  · rw [hsame, State.exchangeKept, hbegun]
  · rw [hsame, State.exchangeKept, hbegun]
  · rw [hsame, State.exchangeKept, State.floorCause_exchangeBegun, hbegun]
  · rw [State.sent_exchangeSent hc, State.pdie_exchangeBegun, hx, sentGrant]
    by_cases hlt : nth 0 s.budgetGrants.1 c < x
    · rw [if_pos hlt, if_pos (Or.inl hlt)]
      exact Or.inl rfl
    · rw [if_neg hlt]
      by_cases hr : (s.exchangeBegun input eta).mayRaise s.budgetGrants = true
      · refine Or.inr ⟨if_pos (Or.inr hr), fun e he => ?_⟩
        rw [← State.lowerAcked_exchangeBegun (input := input) (eta := eta)]
        refine State.lowerAcked_of_mayRaise hr e ?_
        rw [hbegun]
        exact he
      · exact Or.inl (if_neg (not_or.mpr ⟨hlt, hr⟩))

end Sys2Proof.Machine

/-! PROOFS, 14_power_droop_thermal.md. The sluice loop and the setting of a core. -/

namespace Sys2Proof.Machine

section terms
variable {nb p g draw power eta : Nat}

/-- Over its grant a die lowers its budget term, by one at least (R435). -/
theorem budgetTerm_over (h : g < p) : budgetTerm nb p g = max (nb - max 1 (nb * (p - g) / p)) 1 := if_pos h

/-- Under its grant by a 64th part a die raises its budget term (R435). -/
theorem budgetTerm_under (h : p ≤ g) (hp : p ≤ g - g / 64) : budgetTerm nb p g = min (nb + 1) 64 := by
  unfold budgetTerm
  rw [if_neg (Nat.not_lt.mpr h), if_pos hp]

theorem budgetTerm_near (h : p ≤ g) (hp : g - g / 64 < p) : budgetTerm nb p g = nb := by
  unfold budgetTerm
  rw [if_neg (Nat.not_lt.mpr h), if_neg (Nat.not_le.mpr hp)]

theorem budgetTerm_lt (h : g < p) (hn : 1 < nb) : budgetTerm nb p g < nb := by
  rw [budgetTerm_over h]
  omega

theorem budgetTerm_bounds (h1 : 1 ≤ nb) (h64 : nb ≤ 64) : 1 ≤ budgetTerm nb p g ∧ budgetTerm nb p g ≤ 64 := by
  unfold budgetTerm
  split
  · omega
  · split <;> omega

theorem inputReferred_of_eta (h : eta ≠ 0) : inputReferred draw power eta = power * 256 / eta := if_neg h

end terms

section loop
variable {s : State} {d : Fin 17} {power temp g : Nat}

/-- A junction at or below 105 °C of a die that is not hot is read and nothing more (R441). -/
theorem State.junction_cool {d : Nat} (hot : (s.pdie d).hot = false) (ht : temp ≤ 105) :
    s.junction d temp = s.modPdie d (fun b => { b with temp := temp % 256 }) := by
  unfold State.junction
  rw [hot]
  have hn : ¬ (¬ (false = true) ∧ 105 < temp) := fun h => Nat.not_lt.mpr ht h.2
  have hf : ¬ (false = true ∧ temp < 103) := fun h => Bool.noConfusion h.1
  exact (if_neg hn).trans (if_neg hf)

/-- The loop of a compute die that is not hot: NB, NT and the settings of its cores (R434, R435, R441). -/
theorem exec_sluiceLoop_cool {u : State} (hc : s.clocksOn = true) (hd : d.val < 12) (ht : temp ≤ 105)
    (hot : (s.pdie d.val).hot = false)
    (hu : u = { s with freeCtr := s.freeCtr + 1 }.modPdie d.val (fun b => { b with temp := temp % 256 })) :
    exec (.sluiceLoop d power temp) s = .next (((u.modPdie d.val (fun b => { b with
      nb := match b.dieGrant with
        | none => b.nb
        | some g => budgetTerm b.nb (inputReferred s.freeCtr power b.eta) g
      nt := thermalTerm b.nt temp (u.pdie (12 + d.val / 3)).temp })).setSluice d.val).modPdie d.val
        (fun b => { b with droop := false })) := by
  subst hu
  change execSluiceLoop d power temp s = _
  unfold execSluiceLoop
  rw [if_neg (not_not_intro hc)]
  dsimp only
  rw [State.junction_cool hot ht, if_neg (fun h => absurd (h.1.trans ht) (by decide)), if_pos hd]
  rfl

end loop

section setting
variable {s : State} {c : Nat} {b : DieBudget}

theorem clampN_bounds (n : Nat) : 1 ≤ clampN n ∧ clampN n ≤ 64 := by
  unfold clampN
  split <;> omega

/-- The setting of a core without the floor power state and without a droop: the least of its three terms (R434). -/
def State.plainN (s : State) (c : Nat) (b : DieBudget) : Nat :=
  min (min b.nb b.nt) (clampN (s.regFld (Reg.powerCore c) 0 7))

/-- The setting where the floor power state is taken into account (R437). -/
def State.flooredN (s : State) (c : Nat) (b : DieBudget) : Nat :=
  if b.dieFloor then min (s.plainN c b) (clampN (s.regFld Reg.powerFloor 0 7)) else s.plainN c b

theorem State.sluiceN_eq : s.sluiceN c b = if b.droop then min (s.flooredN c b) 16 else s.flooredN c b := rfl

theorem State.flooredN_le : s.flooredN c b ≤ s.plainN c b := by
  unfold State.flooredN
  split
  · exact Nat.min_le_left _ _
  · exact le_rfl

theorem State.sluiceN_le : s.sluiceN c b ≤ s.flooredN c b := by
  rw [State.sluiceN_eq]
  split
  · exact Nat.min_le_left _ _
  · exact le_rfl

theorem State.one_le_plainN (hb : 1 ≤ b.nb) (ht : 1 ≤ b.nt) : 1 ≤ s.plainN c b :=
  Nat.le_min.mpr ⟨Nat.le_min.mpr ⟨hb, ht⟩, (clampN_bounds _).1⟩

/-- No term is 0, so that no setting is (R434). -/
theorem State.one_le_sluiceN (hb : 1 ≤ b.nb) (ht : 1 ≤ b.nt) : 1 ≤ s.sluiceN c b := by
  have hplain : 1 ≤ s.plainN c b := State.one_le_plainN hb ht
  have hfloor : 1 ≤ s.flooredN c b := by
    unfold State.flooredN
    split
    · exact Nat.le_min.mpr ⟨hplain, (clampN_bounds _).1⟩
    · exact hplain
  rw [State.sluiceN_eq]
  split
  · exact Nat.le_min.mpr ⟨hfloor, by decide⟩
  · exact hfloor

end setting

/-- Settles O47: the budget term by the three cases of the power, then the loop of a die that is not hot. The free value of
the loop and the droop cap's end are the model's choice (log 6, 39). -/
theorem budgetTermFollowsTheGrant : Obligations.BudgetTermFollowsTheGrant := by
  refine ⟨fun nb p g h1 h64 => ⟨fun h => ⟨budgetTerm_over h, budgetTerm_lt h⟩, budgetTerm_under, budgetTerm_near,
    (budgetTerm_bounds h1 h64).1, (budgetTerm_bounds h1 h64).2, fun _ _ _ => inputReferred_of_eta⟩,
    fun d power temp g s u hc hd ht hot hg _ hu => ?_⟩
  have hpdie : u.pdie d.val = { s.pdie d.val with temp := temp % 256 } := by
    rw [hu]
    exact State.pdie_modPdie (DieBudget.ne_rest_of_dieGrant hg)
  have hgrant : (u.pdie d.val).dieGrant = some g := by rw [hpdie]; exact hg
  rw [exec_sluiceLoop_cool hc hd ht hot hu]
  congr 3
  refine State.modPdie_congr ?_
  rw [hgrant]
  rfl

/-- Settles O48: each term in turn bounds the setting, and none of them is 0. -/
theorem sluiceSettingIsTheLeastTerm : Obligations.SluiceSettingIsTheLeastTerm := by
  intro s c b hb ht h64
  have hplain : s.sluiceN c b ≤ s.plainN c b := State.sluiceN_le.trans State.flooredN_le
  have hnb : s.plainN c b ≤ b.nb := (Nat.min_le_left _ _).trans (Nat.min_le_left _ _)
  have hnt : s.plainN c b ≤ b.nt := (Nat.min_le_left _ _).trans (Nat.min_le_right _ _)
  refine ⟨State.one_le_sluiceN hb ht, (hplain.trans hnb).trans h64, hplain.trans hnb, hplain.trans hnt,
    hplain.trans (Nat.min_le_right _ _), fun hf => ?_, fun hd => ?_, fun hf hd => ?_⟩
  · refine State.sluiceN_le.trans ?_
    rw [State.flooredN, if_pos hf]
    exact Nat.min_le_right _ _
  · rw [State.sluiceN_eq, if_pos hd]
    exact Nat.min_le_right _ _
  · rw [State.sluiceN_eq, if_neg (ne_true_of_eq_false hd), State.flooredN, if_neg (ne_true_of_eq_false hf)]
    rfl

end Sys2Proof.Machine

/-! PROOFS, 14_power_droop_thermal.md. Droop, trim, cap, floor, supply, throttle and trip events. -/

namespace Sys2Proof.Machine

section floor
variable {s : State} {code data : Nat}

theorem State.eventAll_of_not_vfEnable (h : s.host.vfEnable = false) : s.eventAll code data = s :=
  if_neg (ne_true_of_eq_false h)

/-- Entering the floor power state changes the power state alone (R437). -/
theorem State.floorEnter_fields : s.floorEnter = { s with power := s.floorEnter.power } := by
  unfold State.floorEnter
  split
  · have h := State.sameButDies_foldl (s := { s with power := { s.power with floor := true } })
      (t := { s with power := { s.power with floor := true } }) (l := List.range 12)
      (f := fun (u : State) (_ : Nat) (b : DieBudget) =>
        { b with msgs := b.msgs ++ [⟨b.sent.getD u.floorGrant, true, u.regFld Reg.powerInput 16 8, b.seq⟩] }) rfl
    unfold State.sameButDies at h
    generalize List.foldl _ _ _ = t at h ⊢
    rw [h]
  · rfl

theorem State.floorEnter_floor (hc : s.clocksOn = true) (hf : s.floorCause = true) : s.floorEnter.power.floor = true := by
  unfold State.floorEnter
  by_cases h : s.power.floor = true
  · rw [if_neg (fun hn => hn.2.2 h)]
    exact h
  · rw [if_pos ⟨hc, hf, h⟩]
    exact foldl_keeps_proj (fun t : State => t.power.floor) (fun _ _ => rfl) (List.range 12) _

theorem State.floorEnter_of_floor (h : s.power.floor = true) : s.floorEnter = s := if_neg (fun hn => hn.2.2 h)

theorem State.floorEnter_host : s.floorEnter.host = s.host := by rw [State.floorEnter_fields]

theorem State.regBit_floorEnter {k i : Nat} : s.floorEnter.regBit k i = s.regBit k i := by
  rw [State.floorEnter_fields]
  rfl

theorem State.floorEnter_setRegBit_fields {k i : Nat} {b : Bool} : (s.setRegBit k i b).floorEnter = { s with
    regs := (s.setRegBit k i b).floorEnter.regs, power := (s.setRegBit k i b).floorEnter.power } := by
  rw [State.floorEnter_fields]
  rfl

/-- Where no VF is enabled a power event raises PF vector 2 alone (R444). -/
theorem State.vecPf_eventAll (h : s.host.vfEnable = false) : (s.floorEnter.vecPf 2).eventAll code data = s.floorEnter.vecPf 2 :=
  State.eventAll_of_not_vfEnable ((congrArg HostSt.vfEnable State.floorEnter_host).trans h)

end floor

section events
variable {s : State} {d : Fin 12} {k : Fin 8} {vin since : Nat}

theorem exec_droop_first (hc : s.clocksOn = true) (h : (s.pdie d.val).stretched = false) : exec (.droop d k) s
    = .next (((s.bump (Reg.powerDieStretch d.val)).modPdie d.val (fun b => { b with stretched := true, droop := true })).setSluice
        d.val) := by
  change execDroop d k s = _
  unfold execDroop
  rw [if_neg (not_not_intro hc), if_neg (ne_true_of_eq_false h)]
  rfl

theorem exec_droop_again (hc : s.clocksOn = true) (h : (s.pdie d.val).stretched = true) : exec (.droop d k) s
    = .next ((s.modPdie d.val (fun b => { b with stretched := true, droop := true })).setSluice d.val) := by
  change execDroop d k s = _
  unfold execDroop
  rw [if_neg (not_not_intro hc), if_pos h]
  rfl

theorem exec_ageingTrim_due {allowed : List Nat} (hc : s.clocksOn = true)
    (ht : s.power.trimAt + 360000000000 ≤ s.time.toNat) : exec (.ageingTrim allowed) s
    = .next ((List.range 17).foldl (fun s e => s.lowerTrim e (nth 7 allowed e))
        { s with power := { s.power with trimAt := s.time.toNat } }) :=
  congrArg ok (if_neg (not_or.mpr ⟨not_not_intro hc, Nat.not_lt.mpr ht⟩))

theorem State.overCap_pos (hn : ∀ d, d < 12 → s.cdInService d = true → (s.pdie d).nb = 1)
    (hp : s.capWatts * 8 < s.regFld Reg.powerInput 0 16) :
    s.overCap = some (s.power.capOver.getD (s.time.toNat, false)) := by
  refine if_pos ⟨List.all_eq_true.mpr fun d hd => ?_, hp⟩
  cases hs : s.cdInService d with
  | false => rfl
  | true => simpa using hn d (List.mem_range.mp hd) hs

theorem exec_capUnmet_due (hc : s.clocksOn = true) (ho : s.power.capOver = some (since, false))
    (ht : since + 100000 ≤ s.time.toNat) : exec .capUnmet s
    = .next ((State.setRegBit { s with power := { s.power with capOver := some (since, true) } }
        Reg.powerStatus 27 true).vecPf 2) := by
  change execCapUnmet s = _
  unfold execCapUnmet
  rw [ho]
  exact congrArg ok (if_pos ⟨hc, ht⟩)

theorem exec_forceFloor_on (hp : s.portServes = true) :
    exec (.forceFloor true) s = .next (s.setRegBit Reg.powerCtrl 0 true).floorEnter := congrArg ok (if_pos hp)

theorem exec_forceFloor_off (hp : s.portServes = true) (hf : s.power.floor = true) :
    exec (.forceFloor false) s = .next (s.setRegBit Reg.powerCtrl 0 false) :=
  (congrArg ok (if_pos hp)).trans (congrArg ok (State.floorEnter_of_floor hf))

/-- FORCE_FLOOR is a cause of the floor power state (R437). -/
theorem State.floorCause_forced (hc : s.canonical = true) : (s.setRegBit Reg.powerCtrl 0 true).floorCause = true :=
  (congrArg (_ || ·) (State.regBit_setRegBit hc (by decide))).trans (Bool.or_true _)

theorem exec_supplyWarn_below (hm : s.monitors = true) (hv : s.host.vfEnable = false) (hw : s.power.supplyWarn = false)
    (hl : vin < s.warnLevel) : exec (.supplyWarn vin) s
    = .next (((({ s with power := { s.power with supplyWarn := true, vin := vin } }).bump Reg.powerWarnCount).floorEnter).vecPf
        2) := by
  refine (congrArg ok (if_neg ?_)).trans (congrArg ok (State.vecPf_eventAll hv))
  rw [hw]
  exact not_or.mpr ⟨not_not_intro hm, not_or.mpr ⟨Bool.false_ne_true, Nat.not_le.mpr hl⟩⟩

theorem exec_supplyOk_above (hm : s.monitors = true) (hv : s.host.vfEnable = false) (hw : s.power.supplyWarn = true)
    (hl : s.warnLevel + 10 ≤ vin) : exec (.supplyOk vin) s
    = .next { s with power := { s.power with supplyWarn := false, vin := vin } } :=
  (congrArg ok (if_pos ⟨hm, hw, hl⟩)).trans (congrArg ok (State.eventAll_of_not_vfEnable hv))

theorem exec_throttle_first (hm : s.monitors = true) (hv : s.host.vfEnable = false) (hg : s.side.vrefGood = true)
    (ht : s.power.throttle = false) (hr : s.clock.mode ≠ .recovery) : exec .throttle s
    = .next (((({ s with power := { s.power with
        throttle := true, throttleAt := s.time.toNat, throttleEvent := s.time.toNat } }).bump
        Reg.powerThrottleCount).floorEnter).vecPf 2) := by
  refine (congrArg ok (if_neg ?_)).trans (congrArg ok (State.vecPf_eventAll hv))
  rw [ht]
  exact not_or.mpr ⟨not_not_intro hm, not_or.mpr ⟨not_not_intro hg, not_or.mpr ⟨Bool.false_ne_true, hr⟩⟩⟩

theorem exec_throttleRepeat_due (hv : s.host.vfEnable = false) (ht : s.power.throttle = true)
    (hd : s.power.throttleEvent + 100000000 ≤ s.time.toNat) : exec .throttleRepeat s
    = .next (({ s with power := { s.power with throttleEvent := s.power.throttleEvent + 100000000 } }).vecPf 2) :=
  (congrArg ok (if_pos ⟨ht, hd⟩)).trans (congrArg ok (State.eventAll_of_not_vfEnable hv))

end events

end Sys2Proof.Machine

/-! PROOFS, 15_clocks_time_reset_startup.md. What a reset keeps of the registers, and the sticky record of a fatal error. -/

namespace Sys2Proof.Machine

section registers
variable {s t : State} {k i : Nat} {v : W32} {r : ErrRec}

/-- The value of a key in a map of which only some keys stay. -/
theorem SMap.get_filter {α : Type} {d : Nat → α} {m : SMap α} {p : Nat → Bool} {k : Nat} (h : p k = true) :
    SMap.get d (m.filter (fun e => p e.1)) k = SMap.get d m k := by
  induction m with
  | nil => rfl
  | cons e m ih =>
    obtain ⟨j, v⟩ := e
    by_cases hj : j = k
    · subst hj
      simp [h, SMap.get]
    · cases hp : p j <;> simp [hp, hj, ih, SMap.get]

/-- A word other than its reset value is what is read, whatever the register file held. -/
theorem State.reg_setReg_of_ne (h : v ≠ regReset k) : (s.setReg k v).reg k = v := SMap.get_set_of_ne _ _ _ _ h

theorem State.reg_discard {kind : Nat} {keep : Nat → Bool} (h : keep k = true) : (s.discard kind keep).reg k = s.reg k :=
  SMap.get_filter h

/-- Bit 31 of a register that is 0 after a reset stays where another field is stored. -/
theorem State.regBit_setRegFld_31 {lo len n : Nat} (hr : regReset k = 0)
    (hb : bitsOf (setBits (s.reg k).toNat lo len n) 31 1 = 1) (hl : lo + len ≤ 32) :
    (s.setRegFld k lo len n).regBit k 31 = true := by
  have hlt : setBits (s.reg k).toNat lo len n < 2 ^ 32 := setBits_lt (s.reg k).isLt hl
  have hval : (BitVec.ofNat 32 (setBits (s.reg k).toNat lo len n)).toNat = setBits (s.reg k).toNat lo len n :=
    (BitVec.toNat_ofNat _ _).trans (Nat.mod_eq_of_lt hlt)
  have hne : BitVec.ofNat 32 (setBits (s.reg k).toNat lo len n) ≠ regReset k := by
    rw [hr]
    intro h0
    rw [h0] at hval
    rw [← hval] at hb
    exact absurd hb (by decide)
  unfold State.regBit State.setRegFld fld
  rw [State.reg_setReg_of_ne hne, hval, hb]
  rfl

/-- The sticky status tells a fatal record from here on (R512). -/
theorem State.regBit_sticky : (s.sticky r).regBit Reg.errorStickyStatus 31 = true := by
  have hr : regReset Reg.errorStickyStatus = 0 := by decide
  unfold State.sticky
  split
  case isTrue h =>
    refine State.regBit_setRegFld_31 hr ?_ (by decide)
    rw [bitsOf_setBits_of_disjoint (Or.inr (by decide))]
    exact eq_of_beq h
  case isFalse h =>
    have hreg : ∀ ws : List W32, (((s.setRegBit Reg.errorStickyStatus 31 true).setReg Reg.errorStickyStart
        (BitVec.ofNat 32 s.peat.jstart)).setRegs (Reg.errorStickyRec 0) ws).reg Reg.errorStickyStatus
        = (s.setRegBit Reg.errorStickyStatus 31 true).reg Reg.errorStickyStatus := fun ws =>
      (State.reg_setRegs_below (by decide)).trans (State.reg_setReg_ne (by decide))
    unfold State.regBit
    rw [hreg]
    exact State.regBit_setRegFld_31 hr bitsOf_setBits (by decide)

theorem State.reg_program_ne {e : JEntry} (hl : k ≠ Reg.calibJournalLost) (hf : k ≠ Reg.calibJournalFirst)
    (ha : k ≠ Reg.calibJournalLast) (ht : k ≠ Reg.calibJournalFatal) : (s.program e).reg k = s.reg k :=
  (State.reg_setReg_ne ht).trans ((State.reg_setReg_ne ha).trans ((State.reg_setReg_ne hf).trans (State.reg_setReg_ne hl)))

/-- A fatal record is in the sticky registers, or counted there (R512). -/
theorem State.regBit_fatalRecord : (s.fatalRecord r).regBit Reg.errorStickyStatus 31 = true := by
  unfold State.fatalRecord State.regBit
  dsimp only
  rw [State.reg_program_ne (by decide) (by decide) (by decide) (by decide)]
  split <;> exact State.regBit_sticky

/-- CLOCKTIME_CAUSE after a module-wide reset: its kind, and the count of resets (R461). -/
theorem State.reg_moduleReset_cause {kind n : Nat} {keep : Nat → Bool} (h : kind < 16) :
    (s.moduleReset kind keep n).reg Reg.clocktimeCause
      = BitVec.ofNat 32 (kind * 2 ^ 28 + satAdd 0xFFFF (s.regFld Reg.clocktimeCause 0 16) 1) := by
  have hr : regReset Reg.clocktimeCause = 0 := by decide
  refine State.reg_setReg_of_ne ?_
  rw [hr]
  intro h0
  have hval := congrArg BitVec.toNat h0
  have hcount : 1 ≤ satAdd 0xFFFF (s.regFld Reg.clocktimeCause 0 16) 1
      ∧ satAdd 0xFFFF (s.regFld Reg.clocktimeCause 0 16) 1 ≤ 0xFFFF := by
    unfold satAdd
    omega
  rw [BitVec.toNat_ofNat, Nat.mod_eq_of_lt (by omega)] at hval
  change kind * 2 ^ 28 + _ = 0 at hval
  omega

/-- The kind of the last reset (R461). -/
theorem State.regFld_moduleReset_kind {kind n : Nat} {keep : Nat → Bool} (h : kind < 16) :
    (s.moduleReset kind keep n).regFld Reg.clocktimeCause 28 4 = kind := by
  have hcount : satAdd 0xFFFF (s.regFld Reg.clocktimeCause 0 16) 1 ≤ 0xFFFF := Nat.min_le_left _ _
  unfold State.regFld fld bitsOf
  rw [State.reg_moduleReset_cause h, BitVec.toNat_ofNat, Nat.shiftRight_eq_div_pow]
  change (kind * 2 ^ 28 + satAdd 65535 (s.regFld Reg.clocktimeCause 0 16) 1) % 2 ^ 32 / 2 ^ 28 % 2 ^ 4 = kind
  omega

end registers

section limits
variable {s : State} {d : Fin 17} {temp vin : Nat}

theorem exec_thermalTrip_hot (hm : s.monitors = true) (ht : 115 ≤ temp) :
    exec (.thermalTrip d temp) s = .next (s.trip d.val) :=
  congrArg ok (if_neg (not_or.mpr ⟨not_not_intro hm, Nat.not_lt.mpr ht⟩))

theorem State.regBit_trip {n : Nat} : (s.trip n).regBit Reg.errorStickyStatus 31 = true := by
  have h : (s.trip n).reg Reg.errorStickyStatus = (s.fatalRecord (ErrRec.mk0 2 0x0A 2 n)).reg Reg.errorStickyStatus :=
    State.reg_discard (kind := 6) (keep := fun _ => true) rfl
  unfold State.regBit
  rw [h]
  exact State.regBit_fatalRecord

/-- The supply reset as the input falls below 40 V (R442, R454). -/
def State.supplyLost (s : State) (vin : Nat) : State :=
  { s with power := { s.power with supplyReset := true, vin := vin } }

theorem exec_supplyReset_below (hm : s.monitors = true) (hv : vin < 400) (hs : s.power.supplyReset = false)
    (hr : s.clock.mode ≠ .recovery) : exec (.supplyReset vin) s = .next ((s.supplyLost vin).moduleReset 1 keepsReset 3) := by
  have hn : ¬ (¬ s.monitors = true ∨ 400 ≤ vin ∨ s.power.supplyReset = true) := by
    rw [hs]
    exact not_or.mpr ⟨not_not_intro hm, not_or.mpr ⟨Nat.not_le.mpr hv, Bool.false_ne_true⟩⟩
  exact congrArg ok ((if_neg hn).trans (if_neg hr))

end limits

/-- Settles O49: the events of a die, the floor power state, supply and THROTTLE_N, then the two limits. That a droop of a
stretched clock is no event, when CAP_UNMET sets and what a trip clears are the model's choice (log 39). -/
theorem powerEventsComplete : Obligations.PowerEventsComplete := by
  refine ⟨fun d k allowed s => ⟨exec_droop_first, exec_droop_again, rfl, fun h => congrArg ok (if_pos h),
      exec_ageingTrim_due⟩,
    fun s => ⟨State.overCap_pos, fun since => exec_capUnmet_due, exec_forceFloor_on, fun hcan hp hc hf => ?_,
      exec_forceFloor_off⟩,
    fun s vin hm hv => ⟨exec_supplyWarn_below hm hv, exec_supplyOk_above hm hv, exec_throttle_first hm hv,
      fun ht hd => congrArg ok (if_pos ⟨ht, hd⟩), exec_throttleRepeat_due hv⟩,
    fun s d temp vin hm => ⟨fun ht => ⟨_, exec_thermalTrip_hot hm ht, rfl, rfl, rfl, State.regBit_trip, rfl, rfl, rfl,
      Bool.and_false _⟩, fun hv hs hr => ⟨_, exec_supplyReset_below hm hv hs hr, rfl, rfl, rfl, rfl, rfl, rfl, rfl,
      State.regFld_moduleReset_kind (by decide)⟩⟩⟩
  exact ⟨_, exec_forceFloor_on hp, State.floorEnter_floor hc (State.floorCause_forced hcan),
    State.regBit_floorEnter.trans (State.regBit_setRegBit hcan (by decide)), State.floorEnter_setRegBit_fields⟩

end Sys2Proof.Machine

/-! PROOFS, 15_clocks_time_reset_startup.md. What start-up leaves alone: the time, the factory facts, the power and the crystal. -/

namespace Sys2Proof.Machine

section origin
variable {s t : State} {e : StartEnv} {k : Nat}

/-- The time base, the factory facts, and whether there is power and a crystal. -/
@[irreducible] def State.origin (s : State) : W64 × Factory × Bool × Bool := (s.time, s.fac, s.clock.powered, s.clock.xtalOk)

theorem State.origin_congr (ht : t.time = s.time) (hf : t.fac = s.fac) (hp : t.clock.powered = s.clock.powered)
    (hx : t.clock.xtalOk = s.clock.xtalOk) : t.origin = s.origin := by
  unfold State.origin
  rw [ht, hf, hp, hx]

@[simp] theorem State.origin_setReg {v : W32} : (s.setReg k v).origin = s.origin := State.origin_congr rfl rfl rfl rfl
@[simp] theorem State.origin_setRegFld {lo len v : Nat} : (s.setRegFld k lo len v).origin = s.origin := State.origin_setReg
@[simp] theorem State.origin_setRegBit {i : Nat} {b : Bool} : (s.setRegBit k i b).origin = s.origin := State.origin_setReg
@[simp] theorem State.origin_setReg64 {v : Nat} : (s.setReg64 k v).origin = s.origin :=
  State.origin_setReg.trans State.origin_setReg
@[simp] theorem State.origin_bump : (s.bump k).origin = s.origin := State.origin_setReg
@[simp] theorem State.origin_bumpFld {lo len n : Nat} : (s.bumpFld k lo len n).origin = s.origin := State.origin_setReg
@[simp] theorem State.origin_nextSeq : s.nextSeq.origin = s.origin := State.origin_congr rfl rfl rfl rfl
@[simp] theorem State.origin_vecPf : (s.vecPf k).origin = s.origin := State.origin_congr rfl rfl rfl rfl
@[simp] theorem State.origin_modPdie {f : DieBudget → DieBudget} : (s.modPdie k f).origin = s.origin :=
  State.origin_congr rfl rfl rfl rfl
@[simp] theorem State.origin_modChan {f : Channel → Channel} : (s.modChan k f).origin = s.origin :=
  State.origin_congr rfl rfl rfl rfl
@[simp] theorem State.origin_peat {p : PeatSt} : State.origin { s with peat := p } = s.origin :=
  State.origin_congr rfl rfl rfl rfl
@[simp] theorem State.origin_fw {f : FwSt} : State.origin { s with fw := f } = s.origin := State.origin_congr rfl rfl rfl rfl
@[simp] theorem State.origin_err {r : ErrSt} : State.origin { s with err := r } = s.origin := State.origin_congr rfl rfl rfl rfl
@[simp] theorem State.origin_power {p : PowerSt} : State.origin { s with power := p } = s.origin :=
  State.origin_congr rfl rfl rfl rfl
@[simp] theorem State.origin_side {p : SideSt} : State.origin { s with side := p } = s.origin :=
  State.origin_congr rfl rfl rfl rfl
@[simp] theorem State.origin_host {p : HostSt} : State.origin { s with host := p } = s.origin :=
  State.origin_congr rfl rfl rfl rfl
@[simp] theorem State.origin_net {p : NetSt} : State.origin { s with net := p } = s.origin :=
  State.origin_congr rfl rfl rfl rfl
@[simp] theorem State.origin_fab {p : Fabric} : State.origin { s with fab := p } = s.origin :=
  State.origin_congr rfl rfl rfl rfl
@[simp] theorem State.origin_pool {p : Pool} : State.origin { s with pool := p } = s.origin :=
  State.origin_congr rfl rfl rfl rfl
@[simp] theorem State.origin_freeCtr {n : Nat} : State.origin { s with freeCtr := n } = s.origin :=
  State.origin_congr rfl rfl rfl rfl

/-- The clock state may change but for the power and the crystal. -/
theorem State.origin_clock {c : ClockSt} (hp : c.powered = s.clock.powered) (hx : c.xtalOk = s.clock.xtalOk) :
    State.origin { s with clock := c } = s.origin := State.origin_congr rfl rfl hp hx

@[simp] theorem State.origin_enter {m : ModuleMode} : (s.enter m).origin = s.origin := State.origin_clock rfl rfl

@[simp] theorem State.origin_stepEnded : (s.stepEnded k).origin = s.origin :=
  State.origin_setReg.trans (State.origin_clock rfl rfl)

@[simp] theorem State.origin_program {j : JEntry} : (s.program j).origin = s.origin := by
  unfold State.program
  simp

@[simp] theorem State.origin_moduleReset {kind : Nat} {keep : Nat → Bool} : (s.moduleReset kind keep k).origin = s.origin :=
  State.origin_setReg.trans (State.origin_congr rfl rfl rfl rfl)

@[simp] theorem State.origin_record {r : ErrRec} : (s.record r).origin = s.origin := by
  unfold State.record
  dsimp only
  split
  · exact State.origin_err.trans State.origin_bump
  · exact State.origin_nextSeq.trans (State.origin_bump.trans State.origin_bump)

theorem State.origin_foldl_record {α : Type} {f : α → ErrRec} {l : List α} :
    (l.foldl (fun t x => t.record (f x)) s).origin = s.origin :=
  foldl_keeps_proj State.origin (fun _ _ => State.origin_record) l s

theorem State.origin_stewardRestart : s.stewardRestart.origin = s.origin := by
  have hfold := foldl_keeps_proj (f := fun (t : State) (r : ErrRec) => (t.bump (Reg.errorQLost r.sev)).nextSeq)
    State.origin (fun _ _ => by simp) (s.err.waiting ++ (s.err.handling.filter (fun h => decide (h.2 < 3))).map (·.1)) s
  refine Eq.trans ?_ hfold
  exact State.origin_congr rfl rfl rfl rfl

theorem State.origin_endTrial {cause kind : Nat} : (s.endTrial cause kind).origin = s.origin := by
  unfold State.endTrial
  extract_lets f s1 m r s2 s3 s4
  have h4 : s4.origin = s.origin := by simp [s4, s3, s2, s1, State.origin_stewardRestart]
  clear_value s4
  split
  · refine Eq.trans ?_ h4
    exact State.origin_clock rfl rfl
  · exact h4

theorem State.origin_trySets {l : List Nat} : (State.trySets e l s).1.origin = s.origin := by
  induction l generalizing s with
  | nil => rfl
  | cons k l ih =>
    unfold State.trySets
    split
    · exact State.origin_fw
    · exact ih.trans State.origin_fw

theorem State.origin_selectSet : (s.selectSet e).1.origin = s.origin := State.origin_trySets.trans State.origin_fw

theorem State.origin_bootSet : (s.bootSet e).origin = s.origin := by
  have h := State.origin_selectSet (s := s) (e := e)
  unfold State.bootSet
  generalize s.selectSet e = p at h
  obtain ⟨t, o⟩ := p
  cases o
  · exact State.origin_enter.trans h
  · exact State.origin_stepEnded.trans h

theorem State.origin_readConfig : s.readConfig.origin = s.origin := by
  unfold State.readConfig
  dsimp only
  split <;> simp [State.origin_foldl_record]

theorem State.origin_readCalibration : s.readCalibration.origin = s.origin := by
  unfold State.readCalibration
  extract_lets bs valid st p s1 s2
  have h2 : s2.origin = s.origin := State.origin_setReg.trans State.origin_peat
  clear_value s2 st
  split
  · exact State.origin_record.trans h2
  · exact h2

theorem State.origin_applyConfig : s.applyConfig.origin = s.origin := by
  unfold State.applyConfig
  simp

theorem State.origin_openJournal : s.openJournal.origin = s.origin := by
  unfold State.openJournal State.startEntry
  split
  exact State.origin_program.trans (State.origin_peat.trans State.origin_setReg)

theorem State.origin_loadFailed : (s.loadFailed e).origin = s.origin := by
  unfold State.loadFailed
  split
  · refine Eq.trans ?_ (State.origin_endTrial (cause := 0x0F) (kind := 5))
    exact State.origin_clock rfl rfl
  · rfl

@[simp] theorem State.origin_lowerTrim {d a : Nat} : (s.lowerTrim d a).origin = s.origin := by
  unfold State.lowerTrim
  split
  · exact State.origin_peat.trans State.origin_modPdie
  · rfl

@[simp] theorem State.origin_linkTrained {w v : Nat} {f l : Bool} : (s.linkTrained w v f l).origin = s.origin := by
  unfold State.linkTrained
  dsimp only
  split <;> simp

@[simp] theorem State.origin_floorEnter : s.floorEnter.origin = s.origin := by
  rw [State.floorEnter_fields]
  exact State.origin_power

theorem State.origin_foldl_lowerTrim {f : State → Nat → DieBudget → DieBudget} {g : Nat → Nat} {l : List Nat} :
    (l.foldl (fun t d => (t.modPdie d (f t d)).lowerTrim d (g d)) s).origin = s.origin :=
  foldl_keeps_proj State.origin (fun _ _ => by simp) l s

theorem State.origin_clocksUp : (s.clocksUp e).origin = s.origin := by
  unfold State.clocksUp
  dsimp only
  split
  · exact State.origin_enter
  · split
    · exact State.origin_loadFailed
    · have hclock : State.origin { s with clock := { s.clock with pllLock := true } } = s.origin := State.origin_clock rfl rfl
      split <;> simp [State.origin_foldl_lowerTrim, hclock]

theorem State.origin_fabricUp : (s.fabricUp e).origin = s.origin := by
  have hlanes : ((List.range 8).foldl (fun t n => t.setReg (Reg.fabricCauseway n) (cwWord e n)) s).origin = s.origin :=
    foldl_keeps_proj State.origin (fun _ _ => State.origin_setReg) _ s
  unfold State.fabricUp
  extract_lets s1 bad s2 d cs cr g s3 p s4
  have h2 : s2.origin = s.origin := State.origin_foldl_record.trans hlanes
  clear_value s2
  have h3 : s3.origin = s.origin := State.origin_setReg.trans h2
  clear_value s3
  exact State.origin_stepEnded.trans (State.origin_setReg64.trans (State.origin_fab.trans h3))

@[simp] theorem State.origin_retireAtStart {c n : Nat} : (s.retireAtStart c n).origin = s.origin := by
  unfold State.retireAtStart
  simp

@[simp] theorem State.origin_channelUp {c : Nat} : (s.channelUp c).origin = s.origin := by
  unfold State.channelUp
  simp

theorem State.origin_memoryUp : (s.memoryUp e).origin = s.origin := by
  refine State.origin_stepEnded.trans (foldl_keeps_proj State.origin (fun t c => ?_) (List.range 80) s)
  split
  · rfl
  · split
    · exact State.origin_retireAtStart
    · exact State.origin_channelUp

@[simp] theorem State.origin_dropChannels {l : List Nat} : (s.dropChannels l).origin = s.origin := by
  refine foldl_keeps_proj State.origin (fun t c => ?_) (List.range 80) s
  split
  · rfl
  · split
    · exact State.origin_setRegFld
    · exact State.origin_retireAtStart

@[simp] theorem State.origin_formPool : (s.formPool e).origin = s.origin := by
  unfold State.formPool
  simp [State.origin_foldl_record]

@[simp] theorem State.origin_setIdent : (s.setIdent e).origin = s.origin := by
  have hmap : ∀ f : Nat → W32, ((List.range 3).foldl (fun t j => t.setReg (Reg.identCoreMap j) (f j)) s).origin = s.origin :=
    fun f => foldl_keeps_proj State.origin (fun _ _ => State.origin_setReg) _ s
  unfold State.setIdent
  simp [hmap]

/-- Step 9 judges the units in service, and leaves the origin alone (R457). -/
theorem State.origin_judge : (s.judge e).origin = s.origin := by
  unfold State.judge
  split
  · exact State.origin_loadFailed
  · extract_lets s1 low s2 p s3
    have h2 : s2.origin = s.origin := by
      unfold s2
      split <;> simp [s1]
    have h3 : s3.origin = s.origin := State.origin_host.trans h2
    clear_value s3
    split
    · exact State.origin_enter.trans (State.origin_stepEnded.trans (State.origin_setRegBit.trans h3))
    · exact State.origin_stepEnded.trans (State.origin_setRegFld.trans (State.origin_setRegFld.trans
        (State.origin_setRegFld.trans (State.origin_host.trans (State.origin_setIdent.trans (State.origin_formPool.trans h3))))))

@[simp] theorem State.origin_netLink {up : Bool} : (s.netLink up).origin = s.origin := by
  unfold State.netLink
  dsimp only
  split <;> simp

theorem State.origin_fullService : (s.fullService e).origin = s.origin := by
  unfold State.fullService
  extract_lets c n s1 s2 s3
  have h2 : s2.origin = s.origin := by
    unfold s2
    split
    · split <;> simp [s1]
    · rfl
  have h3 : s3.origin = s.origin := by simp [s3, h2]
  clear_value s3
  refine State.origin_enter.trans (Eq.trans ?_ h3)
  exact State.origin_clock rfl rfl

theorem State.origin_startStep : (s.startStep e k).origin = s.origin := by
  unfold State.startStep
  split
  · rfl
  · split
    · split <;> simp
    · exact State.origin_bootSet
    · split
      · rfl
      · simp [State.origin_applyConfig, State.origin_readCalibration, State.origin_readConfig, State.origin_openJournal,
          State.origin_clock]
    · exact State.origin_clocksUp
    · exact State.origin_fabricUp
    · exact State.origin_memoryUp
    · exact State.origin_stepEnded
    · exact State.origin_stepEnded
    · exact State.origin_judge
    · exact State.origin_fullService
    · rfl

theorem State.origin_beginStart : (s.beginStart e).origin = s.origin := by
  have hsteps : ∀ t : State, ((List.range 10).foldl (fun t i => t.setReg (Reg.clocktimeStep (i + 1)) 0) t).origin = t.origin :=
    foldl_keeps_proj State.origin (fun _ _ => State.origin_setReg) _
  unfold State.beginStart
  extract_lets s1 s2 s3
  have h3 : s3.origin = s.origin := (hsteps s2).trans (State.origin_setReg64.trans State.origin_setReg64)
  clear_value s3
  refine Eq.trans ?_ h3
  exact State.origin_clock rfl rfl

/-- Start-up leaves the time base, the factory facts, the power and the crystal alone (R451, R456). -/
theorem State.origin_startup : (s.startup e).origin = s.origin := by
  unfold State.startup
  refine (foldl_keeps_proj State.origin (fun _ _ => State.origin_startStep) _ _).trans ?_
  split
  · exact State.origin_clock rfl rfl
  · exact State.origin_beginStart

end origin

end Sys2Proof.Machine

/-! PROOFS, 15_clocks_time_reset_startup.md. Power-on, power loss and the steps of start-up in their order. -/

namespace Sys2Proof.Machine

section fresh
variable {s : State} {e : StartEnv} {k : Nat} {v : W32}

/-- An empty register file takes a reset value as it is. -/
theorem State.regs_setReg_empty (h : s.regs = []) (hv : v = regReset k) : (s.setReg k v).regs = [] := by
  change SMap.set regReset s.regs k v = []
  rw [h, SMap.set, if_pos hv]
  rfl

/-- Words stored in turn leave everything but the registers alone. -/
theorem State.foldl_setReg_fields {α : Type} {f : α → Nat} {g : α → W32} {l : List α} :
    l.foldl (fun t i => t.setReg (f i) (g i)) s = { s with regs := (l.foldl (fun t i => t.setReg (f i) (g i)) s).regs } := by
  induction l generalizing s with
  | nil => rfl
  | cons i l ih => exact ih

/-- A start-up begins with the registers of the last one set afresh (R461). -/
theorem State.beginStart_fields : s.beginStart e = { s with
    regs := (s.beginStart e).regs, clock := { s.clock with begun := true, origin := s.time.toNat, phys := some e } } := by
  unfold State.beginStart
  dsimp only
  rw [State.foldl_setReg_fields]
  rfl

/-- At time zero, with no register set, a start-up that begins sets none (R461). -/
theorem State.regs_beginStart (h : s.regs = []) (ht : s.time = 0) : (s.beginStart e).regs = [] := by
  have hstart : (s.setReg64 Reg.clocktimeStart s.time.toNat).regs = [] := by
    rw [ht]
    exact State.regs_setReg_empty (State.regs_setReg_empty h (by decide)) (by decide)
  have hframe : ((s.setReg64 Reg.clocktimeStart s.time.toNat).setReg64 Reg.clocktimeFrame0 0).regs = [] :=
    State.regs_setReg_empty (State.regs_setReg_empty hstart (by decide)) (by decide)
  have hsteps : ∀ i ∈ List.range 10, (0 : W32) = regReset (Reg.clocktimeStep (i + 1)) := by decide
  exact List.foldlRecOn (motive := fun t : State => t.regs = []) (List.range 10) _ hframe
    (fun t ht i hi => State.regs_setReg_empty ht (hsteps i hi))

end fresh

section power
variable {s : State} {e : StartEnv} {high above41 : Bool}

/-- The state at power-good, before start-up (R451, R454, R535). -/
def State.poweredOn (s : State) (high above41 : Bool) : State :=
  { s.discard 0 (fun _ => false) with
    time := 0
    power := { PowerSt.rest with vin := (s.discard 0 (fun _ => false)).power.vin, supplyReset := !above41 }
    clock := { ClockSt.rest with powered := true, mode := .starting, held := !high }
    err := .rest
    peat := { (s.discard 0 (fun _ => false)).peat with carried := 0 }
    fw := { (s.discard 0 (fun _ => false)).fw with lastSel := (s.discard 0 (fun _ => false)).fw.active }
    side := { s.side with i3c := false, dynAddr := 0 } }

theorem exec_powerOn_off (hp : s.clock.powered = false) :
    exec (.powerOn ⟨high, above41⟩ e) s = .next ((s.poweredOn high above41).startup e) :=
  congrArg ok (if_neg (ne_true_of_eq_false hp))

theorem State.regs_poweredOn : (s.poweredOn high above41).regs = [] := List.filter_false _

/-- A start-up whose environment ends no step has begun and nothing more (log 9). -/
theorem State.startup_held (hl : e.lastStep = 0) (hb : s.clock.begun = false) : s.startup e = s.beginStart e := by
  unfold State.startup State.startTo
  dsimp only
  rw [hl, hb]
  rfl

/-- A power loss: the steward restarts, every register, device and cache is lost, and the clocks stop (R451, R452). -/
def State.poweredOff (s : State) : State :=
  { s.stewardRestart.discard 0 (fun _ => false) with power := .rest, clock := .rest, err := .rest }

theorem exec_powerLoss_on (hp : s.clock.powered = true) : exec .powerLoss s = .next s.poweredOff :=
  congrArg ok (if_neg (not_not_intro hp))

theorem State.stewardRestart_fac : s.stewardRestart.fac = s.fac :=
  foldl_keeps_proj (f := fun (t : State) (r : ErrRec) => (t.bump (Reg.errorQLost r.sev)).nextSeq) State.fac
    (fun _ _ => rfl) _ s

/-- A restart of the steward that finds no flash operation keeps the journal (R465, R477). -/
theorem State.stewardRestart_journal (h : flashNow s.peat.ops = Option.none) :
    s.stewardRestart.peat.ring = s.peat.ring ∧ s.stewardRestart.peat.fatal = s.peat.fatal := by
  have hpeat : ((s.err.waiting ++ (s.err.handling.filter (fun h => decide (h.2 < 3))).map (·.1)).foldl
      (fun (t : State) (r : ErrRec) => (t.bump (Reg.errorQLost r.sev)).nextSeq) s).peat = s.peat :=
    foldl_keeps_proj (f := fun (t : State) (r : ErrRec) => (t.bump (Reg.errorQLost r.sev)).nextSeq) State.peat
      (fun _ _ => rfl) _ s
  unfold State.stewardRestart State.flashCut
  dsimp only
  rw [hpeat, h]
  exact ⟨rfl, rfl⟩

end power

section steps
variable {s : State} {e : StartEnv} {k : Nat}

theorem State.startStep_stopped (h : s.clock.mode ≠ .starting) : s.startStep e k = s := if_pos (Or.inl h)

theorem State.startStep_unready (h : s.clock.step + 1 ≠ k) : s.startStep e k = s := if_pos (Or.inr h)

theorem State.not_mayConfigure (h : s.clock.held = true ∨ s.clock.linkReset = true ∨ s.power.supplyReset = true) :
    s.mayConfigure = false := by
  unfold State.mayConfigure
  rcases h with h | h | h <;> rw [h] <;> simp

/-- Step 3 waits for PERST_N, the CXL link and the supply (R456). -/
theorem State.startStep_waits (h : s.mayConfigure = false) : s.startStep e 3 = s := by
  unfold State.startStep
  split
  · rfl
  · exact if_pos (ne_true_of_eq_false h)

/-- A step of start-up in its turn (R456). -/
theorem State.startStep_due {n : Nat} (hm : s.clock.mode = .starting) (hs : s.clock.step = n) :
    ¬ (s.clock.mode ≠ .starting ∨ s.clock.step + 1 ≠ n + 1) := by
  rw [hs]
  exact not_or.mpr ⟨not_not_intro hm, not_not_intro rfl⟩

theorem State.startStep_service (hm : s.clock.mode = .starting) (hs : s.clock.step = 9) : s.startStep e 10 = s.fullService e :=
  if_neg (State.startStep_due hm hs)

theorem State.startStep_selfTest (hm : s.clock.mode = .starting) (hs : s.clock.step = 0) (he : e.selfTestOk = false) :
    s.startStep e 1 = s.enter .recovery :=
  (if_neg (State.startStep_due hm hs)).trans (if_neg (ne_true_of_eq_false he))

theorem State.startStep_pll (hm : s.clock.mode = .starting) (hs : s.clock.step = 3) (he : e.pllOk = false) :
    s.startStep e 4 = s.enter .recovery :=
  (if_neg (State.startStep_due hm hs)).trans (if_pos (ne_true_of_eq_false he))

end steps

/-- Settles O50: power-on, with the origin that every step of start-up keeps; a power loss; then the steps. How far start-up
comes, and a power-good below 41 V as a supply reset, are the model's choice (log 9, 40). -/
theorem powerOnAndStartRunInOrder : Obligations.PowerOnAndStartRunInOrder := by
  refine ⟨fun s high above41 e => ⟨fun hp => ⟨_, exec_powerOn_off hp, ?_⟩,
    fun hp hf => ⟨_, exec_powerLoss_on hp, rfl, rfl, State.stewardRestart_fac, List.filter_false _, rfl,
      State.stewardRestart_journal hf⟩⟩, fun s e k => ⟨State.startStep_stopped, State.startStep_unready,
    fun h => State.startStep_waits (State.not_mayConfigure h), fun hm hs => ?_, fun hm hs he => ?_, fun hm hs he => ?_⟩⟩
  · have horigin : ((s.poweredOn high above41).startup e).origin = (s.poweredOn high above41).origin := State.origin_startup
    unfold State.origin at horigin
    obtain ⟨htime, hrest⟩ := Prod.mk.inj horigin
    obtain ⟨hfac, hclock⟩ := Prod.mk.inj hrest
    obtain ⟨hpow, hxtal⟩ := Prod.mk.inj hclock
    refine ⟨htime, hpow, hxtal, hfac, fun hl => ?_⟩
    have hregs := State.regs_beginStart (e := e) (State.regs_poweredOn (s := s) (high := high) (above41 := above41)) rfl
    rw [State.startup_held hl rfl]
    refine ⟨?_, ?_, ?_, ?_, hregs, ?_, ?_, ?_, ?_, ?_⟩ <;> rw [State.beginStart_fields] <;> rfl
  · rw [State.startStep_service hm hs]
    exact ⟨rfl, rfl, rfl⟩
  · rw [State.startStep_selfTest hm hs he]
    rfl
  · rw [State.startStep_pll hm hs he]
    rfl

end Sys2Proof.Machine

/-! PROOFS, 15_clocks_time_reset_startup.md. The resets and where they take start-up up again; clock failures and fatal errors. -/

namespace Sys2Proof.Machine

section resets
variable {s : State} {e : StartEnv}

theorem exec_perstNAssert_released (hm : s.monitors = true) (hh : s.clock.held = false) (hr : s.clock.mode ≠ .recovery) :
    exec .perstNAssert s = .next
      { s.moduleReset 2 keepsReset 3 with clock := { (s.moduleReset 2 keepsReset 3).clock with held := true } } :=
  congrArg ok (if_neg (not_or.mpr ⟨not_not_intro hm, not_or.mpr ⟨ne_true_of_eq_false hh, hr⟩⟩))

theorem exec_perstNRelease_held (hm : s.monitors = true) (hh : s.clock.held = true) : exec (.perstNRelease e) s
    = .next (({ s with clock := { s.clock with held := false } }).startup e) :=
  congrArg ok (if_neg (not_or.mpr ⟨not_not_intro hm, not_not_intro hh⟩))

theorem exec_cxlHotReset_up (hm : s.monitors = true) (hu : s.linkUp = true) (hl : s.clock.linkReset = false) :
    exec .cxlHotReset s = .next
      { s.moduleReset 3 keepsReset 3 with clock := { (s.moduleReset 3 keepsReset 3).clock with linkReset := true } } :=
  congrArg ok (if_neg (not_or.mpr ⟨not_not_intro hm, not_or.mpr ⟨not_not_intro hu, ne_true_of_eq_false hl⟩⟩))

theorem exec_linkResetStateExit_reset (hm : s.monitors = true) (hl : s.clock.linkReset = true) :
    exec (.linkResetStateExit e) s = .next (({ s with clock := { s.clock with linkReset := false } }).startup e) :=
  congrArg ok (if_neg (not_or.mpr ⟨not_not_intro hm, not_not_intro hl⟩))

theorem exec_supplyResetEnd_reset (hm : s.monitors = true) (hr : s.power.supplyReset = true) :
    exec (.supplyResetEnd e) s = .next (({ s with power := { s.power with supplyReset := false } }).startup e) :=
  congrArg ok (if_neg (not_or.mpr ⟨not_not_intro hm, not_not_intro hr⟩))

theorem exec_firmwareWatchdog_booted (hm : s.monitors = true) (hs : 2 ≤ s.clock.step) : exec (.firmwareWatchdog e) s
    = .next (({ s.stewardReset 5 with clock := { (s.stewardReset 5).clock with
        resets5 := (s.stewardReset 5).clock.resets5 + 1 } }).startup e) :=
  congrArg ok (if_neg (not_or.mpr ⟨not_not_intro hm, Nat.not_lt.mpr hs⟩))

theorem State.assignBus_clock {r : CfgRequest} : (s.assignBus r).clock = s.clock := by
  unfold State.assignBus
  split <;> rfl

/-- A configuration request takes start-up up again where it stands (R456). -/
theorem exec_configurationRequest_begun {r : CfgRequest} (hm : s.monitors = true) (hb : s.clock.begun = true)
    (he : s.clock.phys = some e) (hk : r.upTo ≤ 10) :
    exec (.configurationRequest r) s = .next ((s.assignBus r).startTo e r.upTo) := by
  have hb' : (s.assignBus r).clock.begun = true := (congrArg ClockSt.begun State.assignBus_clock).trans hb
  change execConfigurationRequest r s = _
  unfold execConfigurationRequest
  rw [hm, he]
  dsimp only
  rw [if_pos hb', Nat.min_eq_left hk]
  rfl

/-- A module-wide reset is what it discards, its kind and count, and where start-up stands (R454, R461). -/
theorem State.moduleReset_fields {kind k : Nat} {keep : Nat → Bool} : s.moduleReset kind keep k
    = { s.discard kind keep with
        regs := (s.moduleReset kind keep k).regs, clock := s.clock.restarted (k - 1) } := rfl

end resets

/-- Settles O51: each reset by the conditions of its command, then what a module-wide reset leaves. That a configuration
request takes start-up up with the outcomes that are kept, and notes the buses, is the model's choice (log 9, 18, 34, 40). -/
theorem resetsDiscardEverythingVolatile : Obligations.ResetsDiscardEverythingVolatile :=
  ⟨fun _ _ hm => ⟨exec_perstNAssert_released hm, exec_perstNRelease_held hm, congrArg ok (if_pos hm), exec_cxlHotReset_up hm,
    exec_linkResetStateExit_reset hm, exec_supplyResetEnd_reset hm, fun hp => congrArg ok (if_pos hp),
    exec_firmwareWatchdog_booted hm, fun hb _ _ _ he hk => exec_configurationRequest_begun hm hb he hk⟩,
   fun _ _ _ hk => by
    refine ⟨?_, ?_, ?_, ?_, ?_, ?_, ?_, ?_, ?_, ?_, ?_, ?_, ?_, ?_, ?_, ?_, State.reg_moduleReset_cause (hk.trans (by decide))⟩
    all_goals
      rw [State.moduleReset_fields]
      rfl⟩

section counterexample

/-- A fatal record whose class number is none of the module's: its count has the key of ERROR_STICKY_STATUS. -/
def strayFatal : ErrRec := ErrRec.mk0 2 32 0 0

/-- A module whose sticky registers hold a fatal record. -/
def stuckOnce : State := { State.reset with regs := [(Reg.errorStickyStatus, 0x80000000)] }

theorem stuckOnce_canonical : stuckOnce.canonical = true := by decide +kernel
theorem stuckOnce_sticky : stuckOnce.regBit Reg.errorStickyStatus 31 = true := by decide +kernel
theorem stuckOnce_count : stuckOnce.regFld Reg.errorStickyStatus 0 16 = 0 := by decide +kernel

/-- The error counts twice: in its class, and as a later fatal one. -/
theorem stuckOnce_fatal : (stuckOnce.fatal strayFatal).regFld Reg.errorStickyStatus 0 16 = 2 := by decide +kernel

end counterexample

/-- Refutes O53: nothing bounds the class of a record, and the count of class 32 is at the key of ERROR_STICKY_STATUS, whose
count of later fatal errors then rises by two. -/
theorem not_fatalErrorsEndInAStewardReset : ¬ Obligations.FatalErrorsEndInAStewardReset := by
  intro h
  obtain ⟨-, -, -, -, -, -, -, hlater⟩ := h.2 stuckOnce strayFatal stuckOnce_canonical
  obtain ⟨-, hcount⟩ := hlater stuckOnce_sticky
  rw [stuckOnce_fatal, stuckOnce_count] at hcount
  exact absurd hcount (by decide)

end Sys2Proof.Machine

/-! PROOFS, 16_peat_store_configuration.md. The operations of CALIB_CMD. -/

namespace Sys2Proof.Machine

section calib
variable {s : State} {op len : Nat} {key : Byte}

/-- CALIB_CMD as GO leaves it (R479). -/
def State.calibAsked (s : State) (op : Nat) : State := s.setRegFld Reg.calibCmd 0 4 op

/-- What an operation of CALIB_CMD does where none is in progress (R469, R473, R478, R479). -/
def State.calibRun (s : State) (op : Nat) (key : Byte) : State :=
  match op with
  | 0 => (s.fillCalibBuf (flashBytes 512 (nth [] s.peat.copies ((laterCopy s.peat.copies).getD 0)))).calibDone
    (if (laterCopy s.peat.copies).isSome then 0 else 6)
  | 1 => s.writeRecord
  | 2 => (s.fillCalibBuf (flashBytes 2048 s.peat.cal)).calibDone (if calValid s.peat.cal then 0 else 6)
  | 3 =>
    if key ≠ 0xC5 then s.calibDone 4
    else if ¬ calValid (s.calibImage 2048) then s.calibDone 2
    else s.calibStart 3 (.cal (calStored s.peat.cal (s.calibImage 2048)))
  | 4 =>
    match s.peat.entries.find? (fun e => decide (e.seq = (s.reg Reg.calibJournalSel).toNat)) with
    | some e => (s.fillCalibBuf e.bytes).calibDone 0
    | none => s.calibDone 5
  | 5 => (s.fillCalibBuf s.peat.record).calibDone 0
  | 6 => if key ≠ 0xC5 then s.calibDone 4 else s.calibStart 6 .clear
  | _ => s.calibDone 1

theorem State.calibRun_readRecord {c : Nat} (hc : laterCopy s.peat.copies = some c) :
    s.calibRun 0 key = (s.fillCalibBuf (flashBytes 512 (nth [] s.peat.copies c))).calibDone 0 := by
  unfold State.calibRun
  rw [hc]
  rfl

theorem State.calibRun_readCal (hv : calValid s.peat.cal = true) :
    s.calibRun 2 key = (s.fillCalibBuf (flashBytes 2048 s.peat.cal)).calibDone 0 := by
  unfold State.calibRun
  rw [hv]
  rfl

theorem State.calibRun_writeCal_unkeyed (hk : key ≠ 0xC5) : s.calibRun 3 key = s.calibDone 4 := if_pos hk

theorem State.calibRun_writeCal (hv : calValid (s.calibImage 2048) = true) :
    s.calibRun 3 0xC5 = s.calibStart 3 (.cal (calStored s.peat.cal (s.calibImage 2048))) := by
  unfold State.calibRun
  rw [hv]
  rfl

theorem State.calibRun_readJournal {e : JEntry}
    (he : s.peat.entries.find? (fun x => decide (x.seq = (s.reg Reg.calibJournalSel).toNat)) = some e) :
    s.calibRun 4 key = (s.fillCalibBuf e.bytes).calibDone 0 := by
  unfold State.calibRun
  rw [he]
  rfl

theorem State.calibRun_clearJournal_unkeyed (hk : key ≠ 0xC5) : s.calibRun 6 key = s.calibDone 4 := if_pos hk

theorem State.calibRun_clearJournal : s.calibRun 6 0xC5 = s.calibStart 6 .clear := rfl

/-- GO while BUSY only sets OVERRUN (R479). -/
theorem State.calibGo_busy (hp : s.portServes = true) (hb : s.peat.cmd.isSome = true) :
    s.calibGo op key = (s.calibAsked op).setRegBit Reg.calibStatus 29 true :=
  (if_neg (not_not_intro hp)).trans (if_pos hb)

theorem State.calibGo_free (hp : s.portServes = true) (hb : s.peat.cmd = Option.none) :
    s.calibGo op key = (s.calibAsked op).calibRun op key := by
  have hnot : ¬ s.peat.cmd.isSome = true := by simp [hb]
  exact ((if_neg (not_not_intro hp)).trans (if_neg hnot)).trans rfl

theorem State.regList_setRegFld_below {j lo n v k m : Nat} (h : j < k) :
    (s.setRegFld j lo n v).regList k m = s.regList k m := by
  induction m generalizing k with
  | zero => rfl
  | succ m ih => rw [State.regList, State.regList, State.reg_setRegFld_ne (by omega), ih (by omega)]

theorem State.calibImage_calibAsked : (s.calibAsked op).calibImage len = s.calibImage len := by
  unfold State.calibImage State.calibAsked
  rw [State.regList_setRegFld_below (by decide)]

theorem exec_readRecord_free {c : Nat} (hp : s.portServes = true) (hb : s.peat.cmd = Option.none)
    (hc : laterCopy s.peat.copies = some c) : exec .readRecord s
    = .next (((s.calibAsked 0).fillCalibBuf (flashBytes 512 (nth [] s.peat.copies c))).calibDone 0) :=
  congrArg ok ((State.calibGo_free hp hb).trans (State.calibRun_readRecord hc))

theorem exec_readCal_free (hp : s.portServes = true) (hb : s.peat.cmd = Option.none) (hv : calValid s.peat.cal = true) :
    exec .readCal s = .next (((s.calibAsked 2).fillCalibBuf (flashBytes 2048 s.peat.cal)).calibDone 0) :=
  congrArg ok ((State.calibGo_free hp hb).trans (State.calibRun_readCal hv))

theorem exec_readActive_free (hp : s.portServes = true) (hb : s.peat.cmd = Option.none) :
    exec .readActive s = .next (((s.calibAsked 5).fillCalibBuf s.peat.record).calibDone 0) :=
  congrArg ok (State.calibGo_free hp hb)

theorem exec_readJournal_free {e : JEntry} (hp : s.portServes = true) (hb : s.peat.cmd = Option.none)
    (he : s.peat.entries.find? (fun x => decide (x.seq = (s.reg Reg.calibJournalSel).toNat)) = some e) :
    exec .readJournal s = .next (((s.calibAsked 4).fillCalibBuf e.bytes).calibDone 0) := by
  have hsel : (s.calibAsked 4).reg Reg.calibJournalSel = s.reg Reg.calibJournalSel := State.reg_setRegFld_ne (by decide)
  rw [← hsel] at he
  exact congrArg ok ((State.calibGo_free hp hb).trans (State.calibRun_readJournal he))

theorem exec_writeRecord_free (hp : s.portServes = true) (hb : s.peat.cmd = Option.none) :
    exec .writeRecord s = .next (s.calibAsked 1).writeRecord := congrArg ok (State.calibGo_free hp hb)

/-- An image that is no record ends WRITE_RECORD at once (R469). -/
theorem State.writeRecord_invalid (h : recordValid (s.calibImage 512) = false) : s.writeRecord = s.calibDone 2 := by
  unfold State.writeRecord
  dsimp only
  exact if_pos (ne_true_of_eq_false h)

/-- A checked image goes to the copy other than the later valid one, with the next SEQ (R469). -/
theorem State.writeRecord_valid {c : Nat} {bs : List Byte} (hv : recordValid (s.calibImage 512) = true)
    (hf : (confFields (s.calibImage 512) s.fac.mac).any (·.bad) = false) (hs : confStray (s.calibImage 512) = [])
    (hc : laterCopy s.peat.copies = some c)
    (hbs : bs = putBytes (s.calibImage 512) 8 (leBytes 4 ((word32 (nth [] s.peat.copies c) 8 + 1) % 2 ^ 32))) :
    s.writeRecord = s.calibStart 1 (.record (1 - c) (putBytes bs 0x1FC (leBytes 4 (crc32c (bs.take 0x1FC))))) := by
  subst hbs
  unfold State.writeRecord
  dsimp only
  rw [if_neg (not_not_intro hv), hf, hs, if_neg (by decide), hc]

theorem exec_writeCal_unkeyed (hp : s.portServes = true) (hb : s.peat.cmd = Option.none) (hk : key ≠ 0xC5) :
    exec (.writeCal key) s = .next ((s.calibAsked 3).calibDone 4) :=
  congrArg ok ((State.calibGo_free hp hb).trans (State.calibRun_writeCal_unkeyed hk))

theorem exec_writeCal_keyed (hp : s.portServes = true) (hb : s.peat.cmd = Option.none)
    (hv : calValid (s.calibImage 2048) = true) : exec (.writeCal 0xC5) s
    = .next ((s.calibAsked 3).calibStart 3 (.cal (calStored s.peat.cal (s.calibImage 2048)))) := by
  rw [← State.calibImage_calibAsked (op := 3)] at hv ⊢
  exact congrArg ok ((State.calibGo_free hp hb).trans (State.calibRun_writeCal hv))

theorem exec_clearJournal_unkeyed (hp : s.portServes = true) (hb : s.peat.cmd = Option.none) (hk : key ≠ 0xC5) :
    exec (.clearJournal key) s = .next ((s.calibAsked 6).calibDone 4) :=
  congrArg ok ((State.calibGo_free hp hb).trans (State.calibRun_clearJournal_unkeyed hk))

theorem exec_clearJournal_keyed (hp : s.portServes = true) (hb : s.peat.cmd = Option.none) :
    exec (.clearJournal 0xC5) s = .next ((s.calibAsked 6).calibStart 6 .clear) :=
  congrArg ok ((State.calibGo_free hp hb).trans State.calibRun_clearJournal)

end calib

section flash
variable {s : State} {o : FlashOp} {j : JEntry} {rest : List JEntry}

/-- With no flash operation waiting the oldest journal entry is programmed (R465, R474). -/
theorem State.programNext_of_waiting (ho : s.peat.ops = []) (hw : s.peat.waiting = j :: rest) :
    s.programNext = State.program { s with peat := { s.peat with waiting := rest, retried := false } } j := by
  unfold State.programNext
  rw [ho, hw]

/-- The entry that follows a window with withheld entries (R477). -/
def State.suppressed (s : State) : JEntry :=
  ⟨0, s.peat.jstart, s.time.toNat, 2, 0, s.peat.withheld.flatMap (fun w => leBytes 1 0 ++ leBytes 3 w.1 ++ leBytes 4 w.2)⟩

theorem exec_suppressedEntry_due (hp : s.clock.powered = true) (hw : s.peat.withheld ≠ [])
    (ht : s.peat.windowAt + 100000000 ≤ s.time.toNat) : exec .suppressedEntry s = .next { s with peat := { s.peat with
      waiting := s.peat.waiting ++ [s.suppressed]
      withheld := [], windowCount := 0 } } :=
  congrArg ok (if_pos ⟨hp, by simpa using hw, ht⟩)

theorem exec_flashOperationEnd_pass (hp : s.clock.powered = true) (ho : flashNow s.peat.ops = some o) :
    exec (.flashOperationEnd true) s
      = .next (State.flashDone { s with peat := { s.peat with ops := s.peat.ops.erase o, retried := false } } o) := by
  change execFlashOperationEnd true s = _
  unfold execFlashOperationEnd
  rw [if_neg (not_not_intro hp), ho]
  rfl

/-- The first failure of an operation is retried (R465). -/
theorem exec_flashOperationEnd_retry (hp : s.clock.powered = true) (ho : flashNow s.peat.ops = some o)
    (hr : s.peat.retried = false) :
    exec (.flashOperationEnd false) s = .next { s with peat := { s.peat with retried := true } } := by
  change execFlashOperationEnd false s = _
  unfold execFlashOperationEnd
  rw [if_neg (not_not_intro hp), ho]
  exact congrArg ok (if_pos ⟨Bool.false_ne_true, ne_true_of_eq_false hr⟩)

theorem exec_flashOperationEnd_fail (hp : s.clock.powered = true) (ho : flashNow s.peat.ops = some o)
    (hr : s.peat.retried = true) : exec (.flashOperationEnd false) s
      = .next (State.flashFailed { s with peat := { s.peat with ops := s.peat.ops.erase o, retried := false } } o) := by
  change execFlashOperationEnd false s = _
  unfold execFlashOperationEnd
  rw [if_neg (not_not_intro hp), ho]
  exact congrArg ok (if_neg (fun h => h.2 hr))

theorem exec_flashOperationEnd_entry (hp : s.clock.powered = true) (ho : s.peat.ops = [])
    (hw : s.peat.waiting = j :: rest) : exec (.flashOperationEnd true) s
      = .next (State.program { s with peat := { s.peat with waiting := rest, retried := false } } j) := by
  rw [← State.programNext_of_waiting ho hw]
  change execFlashOperationEnd true s = _
  unfold execFlashOperationEnd
  rw [if_neg (not_not_intro hp), ho, hw]
  rfl

end flash

section trial
variable {s : State} {e : StartEnv} {key : Byte}

/-- FWUPD_CMD as GO leaves it (R501). -/
def State.fwupdAsked (s : State) (op : Nat) : State := s.setRegFld Reg.fwupdCmd 0 4 op

theorem State.acceptTrial_running (h : s.fw.trial = true) : s.acceptTrial = { s with fw := { s.fw with accepted := true } } :=
  if_pos h

theorem State.acceptTrial_idle (h : s.fw.trial = false) : s.acceptTrial = s := if_neg (ne_true_of_eq_false h)

theorem exec_acceptTrial_mctp (hs : s.stewardServes = true) (hm : s.clock.mode ≠ .recovery) :
    exec (.acceptTrial true) s = .next s.acceptTrial := by
  have hserved : s.stewardServes = true ∧ s.clock.mode ≠ .recovery := ⟨hs, hm⟩
  exact congrArg ok ((if_pos rfl).trans (if_pos hserved))

theorem exec_acceptTrial_port (hp : s.portServes = true) : exec (.acceptTrial false) s = .next (s.fwupdAsked 0).acceptTrial :=
  congrArg ok (if_neg (not_not_intro hp))

/-- A trial that is rejected ends, and start-up runs (R492). -/
theorem exec_rejectTrial_running (hp : s.portServes = true) (ht : s.fw.trial = true) :
    exec (.rejectTrial 0xF5 e) s = .next (((s.fwupdAsked 1).endTrial 0x10 4).startup e) := by
  have hgo : s.fwupdGo 1 0xF5 = (s.fwupdAsked 1).endTrial 0x10 4 := (if_neg (not_not_intro hp)).trans (if_pos ⟨rfl, ht⟩)
  rw [← hgo]
  exact congrArg ok (if_pos ⟨hp, rfl, ht⟩)

theorem exec_rejectTrial_unkeyed (hp : s.portServes = true) (hk : key ≠ 0xF5) :
    exec (.rejectTrial key e) s = .next (s.fwupdAsked 1) :=
  congrArg ok ((if_neg (fun h => hk h.2.1)).trans ((if_neg (not_not_intro hp)).trans (if_neg (fun h => hk h.1))))

theorem exec_unstage_unkeyed (hp : s.portServes = true) (hk : key ≠ 0xF5) :
    exec (.unstage key) s = .next (s.fwupdAsked 2) :=
  congrArg ok ((if_neg (not_not_intro hp)).trans (if_neg hk))

theorem exec_unstage_keyed (hp : s.portServes = true) : exec (.unstage 0xF5) s = .next (s.fwupdAsked 2).unstage :=
  congrArg ok ((if_neg (not_not_intro hp)).trans (if_pos rfl))

theorem exec_cancel_port (hp : s.portServes = true) : exec .cancel s = .next (s.fwupdAsked 3).cancelUpdate :=
  congrArg ok (if_neg (not_not_intro hp))

end trial

/-- Settles O57: the operations that read, then those that write, the ends of flash operations, and the trial. The bytes of
the suppressed entry, and an entry that waits for the other operations, are the model's choice (log 43). -/
theorem peatStoreAndTrialsComplete : Obligations.PeatStoreAndTrialsComplete := by
  refine ⟨fun s hp => ⟨fun hb => ⟨fun c => exec_readRecord_free hp hb, exec_readCal_free hp hb, exec_readActive_free hp hb,
      fun e _ => exec_readJournal_free hp hb⟩, fun hb => ⟨congrArg ok (State.calibGo_busy hp hb),
      congrArg ok (State.calibGo_busy hp hb), fun key => congrArg ok (State.calibGo_busy hp hb)⟩⟩,
    fun s key => ⟨fun hp hb _ => ⟨fun hv => ?_, fun c bs hv hf hs hc hbs => ?_, exec_writeCal_unkeyed hp hb,
      exec_writeCal_keyed hp hb, exec_clearJournal_unkeyed hp hb, exec_clearJournal_keyed hp hb⟩,
      fun e rest hp ho hw => ?_, fun hp hw ht => ⟨s.suppressed, rfl, rfl, exec_suppressedEntry_due hp hw ht⟩⟩,
    fun o s hp => ⟨fun ho => ⟨exec_flashOperationEnd_pass hp ho, exec_flashOperationEnd_retry hp ho,
      exec_flashOperationEnd_fail hp ho⟩, fun e rest => exec_flashOperationEnd_entry hp⟩,
    fun s e key => ⟨fun hs hm => ⟨fun ht => ?_, fun ht => ?_⟩, fun hp => ⟨fun ht => ?_, fun ht => ?_,
      exec_rejectTrial_running hp, fun hk => ⟨exec_rejectTrial_unkeyed hp hk, exec_unstage_unkeyed hp hk⟩,
      exec_unstage_keyed hp, exec_cancel_port hp⟩, fun hp ht ha => congrArg ok (if_pos ⟨hp, ht, ha⟩),
      fun hm hst ht => congrArg ok (if_pos ⟨hm, hst, ht⟩)⟩⟩
  · rw [← State.calibImage_calibAsked (op := 1)] at hv
    rw [exec_writeRecord_free hp hb, State.writeRecord_invalid hv]
    rfl
  · rw [← State.calibImage_calibAsked (op := 1)] at hv hf hs hbs
    exact (exec_writeRecord_free hp hb).trans (congrArg ok (State.writeRecord_valid hv hf hs hc hbs))
  · rw [← State.programNext_of_waiting ho hw]
    exact congrArg ok (if_pos hp)
  · rw [exec_acceptTrial_mctp hs hm, State.acceptTrial_running ht]
  · rw [exec_acceptTrial_mctp hs hm, State.acceptTrial_idle ht]
  · exact (exec_acceptTrial_port hp).trans (congrArg ok (State.acceptTrial_running (s := s.fwupdAsked 0) ht))
  · exact (exec_acceptTrial_port hp).trans (congrArg ok (State.acceptTrial_idle (s := s.fwupdAsked 0) ht))

end Sys2Proof.Machine

/-! PROOFS, 17_firmware.md. The security floor: what raises it, and the sets that it keeps from being selected. -/

namespace Sys2Proof.Machine

section floor
variable {s t : State} {e : StartEnv} {f : FwSt} {g : FwSet → FwSet} {k j : Nat} {l : List Nat}

theorem FwSt.fwset_modSet : (f.modSet k g).fwset k = g (f.fwset k) := by
  unfold FwSt.modSet FwSt.fwset
  by_cases h : k = 0
  · rw [if_pos h, if_pos h, if_pos h]
  · rw [if_neg h, if_neg h, if_neg h]

/-- A change that keeps the SVN of a set keeps that of every set. -/
theorem FwSt.svn_modSet (hg : ∀ x, (g x).svn = x.svn) : ((f.modSet j g).fwset k).svn = (f.fwset k).svn := by
  unfold FwSt.modSet FwSt.fwset
  by_cases hj : j = 0 <;> by_cases hk : k = 0
  · rw [if_pos hj, if_pos hk, if_pos hk, hg]
  · rw [if_pos hj, if_neg hk, if_neg hk]
  · rw [if_neg hj, if_pos hk, if_pos hk]
  · rw [if_neg hj, if_neg hk, if_neg hk, hg]

theorem FwSet.svn_endTrial {x : FwSet} : x.endTrial.svn = x.svn := by
  unfold FwSet.endTrial
  split <;> rfl

/-- A set that verifies is not below the floor (R485, R486). -/
theorem State.svn_of_verifies (h : s.verifies e k = true) : s.fac.svnFloor ≤ (s.fw.fwset k).svn := by
  unfold State.verifies State.headerOk at h
  simp only [Bool.and_eq_true, decide_eq_true_eq] at h
  obtain ⟨-, ⟨-, hfloor⟩, -⟩ := h
  exact hfloor

/-- The set that the ROM takes is not below the floor (R486, R488). -/
theorem State.svn_of_trySets (h : State.trySets e l s = (t, some k)) : s.fac.svnFloor ≤ (s.fw.fwset k).svn := by
  induction l generalizing s with
  | nil => cases congrArg Prod.snd h
  | cons j l ih =>
    rw [State.trySets] at h
    by_cases hv : s.verifies e j = true
    · rw [if_pos hv] at h
      obtain rfl : j = k := Option.some.inj (congrArg Prod.snd h)
      exact State.svn_of_verifies hv
    · rw [if_neg hv] at h
      have hsvn := FwSt.svn_modSet (f := s.fw) (j := j) (k := k) (g := fun f => { f with rejected := true }) (fun _ => rfl)
      exact (ih h).trans_eq hsvn

theorem State.svn_of_selectSet (h : s.selectSet e = (t, some k)) : s.fac.svnFloor ≤ (s.fw.fwset k).svn := by
  have htried := State.svn_of_trySets h
  have hsvn : (FwSt.fwset { s.fw with setA := s.fw.setA.endTrial, setB := s.fw.setB.endTrial, trial := false } k).svn
      = (s.fw.fwset k).svn := by
    unfold FwSt.fwset
    split <;> exact FwSet.svn_endTrial
  rwa [hsvn] at htried

/-- The state after a trial's confirmation (R486, R490). -/
def State.confirmed (s : State) : State :=
  { s with
    fw := { s.fw.modSet s.fw.active (fun f => { f with confirmed := true }) with trial := false }
    fac := { s.fac with svnFloor :=
      if (s.fw.fwset s.fw.active).raiseSvn then max s.fac.svnFloor (min (s.fw.fwset s.fw.active).svn 64) else s.fac.svnFloor } }

theorem exec_trialConfirmation_due (hm : s.clock.mode = .full) (ht : s.fw.trial = true)
    (ha : (s.fw.fwset s.fw.active).auto = true ∨ s.fw.accepted = true) :
    exec .trialConfirmation s = .next s.confirmed := congrArg ok (if_pos ⟨hm, ht, ha⟩)

end floor

/-- Settles O59: the floor by what every command keeps, its rise at a confirmation, and the sets that are selected. -/
theorem securityFloorIsNeverLowered : Obligations.SecurityFloorIsNeverLowered := by
  refine ⟨fun c s t hs he => ?_, fun s hm ht ha => ⟨_, exec_trialConfirmation_due hm ht ha, ?_, rfl, rfl, fun hr => ?_,
    fun hr hf h64 => ?_⟩, fun s t e k => State.svn_of_selectSet⟩
  · by_cases hp : ∃ p e, c = .powerOn p e
    · obtain ⟨p, e, rfl⟩ := hp
      obtain ⟨-, -, hfloor, -⟩ := (execPowerOn_keeps (State.Keeps.self hs)).next he
      exact hfloor
    · obtain ⟨-, -, hfloor, -⟩ := (exec_keeps (fun p e hpe => hp ⟨p, e, hpe⟩) (State.Keeps.self hs)).next he
      exact hfloor
  · exact congrArg FwSet.confirmed (FwSt.fwset_modSet (g := fun f => { f with confirmed := true }))
  · exact if_neg (ne_true_of_eq_false hr)
  · refine (if_pos hr).trans ?_
    rw [Nat.min_eq_left h64, Nat.max_eq_right hf]

end Sys2Proof.Machine

/-! PROOFS, 17_firmware.md. The update exchange: who is served, the header's checks, and the transfer to the staged set. -/

namespace Sys2Proof.Machine

section exchange
variable {s : State} {b : Binding} {agent n : Nat} {ps : List FwPhase}

/-- The agent that holds update mode is served in the phases of a request (R493). -/
theorem State.inPhase_of_mem (hb : s.bindingUp s.fw.binding = true) (ha : s.fw.agent = agent)
    (hp : ps.contains s.fw.phase = true) : s.inPhase agent ps = true := by
  unfold State.inPhase
  rw [hb, hp, decide_eq_true ha]
  rfl

theorem exec_requestUpdate_idle (hb : s.bindingUp b = true) (hp : s.fw.phase = .idle) (ht : s.fw.trial = false) :
    exec (.requestUpdate b agent n) s = .next (State.answer (State.setRegFld { s with fw := { s.fw with
      phase := .learn, agent := agent, binding := b, maxXfer := n, target := s.updateTarget, header := [] } }
      Reg.fwupdStatus 0 10 0) .accepted) :=
  congrArg ok ((if_neg (not_not_intro hb)).trans ((if_neg (not_not_intro hp)).trans (if_neg (ne_true_of_eq_false ht))))

theorem exec_requestUpdate_trial (hb : s.bindingUp b = true) (hp : s.fw.phase = .idle) (ht : s.fw.trial = true) :
    exec (.requestUpdate b agent n) s = .next ((s.fwCause 0x0D).answer .busyTrial) :=
  congrArg ok ((if_neg (not_not_intro hb)).trans ((if_neg (not_not_intro hp)).trans (if_pos ht)))

theorem exec_requestUpdate_busy (hb : s.bindingUp b = true) (hp : s.fw.phase ≠ .idle) :
    exec (.requestUpdate b agent n) s = .next (s.answer .alreadyInUpdateMode) :=
  congrArg ok ((if_neg (not_not_intro hb)).trans (if_pos hp))

theorem exec_passComponentTable_one (hi : s.inPhase agent [.learn] = true) : exec (.passComponentTable agent 1) s
    = .next (State.answer { s with fw := { s.fw with phase := .ready, askedAt := s.time.toNat } } .accepted) :=
  congrArg ok ((if_neg (not_not_intro hi)).trans (if_pos rfl))

theorem exec_cancelUpdate_inMode (hi : s.inPhase agent ([.learn, .ready, .activate] ++ writingPhases) = true) :
    exec (.cancelUpdate agent) s = .next (s.cancelUpdate.answer .cancelled) := congrArg ok (if_pos hi)

theorem State.cancelUpdate_activate (h : s.fw.phase = .activate) :
    s.cancelUpdate = { s with fw := { s.fw with phase := .idle } } := by
  unfold State.cancelUpdate
  rw [h]
  rfl

theorem State.cancelUpdate_learn (h : s.fw.phase = .learn) : s.cancelUpdate = s.updateFail 0x0B := by
  unfold State.cancelUpdate
  rw [h]
  rfl

end exchange

section header
variable {f : Factory} {h : List Byte}

/-- A chain of checks, each with its cause, finds none where every check passes. -/
theorem ite_some_eq_none {α : Type} {p : Prop} [Decidable p] {a : α} {o : Option α} :
    (if p then some a else o) = none ↔ ¬ p ∧ o = none := by
  by_cases hp : p
  · rw [if_pos hp]
    exact ⟨fun h => (Option.some_ne_none a h).elim, fun h => (h.1 hp).elim⟩
  · rw [if_neg hp]
    exact ⟨fun h => ⟨hp, h⟩, And.right⟩

/-- A header passes where every check of R484 does. -/
theorem Factory.hdrCause_eq_none : f.hdrCause h = none ↔ (h.length = 0x4CE0 ∧ word32 h 0 = 0x4B465748
    ∧ word32 h 4 = 0x4CE0 * 65536 + 1
    ∧ zeroBytes h 0x10 48 = true ∧ zeroBytes h 0x200 64 = true ∧ zeroBytes h 0xBF0 16 = true
    ∧ Config.sha384 (part h 0xA40 384 ++ part h 0xBC0 48) = Config.romKeyDigest (bitsOf (word32 h 12) 24 2)
    ∧ bitOf f.revoked (bitsOf (word32 h 12) 24 2) = false
    ∧ Config.rsaVerifies (part h 0xA40 384) (signedRegion h) (part h 0xC00 384) = true
    ∧ Config.slhVerifies (part h 0xBC0 48) (signedRegion h) (part h 0xD80 16224) = true
    ∧ f.svnFloor ≤ word32 h 12 % 256
    ∧ bitsOf (word32 h 12) 12 4 * 16 + bitsOf (word32 h 12) 16 4 ≤ f.stepMajor * 16 + f.stepMinor
    ∧ partsFit h = true) := by
  unfold Factory.hdrCause
  dsimp only
  simp only [ite_some_eq_none, not_or, not_not, Nat.not_lt, Bool.and_eq_true, Bool.not_eq_true, Bool.not_eq_false,
    and_assoc, and_true, ne_eq]

theorem Factory.hdrCause_length (hl : h.length ≠ 0x4CE0) : f.hdrCause h = some 0x01 := if_pos (Or.inl hl)

end header

section transfer
variable {s : State} {agent : Nat} {reg rest bytes got : List Byte} {errs : List FlashErr}

theorem exec_updateComponent_eq (hi : s.inPhase agent [.ready] = true) : exec (.updateComponent agent reg rest) s
    = .next ((s.fac.hdrCause (reg ++ rest)).elim
        (State.answer { s with
          fw := { s.fw with phase := .header, header := reg ++ rest, next := nextBlock (reg ++ rest) 0, got := [], retries := 0 }
          peat := { s.peat with ops := s.peat.ops ++ [.fwErase] } } .accepted)
        (fun c => s.updateFail c)) := by
  change execUpdateComponent agent reg rest s = _
  unfold execUpdateComponent
  rw [if_neg (not_not_intro hi)]
  dsimp only
  cases s.fac.hdrCause (reg ++ rest) <;> rfl

/-- The length of the chunk that the steward waits for (R495). -/
def State.chunkLen (s : State) : Nat := min s.fw.limit (blockLen s.fw.header s.fw.next - s.fw.got.length)

/-- A requested chunk arrives: the block goes on, or is checked (R495). -/
theorem exec_firmwareData_eq (hi : s.inPhase agent [.transfer] = true) (hf : s.fwFlash = false) (hn : s.fw.next < 512)
    (hl : s.chunkLen ≤ bytes.length) (hg : got = s.fw.got ++ bytes.take s.chunkLen) :
    exec (.firmwareData agent (0x4CE0 + 65536 * s.fw.next + s.fw.got.length) bytes) s = .next
      (if got.length < blockLen s.fw.header s.fw.next then State.askChunk { s with fw := { s.fw with got := got } }
      else if blockMatches s.fw.header s.fw.next got then { s with
        fw := { s.fw with got := [] }, peat := { s.peat with ops := s.peat.ops ++ [.fwBlock s.fw.next got] } }
      else if s.fw.retries < 3 then State.askChunk { s with fw := { s.fw with got := [], retries := s.fw.retries + 1 } }
      else State.updateFail { s with fw := { s.fw with got := [] } } 0x08) := by
  subst hg
  change execFirmwareData agent _ bytes s = _
  unfold execFirmwareData FwSt.chunk
  dsimp only
  have hn' : ¬ (¬ s.inPhase agent [.transfer] = true ∨ s.fwFlash = true ∨ 512 ≤ s.fw.next
      ∨ 0x4CE0 + 65536 * s.fw.next + s.fw.got.length ≠ 0x4CE0 + 65536 * s.fw.next + s.fw.got.length
      ∨ bytes.length < s.chunkLen) :=
    not_or.mpr ⟨not_not_intro hi, not_or.mpr ⟨ne_true_of_eq_false hf, not_or.mpr ⟨Nat.not_le.mpr hn,
      not_or.mpr ⟨not_not_intro rfl, Nat.not_lt.mpr hl⟩⟩⟩⟩
  exact congrArg ok (if_neg hn')

theorem exec_updateTimeout_due (hp : s.fw.phase = .ready ∨ s.fw.phase = .transfer) (hf : s.fwFlash = false)
    (ht : s.fw.askedAt + 6000000000 ≤ s.time.toNat) : exec .updateTimeout s = .next (s.updateFail 0x0C) := by
  have hphase : [FwPhase.ready, .transfer].contains s.fw.phase = true := by rcases hp with hp | hp <;> rw [hp] <;> rfl
  exact congrArg ok (if_pos ⟨hphase, ne_true_of_eq_false hf, ht⟩)

theorem exec_transferComplete_whole (hi : s.inPhase agent [.transfer] = true) (hf : s.fwFlash = false)
    (hn : 512 ≤ s.fw.next) : exec (.transferComplete agent errs) s = .next
      (if s.fac.setVerifies s.fw.header (flashCopy (s.fw.fwset s.fw.target).blocks errs) = true then
        State.answer { s with fw := { s.fw with phase := .verify } } .transferDone
      else s.updateFail 0x09) :=
  congrArg ok (if_neg (not_or.mpr ⟨not_not_intro hi, not_or.mpr ⟨ne_true_of_eq_false hf, Nat.not_lt.mpr hn⟩⟩))

end transfer

/-- Settles O58: what opens and closes the exchange, by the phase; then the transfer from the header on. What a cancelled
component and a busy trial leave, and blocks checked as a whole with the header as an operand, are the model's choice
(log 44, 60). -/
theorem updatesTransferAndStage : Obligations.UpdatesTransferAndStage := by
  refine ⟨fun b agent n s => ⟨fun hb => ⟨congrArg ok (if_pos hb), congrArg ok (if_pos hb), congrArg ok (if_pos hb),
      exec_requestUpdate_idle hb, exec_requestUpdate_trial hb, exec_requestUpdate_busy hb⟩,
      fun hb ha => ⟨fun hp => ?_, fun hp => ?_, fun hp => ?_, fun hp => ?_, fun hp => ?_⟩⟩,
    fun agent h reg rest bytes got errs s hh hb ha => ⟨fun hp => ⟨?_, Factory.hdrCause_eq_none, fun hl => ?_⟩,
      fun hp hf hn hl hg => ⟨fun hshort => ?_, fun hwhole => ⟨fun hm => ?_, fun hm hr => ?_, fun hm hr => ?_⟩⟩,
      exec_updateTimeout_due, fun hp => exec_transferComplete_whole (State.inPhase_of_mem hb ha (by rw [hp]; rfl)),
      fun hp => congrArg ok (if_neg (not_not_intro (State.inPhase_of_mem hb ha (by rw [hp]; rfl)))),
      fun hp hfl => congrArg ok (if_pos ⟨State.inPhase_of_mem hb ha (by rw [hp]; rfl), hfl⟩)⟩⟩
  · exact exec_passComponentTable_one (State.inPhase_of_mem hb ha (by rw [hp]; rfl))
  · exact congrArg ok (if_pos (State.inPhase_of_mem hb ha (by rw [hp]; rfl)))
  · rw [exec_cancelUpdate_inMode (State.inPhase_of_mem hb ha (by rw [hp]; rfl)), State.cancelUpdate_activate hp]
  · rw [exec_cancelUpdate_inMode (State.inPhase_of_mem hb ha (by rw [hp]; rfl)), State.cancelUpdate_learn hp]
  · exact congrArg ok (if_pos (State.inPhase_of_mem hb ha (by rw [hp]; rfl)))
  · subst hh
    exact exec_updateComponent_eq (State.inPhase_of_mem hb ha (by rw [hp]; rfl))
  · subst hh
    rw [exec_updateComponent_eq (State.inPhase_of_mem hb ha (by rw [hp]; rfl)), Factory.hdrCause_length hl]
    rfl
  all_goals rw [exec_firmwareData_eq (State.inPhase_of_mem hb ha (by rw [hp]; rfl)) hf hn hl hg]
  · rw [if_pos hshort]
  · rw [if_neg (Nat.not_lt.mpr hwhole), if_pos hm]
  · rw [if_neg (Nat.not_lt.mpr hwhole), if_neg (ne_true_of_eq_false hm), if_pos hr]
  · rw [if_neg (Nat.not_lt.mpr hwhole), if_neg (ne_true_of_eq_false hm), if_neg (Nat.not_lt.mpr hr)]

end Sys2Proof.Machine

/-! PROOFS, 18_errors_containment.md. What discarding lines and stopping cores leave alone, and the containment of a device. -/

namespace Sys2Proof.Machine

section holdings
variable {s t : State} {i k n : Nat}

/-- The time, the error records, the pool, the memory and the devices. -/
@[irreducible] def State.holdings (s : State) : W64 × ErrSt × Pool × SMap Byte × SMap VDev :=
  (s.time, s.err, s.pool, s.mem, s.vds)

theorem State.holdings_congr (ht : t.time = s.time) (he : t.err = s.err) (hp : t.pool = s.pool) (hm : t.mem = s.mem)
    (hv : t.vds = s.vds) : t.holdings = s.holdings := by
  unfold State.holdings
  rw [ht, he, hp, hm, hv]

theorem State.holdings_parts (h : t.holdings = s.holdings) :
    t.time = s.time ∧ t.err = s.err ∧ t.pool = s.pool ∧ t.mem = s.mem ∧ t.vds = s.vds := by
  unfold State.holdings at h
  simpa only [Prod.mk.injEq] using h

theorem State.holdings_setReg {v : W32} : (s.setReg k v).holdings = s.holdings := State.holdings_congr rfl rfl rfl rfl rfl

theorem State.holdings_bump : (s.bump k).holdings = s.holdings := State.holdings_setReg

theorem State.holdings_composeDone : (s.composeDone n k).holdings = s.holdings :=
  State.holdings_setReg.trans (State.holdings_setReg.trans State.holdings_setReg)

theorem State.holdings_setSlice {x : Slice} : (s.setSlice i x).holdings = s.holdings := State.holdings_congr rfl rfl rfl rfl rfl

theorem State.holdings_modSlice {f : Slice → Slice} : (s.modSlice i f).holdings = s.holdings := State.holdings_setSlice

theorem State.holdings_modDie {f : Die → Die} : (s.modDie i f).holdings = s.holdings := State.holdings_congr rfl rfl rfl rfl rfl

theorem State.holdings_modCore {f : Core → Core} : (s.modCore i f).holdings = s.holdings :=
  State.holdings_congr rfl rfl rfl rfl rfl

theorem State.holdings_sendReed {b : ReedBody} {x y : Site} : (s.sendReed n b x y).holdings = s.holdings :=
  State.holdings_congr rfl rfl rfl rfl rfl

theorem State.holdings_sendDem {b : DemBody} {x y : Site} {net ctl : Bool} :
    (s.sendDem n b i x y net ctl).holdings = s.holdings := State.holdings_congr rfl rfl rfl rfl rfl

theorem State.holdings_mapReqs {f : HReq → Option HReq} : (s.mapReqs f).holdings = s.holdings :=
  State.holdings_congr rfl rfl rfl rfl rfl

theorem State.holdings_hostAnswer {bs : List Byte} : (s.hostAnswer i bs).holdings = s.holdings :=
  State.holdings_congr rfl rfl rfl rfl rfl

theorem State.holdings_windowMiss : (s.windowMiss i).holdings = s.holdings := by
  rw [State.windowMiss_fields]
  exact State.holdings_congr rfl rfl rfl rfl rfl

theorem State.holdings_hostGone {q : HReq} : (s.hostGone q).holdings = s.holdings := by
  unfold State.hostGone
  split
  · split
    · exact State.holdings_hostAnswer
    · exact State.holdings_hostAnswer.trans State.holdings_windowMiss
  · rfl

theorem State.holdings_settleHost {p : HReq → Bool} : (s.settleHost p).holdings = s.holdings :=
  (foldl_keeps_proj State.holdings (fun _ _ => State.holdings_hostGone) _ _).trans State.holdings_mapReqs

theorem State.holdings_diePort {port : Option Nat} : (s.diePort n port).2.holdings = s.holdings := by
  unfold State.diePort
  split
  · rfl
  · dsimp only
    exact State.holdings_modDie

theorem State.holdings_sendMsg {m : CohMsg} {port : Option Nat} : (s.sendMsg m port).holdings = s.holdings := by
  unfold State.sendMsg
  extract_lets out s1 dst n s2 s3
  have h1 : s1.holdings = s.holdings := by
    unfold s1 out
    split
    · rfl
    · exact State.holdings_diePort
  have h2 : s2.holdings = s.holdings := by
    refine Eq.trans ?_ h1
    exact State.holdings_congr rfl rfl rfl rfl rfl
  have h3 : s3.holdings = s.holdings := State.holdings_sendReed.trans h2
  split
  · exact h3
  · exact State.holdings_sendDem.trans h3

theorem State.holdings_sendAll {kind : CohKind} {vec sec : Nat} : (s.sendAll kind i vec n sec).holdings = s.holdings :=
  foldl_keeps_proj State.holdings (fun _ _ => State.holdings_sendMsg) _ s

theorem State.holdings_openRecall {sec : Nat} {discard host : Bool} {l : List (Nat × Nat)} :
    (s.openRecall i k sec discard l host).holdings = s.holdings := by
  unfold State.openRecall
  dsimp only
  split
  · rfl
  · split
    · rfl
    · exact State.holdings_sendAll.trans State.holdings_setSlice

theorem State.holdings_recallLine {discard : Bool} : (s.recallLine i k discard).holdings = s.holdings :=
  foldl_keeps_proj State.holdings (fun _ _ => State.holdings_openRecall) _ s

theorem State.holdings_finishDrop : (s.finishDrop i k).holdings = s.holdings := by
  unfold State.finishDrop
  dsimp only
  split
  · exact State.holdings_bump.trans State.holdings_setSlice
  · exact State.holdings_setSlice

/-- A held line that settles leaves the holdings alone (R233, R269). -/
theorem State.holdings_settleLine : (s.settleLine i k).holdings = s.holdings := by
  unfold State.settleLine
  dsimp only
  split
  · rfl
  · split
    · exact State.holdings_recallLine
    · split
      · split
        · exact State.holdings_modSlice
        · rfl
      · split
        · exact State.holdings_finishDrop
        · split
          · exact State.holdings_setSlice
          · rfl

theorem State.holdings_discardSuspect {p : Nat → Bool} : (s.discardSuspect n p).holdings = s.holdings := by
  have hline : ∀ (i : Nat) (l : List (Nat × Line)) (t : State), (l.foldl (fun s e =>
      (s.modSlice i (fun sl => sl.modWay e.1 (fun l => { l with
        held := true, discarding := true, evicting := false, dropping := false }))).settleLine i e.1) t).holdings
      = t.holdings := fun i l t =>
    foldl_keeps_proj State.holdings (fun _ _ => State.holdings_settleLine.trans State.holdings_modSlice) l t
  unfold State.discardSuspect
  exact (foldl_keeps_proj State.holdings (fun _ _ => hline _ _ _) _ _).trans
    (State.holdings_mapReqs.trans State.holdings_settleHost)

theorem State.holdings_sendHomeOp {o : HomeOp} : (s.sendHomeOp o).holdings = s.holdings := by
  unfold State.sendHomeOp
  split
  · rfl
  · split
    · exact State.holdings_modSlice
    · exact State.holdings_sendDem

/-- What answers a core's stopped groups no longer take leaves the holdings alone (R226). -/
theorem State.holdings_orphan : (s.orphan n).holdings = s.holdings := by
  unfold State.orphan
  extract_lets core lost cut op back s1 s2 s3 s4
  have h1 : s1.holdings = s.holdings := State.holdings_congr rfl rfl rfl rfl rfl
  have h2 : s2.holdings = s.holdings :=
    (foldl_keeps_proj State.holdings (fun _ _ => State.holdings_sendHomeOp) _ s1).trans h1
  clear_value s2
  have h3 : s3.holdings = s.holdings := State.holdings_mapReqs.trans h2
  clear_value s3
  have h4 : s4.holdings = s.holdings := by
    refine Eq.trans ?_ h3
    exact State.holdings_congr rfl rfl rfl rfl rfl
  clear_value s4
  exact State.holdings_modDie.trans h4

theorem State.holdings_discardCore : (s.discardCore n).holdings = s.holdings := by
  have hwakes : ∀ t : State, (t.dropWakes n).holdings = t.holdings := fun t => State.holdings_congr rfl rfl rfl rfl rfl
  exact (hwakes _).trans (State.holdings_orphan.trans State.holdings_modCore)

theorem State.holdings_discardCores : (s.discardCores n).holdings = s.holdings :=
  foldl_keeps_proj State.holdings (fun _ _ => State.holdings_discardCore) _ s

theorem State.holdings_cancelStreams {red : Bool} : (s.cancelStreams n red).holdings = s.holdings := by
  unfold State.cancelStreams
  split <;> exact State.holdings_congr rfl rfl rfl rfl rfl

end holdings

section fence
variable {s : State} {n m e d : Nat} {r : ErrRec}

/-- A device that is changed is all that changes. -/
theorem State.modVd_parts {f : VDev → VDev} : (s.modVd n f).time = s.time ∧ (s.modVd n f).err = s.err
    ∧ (s.modVd n f).pool = s.pool ∧ (s.modVd n f).mem = s.mem := ⟨rfl, rfl, rfl, rfl⟩

/-- An abandoned rebind leaves the time, the records, the pool and the memory alone (R344). -/
theorem State.abandon_parts : (s.abandon n).time = s.time ∧ (s.abandon n).err = s.err ∧ (s.abandon n).pool = s.pool
    ∧ (s.abandon n).mem = s.mem := by
  unfold State.abandon
  split
  · exact ⟨rfl, rfl, rfl, rfl⟩
  · split
    · exact ⟨rfl, rfl, rfl, rfl⟩
    · split
      · obtain ⟨ht, he, hp, hm, -⟩ := State.holdings_parts (State.holdings_composeDone (k := 0x0D) (n := n)
          (s := { s with binder := { s.binder with running := none } }.modVd n (fun v => { v with
            st := if v.st = VdState.rebinding then .active else v.st })))
        exact ⟨ht, he, hp, hm⟩
      · exact ⟨rfl, rfl, rfl, rfl⟩

/-- An abandoned rebind changes no other device. -/
theorem State.vd_abandon_ne (h : m ≠ n) : (s.abandon n).vd m = s.vd m := by
  unfold State.abandon
  split
  · rfl
  · split
    · rfl
    · split
      · rw [State.composeDone_vd, State.vd_modVd_ne h]
        rfl
      · rfl

/-- A device that is marked contained, with its rebind abandoned (R506). -/
def State.marked (s : State) (n : Nat) : State :=
  (s.abandon n).modVd n (fun v => { v with st := .contained, preemptReq := false })

/-- A marked device whose cores and streams are stopped (R506). -/
def State.stopped (s : State) (n : Nat) : State := ((s.marked n).discardCores n).cancelStreams n

theorem State.stopped_parts : (s.stopped n).time = (s.marked n).time ∧ (s.stopped n).err = (s.marked n).err
    ∧ (s.stopped n).pool = (s.marked n).pool ∧ (s.stopped n).mem = (s.marked n).mem ∧ (s.stopped n).vds = (s.marked n).vds :=
  State.holdings_parts (State.holdings_cancelStreams.trans State.holdings_discardCores)

/-- The staged segments of a device are gone (R506). -/
def NetSt.unstaged (x : NetSt) (n : Nat) : NetSt := { x with staging := x.staging.filter (fun y => !decide (y.vd = n)) }

/-- The fence is what is stopped, the end of the running job, and the staged segments (R506). -/
theorem State.fence_eq : s.fence n
    = { (s.stopped n).endJob n 2 0 0x7F with net := ((s.stopped n).endJob n 2 0 0x7F).net.unstaged n } := rfl

theorem State.marked_parts : (s.marked n).time = s.time ∧ (s.marked n).err = s.err ∧ (s.marked n).pool = s.pool
    ∧ (s.marked n).mem = s.mem := State.abandon_parts

theorem State.endJob_parts {status cause lcore : Nat} : (s.endJob n status cause lcore).time = s.time
    ∧ (s.endJob n status cause lcore).err = s.err ∧ (s.endJob n status cause lcore).pool = s.pool
    ∧ (s.endJob n status cause lcore).mem = s.mem := State.modVd_parts

theorem State.fence_parts : (s.fence n).time = s.time ∧ (s.fence n).err = s.err ∧ (s.fence n).pool = s.pool
    ∧ (s.fence n).mem = s.mem := by
  obtain ⟨ht, he, hp, hm⟩ := State.marked_parts (s := s) (n := n)
  obtain ⟨hts, hes, hps, hms, -⟩ := State.stopped_parts (s := s) (n := n)
  obtain ⟨hte, hee, hpe, hme⟩ := State.endJob_parts (s := s.stopped n) (n := n) (status := 2) (cause := 0) (lcore := 0x7F)
  rw [State.fence_eq]
  dsimp only
  rw [hte, hee, hpe, hme, hts, hes, hps, hms]
  exact ⟨ht, he, hp, hm⟩

theorem State.vd_fence : (s.fence n).vd m = ((s.stopped n).endJob n 2 0 0x7F).vd m := by
  rw [State.fence_eq]
  exact State.vd_congr rfl

theorem State.vd_stopped : (s.stopped n).vd m = (s.marked n).vd m := by
  obtain ⟨-, -, -, -, hv⟩ := State.stopped_parts (s := s) (n := n)
  exact State.vd_congr hv

theorem State.st_marked : ((s.marked n).vd n).st = .contained := by
  unfold State.marked
  rw [State.vd_modVd (fun h => VdState.noConfusion (congrArg VDev.st h))]

/-- The fence leaves its device contained (R506). -/
theorem State.st_fence : ((s.fence n).vd n).st = .contained := by
  have hst : ((s.stopped n).vd n).st = .contained := by
    rw [State.vd_stopped]
    exact State.st_marked
  rw [State.vd_fence, State.endJob, State.vd_modVd]
  · exact hst
  · intro h
    have hcontained : ((s.stopped n).vd n).st = .absent := congrArg VDev.st h
    rw [hst] at hcontained
    exact VdState.noConfusion hcontained

/-- The fence changes no other device (R506). -/
theorem State.vd_fence_ne (h : m ≠ n) : (s.fence n).vd m = s.vd m := by
  rw [State.vd_fence, State.endJob, State.vd_modVd_ne h, State.vd_stopped, State.marked, State.vd_modVd_ne h,
    State.vd_abandon_ne h]

theorem State.suspect_nil : s.suspect n [] = s := rfl

/-- Extents that become suspect leave the memory as it is (R323, R507). -/
theorem State.suspect_one_mem : (s.suspect n [e]).mem = s.mem := by
  obtain ⟨-, -, -, hm, -⟩ := State.holdings_parts (State.holdings_discardSuspect (s := s) (n := n)
    (p := fun l => ([e].filterMap (fun e => (s.extent e).logical)).contains (l / 2 ^ 18)))
  exact hm

theorem State.extent_congr {t : State} (h : t.pool = s.pool) : t.extent e = s.extent e := by
  unfold State.extent
  rw [h]

/-- The state in which the lines of an extent have been discarded (R233). -/
def State.linesGone (s : State) (n e : Nat) : State :=
  s.discardSuspect n (fun l => ([e].filterMap (fun e => (s.extent e).logical)).contains (l / 2 ^ 18))

/-- An extent that its device owns becomes suspect (R507). -/
def Extent.suspected (x : Extent) : Extent := if x.st = ExtState.owned then { x with st := .suspect } else x

theorem State.suspect_one : s.suspect n [e] = (s.linesGone n e).modExtent e Extent.suspected := rfl

theorem State.extent_linesGone : (s.linesGone n e).extent d = s.extent d := by
  obtain ⟨-, -, hp, -, -⟩ := State.holdings_parts (State.holdings_discardSuspect (s := s) (n := n)
    (p := fun l => ([e].filterMap (fun e => (s.extent e).logical)).contains (l / 2 ^ 18)))
  exact State.extent_congr hp

theorem State.extent_suspect (h : (s.extent e).st = .owned) : ((s.suspect n [e]).extent e).st = .suspect := by
  have hx : Extent.suspected ((s.linesGone n e).extent e) = { s.extent e with st := .suspect } := by
    rw [State.extent_linesGone]
    exact if_pos h
  have hne : Extent.suspected ((s.linesGone n e).extent e) ≠ Extent.absent := by
    rw [hx]
    exact fun hn => ExtState.noConfusion (congrArg Extent.st hn)
  rw [State.suspect_one, State.extent_modExtent hne, hx]

theorem State.extent_suspect_ne (h : d ≠ e) : (s.suspect n [e]).extent d = s.extent d := by
  rw [State.suspect_one, State.extent_modExtent_ne h, State.extent_linesGone]

/-- Containment of an active device: the extents named, the fence, and one record (R505, R506). -/
theorem State.contain_active {l : List Nat} (h : (s.vd n).st = .active) : s.contain n l [] r
    = ((s.suspect n l).fence n).record { r with sev := 1, vd := some n, ext := Option.none } := by
  unfold State.contain
  rw [h]
  rfl

/-- A record leaves the pool, the memory and the devices alone (R513). -/
theorem State.record_parts : (s.record r).pool = s.pool ∧ (s.record r).mem = s.mem ∧ (s.record r).vds = s.vds := by
  obtain ⟨-, -, hp, hm, hv⟩ := State.holdings_parts (State.holdings_bump (s := s) (k := Reg.errorClassCount r.cls))
  obtain ⟨-, -, hpl, hml, hvl⟩ := State.holdings_parts (State.holdings_bump (s := s.bump (Reg.errorClassCount r.cls))
    (k := Reg.errorQLost r.sev))
  unfold State.record
  dsimp only
  split
  · exact ⟨hp, hm, hv⟩
  · exact ⟨hpl.trans hp, hml.trans hm, hvl.trans hv⟩

theorem State.record_pool : (s.record r).pool = s.pool := by
  obtain ⟨hp, -, -⟩ := State.record_parts (s := s) (r := r)
  exact hp

theorem State.vd_record : (s.record r).vd m = s.vd m := by
  obtain ⟨-, -, hv⟩ := State.record_parts (s := s) (r := r)
  exact State.vd_congr hv

end fence

/-- Settles O55: the containment of an active device is its extents, its fence and one record, of which each part leaves the
others' alone. -/
theorem containmentFencesItsDevice : Obligations.ContainmentFencesItsDevice := by
  intro s n r ha hroom
  obtain ⟨htime, herr, hpool, hmem⟩ := State.fence_parts (s := s) (n := n)
  refine ⟨?_, fun m hm => ?_, ?_, ?_, ?_, fun d e he => ?_⟩
  · rw [State.contain_active ha, State.suspect_nil, State.vd_record, State.st_fence]
  · rw [State.contain_active ha, State.suspect_nil, State.vd_record, State.vd_fence_ne hm]
  · rw [State.contain_active ha, State.suspect_nil, State.record_pool, hpool]
  · rw [State.contain_active ha, State.suspect_nil, State.record_mem, hmem]
  · rw [State.contain_active ha, State.suspect_nil, State.record_of_room (by rw [herr]; exact hroom), herr, htime]
    exact ⟨_, rfl, rfl, rfl, rfl, rfl, rfl, rfl⟩
  · obtain ⟨-, -, hp, hm⟩ := State.fence_parts (s := s.suspect n [e]) (n := n)
    have hext : ∀ d, (s.contain n [e] [] r).extent d = (s.suspect n [e]).extent d := by
      intro d
      rw [State.contain_active ha]
      exact State.extent_congr (State.record_pool.trans hp)
    refine ⟨?_, ?_, fun hne => ?_⟩
    · rw [State.contain_active ha, State.record_mem, hm, State.suspect_one_mem]
    · rw [hext, State.extent_suspect he]
    · rw [hext, State.extent_suspect_ne hne]

end Sys2Proof.Machine

/-! PROOFS, 18_errors_containment.md. The handling of error records: the steps of a record, and the queue of its severity. -/

namespace Sys2Proof.Machine

section handling
variable {s : State} {r x : ErrRec} {k n : Nat} {rest : List (ErrRec × Nat)}

theorem exec_recordHandling_capture (hn : s.nextRecord = some r) (hh : s.err.handling = []) : exec .recordHandling s
    = .next { s with err := { s.err with waiting := s.err.waiting.erase r, handling := [(r, 1)] } } := by
  change execRecordHandling s = _
  unfold execRecordHandling
  rw [hn, hh]
  rfl

/-- A record of a higher severity preempts the one at work (R518). -/
theorem exec_recordHandling_preempt (hn : s.nextRecord = some r) (hh : s.err.handling = (x, k) :: rest) (hs : x.sev < r.sev) :
    exec .recordHandling s
      = .next { s with err := { s.err with waiting := s.err.waiting.erase r, handling := (r, 1) :: (x, k) :: rest } } := by
  change execRecordHandling s = _
  unfold execRecordHandling
  rw [hn, hh]
  exact congrArg ok (if_pos hs)

/-- The record at work goes on where none of a higher severity waits (R517). -/
theorem exec_recordHandling_goOn (hh : s.err.handling = (r, k) :: rest) (hw : ∀ w, s.nextRecord = some w → w.sev ≤ r.sev) :
    exec .recordHandling s = .next (s.handleStep r k rest) := by
  change execRecordHandling s = _
  unfold execRecordHandling
  rw [hh]
  cases hn : s.nextRecord with
  | none => rfl
  | some w => exact congrArg ok (if_neg (Nat.not_lt.mpr (hw w hn)))

theorem State.handleStep_queue (hk : k < 3) :
    s.handleStep r k rest = (s.queueRecord r).2.setHandling (((s.queueRecord r).1, 3) :: rest) := if_pos hk

theorem State.queueRecord_pf (hc : r.cls ≠ 1) (hv : r.vd = Option.none) : s.queueRecord r = s.toQueue r := by
  have hvd : (s.toQueue r).1.vd = Option.none := by
    unfold State.toQueue
    split
    · exact hv
    · dsimp only
      split <;> exact hv
  unfold State.queueRecord
  rw [if_neg hc]
  dsimp only
  rw [hvd]

theorem State.toQueue_vd : (s.toQueue r).1.vd = r.vd := by
  unfold State.toQueue
  split
  · rfl
  · dsimp only
    split <;> rfl

/-- A record of a device goes to its queue and to the ERRLOG of the device (R515). -/
theorem State.queueRecord_vf (hc : r.cls ≠ 1) (hv : r.vd = some n) :
    s.queueRecord r = ((s.toQueue r).1, (s.toQueue r).2.toErrlog n (s.toQueue r).1) := by
  unfold State.queueRecord
  rw [if_neg hc]
  dsimp only
  rw [State.toQueue_vd, hv]

/-- A FAULT record goes to the ERRLOG alone (R515). -/
theorem State.queueRecord_fault (hc : r.cls = 1) (hv : r.vd = some n) :
    s.queueRecord r = ({ r with seq := s.err.seq }, s.nextSeq.toErrlog n { r with seq := s.err.seq }) := by
  unfold State.queueRecord
  rw [if_pos hc]
  dsimp only
  rw [hv]

theorem State.handleStep_vectors (hc : r.cls ≠ 1) (hs : r.sev ≠ 0) :
    s.handleStep r 3 rest = (s.vecPf 1).setHandling ((r, 4) :: rest) := by
  have hvec : s.recordVectors r = s.vecPf 1 := if_pos ⟨hc, Or.inl hs⟩
  rw [← hvec]
  rfl

theorem State.handleStep_journal (hk : 3 < k) (hc : r.cls ≠ 1) :
    s.handleStep r k rest = (s.journal 0 r.sev r.cls (r.bytes ++ r.note)).setHandling rest := by
  unfold State.handleStep State.journalRecord
  rw [if_neg (by omega), if_neg (by omega), if_neg hc]

end handling

section queue
variable {s : State} {r : ErrRec} {e i j k q : Nat} {ws : List W32}

theorem State.reg_setRegs_above (h : k + 4 * ws.length ≤ i) : (s.setRegs k ws).reg i = s.reg i := by
  induction ws generalizing s k with
  | nil => rfl
  | cons w ws ih =>
    rw [List.length_cons] at h
    exact (ih (by omega)).trans (State.reg_setReg_ne (by omega))

theorem ErrRec.words_length {l : Option Nat} : (r.words l).length = 24 := by
  unfold ErrRec.words
  simp

theorem State.mergeInto_some (h : s.mergeInto r = some e) : r.sev = 0 ∧ e = (s.qTail 0 + 63) % 64
    ∧ s.regFld (qRec 0 e) 0 16 = r.cls * 256 + r.cause ∧ s.regFld (qRec 0 e + 4) 16 16 = r.unit ∧ s.qHead 0 ≠ s.qTail 0 := by
  unfold State.mergeInto at h
  by_cases hr : r.sev ≠ 0 ∨ s.qHead 0 = s.qTail 0
  · rw [if_pos hr] at h
    cases h
  · rw [if_neg hr] at h
    obtain ⟨hsev, hq⟩ := not_or.mp hr
    by_cases hm : s.regFld (qRec 0 ((s.qTail 0 + 63) % 64)) 0 16 = r.cls * 256 + r.cause
        ∧ s.regFld (qRec 0 ((s.qTail 0 + 63) % 64) + 4) 16 16 = r.unit
    · rw [if_pos hm] at h
      obtain rfl : (s.qTail 0 + 63) % 64 = e := Option.some.inj h
      exact ⟨not_not.mp hsev, rfl, hm.1, hm.2, hq⟩
    · rw [if_neg hm] at h
      cases h

theorem State.toQueue_merged (h : s.mergeInto r = some e) : (s.toQueue r).2 = s.bumpFld (qRec 0 e + 4) 0 16 1 := by
  unfold State.toQueue
  rw [h]

/-- Where 64 records are unread another one is counted lost (R516). -/
theorem State.toQueue_full (h : s.mergeInto r = Option.none) (hf : (s.qTail r.sev + 128 - s.qHead r.sev) % 128 = 64) :
    (s.toQueue r).2 = s.nextSeq.bump (Reg.errorQLost r.sev) := by
  unfold State.toQueue
  rw [h]
  exact congrArg Prod.snd (if_pos hf)

/-- The queue of a severity with a record in the entry at TAIL (R516). -/
def State.queued (s : State) (r : ErrRec) : State :=
  (s.setRegs (qRec r.sev (s.qTail r.sev % 64)) (r.words Option.none)).setReg (Reg.errorQTail r.sev)
    (BitVec.ofNat 32 ((s.qTail r.sev + 1) % 128))

theorem qRec_above_tail (hk : k < 3) : Reg.errorQTail k < qRec q j + 4 * i := by
  unfold qRec Reg.errorQRec Reg.errorQTail
  omega

theorem State.qTail_setRegs (hk : k < 3) : (s.setRegs (qRec q j) ws).qTail k = s.qTail k := by
  have habove : Reg.errorQTail k < qRec q j := qRec_above_tail (i := 0) hk
  unfold State.qTail State.regFld
  rw [State.reg_setRegs_below habove]

theorem State.toQueue_room (hs : r.sev < 3) (h : s.mergeInto r = Option.none)
    (hf : (s.qTail r.sev + 128 - s.qHead r.sev) % 128 ≠ 64) :
    s.toQueue r = ({ r with seq := s.err.seq }, s.nextSeq.queued { r with seq := s.err.seq }) := by
  unfold State.toQueue
  rw [h]
  dsimp only
  rw [State.qTail_setRegs hs]
  exact if_neg hf

theorem State.queued_fields : s.queued r = { s with regs := (s.queued r).regs } := by
  unfold State.queued
  rw [State.setRegs_fields]
  rfl

/-- An entry of the queue holds a record word for word (R516). -/
theorem State.reg_queued (hc : s.canonical = true) (hs : r.sev < 3) (hi : i < 24) :
    (s.queued r).reg (qRec r.sev (s.qTail r.sev % 64) + 4 * i) = nth 0 (r.words Option.none) i := by
  have hlen : i < (r.words Option.none).length := by rwa [ErrRec.words_length]
  unfold State.queued
  rw [State.reg_setReg_ne (qRec_above_tail hs).ne', State.reg_setRegs hc hlen]
  simp [nth, hlen]

theorem State.reg_queued_ne (hs : r.sev < 3) (hj : j < 64) (hi : i < 24)
    (hne : q ≠ r.sev ∨ j ≠ s.qTail r.sev % 64) : (s.queued r).reg (qRec q j + 4 * i) = s.reg (qRec q j + 4 * i) := by
  unfold State.queued
  rw [State.reg_setReg_ne (qRec_above_tail hs).ne']
  have htail : s.qTail r.sev % 64 < 64 := Nat.mod_lt _ (by decide)
  by_cases hbelow : qRec q j < qRec r.sev (s.qTail r.sev % 64)
  · refine State.reg_setRegs_below ?_
    unfold qRec Reg.errorQRec at hbelow ⊢
    omega
  · refine State.reg_setRegs_above ?_
    rw [ErrRec.words_length]
    unfold qRec Reg.errorQRec at hbelow ⊢
    omega

theorem State.qTail_queued (hc : s.canonical = true) : (s.queued r).qTail r.sev = (s.qTail r.sev + 1) % 128 := by
  have hreg : (s.queued r).reg (Reg.errorQTail r.sev) = BitVec.ofNat 32 ((s.qTail r.sev + 1) % 128) := by
    unfold State.queued
    rw [State.reg_setReg (State.canonical_setRegs hc), if_pos rfl]
  change fld ((s.queued r).reg (Reg.errorQTail r.sev)) 0 7 = _
  rw [hreg, fld, bitsOf, BitVec.toNat_ofNat, Nat.shiftRight_zero]
  omega

end queue

/-- Settles O56: the capture and the steps of a record, then its queue. That a command is one step, that a higher severity
preempts between two steps, and that a merged record goes on, are the model's choice (log 45). -/
theorem recordsGoToTheQueueOfTheirSeverity : Obligations.RecordsGoToTheQueueOfTheirSeverity := by
  intro s r hc hs
  refine ⟨exec_recordHandling_capture, fun x k rest => exec_recordHandling_preempt, fun k rest hh hw => ?_,
    fun e he => ⟨State.toQueue_merged he, State.mergeInto_some he⟩, State.toQueue_full, fun hm hf => ?_⟩
  · rw [exec_recordHandling_goOn hh hw]
    refine ⟨fun hk hcls hv => ?_, fun n hk hcls hv => ?_, fun n hk hcls hv => ?_, fun hk hcls hsev => ?_, fun hk hcls => ?_⟩
    · rw [State.handleStep_queue hk, State.queueRecord_pf hcls hv]
    · rw [State.handleStep_queue hk, State.queueRecord_vf hcls hv]
    · rw [State.handleStep_queue hk, State.queueRecord_fault hcls hv]
    · rw [hk, State.handleStep_vectors hcls hsev]
    · rw [State.handleStep_journal hk hcls]
  · have hcan : s.nextSeq.canonical = true := hc
    rw [State.toQueue_room hs hm hf]
    refine ⟨rfl, ?_, State.qTail_queued hcan, fun i hi => State.reg_queued hcan hs hi,
      fun q j i _ hj hi hne => State.reg_queued_ne (s := s.nextSeq) hs hj hi hne⟩
    dsimp only
    rw [State.queued_fields]

end Sys2Proof.Machine

/-! PROOFS, 20_sideband.md. ALERT_N and its causes, attestation and the mailbox, and the two-wire bus. -/

namespace Sys2Proof.Machine

section outputs
variable {s : State}

/-- ALERT_N is driven low for a cause, while VREF_SB is there (R541, R543). -/
theorem State.alertLow_iff (hp : s.clock.powered = true) (hv : s.side.vrefGood = true) (ht : s.power.tripped = false) :
    s.alertLow = true ↔ (s.regBit Reg.errorStickyStatus 31 = true ∨ s.power.floor = true ∨ s.clock.mode = .mgmtOnly
      ∨ s.clock.mode = .recovery) := by
  unfold State.alertLow State.alertCause
  simp only [hp, hv, ht, Bool.and_true, Bool.true_and, Bool.or_false, Bool.or_eq_true, decide_eq_true_eq, or_assoc]

theorem State.busServed_of (hs : s.stewardServes = true) (hv : s.side.vrefGood = true) : s.busServed = true := by
  unfold State.busServed
  rw [hs, hv]
  rfl

/-- The bus serves the binding of its mode (R541, R542). -/
theorem State.bindingUp_mode (hs : s.stewardServes = true) (hv : s.side.vrefGood = true) :
    s.bindingUp (if s.side.i3c then .i3c else .smbus) = true := by
  unfold State.bindingUp
  cases s.side.i3c <;> simp [hs, hv]

theorem State.bindingUp_other (hs : s.stewardServes = true) (hv : s.side.vrefGood = true) :
    s.bindingUp (if s.side.i3c then .smbus else .i3c) = false := by
  unfold State.bindingUp
  cases s.side.i3c <;> simp [hs, hv]

/-- Without VREF_SB no output is driven and the bus is not served (R541). -/
theorem State.outputs_of_not_vrefGood (hv : s.side.vrefGood = false) : s.alertLow = false ∧ s.thermtripLow = false
    ∧ s.bindingUp .smbus = false ∧ s.bindingUp .i3c = false := by
  unfold State.alertLow State.thermtripLow State.bindingUp
  simp [hv]

end outputs

section mailbox
variable {s : State} {nonce resp : List Byte} {code : Nat}

theorem exec_getEndorsement_mctp (hs : s.stewardServes = true) (hm : s.clock.mode ≠ .recovery) :
    exec (.getEndorsement false) s = .next (s.answer (.endorsement endorsement)) := by
  have hserved : s.stewardServes = true ∧ s.clock.mode ≠ .recovery := ⟨hs, hm⟩
  exact congrArg ok ((if_neg Bool.false_ne_true).trans (if_pos hserved))

theorem exec_getReport_free (hs : s.stewardServes = true) (hm : s.clock.mode ≠ .recovery) (hr : s.reporting = false) :
    exec (.getReport false nonce) s = .next { s with
      freeCtr := s.freeCtr + 1, fw := { s.fw with report := some (s.time.toNat, s.reportBytes nonce) } } :=
  congrArg ok ((if_neg (not_or.mpr ⟨not_not_intro hs, hm⟩)).trans (if_neg (ne_true_of_eq_false hr)))

theorem exec_getReport_busy (hs : s.stewardServes = true) (hm : s.clock.mode ≠ .recovery) (hr : s.reporting = true) :
    exec (.getReport false nonce) s = .next (s.answer .busy) :=
  congrArg ok ((if_neg (not_or.mpr ⟨not_not_intro hs, hm⟩)).trans (if_pos hr))

/-- STEWARD_MBX_CMD as GO leaves it (R529). -/
def State.mbxAsked (s : State) (code : Nat) : State := s.setRegFld Reg.stewardMbxCmd 0 8 code

theorem exec_getEndorsement_mbx (hp : s.portServes = true) (hb : s.fw.mbx = Option.none) :
    exec (.getEndorsement true) s = .next ((s.mbxAsked 1).mbxStart 1 endorsement) := by
  have hnot : ¬ s.fw.mbx.isSome = true := by simp [hb]
  exact congrArg ok ((if_neg (not_not_intro hp)).trans (if_neg hnot))

theorem exec_getReport_mbx_busy (hp : s.portServes = true) (hb : s.fw.mbx = Option.none) (hr : s.fw.report.isSome = true) :
    exec (.getReport true nonce) s = .next ((s.mbxAsked 2).mbxStart 2 []) := by
  have hnot : ¬ s.fw.mbx.isSome = true := by simp [hb]
  have hreporting : s.reporting = true := by
    unfold State.reporting
    rw [hr]
    rfl
  exact congrArg ok ((if_neg (not_not_intro hp)).trans ((if_neg hnot).trans (if_pos hreporting)))

theorem exec_getEndorsement_mbx_overrun (hp : s.portServes = true) (hb : s.fw.mbx.isSome = true) :
    exec (.getEndorsement true) s = .next ((s.mbxAsked 1).setRegBit Reg.stewardMbxStatus 29 true) :=
  congrArg ok ((if_neg (not_not_intro hp)).trans (if_pos hb))

/-- The response in the buffer of the mailbox, before its status is set. -/
def State.mbxFilled (s : State) (resp : List Byte) : State :=
  State.setRegs { s with fw := { s.fw with mbx := none } } (Reg.stewardMbxBuf 0)
    ((List.range (resp.length / 4)).map (fun i => BitVec.ofNat 32 (word32 resp (4 * i))))

/-- The status of the mailbox with the RESULT and the length of a response (R529). -/
def State.mbxAnswered (s : State) (code : Nat) (resp : List Byte) : State :=
  ((s.mbxFilled resp).setRegFld Reg.stewardMbxStatus 0 8 (mbxResult code resp)).setRegFld Reg.stewardMbxStatus 8 16 resp.length

theorem exec_mailboxDone_some (h : s.fw.mbx = some (code, resp)) :
    exec .mailboxDone s = .next (((s.mbxAnswered code resp).setRegBit Reg.stewardMbxStatus 30 true).vecPf 0) := by
  change execMailboxDone s = _
  unfold execMailboxDone
  rw [h]
  rfl

theorem State.mbxFilled_fields : s.mbxFilled resp = { s with
    fw := { s.fw with mbx := none }, regs := (s.mbxFilled resp).regs } := State.setRegs_fields

theorem State.canonical_mbxFilled (hc : s.canonical = true) : (s.mbxFilled resp).canonical = true := State.canonical_setRegs hc

/-- The response lies in the buffer from its first word on (R529). -/
theorem State.reg_mbxFilled {i : Nat} (hc : s.canonical = true) (hi : i < resp.length / 4) :
    (s.mbxFilled resp).reg (Reg.stewardMbxBuf i) = BitVec.ofNat 32 (word32 resp (4 * i)) :=
  State.reg_setRegs_range hc hi

theorem State.canonical_mbxAnswered (hc : s.canonical = true) : (s.mbxAnswered code resp).canonical = true :=
  State.canonical_setRegFld (State.canonical_setRegFld (State.canonical_mbxFilled hc))

theorem State.regFld_mbxAnswered_result (hc : s.canonical = true) :
    (s.mbxAnswered code resp).regFld Reg.stewardMbxStatus 0 8 = mbxResult code resp := by
  have hresult : mbxResult code resp < 2 ^ 8 := by
    unfold mbxResult
    split
    · decide
    · split <;> decide
  rw [State.mbxAnswered, State.regFld_setRegFld_of_disjoint (State.canonical_setRegFld (State.canonical_mbxFilled hc))
    (by decide) (Or.inl (by decide)), State.regFld_setRegFld (State.canonical_mbxFilled hc) (by decide),
    Nat.mod_eq_of_lt hresult]

theorem State.regFld_mbxAnswered_length (hc : s.canonical = true) (hl : resp.length ≤ 20480) :
    (s.mbxAnswered code resp).regFld Reg.stewardMbxStatus 8 16 = resp.length := by
  rw [State.mbxAnswered, State.regFld_setRegFld (State.canonical_setRegFld (State.canonical_mbxFilled hc)) (by decide),
    Nat.mod_eq_of_lt (by omega)]

theorem State.reg_mbxAnswered_ne {k : Nat} (hk : k ≠ Reg.stewardMbxStatus) :
    (s.mbxAnswered code resp).reg k = (s.mbxFilled resp).reg k :=
  (State.reg_setRegFld_ne hk).trans (State.reg_setRegFld_ne hk)

/-- The mailbox's answer: the response in the buffer, the status, and PF vector 0 (R529). -/
def State.mbxDone (s : State) (code : Nat) (resp : List Byte) : State :=
  ((s.mbxAnswered code resp).setRegBit Reg.stewardMbxStatus 30 true).vecPf 0

/-- Two fields and a bit of a status word stored, and a vector raised, leave the rest alone. -/
theorem State.statusSet_fields {u : State} {f : FwSt} {k lo len v lo' len' v' i n : Nat} {b : Bool}
    (h : u = { s with fw := f, regs := u.regs }) :
    (((u.setRegFld k lo len v).setRegFld k lo' len' v').setRegBit k i b).vecPf n = { s with
      fw := f
      regs := ((((u.setRegFld k lo len v).setRegFld k lo' len' v').setRegBit k i b).vecPf n).regs
      vectors := (Option.none, n) :: s.vectors } := by
  rw [h]
  rfl

theorem State.mbxDone_fields : s.mbxDone code resp = { s with
    fw := { s.fw with mbx := none }
    regs := (s.mbxDone code resp).regs, vectors := (Option.none, 0) :: s.vectors } :=
  State.statusSet_fields State.mbxFilled_fields

theorem State.reg_vecPf {n k : Nat} : (s.vecPf n).reg k = s.reg k := rfl

/-- The status of the answer, another field than DONE. -/
theorem State.regFld_mbxDone {lo len : Nat} (hc : s.canonical = true) (h : lo + len ≤ 30) :
    (s.mbxDone code resp).regFld Reg.stewardMbxStatus lo len
      = (s.mbxAnswered code resp).regFld Reg.stewardMbxStatus lo len := by
  have hbit := State.regFld_setRegFld_of_disjoint (k := Reg.stewardMbxStatus) (v := b2n true)
    (State.canonical_mbxAnswered (code := code) (resp := resp) hc) (by decide : 30 + 1 ≤ 32) (Or.inl h)
  unfold State.mbxDone State.regFld
  rw [State.reg_vecPf]
  exact hbit

theorem State.regBit_mbxDone (hc : s.canonical = true) : (s.mbxDone code resp).regBit Reg.stewardMbxStatus 30 = true := by
  unfold State.mbxDone State.regBit
  rw [State.reg_vecPf]
  exact State.regBit_setRegBit (State.canonical_mbxAnswered hc) (by decide)

theorem State.reg_mbxDone_buf {i : Nat} (hc : s.canonical = true) (hi : i < resp.length / 4) :
    (s.mbxDone code resp).reg (Reg.stewardMbxBuf i) = BitVec.ofNat 32 (word32 resp (4 * i)) := by
  have hne : Reg.stewardMbxBuf i ≠ Reg.stewardMbxStatus := by
    unfold Reg.stewardMbxBuf Reg.stewardMbxStatus
    omega
  rw [State.mbxDone, State.reg_vecPf, State.reg_setRegBit_ne hne, State.reg_mbxAnswered_ne hne, State.reg_mbxFilled hc hi]

end mailbox

/-- Settles O60: ALERT_N by its causes, attestation and the mailbox, then the bus. That a report is held to its bound, and that
BUS_TIMEOUT changes nothing, are the model's choice (log 44, 46). -/
theorem alertAndSidebandFollowTheirCauses : Obligations.AlertAndSidebandFollowTheirCauses := by
  refine ⟨fun s => State.alertLow_iff, fun s nonce resp code => ⟨fun hs hm => ⟨exec_getEndorsement_mctp hs hm,
      exec_getReport_free hs hm, exec_getReport_busy hs hm⟩, fun hp hb => ⟨exec_getEndorsement_mbx hp hb,
      exec_getReport_mbx_busy hp hb⟩, exec_getEndorsement_mbx_overrun, fun hc hm hl => ⟨_, exec_mailboxDone_some hm,
      State.mbxDone_fields, State.regBit_mbxDone hc,
      (State.regFld_mbxDone hc (by decide)).trans (State.regFld_mbxAnswered_result hc),
      (State.regFld_mbxDone hc (by decide)).trans (State.regFld_mbxAnswered_length hc hl),
      fun i hi _ => State.reg_mbxDone_buf hc hi⟩⟩,
    fun s addr => ⟨fun hs hv => ⟨congrArg ok (if_pos (State.busServed_of hs hv)),
      congrArg ok (if_pos (State.busServed_of hs hv)), State.bindingUp_mode hs hv,
      State.bindingUp_other hs hv⟩, rfl, rfl, _, rfl, rfl, State.outputs_of_not_vrefGood rfl⟩⟩

end Sys2Proof.Machine
